-- ==== Sys2Proof/Word.lean ====
section
/-!
DEFINITION. The word types of the QN8192 and the one container the state uses for sparse data.
-/
namespace Sys2Proof

/-- A control register or a memory word (R6, R7). -/
abbrev Word := BitVec 32
/-- A general register, a phase or a 64-bit quantity. -/
abbrev DWord := BitVec 64
/-- A vector register (R103). -/
abbrev Vec := BitVec 128
/-- One byte. -/
abbrev Byte := BitVec 8
/-- A ring entry: eight little-endian words, word 0 in the low bits (R527). -/
abbrev Entry := BitVec 256

/-- Sparse data by key: keys strictly rising, and no entry equal to the default that an unlisted key reads as. -/
structure SMap (α : Type) where
  entries : List (Nat × α) := []
  deriving DecidableEq, Repr

end Sys2Proof
end

