-- ==== Sys2Proof/Syntax.lean ====
section
/-!
DEFINITION. The commands of the block: one constructor of Instr for each row of spec/opcode_table.json, with the data the event brings.
-/
namespace Sys2Proof

/-- Who makes a register access: a supervisor core or debug through JTAG (R12, R34). -/
inductive Agent where
  | sup (n : Fin 4)
  | jtag
  deriving DecidableEq, Repr

/-- A core: 0 to 255 are field cores, tile t core c at 16 t + c (R686); 256 + n is supervisor core n. -/
abbrev CoreId := Fin 260
/-- A general register g0 to g31 (R102). -/
abbrev GReg := Fin 32
/-- A vector register v0 to v31 (R103). -/
abbrev VReg := Fin 32
/-- A predicate register p0 to p7 (R104). -/
abbrev PReg := Fin 8
/-- A plate port, or the light engine unit behind it. -/
abbrev PortId := Fin 4
/-- A MAC port: 0 to 31 fixture ports, 32 to 35 uplinks, 36 the management port. -/
abbrev MacId := Fin 37
/-- A hardware ring. -/
abbrev RingId := Fin 64
/-- A DMX port. -/
abbrev DmxId := Fin 16
/-- A string channel. -/
abbrev StrId := Fin 32
/-- A transit link. -/
abbrev LinkId := Fin 16

/-- A transit packet: its header fields and payload (R413). -/
structure Pkt where
  dst : BitVec 13
  mc : Bool := false
  src : BitVec 13
  type : BitVec 4
  op : BitVec 4 := 0
  tag : BitVec 10 := 0
  hops : BitVec 5 := 0
  len : BitVec 9 := 0
  addr : BitVec 40 := 0
  seq : BitVec 16 := 0
  status : BitVec 4 := 0
  payload : List Byte := []
  deriving DecidableEq, Repr

/-- A link entry of an LSA: local link number, neighbour ID and UID (R434). -/
structure LsaLink where
  no : Fin 16
  id : BitVec 13
  uid : DWord
  deriving DecidableEq, Repr

/-- An LSA record (R434). -/
structure Lsa where
  uid : DWord
  id : BitVec 13
  idst : Fin 4
  prio : Byte
  flags : Byte
  lseq : Word
  links : List LsaLink
  deriving DecidableEq, Repr

/-- A GRP record: one quarter of the group space of an originator (R435). -/
structure Grp where
  uid : DWord
  gseq : Word
  q : Fin 4
  member : BitVec 1024
  deriving DecidableEq, Repr

/-- The fields of a HELLO, times in 2^-16 ns (R430). -/
structure Hello where
  uid : DWord
  id : BitVec 13
  idst : Fin 4
  link : Fin 16
  role : Fin 4
  hseq : BitVec 16
  echoSeq : BitVec 16
  peerUid : DWord
  txPrev : BitVec 80
  rxEcho : BitVec 80
  deriving DecidableEq, Repr

/-- The fields of a PHASE packet (R443). -/
structure PhasePkt where
  phase : DWord
  inc : DWord
  corr : BitVec 48
  master : BitVec 13
  pseq : BitVec 16
  hops : Byte
  refclass : Byte
  muid : DWord
  deriving DecidableEq, Repr

/-- An entry of a TCRC message: KIND, port, s, words 1 and 2, CRC (R589). -/
structure TcrcEntry where
  kind : Byte
  port : Byte
  s : Fin 8
  a : Word
  b : Word
  crc : Word
  deriving DecidableEq, Repr

/-- What an ITEM_PUT declares, with the node that sent it (R451). -/
structure OPut where
  kind : Nat := 0
  lclass : Nat := 0
  pin : Bool := false
  twin : Bool := false
  mkind : Nat := 0
  reply : Nat := 0
  carry : Bool := false
  pinNode : Nat := 0
  consumer : Nat := 0x3FFF
  cu : Nat := 0
  cores : Nat := 0
  mask : Nat := 0
  mem : Nat := 0
  kdesc : Nat := 0
  lfrac : Nat := 0
  sender : Nat := 0
  deriving DecidableEq, Repr

/-- An item with its placement table entry (R460, R463). -/
structure OItem where
  put : OPut := {}
  state : Nat := 0
  owner : Nat := 0
  partner : Option Nat := none
  addr : Nat := 0
  naddr : Nat := 0
  next : Nat := 0
  npartner : Option Nat := none
  cframe : Nat := 0
  /-- Pool and pages of the memory at ADDR. -/
  pool : Nat := 0
  pages : Nat := 0
  /-- A put that takes effect at a frame; the frame from which a DELETE is effective (R463). -/
  later : Option (OPut × Nat) := none
  del : Option Nat := none
  /-- Phase at which the owner was lost, and of the last HELLO received from it (R469 to R471). -/
  lost : Option (DWord × DWord) := none
  /-- The PREPARE reports of OWNER and NEXT (R466). -/
  repO : Bool := false
  repN : Bool := false
  deriving DecidableEq, Repr

/-- An inventory record (R458). -/
structure Inv where
  uid : DWord
  id : BitVec 13
  ctrl : Word
  cap : Word
  /-- Base and pages of the DRAM, plate and tile pools. -/
  pools : List (Nat × Nat)
  partner : Option Nat
  epoch : Word
  seq : Word
  deriving DecidableEq, Repr

/-- Where an ITEM_PUT stands: at the head of the own ring REQ, forwarded to the coordinator, or answered by it (R451, R452). -/
inductive OSrc where
  | own
  | forwarded (node : BitVec 13) (e : Entry)
  | answered (ring : RingId) (e : Entry)
  deriving DecidableEq, Repr

/-- What a unit pushes to a ring (R540): a MAC write-back that waits, or a packet of a producer that drops (0), waits (1) or
refuses (2) it on a full ring. -/
inductive UPush where
  | writeBack (p : MacId)
  | packet (r : RingId) (es : List Entry) (onFull : Fin 3)
  deriving DecidableEq, Repr


/-- A flash operation that fails in every try (R608): an erase, or the program of a page of an area block, for a page the program of
the body of a record or of its commit marker; and whether it exceeds its timeout. -/
structure FlashFail where
  erase : Bool
  block : Nat
  page : Nat := 0
  marker : Bool := false
  tmo : Bool := false
  deriving DecidableEq, Repr

/-- Where the system image's loader places the sections of the program image of core 2 or 3, and its entry (R168, R677). -/
structure ProgPlace where
  core : Fin 2
  addrs : List Nat
  entry : DWord
  deriving DecidableEq, Repr

/-- The commands of the block, one per row of spec/opcode_table.json. -/
inductive Instr where
  /-- REGISTER_WRITE (R14): A write to a control register that has no row of its own updates its fields according to their access codes. The offset in the control register region and the word. -/
  | registerWrite (ag : Agent) (a : BitVec 24) (v : Word)
  /-- PAIR_LOW_READ (R12): A read of the low word of a 64-bit register pair latches the high word in the reading agent's latch. The offset of the low word. -/
  | pairLowRead (ag : Agent) (a : BitVec 24)
  /-- PAIR_LOW_WRITE (R12): A write to the low word of a 64-bit register pair is held in the writing agent's staging register. The offset of the low word. -/
  | pairLowWrite (ag : Agent) (a : BitVec 24) (v : Word)
  /-- PAIR_HIGH_WRITE (R12): A write to the high word of a 64-bit register pair commits it together with the agent's staged low word, or with the low word's current value if none is staged. The offset of the high word. -/
  | pairHighWrite (ag : Agent) (a : BitVec 24) (v : Word)
  /-- SIDEREAL_TICK (R46): On each time-clock cycle the Sidereal accumulator adds the increment F_T + P_T. n consecutive cycles. -/
  | siderealTick (n : Nat)
  /-- MONO_TICK (R45): The local monotonic counter advances by 1 ns per time-clock cycle, or by the corrected low-power period in DORMANT. n consecutive cycles. -/
  | monoTick (n : Nat)
  /-- PTP_CLOCK_TICK (R67): PTP time advances by 1 ns scaled by PTP_ADJ on each time-clock cycle, carrying into the seconds. n consecutive cycles. -/
  | ptpClockTick (n : Nat)
  /-- PTP_SAMPLE_TICK (R51): Every 1 ms of PTP time, a PTP or MEDIA reference sample is formed and its target phase computed. -/
  | ptpSampleTick
  /-- SIDEREAL_LOCK_CHANGE (R58): After LOCK_CNT consecutive samples inside or outside LOCK_THR, the counter moves between SLEW and LOCKED. -/
  | siderealLockChange
  /-- LTC_SYNC_WORD (R51): The end of an LTC sync word gives an LTC sample, or counts a failing word. The decoded time of the word; ok: correct sync, at the selected rate. -/
  | ltcSyncWord (ok : Bool) (hh mm ss ff : Nat)
  /-- MEDIA_RTP_PACKET (R53): A packet of the selected ST 2110 stream has its RTP timestamp checked against the media count. The RTP timestamp and how long ago the receive time stamp was taken. -/
  | mediaRtpPacket (uplink stream : Nat) (rtp : Word) (agoNs : Nat)
  /-- MAINS_ZC_EDGE (R74): A filtered MAINS_ZC edge advances the mains loop and gives a MAINS sample. -/
  | mainsZcEdge (rising : Bool)
  /-- PPS_IN_EDGE (R71): A PPS_IN edge captures PTP time and phase, increments PPS_CNT, sets PPS_DIFF, and gives a PPS sample. -/
  | ppsInEdge (rising : Bool)
  /-- PPS_EDGE_MISSING (R750): An expected PPS edge counts as missing once k s + 100 µs have passed since the last valid edge, and the third loses the reference. -/
  | ppsEdgeMissing
  /-- REFERENCE_LOSS_TIMEOUT (R52): A reference that stays without validity for its loss time is lost, and the counter enters HOLDOVER with REF_LOSS. -/
  | referenceLossTimeout
  /-- REFERENCE_QUALIFIED (R52): A reference that has been valid without a break for REQUAL_MS becomes qualified. -/
  | referenceQualified
  /-- SID_CTRL_WRITE (R58): A write to SID_CTRL changes REF, RUN and the loop settings, and moves the counter state, shadow mapping and armed step accordingly. -/
  | sidCtrlWrite (ag : Agent) (v : Word)
  /-- SID_JAM (R63): Setting SID_CMD.JAM arms a step. -/
  | sidJam (ag : Agent)
  /-- SID_APPLY (R54): Setting SID_CMD.APPLY checks the shadow mapping and schedules its activation at the next sample. -/
  | sidApply (ag : Agent)
  /-- SIDEREAL_STEP (R64): An armed step takes place at the first whole-frame phase after arming, moving the phase to the target and acting on pending entries. -/
  | siderealStep
  /-- SID_INC_NOM_WRITE (R48): A committed write of SID_INC_NOM sets the nominal increment, or is refused with CFG_ERR when out of range. -/
  | sidIncNomWrite (ag : Agent) (v : DWord)
  /-- PTP_SET (R69): Setting PTP_CMD.SET loads PTP time from the PTP_SET registers. -/
  | ptpSet (ag : Agent)
  /-- PTP_STEP (R69): Setting PTP_CMD.STEP adds PTP_STEP to PTP time. -/
  | ptpStep (ag : Agent)
  /-- PTP_ADJ_WRITE (R68): A write to PTP_ADJ sets the frequency adjustment, clamped to ±1,000 ppm. -/
  | ptpAdjWrite (ag : Agent) (v : Word)
  /-- PTP_TIME_NS_READ (R70): A read of PTP_TIME_NS latches the sub-ns and seconds for the reading agent. -/
  | ptpTimeNsRead (ag : Agent)
  /-- EPH_POST_WORD_WRITE (R82): A write to EPH_POST0–6 stages an entry word in the writing core's staging. -/
  | ephPostWordWrite (ag : Agent) (i : Fin 7) (v : Word)
  /-- EPH_POST (R84): A write to EPH_POST7 submits the staged entry, which is checked, accepted or refused, and its result reported. -/
  | ephPost (ag : Agent) (v : Word)
  /-- EPH_CANCEL (R89): A write of a TAG to EPH_CANCEL removes every pending entry with that TAG. -/
  | ephCancel (ag : Agent) (tag : Word)
  /-- EPH_CLEAR (R90): Setting EPH_CTRL.CLEAR removes every pending entry and refuses posts while set. -/
  | ephClear (ag : Agent)
  /-- EPH_CLEAR_DONE (R90): EPH_CTRL.CLEAR clears once the table is empty. -/
  | ephClearDone
  /-- ENTRY_FIRE (R86): An entry whose fire phase is reached issues its action to the target unit and is re-armed or removed. -/
  | entryFire
  /-- RING_POST (R79): A RING_POST action posts an EPH_FIRED entry to the target ring. -/
  | ringPost
  /-- GPIO_ACTION (R78): A GPIO action drives the level of A0 bit 0 onto the target GPIO. -/
  | gpioAction
  /-- LAUNCH (R111): A LAUNCH action makes the distributor fetch and check the descriptor, allocate a group and distribute the launch to the selected cores. -/
  | launch
  /-- END (R120): END completes after the implied fence, outstanding loads and pin release, ends the member, and starts any pending launch. -/
  | sEnd (c : CoreId)
  /-- FIELD_EXCEPTION (R158): An exception on a field core ends its kernel, or holds the core, and posts a fault record. The word the core meets. -/
  | fieldException (t c : Fin 16) (w : Word)
  /-- BUDGET_EXPIRY (R119): A kernel that exceeds BUDGET raises the BUDGET exception at the next instruction to commit. -/
  | budgetExpiry (t c : Fin 16)
  /-- TILE_ABORT (R122): A write to TILEt_ABORT ends the kernels on the named cores, clears pending launches and releases pins. -/
  | tileAbort (ag : Agent) (t : Fin 16) (v : Word)
  /-- TILE_RELEASE (R123): A write to TILEt_RELEASE releases HELD cores to IDLE or to their pending launch. -/
  | tileRelease (ag : Agent) (t : Fin 16) (v : Word)
  /-- TILE_CTRL_WRITE (R124): A write to TILEt_CTRL changes CORE_EN and EXC_HOLD, making cores refuse launches or become available. -/
  | tileCtrlWrite (ag : Agent) (t : Fin 16) (v : Word)
  /-- TILE_ICINV (R130): Setting TILEt_CMD.ICINV starts invalidation of the tile's instruction cache. -/
  | tileIcinv (ag : Agent) (t : Fin 16)
  /-- ICINV_DONE (R130): The cache invalidation completes and ICINV clears. -/
  | icinvDone (t : Fin 16)
  /-- SUP_START (R164): Setting SUPn_CTRL.START starts core 2 or 3 at SUPn_ENTRY. -/
  | supStart (ag : Agent) (n : Fin 4)
  /-- SUP_STOP (R164): Setting SUPn_CTRL.STOP stops core 2 or 3. -/
  | supStop (ag : Agent) (n : Fin 4)
  /-- SUP_EXCEPTION (R159): An exception on a supervisor core vectors to EVEC on cores 0–1, or stops cores 2–3. The word the core meets. -/
  | supException (n : Fin 4) (w : Word)
  /-- RING_INTERRUPT (R161): A supervisor core with GIE set and IPEND non-zero takes a ring interrupt between instructions. -/
  | ringInterrupt (n : Fin 4)
  /-- LOAD_RETURN (R157): An outstanding load returns and writes its destination, poisoning it on an uncorrectable error. -/
  | loadReturn (c : CoreId) (i : Fin 8)
  /-- REMOTE_RESPONSE (R138): A response to a remote read or fetch-add completes it with data, RETRY or an error. i is the transaction slot. -/
  | remoteResponse (i : Byte)
  /-- REMOTE_REISSUE (R138): After TILEt_RTX.GAP, a retried remote read is reissued by hardware. i is the transaction slot. -/
  | remoteReissue (i : Byte)
  /-- WAITPH_RELEASE (R142): A waiting core resumes once the phase reaches its WAITPH target. -/
  | waitphRelease (c : CoreId)
  /-- BARRIER_COMPLETE (R136): A barrier completes once every counted member has reached it. -/
  | barrierComplete (c : CoreId)
  /-- FENCE_COMPLETE (R134): A fence completes once every earlier access is performed in its scope. -/
  | fenceComplete (c : CoreId)
  /-- ADD (R179): Sets g[d] to g[a] + g[b]. -/
  | sAdd (c : CoreId) (d a b : GReg) (p : PReg)
  /-- SUB (R179): Sets g[d] to g[a] − g[b]. -/
  | sSub (c : CoreId) (d a b : GReg) (p : PReg)
  /-- AND (R179): Sets g[d] to g[a] & g[b]. -/
  | sAnd (c : CoreId) (d a b : GReg) (p : PReg)
  /-- OR (R179): Sets g[d] to g[a] | g[b]. -/
  | sOr (c : CoreId) (d a b : GReg) (p : PReg)
  /-- XOR (R179): Sets g[d] to g[a] ^ g[b]. -/
  | sXor (c : CoreId) (d a b : GReg) (p : PReg)
  /-- ANDN (R179): Sets g[d] to g[a] & ~g[b]. -/
  | sAndn (c : CoreId) (d a b : GReg) (p : PReg)
  /-- SHL (R179): Shifts g[a] left. -/
  | sShl (c : CoreId) (d a b : GReg) (p : PReg)
  /-- SHR (R179): Shifts g[a] right, logical. -/
  | sShr (c : CoreId) (d a b : GReg) (p : PReg)
  /-- SRA (R179): Shifts g[a] right, arithmetic. -/
  | sSra (c : CoreId) (d a b : GReg) (p : PReg)
  /-- ROR (R179): Rotates g[a] right. -/
  | sRor (c : CoreId) (d a b : GReg) (p : PReg)
  /-- MIN (R179): Sets g[d] to the signed minimum. -/
  | sMin (c : CoreId) (d a b : GReg) (p : PReg)
  /-- MAX (R179): Sets g[d] to the signed maximum. -/
  | sMax (c : CoreId) (d a b : GReg) (p : PReg)
  /-- MINU (R179): Sets g[d] to the unsigned minimum. -/
  | sMinu (c : CoreId) (d a b : GReg) (p : PReg)
  /-- MAXU (R179): Sets g[d] to the unsigned maximum. -/
  | sMaxu (c : CoreId) (d a b : GReg) (p : PReg)
  /-- SEL (R179): Selects g[a] or g[b] by predicate bit 0. -/
  | sSel (c : CoreId) (d a b : GReg) (p : PReg)
  /-- CLZ (R179): Counts the leading zeros of g[a]. -/
  | sClz (c : CoreId) (d a : GReg) (p : PReg)
  /-- POPC (R179): Counts the set bits of g[a]. -/
  | sPopc (c : CoreId) (d a : GReg) (p : PReg)
  /-- SEXT_B (R179): Sign-extends byte 0 of g[a]. -/
  | sSextB (c : CoreId) (d a : GReg) (p : PReg)
  /-- SEXT_H (R179): Sign-extends halfword 0 of g[a]. -/
  | sSextH (c : CoreId) (d a : GReg) (p : PReg)
  /-- SEXT_W (R179): Sign-extends word 0 of g[a]. -/
  | sSextW (c : CoreId) (d a : GReg) (p : PReg)
  /-- ZEXT_B (R179): Zero-extends byte 0 of g[a]. -/
  | sZextB (c : CoreId) (d a : GReg) (p : PReg)
  /-- ZEXT_H (R179): Zero-extends halfword 0 of g[a]. -/
  | sZextH (c : CoreId) (d a : GReg) (p : PReg)
  /-- ZEXT_W (R179): Zero-extends word 0 of g[a]. -/
  | sZextW (c : CoreId) (d a : GReg) (p : PReg)
  /-- ADDW (R179): Sets g[d] to the sign-extended 32-bit sum. -/
  | sAddw (c : CoreId) (d a b : GReg) (p : PReg)
  /-- ADDI (R180): Adds a sign-extended immediate. -/
  | sAddi (c : CoreId) (d a : GReg) (imm : BitVec 16)
  /-- ANDI (R180): ANDs with a zero-extended immediate. -/
  | sAndi (c : CoreId) (d a : GReg) (imm : BitVec 16)
  /-- ORI (R180): ORs with a zero-extended immediate. -/
  | sOri (c : CoreId) (d a : GReg) (imm : BitVec 16)
  /-- XORI (R180): XORs with a zero-extended immediate. -/
  | sXori (c : CoreId) (d a : GReg) (imm : BitVec 16)
  /-- SHI (R180): Shifts or rotates by an immediate amount. -/
  | sShi (c : CoreId) (d a : GReg) (kind : Fin 4) (n : Fin 64)
  /-- MUL (R181): Sets g[d] to the low 64 bits of the product. -/
  | sMul (c : CoreId) (d a b : GReg) (p : PReg)
  /-- MULH (R181): Sets g[d] to the high 64 bits of the signed product. -/
  | sMulh (c : CoreId) (d a b : GReg) (p : PReg)
  /-- MULHU (R181): Sets g[d] to the high 64 bits of the unsigned product. -/
  | sMulhu (c : CoreId) (d a b : GReg) (p : PReg)
  /-- DIV (R181): Signed divide, rounded toward zero. -/
  | sDiv (c : CoreId) (d a b : GReg) (p : PReg)
  /-- DIVU (R181): Unsigned divide. -/
  | sDivu (c : CoreId) (d a b : GReg) (p : PReg)
  /-- REM (R181): Signed remainder. -/
  | sRem (c : CoreId) (d a b : GReg) (p : PReg)
  /-- REMU (R181): Unsigned remainder. -/
  | sRemu (c : CoreId) (d a b : GReg) (p : PReg)
  /-- MOVL (R182): Sets g[d] to a zero-extended immediate. -/
  | sMovl (c : CoreId) (d : GReg) (imm : BitVec 16)
  /-- MOVH (R182): Writes an immediate into one halfword of g[d]. -/
  | sMovh (c : CoreId) (d : GReg) (hw : Fin 4) (imm : BitVec 16)
  /-- CMP (R184): Compares two registers into a predicate. -/
  | sCmp (c : CoreId) (d : PReg) (a b : GReg) (p : PReg) (cond : Fin 8)
  /-- CMPI (R184): Compares a register with an immediate into a predicate. -/
  | sCmpi (c : CoreId) (d : PReg) (cond : Fin 8) (a : GReg) (imm : BitVec 15)
  /-- VCMP (R184): Compares vector lanes into predicate bits. -/
  | sVcmp (c : CoreId) (d : PReg) (a b : VReg) (p : PReg) (fp wide : Bool) (cond : Fin 8)
  /-- PAND (R185): ANDs two predicates. -/
  | sPand (c : CoreId) (d a b : PReg)
  /-- POR (R185): ORs two predicates. -/
  | sPor (c : CoreId) (d a b : PReg)
  /-- PXOR (R185): XORs two predicates. -/
  | sPxor (c : CoreId) (d a b : PReg)
  /-- PANDN (R185): ANDs a predicate with the complement of another. -/
  | sPandn (c : CoreId) (d a b : PReg)
  /-- PNOT (R185): Complements a predicate. -/
  | sPnot (c : CoreId) (d a : PReg)
  /-- PMOVG (R185): Moves a general register byte into a predicate. -/
  | sPmovg (c : CoreId) (d : PReg) (a : GReg)
  /-- GMOVP (R185): Moves a predicate into a general register. -/
  | sGmovp (c : CoreId) (d : GReg) (a : PReg)
  /-- B (R186): Branches PC-relative. -/
  | sB (c : CoreId) (off : BitVec 26)
  /-- BL (R186): Branches and links in g30. -/
  | sBl (c : CoreId) (off : BitVec 26)
  /-- BC (R186): Branches when a predicate test holds. -/
  | sBc (c : CoreId) (p : PReg) (test : Fin 4) (off : BitVec 21)
  /-- DBNZ (R186): Decrements a register and branches if the result is not zero. -/
  | sDbnz (c : CoreId) (g : GReg) (off : BitVec 21)
  /-- JR (R186): Jumps to g[a]. -/
  | sJr (c : CoreId) (a : GReg) (p : PReg)
  /-- JLR (R186): Jumps to g[a] and links. -/
  | sJlr (c : CoreId) (d a : GReg) (p : PReg)
  /-- LDB (R188): Loads a signed byte. What the ECC check finds: 0 nothing new, 1 corrected, 2 uncorrectable. -/
  | sLdb (c : CoreId) (d a : GReg) (off : BitVec 13) (ecc : Fin 3)
  /-- LDBU (R188): Loads an unsigned byte. -/
  | sLdbu (c : CoreId) (d a : GReg) (off : BitVec 13) (ecc : Fin 3)
  /-- LDH (R188): Loads a signed halfword. -/
  | sLdh (c : CoreId) (d a : GReg) (off : BitVec 13) (ecc : Fin 3)
  /-- LDHU (R188): Loads an unsigned halfword. -/
  | sLdhu (c : CoreId) (d a : GReg) (off : BitVec 13) (ecc : Fin 3)
  /-- LDW (R188): Loads a signed word. -/
  | sLdw (c : CoreId) (d a : GReg) (off : BitVec 13) (ecc : Fin 3)
  /-- LDWU (R188): Loads an unsigned word. -/
  | sLdwu (c : CoreId) (d a : GReg) (off : BitVec 13) (ecc : Fin 3)
  /-- LDD (R188): Loads a doubleword. -/
  | sLdd (c : CoreId) (d a : GReg) (off : BitVec 13) (ecc : Fin 3)
  /-- STB (R188): Stores a byte. -/
  | sStb (c : CoreId) (t a : GReg) (off : BitVec 13)
  /-- STH (R188): Stores a halfword. -/
  | sSth (c : CoreId) (t a : GReg) (off : BitVec 13)
  /-- STW (R188): Stores a word. -/
  | sStw (c : CoreId) (t a : GReg) (off : BitVec 13)
  /-- STD (R188): Stores a doubleword. -/
  | sStd (c : CoreId) (t a : GReg) (off : BitVec 13)
  /-- VLD (R189): Loads the active lanes of a vector register. -/
  | sVld (c : CoreId) (d : VReg) (a : GReg) (p : PReg) (off : BitVec 13) (ecc : Fin 3)
  /-- VST (R189): Stores the active lanes of a vector register. -/
  | sVst (c : CoreId) (t : VReg) (a : GReg) (p : PReg) (off : BitVec 13)
  /-- AADD_W (R191): Atomic 32-bit fetch-add. -/
  | sAaddW (c : CoreId) (d a b : GReg) (p : PReg) (ecc : Fin 3)
  /-- AADD_D (R191): Atomic 64-bit fetch-add. -/
  | sAaddD (c : CoreId) (d a b : GReg) (p : PReg) (ecc : Fin 3)
  /-- ASWP_W (R191): Atomic 32-bit swap. -/
  | sAswpW (c : CoreId) (d a b : GReg) (p : PReg) (ecc : Fin 3)
  /-- ASWP_D (R191): Atomic 64-bit swap. -/
  | sAswpD (c : CoreId) (d a b : GReg) (p : PReg) (ecc : Fin 3)
  /-- ACAS_W (R191): Atomic 32-bit compare-and-swap. -/
  | sAcasW (c : CoreId) (d a b : GReg) (p : PReg) (ecc : Fin 3)
  /-- ACAS_D (R191): Atomic 64-bit compare-and-swap. -/
  | sAcasD (c : CoreId) (d a b : GReg) (p : PReg) (ecc : Fin 3)
  /-- RLDW (R193): Issues a remote 32-bit read. -/
  | sRldw (c : CoreId) (d a b : GReg) (p : PReg)
  /-- RLDD (R193): Issues a remote 64-bit read. -/
  | sRldd (c : CoreId) (d a b : GReg) (p : PReg)
  /-- RVLD (R193): Issues a remote 128-bit read. -/
  | sRvld (c : CoreId) (d : VReg) (a b : GReg) (p : PReg)
  /-- RSTW (R193): Posts a remote 32-bit write. -/
  | sRstw (c : CoreId) (d a b : GReg) (p : PReg)
  /-- RSTD (R193): Posts a remote 64-bit write. -/
  | sRstd (c : CoreId) (d a b : GReg) (p : PReg)
  /-- RVST (R193): Posts a remote 128-bit write. -/
  | sRvst (c : CoreId) (d : VReg) (a b : GReg) (p : PReg)
  /-- RFADDW (R193): Issues a remote 32-bit fetch-add. -/
  | sRfaddw (c : CoreId) (d a b : GReg) (p : PReg)
  /-- RFADDD (R193): Issues a remote 64-bit fetch-add. -/
  | sRfaddd (c : CoreId) (d a b : GReg) (p : PReg)
  /-- RPUT (R196): Posts n × 16 local bytes as a remote block write. n is m + 1. -/
  | sRput (c : CoreId) (d a b : GReg) (p : PReg) (m : Fin 16)
  /-- RMPUT (R193): Sends n × 16 local bytes as a stream write to a multicast group. n is m + 1. -/
  | sRmput (c : CoreId) (d a b : GReg) (p : PReg) (m : Fin 16)
  /-- VADD (R197): Wrapping lane add. -/
  | sVadd (c : CoreId) (d a b : VReg) (p : PReg) (wide : Bool)
  /-- VSUB (R197): Wrapping lane subtract. -/
  | sVsub (c : CoreId) (d a b : VReg) (p : PReg) (wide : Bool)
  /-- VADD_L (R197): Unsigned saturating lane add. -/
  | sVaddL (c : CoreId) (d a b : VReg) (p : PReg) (wide : Bool)
  /-- VSUB_L (R197): Unsigned saturating lane subtract. -/
  | sVsubL (c : CoreId) (d a b : VReg) (p : PReg) (wide : Bool)
  /-- VADDS (R197): Signed saturating lane add. -/
  | sVadds (c : CoreId) (d a b : VReg) (p : PReg) (wide : Bool)
  /-- VSUBS (R197): Signed saturating lane subtract. -/
  | sVsubs (c : CoreId) (d a b : VReg) (p : PReg) (wide : Bool)
  /-- VMUL (R197): Low half of the lane product. -/
  | sVmul (c : CoreId) (d a b : VReg) (p : PReg) (wide : Bool)
  /-- VMUL_L (R197): L16 lane product. -/
  | sVmulL (c : CoreId) (d a b : VReg) (p : PReg) (wide : Bool)
  /-- VMUL_Q12 (R197): s3.12 lane product. -/
  | sVmulQ12 (c : CoreId) (d a b : VReg) (p : PReg) (wide : Bool)
  /-- VMUL_U15 (R197): u1.15 lane product. -/
  | sVmulU15 (c : CoreId) (d a b : VReg) (p : PReg) (wide : Bool)
  /-- VMINU (R197): Unsigned lane minimum. -/
  | sVminu (c : CoreId) (d a b : VReg) (p : PReg) (wide : Bool)
  /-- VMAXU (R197): Unsigned lane maximum. -/
  | sVmaxu (c : CoreId) (d a b : VReg) (p : PReg) (wide : Bool)
  /-- VMINS (R197): Signed lane minimum. -/
  | sVmins (c : CoreId) (d a b : VReg) (p : PReg) (wide : Bool)
  /-- VMAXS (R197): Signed lane maximum. -/
  | sVmaxs (c : CoreId) (d a b : VReg) (p : PReg) (wide : Bool)
  /-- VAND (R197): Lane AND. -/
  | sVand (c : CoreId) (d a b : VReg) (p : PReg) (wide : Bool)
  /-- VOR (R197): Lane OR. -/
  | sVor (c : CoreId) (d a b : VReg) (p : PReg) (wide : Bool)
  /-- VXOR (R197): Lane XOR. -/
  | sVxor (c : CoreId) (d a b : VReg) (p : PReg) (wide : Bool)
  /-- VSHL (R197): Lane shift left. -/
  | sVshl (c : CoreId) (d a b : VReg) (p : PReg) (wide : Bool)
  /-- VSHR (R197): Lane logical shift right. -/
  | sVshr (c : CoreId) (d a b : VReg) (p : PReg) (wide : Bool)
  /-- VSRA (R197): Lane arithmetic shift right. -/
  | sVsra (c : CoreId) (d a b : VReg) (p : PReg) (wide : Bool)
  /-- VFADD (R199): fp16 lane add. -/
  | sVfadd (c : CoreId) (d a b : VReg) (p : PReg)
  /-- VFSUB (R199): fp16 lane subtract. -/
  | sVfsub (c : CoreId) (d a b : VReg) (p : PReg)
  /-- VFMUL (R199): fp16 lane multiply. -/
  | sVfmul (c : CoreId) (d a b : VReg) (p : PReg)
  /-- VFMA (R199): fp16 fused multiply-add. -/
  | sVfma (c : CoreId) (d a b : VReg) (p : PReg)
  /-- VFMIN (R199): fp16 lane minimum. -/
  | sVfmin (c : CoreId) (d a b : VReg) (p : PReg)
  /-- VFMAX (R199): fp16 lane maximum. -/
  | sVfmax (c : CoreId) (d a b : VReg) (p : PReg)
  /-- VFABS (R199): fp16 lane absolute value. -/
  | sVfabs (c : CoreId) (d a : VReg) (p : PReg)
  /-- VFNEG (R199): fp16 lane negation. -/
  | sVfneg (c : CoreId) (d a : VReg) (p : PReg)
  /-- L16_F16 (R200): Converts L16 lanes to fp16. -/
  | sL16F16 (c : CoreId) (d a : VReg) (p : PReg)
  /-- F16_L16 (R200): Converts fp16 lanes to L16. -/
  | sF16L16 (c : CoreId) (d a : VReg) (p : PReg)
  /-- Q12_F16 (R200): Converts s3.12 lanes to fp16. -/
  | sQ12F16 (c : CoreId) (d a : VReg) (p : PReg)
  /-- F16_Q12 (R200): Converts fp16 lanes to s3.12. -/
  | sF16Q12 (c : CoreId) (d a : VReg) (p : PReg)
  /-- U15_F16 (R200): Converts u1.15 lanes to fp16. -/
  | sU15F16 (c : CoreId) (d a : VReg) (p : PReg)
  /-- F16_U15 (R200): Converts fp16 lanes to u1.15. -/
  | sF16U15 (c : CoreId) (d a : VReg) (p : PReg)
  /-- L16_U15 (R200): Converts u1.15 lanes to L16. -/
  | sL16U15 (c : CoreId) (d a : VReg) (p : PReg)
  /-- U15_L16 (R200): Converts L16 lanes to u1.15. -/
  | sU15L16 (c : CoreId) (d a : VReg) (p : PReg)
  /-- VMOV (R201): Copies a vector register under predicate. -/
  | sVmov (c : CoreId) (d a : VReg) (p : PReg)
  /-- VSEL (R201): Selects lanes by predicate. -/
  | sVsel (c : CoreId) (d a b : VReg) (p : PReg)
  /-- VPERM (R201): Permutes lanes by index. -/
  | sVperm (c : CoreId) (d a b : VReg)
  /-- VSPLAT_H (R201): Splats a halfword to all lanes. -/
  | sVsplatH (c : CoreId) (d : VReg) (a : GReg)
  /-- VSPLAT_W (R201): Splats a word to all 32-bit lanes. -/
  | sVsplatW (c : CoreId) (d : VReg) (a : GReg)
  /-- VEXT_H (R201): Extracts a lane to a general register. -/
  | sVextH (c : CoreId) (d : GReg) (a : VReg) (b : Fin 8)
  /-- VINS_H (R201): Inserts a halfword into a lane. -/
  | sVinsH (c : CoreId) (d : VReg) (a : GReg) (b : Fin 8)
  /-- VPACK_B (R201): Packs L16 lanes to rounded bytes. -/
  | sVpackB (c : CoreId) (d a b : VReg)
  /-- VUNPK_LO (R201): Unpacks the low bytes to L16. -/
  | sVunpkLo (c : CoreId) (d a : VReg)
  /-- VUNPK_HI (R201): Unpacks the high bytes to L16. -/
  | sVunpkHi (c : CoreId) (d a : VReg)
  /-- VMOVG (R201): Moves two general registers into a vector register. -/
  | sVmovg (c : CoreId) (d : VReg) (a b : GReg)
  /-- VEXT_D (R201): Extracts a doubleword to a general register. -/
  | sVextD (c : CoreId) (d : GReg) (a : VReg) (b : Fin 2)
  /-- LUT (R202): Looks lanes up in a step or linear table. -/
  | sLut (c : CoreId) (d a : VReg) (b : GReg) (p : PReg) (big linear : Bool)
  /-- MIX (R204): Applies an s3.12 colour matrix to two pixels. -/
  | sMix (c : CoreId) (d a b : VReg) (p : PReg) (four : Bool)
  /-- BLEND (R205): Blends an over layer onto an under layer by opacity. -/
  | sBlend (c : CoreId) (d a b o : VReg) (p : PReg) (mode : Fin 4)
  /-- FADE (R206): Moves lanes from a start level toward an end level by progress. -/
  | sFade (c : CoreId) (d a b t : VReg) (p : PReg) (curve : Fin 4)
  /-- RPUSH (R149): Pushes one entry to a ring, or is refused when the ring is full. The ring is the ring field, or g[gr] with RR. -/
  | sRpush (c : CoreId) (d : GReg) (v : VReg) (ring : RingId) (rr : Bool) (gr : GReg)
  /-- RPOP (R150): Pops one entry from a ring, or returns the IDLE item. The ring is the ring field, or g[gr] with RR. -/
  | sRpop (c : CoreId) (d : GReg) (v : VReg) (ring : RingId) (rr : Bool) (gr : GReg)
  /-- RDROP (R151): Discards ring entries up to the next SOP. The ring is the ring field, or g[gr] with RR. -/
  | sRdrop (c : CoreId) (d : GReg) (ring : RingId) (rr : Bool) (gr : GReg)
  /-- RDPH (R141): Reads the current Sidereal phase. -/
  | sRdph (c : CoreId) (d : GReg)
  /-- WAITPH (R142): Waits until the phase reaches a target. -/
  | sWaitph (c : CoreId) (a : GReg)
  /-- WAITPH_K (R208): Waits until the phase reaches LPHASE plus an offset. -/
  | sWaitphK (c : CoreId) (a : GReg)
  /-- SCHED (R145): Posts an Ephemeris entry from two vector registers and returns the result code. -/
  | sSched (c : CoreId) (d : GReg) (a : VReg)
  /-- PST (R154): Stores pixels into an OPEN plate buffer generation. -/
  | sPst (c : CoreId) (d : VReg) (a b : GReg) (p : PReg)
  /-- PIN (R152): Raises the pin count of a plate generation. -/
  | sPin (c : CoreId) (d a : GReg)
  /-- UNPIN (R152): Lowers the pin count of a plate generation. -/
  | sUnpin (c : CoreId) (d a : GReg)
  /-- NOP (R212): Does nothing. -/
  | sNop (c : CoreId)
  /-- FENCE_T (R134): Orders accesses for the tile. -/
  | sFenceT (c : CoreId)
  /-- FENCE_D (R134): Orders accesses for every agent of the device. -/
  | sFenceD (c : CoreId)
  /-- FENCE_F (R425): Orders accesses across nodes and issues FLUSHes to each node written. -/
  | sFenceF (c : CoreId)
  /-- BAR_T (R136): Waits for the group members in the same tile. -/
  | sBarT (c : CoreId)
  /-- BAR_G (R136): Waits for every group member. -/
  | sBarG (c : CoreId)
  /-- TRAP (R212): Raises the TRAP exception. -/
  | sTrap (c : CoreId) (imm : BitVec 16)
  /-- MVS (R213): Reads a special register. -/
  | sMvs (c : CoreId) (d : GReg) (sr : BitVec 12)
  /-- MVT (R213): Writes a special register. -/
  | sMvt (c : CoreId) (a : GReg) (sr : BitVec 12)
  /-- ERET (R159): Returns from a handler and restores GIE. -/
  | sEret (c : CoreId)
  /-- WFI (R215): Waits until IPEND is not zero. -/
  | sWfi (c : CoreId)
  /-- WFI_WAKE (R215): A waiting core continues once IPEND becomes non-zero. -/
  | wfiWake (n : Fin 4)
  /-- SUBFRAME_START (R218): At a sub-frame's start phase the port takes pins, activates committed values, and starts fetch through serialize, or skips the sub-frame. `alter`: codes a hardware error alters on the way to the guard, as line, code number, code. -/
  | subframeStart (p : PortId) (alter : List (Nat × Nat × Nat))
  /-- SUBFRAME_LATCH (R223): At the latch phase the LE is sent and the array-current value handed to the bound channel. `done`: the last line has left by the latch phase. -/
  | subframeLatch (p : PortId) (done : Bool)
  /-- LATE_LE_SEND (R225): A sub-frame whose serialization ends after its latch phase sends LE when the last line has left. -/
  | lateLeSend (p : PortId)
  /-- SUBFRAME_ABANDON (R226): A sub-frame without LE at the next latch phase is abandoned. -/
  | subframeAbandon (p : PortId)
  /-- BUF_CONFIG (R237): Loads the selected buffer's configuration from staging. -/
  | bufConfig (ag : Agent)
  /-- BUF_INIT (R237): Opens every slot of the buffer from GEN. -/
  | bufInit (ag : Agent)
  /-- BUF_OPEN (R237): Opens one slot as generation GEN. -/
  | bufOpen (ag : Agent)
  /-- BUF_SEAL (R237): Seals generation GEN. -/
  | bufSeal (ag : Agent)
  /-- BUF_FREE (R234): Frees generation GEN, or defers the free while pins are held. -/
  | bufFree (ag : Agent)
  /-- BUF_RESET (R237): Makes the buffer not valid. -/
  | bufReset (ag : Agent)
  /-- BUF_BADOP (R237): Operation codes 0 and 7 have no effect and read BADOP. Operation code 7, or 0. -/
  | bufBadop (ag : Agent) (seven : Bool)
  /-- PLATE_LATCH (R239): A PLATE_LATCH action fixes its target sub-frame, computes GEN and seals the masked layers. -/
  | plateLatch
  /-- PLATE_ENABLE (R268): Setting PLATEp_CTRL.EN makes all staged values active after the checks. The word written; EN is taken as 1. -/
  | plateEnable (ag : Agent) (p : PortId) (v : Word)
  /-- PLATE_DISABLE (R271): Clearing EN lets the sub-frame in progress finish and then stops the port. The word written; EN is taken as 0. -/
  | plateDisable (ag : Agent) (p : PortId) (v : Word)
  /-- PLATE_STOP (R271): When the last sub-frame has finished, the port stops and releases its pins. -/
  | plateStop (p : PortId)
  /-- PLATE_COMMIT (R268): Setting PLATEp_CMD.COMMIT schedules the staged values for the next s = 0 start. -/
  | plateCommit (ag : Agent) (p : PortId)
  /-- LC_RECEIVED (R293): An LC readback is compared with the frame CRC and completes its sub-frame. `good`: CRC and BLOCKS match. -/
  | lcReceived (p : PortId) (good : Bool) (n : Word) (sf : Fin 8) (status : Fin 4) (crc : Word)
  /-- SR_RECEIVED (R286): An SR packet (STATUS, IDENT, ACK or NAK) is captured and acted on. KIND 0 STATUS, 1 IDENT, 2 NAK, 3 ACK. -/
  | srReceived (p : PortId) (good : Bool) (kind : Fin 4) (tag qcode : Byte) (data : List DWord)
  /-- FM_CHUNK (R395): A fault map chunk is accepted and updates the diagnostic map, or is discarded as a gap. -/
  | fmChunk (p : PortId) (good : Bool) (mapseq : BitVec 16) (offset : Word) (data : List Byte)
  /-- TR_RECEIVED (R286): A TR packet delivers engine temperatures. Sensors reported, in 1/16 °C. -/
  | trReceived (p : PortId) (good : Bool) (temps : List (BitVec 16))
  /-- UPSTREAM_ALIGN (R309): An upstream ALIGN block reports lane lock for training. -/
  | upstreamAlign (p : PortId) (lcode : Fin 4) (lmask : Fin 16)
  /-- TE_EDGE (R297): A TE_L falling edge releases the next sub-frame and measures TE_DLY. -/
  | teEdge (p : PortId)
  /-- TE_TIMEOUT (R297): No TE within TIMEOUT raises TE_MISSING and counts a substitution. -/
  | teTimeout (p : PortId)
  /-- LINK_STALL (R297): STALL_N sub-frames with neither TE nor LC raise LINK_STALL and send the link to LOCK. -/
  | linkStall (p : PortId)
  /-- ENG_DET_ASSERT (R309): ENG_DET_L asserted moves the link to DETECT. -/
  | engDetAssert (p : PortId)
  /-- ENG_DET_DEBOUNCE (R309): After DEB_MS asserted, the link enters LOCK and ENG_FOUND is raised. -/
  | engDetDebounce (p : PortId)
  /-- ENG_DET_NEGATE (R309): ENG_DET_L negated during DETECT returns the link to DOWN. -/
  | engDetNegate (p : PortId)
  /-- ENG_DET_LOSS (R309): ENG_DET_L negated for LOSS_US sends the link to DOWN with ENG_LOST. -/
  | engDetLoss (p : PortId)
  /-- TRAIN_TIMEOUT (R309): TRAIN_MS without lane lock raises TRAIN_FAIL and restarts training. -/
  | trainTimeout (p : PortId)
  /-- IDENT_TIMEOUT (R309): No SR IDENT after three queries sends the link to LOCK with ENG_NORESP. -/
  | identTimeout (p : PortId)
  /-- RX_LOCK_LOSS (R309): Loss of lane 0 block lock sends the link to LOCK. -/
  | rxLockLoss (p : PortId)
  /-- LINK_CTRL_WRITE (R312): A write to PLATEp_LINK_CTRL changes LINK_EN, RATE, LANES, BLANK and PSTATE_REQ. -/
  | linkCtrlWrite (ag : Agent) (p : PortId) (v : Word)
  /-- LINK_RETRAIN (R309): Setting RETRAIN sends the link to LOCK. -/
  | linkRetrain (ag : Agent) (p : PortId)
  /-- LC_RELEASE (R299): Setting LC_RELEASE clears LC_HOLD. -/
  | lcRelease (ag : Agent) (p : PortId)
  /-- SQ_STATUS_TICK (R313): In READY the device sends SQ STATUS every 1 ms. -/
  | sqStatusTick (p : PortId)
  /-- LIGHT_EXIT_TIMEOUT (R315): A LIGHT exit that has not completed within 1 ms sends the link to LOCK. -/
  | lightExitTimeout (p : PortId)
  /-- DEEP_WAKE_END (R316): After the 20 µs wake pattern, the link enters LOCK. -/
  | deepWakeEnd (p : PortId)
  /-- PWR_NO_ACK (R317): No ACK to three SQ PWR keeps the link in READY with ENG_NORESP. -/
  | pwrNoAck (p : PortId)
  /-- LINK_TEST_WRITE (R318): A write to LINK_TEST.LOOP starts or ends a loop test. -/
  | linkTestWrite (ag : Agent) (p : PortId) (v : Word)
  /-- FAR_END_LOOP_END (R318): The far-end loop duration ends and the link returns to LOCK. -/
  | farEndLoopEnd (p : PortId) (errs : List Word)
  /-- OCC_CUT (R334): 10 µs before a start phase, the Occulter fixes regions, transform and instances, and evaluates staleness and stuck caps. `mismatch`: the guard's comparison finds this region's copies different; `parity`: its check bits fail. -/
  | occCut (p : PortId) (mismatch : Option (Fin 256)) (parity : Bool)
  /-- FEED_RECORD (R341): A position record datagram is checked and its items applied. -/
  | feedRecord (mac : MacId) (ip : Word) (payload : List Byte)
  /-- FEED_SOURCE_EXPIRE (R342): A source entry is freed after 10 s without an accepted record. -/
  | feedSourceExpire
  /-- RGN_WRITE (R367): Writes the staged region configuration and geometry. -/
  | rgnWrite (ag : Agent)
  /-- RGN_ARM (R332): Arms the selected region. -/
  | rgnArm (ag : Agent)
  /-- RGN_DISARM (R332): Disarms the selected region. -/
  | rgnDisarm (ag : Agent)
  /-- RGN_REFRESH (R331): Refreshes a PROG region's age. -/
  | rgnRefresh (ag : Agent)
  /-- RGN_READ (R366): Copies the selected region into staging. -/
  | rgnRead (ag : Agent)
  /-- RGN_BADOP (R367): A reserved region operation reads BADOP. op 0 is operation 0, 1 is 6 and 2 is 7. -/
  | rgnBadop (ag : Agent) (op : Fin 3)
  /-- GUARD_RELEASE (R348): Requests the end of a guard hold while REL_OK is set. -/
  | guardRelease (ag : Agent) (p : PortId)
  /-- MIN_ENTER (R351): Enters Occulter minimum mode. -/
  | minEnter (ag : Agent) (p : PortId)
  /-- MIN_EXIT (R351): Ends minimum mode at the next cut unless a hardware source holds it. -/
  | minExit (ag : Agent) (p : PortId)
  /-- XF_COMMIT (R334): Applies the staged transform at the next cut. -/
  | xfCommit (ag : Agent) (p : PortId)
  /-- GLYPH_COMMIT (R358): Validates a glyph store and makes it active at the next cut. `second`: store 1. -/
  | glyphCommit (ag : Agent) (second : Bool)
  /-- RET_INSTANCE_COMMIT (R360): A write to W0 commits a Reticle instance at the next cut. -/
  | retInstanceCommit (ag : Agent) (p : PortId) (k : Fin 256) (v : Word)
  /-- PWM_PERIOD_START (R374): A string channel starts a PWM period with its DAC code and on-time, evaluating fades and derating. -/
  | pwmPeriodStart (n : StrId)
  /-- SENSE_CONVERSION (R388): A sense conversion is classified and moves the channel state. The sense voltage in mV. -/
  | senseConversion (n : StrId) (mv : BitVec 16)
  /-- NTC_CONVERSION (R383): Every 1 ms an NTC input is converted to temperature and its validity judged. The ratio V_ntc / VDDA_ANA in 2^-16. -/
  | ntcConversion (i : Fin 8) (r : Fin 65537)
  /-- STR_THERMAL (R382): After 8 samples above TTRIP a channel enters THERMAL. -/
  | strThermal (n : StrId)
  /-- STR_SET (R378): A STR_SET action sets a free channel's level and restarts its period. -/
  | strSet
  /-- FADE_START (R384): A FADE_START action starts a fade engine. -/
  | fadeStart
  /-- FADE_FRAME_EVAL (R387): At each whole-frame phase every fade engine is evaluated and the fade table written. -/
  | fadeFrameEval
  /-- STRING_UNVERIFIED (R389): A lit channel without a GOOD conversion for PROBE_AFTER enters UNVERIFIED. -/
  | stringUnverified (n : StrId)
  /-- PROBE_DUE (R391): PROBE_PERIOD without a GOOD conversion makes a probe due again. -/
  | probeDue (n : StrId)
  /-- STR_UNVERIFIED (R393): A channel in UNVERIFIED for PROBE_PERIOD raises STR_UNVERIFIED. -/
  | strUnverified (n : StrId)
  /-- STR_CLEAR (R389): Setting STRn_CMD.CLEAR clears a fault state. -/
  | strClear (ag : Agent) (n : StrId)
  /-- STR_CFG_WRITE (R379): A write to STRn_CFG enables, binds or unbinds the channel. -/
  | strCfgWrite (ag : Agent) (n : StrId) (v : Word)
  /-- ENG_TEMP_LOST (R381): No TR for 100 ms makes source 8 invalid. -/
  | engTempLost (p : PortId)
  /-- STRDIAG_INIT (R396): Setting INIT resets every diagnostic map entry. -/
  | strdiagInit (ag : Agent) (p : PortId)
  /-- STRDIAG_INIT_DONE (R396): Map initialisation completes and INIT clears. -/
  | strdiagInitDone (p : PortId)
  /-- STUCK_CLR (R400): Removes pixels no longer reporting STUCK from the stuck-on list. -/
  | stuckClr (ag : Agent) (p : PortId)
  /-- LINK_PACKET_RECEIVE (R409): A transit packet is accepted, discarded as duplicate, or NAKed. `good`: CRC and BLOCKS match. -/
  | linkPacketReceive (l : LinkId) (lseq : BitVec 12) (good : Bool) (k : Pkt)
  /-- LLC_RECEIVE (R410): An LLC block returns credits and acknowledges or NAKs packets. `cr` holds CR0 to CR3, low byte first. -/
  | llcReceive (l : LinkId) (cr : BitVec 32) (ack : BitVec 12) (nak : Bool)
  /-- REPLAY_TIMEOUT (R411): No ACK progress for 8 µs resends from the oldest packet. -/
  | replayTimeout (l : LinkId)
  /-- LINK_BLOCK_LOCK (R429): Block lock moves a transit link from TRAIN to HELLO. -/
  | linkBlockLock (l : LinkId)
  /-- HELLO_TICK (R430): A HELLO is sent every 1 ms on each link not OFF. -/
  | helloTick (l : LinkId)
  /-- HELLO_RECEIVE (R429): A HELLO moves the link toward UP, resolves ID conflicts, and gives a delay sample. -/
  | helloReceive (l : LinkId) (h : Hello)
  /-- LINK_DEAD_TIMEOUT (R429): DEAD_MS without a valid HELLO sends the link to TRAIN with LINK_DOWN. -/
  | linkDeadTimeout (l : LinkId)
  /-- TRANSIT_LINK_CFG_WRITE (R405): A write to TRANSITl_CFG enables the link or sets its role. -/
  | transitLinkCfgWrite (ag : Agent) (l : LinkId) (v : Word)
  /-- TRANSIT_RETRAIN (R429): Setting TRANSITl_CMD.RETRAIN sends the link to TRAIN. -/
  | transitRetrain (ag : Agent) (l : LinkId)
  /-- ROUTER_FORWARD (R439): The router cuts a packet through to its next hop, or delivers it locally. -/
  | routerForward
  /-- WR_REQUEST (R420): A target performs a WR or produces a LATE record. -/
  | wrRequest
  /-- RD_REQUEST (R423): A target performs an RD or answers RETRY or an error. `busy` reads and fetch-adds are being performed. -/
  | rdRequest (busy : Fin 129)
  /-- FADD_REQUEST (R420): A target performs a FADD indivisibly or answers RETRY or an error. -/
  | faddRequest (busy : Fin 129)
  /-- FLUSH_REQUEST (R424): A target answers a FLUSH with WCNT and LCNT once earlier requests are done. -/
  | flushRequest
  /-- STREAM_REQUEST (R438): A STREAM packet is replicated along the group tree and delivered locally. -/
  | streamRequest
  /-- MSG_REQUEST (R447): A MSG packet pushes its entries to the destination ring as one unit or is refused. -/
  | msgRequest
  /-- RSP_RECEIVE (R416): An RSP completes its slot's transaction, or is discarded as stale. -/
  | rspReceive
  /-- LATE_RECEIVE (R426): A LATE record is placed in the late-error ring and sets the target's LATE bit and KSTAT.LATE. -/
  | lateReceive
  /-- TRANSACTION_TIMEOUT (R425): A non-posted transaction without answer within TRANSIT_TIMEOUT completes with an error. -/
  | transactionTimeout (i : Byte)
  /-- FLUSH_REISSUE (R425): An unsatisfied FLUSH is reissued after FLUSH.GAP. -/
  | flushReissue (i : Byte)
  /-- LSA_RECEIVE (R434): A newer LSA is stored and relayed; an older one is discarded. -/
  | lsaReceive (l : LinkId) (a : Lsa)
  /-- GRP_RECEIVE (R435): A GRP record updates multicast membership. -/
  | grpReceive (l : LinkId) (g : Grp)
  /-- LSA_REFRESH_TICK (R434): A node sends its LSA at least every 1 s. -/
  | lsaRefreshTick
  /-- LSA_EXPIRE (R434): An LSA not renewed for 4 s is removed. -/
  | lsaExpire
  /-- ROUTE_TABLE_UPDATE (R433): The system image rewrites the router table after a database change. -/
  | routeTableUpdate
  /-- ID_CLAIM_TIMEOUT (R432): CLAIM_MS without conflict makes a TENTATIVE node ID ASSIGNED. -/
  | idClaimTimeout
  /-- PHASE_MASTER_ELECT (R442): A candidate that ranks better for 1 s, or replaces a vanished master, becomes phase master. -/
  | phaseMasterElect
  /-- PHASE_SEND_TICK (R443): The master sends PHASE packets every PERIOD µs. -/
  | phaseSendTick
  /-- PHASE_PACKET_RECEIVE (R444): An accepted PHASE packet is forwarded with corrected delay and gives a FABRIC sample. `resid`: time to the egress, in 2^-16 ns. -/
  | phasePacketReceive (l : LinkId) (k : PhasePkt) (resid : Word)
  /-- CTRL_RX (R446): A CTRL packet other than HELLO and PHASE is passed to the CTRL_RX ring. -/
  | ctrlRx (l : LinkId) (op : BitVec 4) (data : List Byte)
  /-- CTRL_TX (R446): A CTRL_TX ring entry is sent as a CTRL packet on the named links. -/
  | ctrlTx
  /-- MSG_TX (R446): A MSG_TX ring entry is sent as a MSG packet. -/
  | msgTx
  /-- TARGET_STATE_REQUEST (R428): A type 0x42 request changes a target's fence and LATE state, with a type 0x43 reply. -/
  | targetStateRequest
  /-- TGT_CLR_LATE (R427): Setting TRANSIT_TGT_CMD.CLR_LATE clears the target's LATE bit. -/
  | tgtClrLate (ag : Agent)
  /-- ITEM_PUT (R452): An ITEM_PUT is recorded by the coordinator and answered with a result entry. -/
  | itemPut (src : OSrc)
  /-- NODE_SET (R455): A NODE_SET entry sets CLASS, PRIO, CAND, DRAIN and EN. -/
  | nodeSet
  /-- INVENTORY_RECEIVE (R458): An inventory record updates the coordinator ranking. -/
  | inventoryReceive (l : LinkId) (i : Inv)
  /-- COORD_CHANGE (R458): A better candidate after 1 s, or on loss of the old one, becomes coordinator and adopts the replica. `replica`: the table of the node whose ORRERY_EPOCH is highest. -/
  | coordChange (replica : List (Nat × OItem))
  /-- REBALANCE_TICK (R474): Every 1 s a rebalance round moves items off the most loaded node. -/
  | rebalanceTick
  /-- MIGRATE_PREPARE (R466): PREPARE allocates NADDR on NEXT and copies the item's memory. the coordinator's message, on another node. -/
  | migratePrepare (msg : Option (Nat × OItem))
  /-- PREPARE_DONE (R466): Both nodes report PREPARE done and the coordinator sends COMMIT with CFRAME. the node that reports. -/
  | prepareDone (node : BitVec 13) (id : BitVec 14)
  /-- MIGRATE_COMMIT (R466): COMMIT moves the entry into COMMIT on every node. the plan and its number, on another node. -/
  | migrateCommit (msg : Option (List (Nat × OItem) × Word))
  /-- CFRAME_REACHED (R463): At frame CFRAME NEXT takes the item and the entry is rewritten PLACED. -/
  | cframeReached
  /-- FINAL_COPY (R467): OWNER repeats the CARRY copy after its last frame's writes. `ended`: the copy has completed at this node. -/
  | finalCopy (id : BitVec 14) (ended : Bool)
  /-- RETIRE_EXPIRE (R467): RETIRE frames after CFRAME the RETRY window is disarmed and the old memory freed. -/
  | retireExpire
  /-- NODE_LOSS (R469): A lost owner's items enter HOLD and are re-placed at once. `hello`: phase of the last HELLO the fabric received from the node. -/
  | nodeLoss (n : BitVec 13) (hello : DWord)
  /-- TX_DESCRIPTOR (R485): The MAC pops a transmit descriptor and queues or refuses the frame. -/
  | txDescriptor
  /-- FRAME_SELECT (R487): At a frame boundary the port picks the eligible head frame, applying the late policy. -/
  | frameSelect (p : MacId)
  /-- TX_FRAME_DONE (R493): When a frame's last bit leaves, a write-back is posted as required. -/
  | txFrameDone (p : MacId)
  /-- PFC_RECEIVE (R495): A PFC frame sets the pause timers of the mapped queues. `quanta` holds the eight 16-bit times, priority 0 in the low bits. -/
  | pfcReceive (p : MacId) (en : Byte) (quanta : BitVec 128)
  /-- PAUSE_RECEIVE (R497): A legacy PAUSE frame pauses all queues, or is discarded. -/
  | pauseReceive (p : MacId) (quanta : BitVec 16)
  /-- PAUSE_TIMER_EXPIRE (R495): A queue's pause timer runs out and the queue resumes. -/
  | pauseTimerExpire (p : MacId) (q : Fin 8)
  /-- PFC_XOFF (R498): The receive FIFO reaching XOFF sends a PFC with quanta 0xFFFF. -/
  | pfcXoff (p : MacId)
  /-- PFC_REFRESH (R498): The XOFF PFC is repeated each time half its quanta has passed. -/
  | pfcRefresh (p : MacId)
  /-- PFC_XON (R498): The FIFO falling to XON sends a PFC with quanta 0. -/
  | pfcXon (p : MacId)
  /-- PAUSE_LONG (R498): A queue paused for longer than WDOG_MS raises PAUSE_LONG. -/
  | pauseLong (p : MacId) (q : Fin 8)
  /-- RX_FRAME (R502): A received frame is filtered and steered to its destination. `frame` with its FCS; its time stamp point was `agoNs` ago. -/
  | rxFrame (p : MacId) (frame : List Byte) (agoNs : Nat)
  /-- RX_FRAME_STORE (R507): A frame written to a free buffer posts a receive entry. -/
  | rxFrameStore (p : MacId)
  /-- RX_FREE_BUFFER (R505): An RXFREE entry posts a free receive buffer. -/
  | rxFreeBuffer
  /-- MAC_LINK_UP (R526): The port's link comes up and LINK_UP is raised. `an`: the partner's base page. -/
  | macLinkUp (p : MacId) (an : Option (BitVec 16))
  /-- MAC_LINK_LOSS (R481): Loss of link discards queued frames and pending jobs. -/
  | macLinkLoss (p : MacId)
  /-- MAC_CTRL_WRITE (R481): A write to a port's CTRL enables it or sets rate and options. -/
  | macCtrlWrite (ag : Agent) (p : MacId) (v : Word)
  /-- NET_LAUNCH (R508): A NET_LAUNCH action starts a composer job and releases HOLD frames. -/
  | netLaunch
  /-- LPI_ENTER (R501): After LPI_IDLE with nothing due, the transmitter enters LPI. -/
  | lpiEnter (p : MacId)
  /-- LPI_WAKE (R501): A frame, job or coming launch time wakes the transmitter. -/
  | lpiWake (p : MacId)
  /-- SACN_DATA_RECEIVE (R519): An sACN data packet of a mapped universe is accepted into live or shadow slots. -/
  | sacnDataReceive
  /-- SACN_SYNC_RECEIVE (R521): An sACN synchronization packet copies shadow to live. -/
  | sacnSyncReceive
  /-- SACN_SOURCE_TIMEOUT (R519): A held source silent for 2,500 ms is released. -/
  | sacnSourceTimeout (n : Fin 1024)
  /-- ST2110_PACKET (R525): A video packet is written into its plate buffer generation and ends or starts frames. -/
  | st2110Packet
  /-- ST_CFG_WRITE (R523): Enabling a VIDEO stream entry is checked and accepted or refused. -/
  | stCfgWrite (ag : Agent) (u : Fin 4) (k : Fin 16) (v : Word)
  /-- RING_PUSH_STAGE (R542): A write to PUSH_W0–W6 stages an entry word. -/
  | ringPushStage (ag : Agent) (r : RingId) (i : Fin 7) (v : Word)
  /-- RING_WINDOW_PUSH (R542): A write to PUSH_W7 pushes the staged entry. -/
  | ringWindowPush (ag : Agent) (r : RingId) (v : Word)
  /-- RING_WINDOW_POP (R542): A read of POP_W0 pops one entry into the pop latch. -/
  | ringWindowPop (ag : Agent) (r : RingId)
  /-- RING_WINDOW_PEEK (R542): A read of PEEK_W0 returns the head's word 0 without popping. -/
  | ringWindowPeek (ag : Agent) (r : RingId)
  /-- RING_WINDOW_DROP (R538): A read of DROP performs RDROP and returns the count. -/
  | ringWindowDrop (ag : Agent) (r : RingId)
  /-- UNIT_RING_PUSH (R540): A unit pushes an entry or packet to a ring, handled on a full ring by producer. -/
  | unitRingPush (w : UPush)
  /-- RING_REFILL (R532): A refill brings spilled entries into the head. `lost`: entries of the refill, oldest in bit 0, that meet an uncorrectable error. -/
  | ringRefill (r : RingId) (lost : BitVec 16)
  /-- RING_RESET (R539): Setting RINGr_CMD.RESET discards every entry. -/
  | ringReset (ag : Agent) (r : RingId)
  /-- RING_CTRL_WRITE (R531): A write to RINGr_CTRL enables or disables the ring. -/
  | ringCtrlWrite (ag : Agent) (r : RingId) (v : Word)
  /-- DMX_BREAK (R553): A DMX_BREAK action starts, delays or skips a level packet. -/
  | dmxBreak
  /-- DMX_PACKET_END (R554): The last slot of a level packet ends. -/
  | dmxPacketEnd (d : DmxId)
  /-- RDM_TRANSACTION_START (R555): The bridge starts a queued RDM request or discovery step when allowed. -/
  | rdmTransactionStart (d : DmxId)
  /-- RDM_RESPONSE (R556): An RDM response ends the transaction. the slots received. -/
  | rdmResponse (d : DmxId) (data : List Byte)
  /-- RDM_RESPONSE_TIMEOUT (R556): TMO_US without a response ends the transaction, with resend or TIMEOUT. -/
  | rdmResponseTimeout (d : DmxId)
  /-- TUNNEL_GET (R562): A new tunnelled GET is queued and answered RETRY, or BUSY. -/
  | tunnelGet
  /-- TUNNEL_COLLECT (R563): A collecting GET is answered RETRY, DONE, TIMEOUT or EXPIRED. -/
  | tunnelCollect
  /-- TUNNEL_SET (R565): A tunnelled SET is queued, reporting only failures as late errors. -/
  | tunnelSet
  /-- PENDING_DISCARD (R564): An uncollected pending entry is freed after DISCARD_MS. -/
  | pendingDiscard (i : Fin 64)
  /-- DISC_FULL (R566): Setting DISC_FULL starts a full RDM discovery. -/
  | discFull (ag : Agent) (d : DmxId)
  /-- DISCOVERY_SWEEP (R567): Every DISC_PERIOD an incremental sweep runs. -/
  | discoverySweep (d : DmxId)
  /-- PANEL_SAMPLE (R569): Every 100 µs the panel inputs are sampled, debounced and their templates posted. levels at the balls; true is high. -/
  | panelSample (pins : Word) (emergL darkL : Bool)
  /-- PANEL_STUCK (R570): An input active for STUCK_TIME enters STUCK. -/
  | panelStuck (i : Fin 32)
  /-- PANEL_REARM (R570): A write to PANEL_REARM re-arms inputs in WAIT_REARM. -/
  | panelRearm (ag : Agent) (v : Word)
  /-- EMERG_ASSERT (R573): EMERG_L low for 1 ms of samples counts as asserted. -/
  | emergAssert
  /-- EMERG_RELEASE (R573): EMERG_L high for REL_MS is released. -/
  | emergRelease
  /-- DARK_ASSERT (R573): DARK_L low for 1 ms of samples counts as asserted. -/
  | darkAssert
  /-- DARK_RELEASE (R573): DARK_L high for REL_MS is released. -/
  | darkRelease
  /-- SAFE_LONG (R573): A safety input asserted for STUCK_TIME raises SAFE_LONG. -/
  | safeLong (i : Fin 2)
  /-- FAILSAFE_DMX_TICK (R665): In FAILSAFE each DMX port sends its failsafe slots every 25 ms. -/
  | failsafeDmxTick (d : DmxId)
  /-- FAILSAFE_SACN_TICK (R665): In FAILSAFE each FIXMASK port sends the failsafe universes every 100 ms. -/
  | failsafeSacnTick (p : Fin 32)
  /-- HEARTBEAT_TICK (R579): An owner drives a 1 µs heartbeat every PERIOD_US. -/
  | heartbeatTick
  /-- HEARTBEAT_RECEIVED (R579): A heartbeat from the peer is seen. -/
  | heartbeatReceived
  /-- HEARTBEAT_LOSS (R593): MISS_N periods without a heartbeat make a standby take ownership or enter BLOCKED. -/
  | heartbeatLoss
  /-- PEER_ASSERT (R597): TWIN_PEER_L asserted closes the gate and resolves contention by SIDE. -/
  | peerAssert
  /-- PEER_NEGATE (R593): TWIN_PEER_L negated lets a BLOCKED or waiting device take ownership. -/
  | peerNegate
  /-- GATE_OPEN (R580): After 1 µs of own assertion with PEER negated, the twin output gate opens. -/
  | gateOpen
  /-- TCRC_RECEIVE (R584): A peer CRC is compared and mismatches counted, starting a judgement at MISM_N. -/
  | tcrcReceive (es : List TcrcEntry)
  /-- TCRC_TIMEOUT (R584): A peer CRC not arrived within CMP_US counts as missed. -/
  | tcrcTimeout
  /-- TJUDGE_RECEIVE (R596): The verdicts decide owner faulty, standby faulty or undecided. VERDICT, the recomputed and the serialized CRC. -/
  | tjudgeReceive (p : PortId) (sf : Fin 8) (n : Word) (disagree : Bool) (re crc : Word)
  /-- JUDGE_TIMEOUT (R596): A TJUDGE missing after 100 µs makes the outcome undecided. -/
  | judgeTimeout
  /-- TCUT_RECEIVE (R587): A TCUT names the feed records and changes the standby applies at its delayed cut. Change count, and SEQ by SOURCE_ID. -/
  | tcutReceive (p : PortId) (sf : Fin 8) (n count : Word) (seqs : List (Word × Word))
  /-- THEALTH_RECEIVE (R592): A peer health word is stored in TWIN_PEER_HEALTH. -/
  | thealthReceive (health frame status : Word)
  /-- HEALTH_PUBLISH (R592): At frame + 0.5 the health word is published and sent. -/
  | healthPublish
  /-- STANDBY_LOST (R592): No THEALTH for 3 frames clears the peer health. -/
  | standbyLost
  /-- TYIELD_RECEIVE (R593): A TYIELD lets the standby take ownership with PEER negated. -/
  | tyieldReceive (frame : Word) (sf : Fin 8)
  /-- TWIN_YIELD (R600): Setting TWIN_CMD.YIELD hands ownership back when its conditions hold. -/
  | twinYield (ag : Agent)
  /-- YIELD_DONE (R593): Once the named sub-frame's LE has left, a YIELDING device enters STANDBY. -/
  | yieldDone
  /-- AUTO_RETURN (R600): With RETURN = AUTO, YIELD is written after the peer has been ready for 10 s. -/
  | autoReturn
  /-- TWIN_UNDEC_CLR (R596): Setting UNDEC_CLR withdraws the twin minimum-mode source. -/
  | twinUndecClr (ag : Agent)
  /-- TWIN_ENABLE (R593): Setting or clearing TWIN_CTRL.EN moves the twin unit between SOLO and START. The word written to TWIN_CTRL. -/
  | twinEnable (ag : Agent) (v : Word)
  /-- SELFTEST_STEP (R591): In STANDBY one self-test step runs each frame. 0 SRAM BIST, 1 spare-lane loop, 2 core cross-check; the element tested, and the result. -/
  | selftestStep (test : Fin 3) (element : Fin 65536) (pass : Bool)
  /-- TWIN_LINK_DOWN (R590): Loss of the twin link stops comparison and judgement. -/
  | twinLinkDown
  /-- ALM_APPEND (R607): Appends a record with header, payload and commit marker. -/
  | almAppend (ag : Agent)
  /-- ALM_READ (R610): Copies a key's live payload to memory. -/
  | almRead (ag : Agent)
  /-- ALM_COMPACT (R618): Starts a compaction now. -/
  | almCompact (ag : Agent)
  /-- ALM_SCRUB (R622): Starts a scrub pass now. -/
  | almScrub (ag : Agent)
  /-- ALM_BADOP (R610): Operation codes 0 and 5–7 end with BADARG. OP 0, 5, 6 or 7. -/
  | almBadop (ag : Agent) (k : Fin 4)
  /-- ALM_COMMAND_DONE (R611): A queued command ends with a result and BUSY clears. The flash operations that fail. -/
  | almCommandDone (fails : List FlashFail)
  /-- MAILBOX_POLL (R613): Every 1 ms the system image takes SUBMIT mailbox slots. -/
  | mailboxPoll
  /-- ALM_REPLAY (R614): Setting ALM_CTRL.EN scans block headers and starts replay. The word written to ALM_CTRL, the area blocks whose header cannot be read, and the flash operations that fail. -/
  | almReplay (ag : Agent) (v : Word) (unread : List Nat) (fails : List FlashFail)
  /-- REPLAY_DONE (R615): The journal walk ends and the Almanac enters READY. The flash operations that fail, and the loader's places for program images. -/
  | replayDone (fails : List FlashFail) (places : List ProgPlace)
  /-- COMPACTION_COMMIT (R618): COMMITTED is programmed in the new INDEX 0 block, making the new region active. -/
  | compactionCommit (fails : List FlashFail)
  /-- PWRFAIL_ASSERT (R620): PWRFAIL_L asserted refuses appends and stops compaction. Page programs left of an append in progress. -/
  | pwrfailAssert (left : Option Nat)
  /-- PWRFAIL_RELEASE (R620): PWRFAIL_L negated for REL_MS allows appends again. Time since which PWRFAIL_L is negated. -/
  | pwrfailRelease (since : DWord)
  /-- ALM_SCRUB_TICK (R622): Every HOURS hours the active region is read and checked. Flash bytes whose contents have changed, and keys whose record fails its first read only. -/
  | almScrubTick (changed : List (Nat × Byte)) (soft : List Word) (fails : List FlashFail)
  /-- THERM_SAMPLE (R628): All 64 sensors are converted, cross-checked and T_max computed. The count of each sensor. -/
  | thermSample (counts : List Word)
  /-- SENSOR_BROKEN (R629): A sensor deviating for XCHK_N samples is marked broken. -/
  | sensorBroken (n : Fin 64)
  /-- THERM_LIMIT_CHANGE (R631): After DWELL samples a limit becomes active or inactive. -/
  | thermLimitChange
  /-- THROTTLE_STEP_CHANGE (R636): After UP_MS or DOWN_MS the throttle step rises or falls. -/
  | throttleStepChange
  /-- THERM_LIM_WRITE (R634): A write to THERM_LIMk sets a limit and restarts its dwell. -/
  | thermLimWrite (ag : Agent) (k : Fin 4) (v : Word)
  /-- SENSOR_CLR (R630): Clears every broken mark and cross-check count. -/
  | sensorClr (ag : Agent)
  /-- PEAK_CLR (R630): Sets PEAK to the current T_max. -/
  | peakClr (ag : Agent)
  /-- COMP_STEP (R640): Every 1 ms a compensated trim moves one code toward its effective value. -/
  | compStep
  /-- CAL_RUN (R645): Setting CAL_CMD.RUN queues the selected target. -/
  | calRun (ag : Agent)
  /-- CAL_ALL (R645): Setting CAL_CMD.ALL queues every SELECT and MEASURE target. -/
  | calAll (ag : Agent)
  /-- CAL_RUN_DONE (R644): A calibration run completes with agreement, fault or deferral. The readings of each run in order: 72 cell currents; five configurations and then 64 sensors; 32 resistances in mΩ; or one period. -/
  | calRunDone (runs : List (List Int))
  /-- CAL_AUTO_TICK (R645): Every PERIOD_MIN the STR_DAC and SD_TERM targets are queued. -/
  | calAutoTick
  /-- MODE_RESOLVE (R655): Each cycle UNDER and MODE are resolved from the request and overriding conditions. -/
  | modeResolve
  /-- SYS_MODE_REQ_WRITE (R654): A write to SYS_MODE_REQ requests a mode, or is refused. -/
  | sysModeReqWrite (ag : Agent) (v : Word)
  /-- ISOLATION_TIMEOUT (R658): No FABRIC link UP for ISO_MS makes the isolated condition true. -/
  | isolationTimeout
  /-- FS_CLR (R657): Clears FS_LATCH. -/
  | fsClr (ag : Agent)
  /-- FS_LOAD (R666): Reads and checks the failsafe image. -/
  | fsLoad (ag : Agent)
  /-- BOOT_DONE (R676): Ends BOOT and enters the resolved mode, resuming the Ephemeris. -/
  | bootDone (ag : Agent)
  /-- SYS_RESET_WARM (R668): A keyed write with WARM causes a warm reset. Boot slots that cannot be read. -/
  | sysResetWarm (ag : Agent) (unread : List (Fin 2))
  /-- SYS_RESET_SYSTEM (R667): A keyed write with SYSTEM causes a system reset. -/
  | sysResetSystem (ag : Agent)
  /-- WDOG_KICK (R669): A write to SYS_WDOG_KICK restarts the watchdog. -/
  | wdogKick (ag : Agent)
  /-- WDOG_EXPIRE (R669): TIMEOUT_MS without a kick causes a warm reset. Boot slots that cannot be read. -/
  | wdogExpire (unread : List (Fin 2))
  /-- PORST_ASSERT (R667): PORST_L asserted causes a power-on reset. -/
  | porstAssert
  /-- SYSRST_ASSERT (R667): SYSRST_L asserted causes a system reset. -/
  | sysrstAssert
  /-- SUPPLY_UNDERVOLTAGE (R720): A rail below its trip for 2 µs forces a power-on reset. -/
  | supplyUndervoltage
  /-- COLD_EXIT (R667): With resets negated and supplies in range, the device leaves COLD for BOOT. BOOT_SEL, boot slots that cannot be read, and uncorrectable OTP words. -/
  | coldExit (sel : Fin 8) (unread : List (Fin 2)) (otpBad : List (Fin 2048))
  /-- DBG_AUTH_READ (R679): A read of DBG_AUTH returns a fresh nonce and the UID. -/
  | dbgAuthRead
  /-- DBG_AUTH_TOKEN (R679): A written token opens debug if it verifies. -/
  | dbgAuthToken (token : List Byte)
  /-- DORMANT_ENTER (R680): An accepted DORMANT request idles links, calibrates, and stops the clocks. Engines that acknowledge DEEP, and the readings of RC_OSC (64) and of the TSENS targets. -/
  | dormantEnter (acks : List PortId) (runs : List (Fin 65 × List (List Int)))
  /-- DORMANT_WAKE (R681): A wake source relocks PLLs and enters the resolved mode. -/
  | dormantWake (src : Fin 6)
  /-- MODE_MAILBOX_POLL (R678): Every 1 ms the system image serves the mode mailbox. -/
  | modeMailboxPoll
  /-- FAULT_RECORD_PUSH (R687): A queued fault record is pushed to the fault ring when it has room. -/
  | faultRecordPush
  /-- FAULT_RELEASE (R691): Clears the first and second captures and the second count. -/
  | faultRelease (ag : Agent)
  /-- SAFE_CLR (R695): Clears SAFE_HELD and withdraws the fault unit's minimum-mode source. -/
  | safeClr (ag : Agent)
  /-- SCRUB_PASS_COMPLETE (R703): A scrubber completes a pass. The DRAM scrubber or the SRAM scrubber; addresses of the correctable and of the uncorrectable errors found. -/
  | scrubPassComplete (dram : Bool) (ce ue : List Nat)
  /-- SCRUB_LATE (R703): A scrub period ends before its pass completes. -/
  | scrubLate (dram : Bool)
  /-- BG_WINDOW (R704): A new background-budget window starts and deferred steps may run. Share used in the window that ends, in 0.01 %, and the steps that waited. -/
  | bgWindow (used : Fin 10001) (deferred : Nat)
  /-- TELEM_SNAP (R706): A TELEM_SNAP action strobes a counter snapshot. -/
  | telemSnap
  /-- TELEM_CMD_SNAP (R706): Setting TELEM_CMD.SNAP strobes a counter snapshot. -/
  | telemCmdSnap (ag : Agent)
  /-- TELEM_COPY_DONE (R708): A bank's copy-out completes and SNAP_DONE is posted. -/
  | telemCopyDone
  /-- SMB_START (R740): Setting SMBm_GO.START runs one SMBus transaction. -/
  | smbStart (ag : Agent) (m : Fin 2)
  /-- SMB_DONE (R740): The SMBus transaction ends with its result. RESULT, bytes transferred, and the bytes read. -/
  | smbDone (m : Fin 2) (result : Fin 6) (count : Fin 64) (data : List Byte)
  /-- REF_CLOCK_LOSS (R731): A reference pair stops and its lanes lose PLL lock. -/
  | refClockLoss (k : Fin 4)
  /-- SERDES_CTRL_WRITE (R739): A write to SERDESn_CTRL changes equalisation or polarity, or is refused. -/
  | serdesCtrlWrite (ag : Agent) (lane : Fin 68) (v : Word)
  /-- TIME_CLOCK_UNLOCK (R578): The time-clock PLL loses lock, raising FATAL TCLK_UNLOCK, releasing TWIN_OWN_L and moving the twin unit from OWNER or YIELDING to STANDBY. -/
  | timeClockUnlock
  /-- TIME_CLOCK_RELOCK (R578): The time-clock PLL regains lock, ending the condition that holds the twin unit in STANDBY, BLOCKED or SOLO and sets FAULT in the health word. -/
  | timeClockRelock
  /-- REF_CLOCK_RETURN (R731): A SerDes reference pair comes back within ±500 ppm of 156.25 MHz, SERDES_REF_STAT.PRESENT is set again and its lanes can relock. -/
  | refClockReturn (k : Fin 4)
  /-- TRANSIT_BLOCK_LOCK_LOSS (R429): A transit link receiver loses block lock after 16 invalid sync headers in 64 blocks, sending a link in HELLO back to TRAIN at once and starting the DEAD_MS count in UP. -/
  | transitBlockLockLoss (l : LinkId)
  deriving DecidableEq, Repr

end Sys2Proof
end

