-- ==== Sys2Proof/Decode.lean ====
section
/-!
DEFINITION. Words of the opcode table. The table gives its rows no bits: the block's commands are events, and no word spells one.
-/
namespace Sys2Proof

/-- The command a word spells: none, since no row of the table has bits. -/
def decodeTableWord (_nbits _w : Nat) : Option Instr := none

end Sys2Proof
end

