-- ==== Sys2Proof/Config.lean ====
section
/-!
DEFINITION. What the spec leaves open: the free values. Each is an opaque constant, so no proof can know a value of it.
-/
namespace Sys2Proof

/-- The n-th free value drawn by the machine: any value the spec does not state (log entry 2). -/
opaque Config.freeValue : Nat → BitVec 256

/-- fp16 underflow is detected after rounding (IEEE 754 leaves it to the implementation, log entry 22). -/
opaque Config.tinyAfterRounding : Bool

/-- VFMIN and VFMAX of two zeros of different sign return the first operand (log entry 22). -/
opaque Config.zeroPick : Bool → Nat → Bool

end Sys2Proof
end

