-- ==== Sys2Proof/Machine/Codes.lean ====
section
/-!
DEFINITION. The fault codes of every chapter (18_faults_telemetry.md R684, R710 and the cause tables of the owning chapters).
-/
namespace Sys2Proof.Code

abbrev CLK_REF_LOSS : Nat := 0x1041
abbrev CLK_REF_BACK : Nat := 0x0042
abbrev CLK_REF_JUMP : Nat := 0x0043
abbrev CLK_PPS_MISMATCH : Nat := 0x1044
abbrev CLK_MEDIA_MISMATCH : Nat := 0x1045
abbrev CLK_MAINS_RANGE : Nat := 0x1046
abbrev CLK_LTC_WORD : Nat := 0x0047
abbrev CLK_EPH_FULL : Nat := 0x1048
abbrev CLK_EPH_LATE : Nat := 0x0049
abbrev CLK_EPH_REFUSED : Nat := 0x004A
abbrev CLK_CFG_ERR : Nat := 0x004B
abbrev CLK_TCLK_UNLOCK : Nat := 0x304C
abbrev TILE_ILLEGAL : Nat := 0x11C1
abbrev TILE_PRIV : Nat := 0x11C2
abbrev TILE_ALIGN : Nat := 0x11C3
abbrev TILE_ACCESS : Nat := 0x11C4
abbrev TILE_UNMAPPED : Nat := 0x11C5
abbrev TILE_ECC_UNCORR : Nat := 0x11C6
abbrev TILE_BUDGET : Nat := 0x11C7
abbrev TILE_PHASE_RANGE : Nat := 0x11C8
abbrev TILE_PST_GEN : Nat := 0x11C9
abbrev TILE_PIN_LIMIT : Nat := 0x11CA
abbrev TILE_TRAP : Nat := 0x01CB
abbrev TILE_LAUNCH_OVF : Nat := 0x11CC
abbrev TILE_LAUNCH_BAD : Nat := 0x11CD
abbrev TILE_PIN_LEAK : Nat := 0x01CE
abbrev TILE_GROUP_FULL : Nat := 0x11CF
abbrev TILE_SUP_STOP : Nat := 0x11D0
abbrev PLATE_CFG_ERR : Nat := 0x0201
abbrev PLATE_LAYER_MISS : Nat := 0x1202
abbrev PLATE_PREMATURE_FREE : Nat := 0x0203
abbrev PLATE_SF_LATE : Nat := 0x1204
abbrev PLATE_SF_ABANDON : Nat := 0x1205
abbrev PLATE_LEAD_CLAMP : Nat := 0x1206
abbrev PLATE_FETCH_ECC : Nat := 0x1207
abbrev PLATE_BUF_REFUSED : Nat := 0x0208
abbrev PLATE_SF_SKIP : Nat := 0x0209
abbrev PLATE_LANE_LOSS : Nat := 0x120A
abbrev PLATE_TRAIN_FAIL : Nat := 0x120B
abbrev PLATE_ENG_FOUND : Nat := 0x020C
abbrev PLATE_ENG_LOST : Nat := 0x120D
abbrev PLATE_ENG_CAPS : Nat := 0x020E
abbrev PLATE_ENG_NORESP : Nat := 0x020F
abbrev PLATE_TE_MISSING : Nat := 0x1210
abbrev PLATE_TE_SKEW : Nat := 0x1211
abbrev PLATE_LINK_STALL : Nat := 0x1212
abbrev PLATE_FRAME_REJECT : Nat := 0x1213
abbrev PLATE_LC_MISMATCH : Nat := 0x2214
abbrev PLATE_LC_LOST : Nat := 0x1215
abbrev PLATE_UP_CRC : Nat := 0x0216
abbrev PLATE_ENG_WDOG : Nat := 0x1217
abbrev PLATE_ENG_FAULT : Nat := 0x1218
abbrev PLATE_LINK_BLANK : Nat := 0x0219
abbrev OCC_CFG_ERR : Nat := 0x0241
abbrev OCC_GUARD_VIOL : Nat := 0x2242
abbrev OCC_GEOM_MISMATCH : Nat := 0x2243
abbrev OCC_REGION_STALE : Nat := 0x1244
abbrev OCC_REGION_COVER : Nat := 0x1245
abbrev OCC_FEED_REJECT : Nat := 0x0246
abbrev OCC_ITEM_REJECT : Nat := 0x0247
abbrev OCC_STUCK_IN_REGION : Nat := 0x2248
abbrev OCC_STUCK_OVF : Nat := 0x1249
abbrev OCC_LINE_OVF : Nat := 0x024A
abbrev OCC_GUARD_ECC : Nat := 0x224B
abbrev OCC_MIN_MODE : Nat := 0x124C
abbrev OCC_RET_OVF : Nat := 0x024D
abbrev OCC_GLYPH_BAD : Nat := 0x024E
abbrev OCC_GLYPH_ECC : Nat := 0x124F
abbrev OCC_HOLD_END : Nat := 0x0250
abbrev STRING_CFG_ERR : Nat := 0x0281
abbrev STRING_STR_OPEN : Nat := 0x1282
abbrev STRING_STR_SHORT : Nat := 0x1283
abbrev STRING_STR_REGFAIL : Nat := 0x1284
abbrev STRING_STR_THERM : Nat := 0x1285
abbrev STRING_STR_UNVERIFIED : Nat := 0x1286
abbrev STRING_DERATE : Nat := 0x0287
abbrev STRING_NTC_FAULT : Nat := 0x1288
abbrev STRING_PIX_OPEN : Nat := 0x1289
abbrev STRING_PIX_SHORT : Nat := 0x128A
abbrev STRING_PIX_STUCK : Nat := 0x128B
abbrev STRING_PIX_UNVERIFIED : Nat := 0x128C
abbrev STRING_FM_ERROR : Nat := 0x028D
abbrev STRING_ENG_TEMP_LOST : Nat := 0x128E
abbrev STRING_BIND_IGNORED : Nat := 0x028F
abbrev TRANSIT_CFG_ERR : Nat := 0x02C1
abbrev TRANSIT_LINK_UP : Nat := 0x02C2
abbrev TRANSIT_LINK_DOWN : Nat := 0x12C3
abbrev TRANSIT_LINK_CRC : Nat := 0x02C4
abbrev TRANSIT_ID_CONFLICT : Nat := 0x02C5
abbrev TRANSIT_ID_ASSIGNED : Nat := 0x02C6
abbrev TRANSIT_NODE_LOST : Nat := 0x12C7
abbrev TRANSIT_LATE_RX : Nat := 0x02C8
abbrev TRANSIT_RMT_TIMEOUT : Nat := 0x12C9
abbrev TRANSIT_HOPS_EXCEEDED : Nat := 0x12CA
abbrev TRANSIT_PHASE_MASTER : Nat := 0x02CB
abbrev TRANSIT_REPLAY_FAIL : Nat := 0x12CC
abbrev TRANSIT_NOROUTE : Nat := 0x02CD
abbrev ORRERY_CFG_ERR : Nat := 0x0401
abbrev ORRERY_COORD_CHANGE : Nat := 0x0402
abbrev ORRERY_ITEM_UNPLACED : Nat := 0x1403
abbrev ORRERY_ITEM_HOLD : Nat := 0x1404
abbrev ORRERY_REPLACED : Nat := 0x0405
abbrev ORRERY_MIGRATE_CANCEL : Nat := 0x0406
abbrev ORRERY_COPY_LATE : Nat := 0x1407
abbrev ORRERY_CARRY_LOST : Nat := 0x1408
abbrev ORRERY_REBALANCE : Nat := 0x0409
abbrev ORRERY_DRAINED : Nat := 0x040A
abbrev ORRERY_REPLACE_SLOW : Nat := 0x140B
abbrev MAC_CFG_ERR : Nat := 0x0301
abbrev MAC_LINK_UP : Nat := 0x0302
abbrev MAC_LINK_DOWN : Nat := 0x1303
abbrev MAC_TX_LATE : Nat := 0x0304
abbrev MAC_TX_LATE_DROP : Nat := 0x1305
abbrev MAC_JOB_BAD : Nat := 0x1306
abbrev MAC_JOB_OVF : Nat := 0x1307
abbrev MAC_RX_OVF : Nat := 0x1308
abbrev MAC_DESC_BAD : Nat := 0x0309
abbrev MAC_TX_ECC : Nat := 0x130A
abbrev MAC_ST_LOSS : Nat := 0x030B
abbrev MAC_ST_DROP : Nat := 0x130C
abbrev MAC_SACN_LOSS : Nat := 0x030D
abbrev MAC_PAUSE_LONG : Nat := 0x130E
abbrev RING_CFG_ERR : Nat := 0x0181
abbrev RING_RING_OVF : Nat := 0x1182
abbrev RING_RING_ECC : Nat := 0x1183
abbrev RING_DISABLED_PUSH : Nat := 0x0184
abbrev BRIDGE_CFG_ERR : Nat := 0x0341
abbrev BRIDGE_DMX_BUSY : Nat := 0x0342
abbrev BRIDGE_DMX_LATE : Nat := 0x1343
abbrev BRIDGE_DMX_ECC : Nat := 0x1344
abbrev BRIDGE_RDM_TIMEOUT : Nat := 0x0345
abbrev BRIDGE_RDM_BAD : Nat := 0x0346
abbrev BRIDGE_RDM_NEW : Nat := 0x0347
abbrev BRIDGE_RDM_GONE : Nat := 0x1348
abbrev BRIDGE_RSP_DISCARD : Nat := 0x0349
abbrev BRIDGE_TUN_BAD : Nat := 0x034A
abbrev BRIDGE_UID_OVF : Nat := 0x134B
abbrev PANEL_CFG_ERR : Nat := 0x0381
abbrev PANEL_PANEL_STUCK : Nat := 0x1382
abbrev PANEL_PANEL_CHATTER : Nat := 0x1383
abbrev PANEL_EMERG_ASSERT : Nat := 0x0384
abbrev PANEL_DARK_ASSERT : Nat := 0x0385
abbrev PANEL_SAFE_CHATTER : Nat := 0x1386
abbrev PANEL_SAFE_LONG : Nat := 0x0387
abbrev PANEL_POST_REFUSED : Nat := 0x0388
abbrev TWIN_CFG_ERR : Nat := 0x0141
abbrev TWIN_TAKEOVER : Nat := 0x1142
abbrev TWIN_HB_LOST : Nat := 0x1143
abbrev TWIN_MISMATCH : Nat := 0x0144
abbrev TWIN_OWNER_FAULTY : Nat := 0x1145
abbrev TWIN_STANDBY_FAULTY : Nat := 0x1146
abbrev TWIN_UNDECIDED : Nat := 0x2147
abbrev TWIN_CONTEND : Nat := 0x2148
abbrev TWIN_PEER_STUCK : Nat := 0x1149
abbrev TWIN_STANDBY_LOST : Nat := 0x114A
abbrev TWIN_TWIN_LINK_DOWN : Nat := 0x114B
abbrev TWIN_FEED_DESYNC : Nat := 0x014C
abbrev TWIN_FIX_MISMATCH : Nat := 0x114D
abbrev TWIN_SELFTEST_FAIL : Nat := 0x114E
abbrev TWIN_HANDBACK : Nat := 0x014F
abbrev ALM_CFG_ERR : Nat := 0x0101
abbrev ALM_REPLAY_DONE : Nat := 0x0102
abbrev ALM_TORN_RECORD : Nat := 0x0103
abbrev ALM_HEADER_DAMAGE : Nat := 0x1104
abbrev ALM_RECORD_LOST : Nat := 0x1105
abbrev ALM_ALM_FULL : Nat := 0x1106
abbrev ALM_WEAR_WARN : Nat := 0x1107
abbrev ALM_BLOCK_RETIRED : Nat := 0x1108
abbrev ALM_SPARE_LOW : Nat := 0x1109
abbrev ALM_FLASH_TIMEOUT : Nat := 0x110A
abbrev ALM_PWRFAIL : Nat := 0x010B
abbrev ALM_COMPACTED : Nat := 0x010C
abbrev ALM_NO_JOURNAL : Nat := 0x110D
abbrev ALM_REFRESHED : Nat := 0x010E
abbrev THERM_CFG_ERR : Nat := 0x0081
abbrev THERM_THERM_WARN : Nat := 0x0082
abbrev THERM_THERM_THROTTLE : Nat := 0x1083
abbrev THERM_THERM_CRIT : Nat := 0x1084
abbrev THERM_THERM_TRIP : Nat := 0x3085
abbrev THERM_SENSOR_BROKEN : Nat := 0x1086
abbrev THERM_SENSOR_FAIL : Nat := 0x1087
abbrev THERM_THERM_CLEAR : Nat := 0x0088
abbrev CAL_CFG_ERR : Nat := 0x00C1
abbrev CAL_CAL_FAULT : Nat := 0x10C2
abbrev CAL_CAL_DEFER : Nat := 0x00C3
abbrev CAL_SPARES_OUT : Nat := 0x10C5
abbrev CAL_TERM_RANGE : Nat := 0x10C6
abbrev SYS_CFG_ERR : Nat := 0x0001
abbrev SYS_MODE_CHANGE : Nat := 0x0002
abbrev SYS_FAILSAFE_ENTER : Nat := 0x1003
abbrev SYS_ISOLATED_ENTER : Nat := 0x1004
abbrev SYS_FS_NOLOOK : Nat := 0x1005
abbrev SYS_BOOT_SLOT_BAD : Nat := 0x1006
abbrev SYS_PROG_REJECT : Nat := 0x1007
abbrev SYS_WDOG_RESET : Nat := 0x0008
abbrev SYS_DEBUG_UNLOCK : Nat := 0x0009
abbrev SYS_DEBUG_DENY : Nat := 0x000A
abbrev SYS_WAKE : Nat := 0x000B
abbrev SYS_SUPPRESSED : Nat := 0x000C
abbrev SYS_BUS_ERR : Nat := 0x1010
abbrev SYS_SUP_NEST : Nat := 0x3011
abbrev SYS_SUP_HALT : Nat := 0x3012
abbrev SYS_SRAM_CE : Nat := 0x0013
abbrev SYS_SRAM_UE : Nat := 0x1014
abbrev SYS_SCRUB_LATE : Nat := 0x1015
abbrev SYS_FAULT_LOST : Nat := 0x1016
abbrev SYS_LATE_LOST : Nat := 0x1017
abbrev SYS_TELEM_SKIP : Nat := 0x0018
abbrev DRAM_DRAM_CE : Nat := 0x0441
abbrev DRAM_DRAM_UE : Nat := 0x1442
abbrev OTP_OTP_CE : Nat := 0x0481
abbrev OTP_OTP_UE : Nat := 0x1482
abbrev SERDES_CFG_ERR : Nat := 0x03C1
abbrev SERDES_PLL_UNLOCK : Nat := 0x13C2
abbrev SERDES_REF_LOST : Nat := 0x13C3
abbrev SERDES_SMB_FAIL : Nat := 0x03C4

end Sys2Proof.Code

namespace Sys2Proof

/-- Class of a fault code: 0 INFO, 1 DEGRADE, 2 SAFETY, 3 FATAL (R684). -/
def faultClass (c : Nat) : Nat := c / 4096 % 16

/-- Block of a fault code (R684). -/
def faultBlock (c : Nat) : Nat := c / 64 % 64

end Sys2Proof
end

