-- ==== Sys2Proof/Machine/SMap.lean ====
section
/-!
DEFINITION. Reading and writing sparse data: association lists with rising keys that list no default entry.
-/
namespace Sys2Proof

/-- What a list of (key, value) pairs holds at `k`; an unlisted key reads as `d`. -/
def AList.find {α : Type} (d : α) (k : Nat) : List (Nat × α) → α
  | [] => d
  | (j, v) :: r => if j = k then v else AList.find d k r

/-- Every entry but those of key `k`. -/
def AList.drop {α : Type} (k : Nat) : List (Nat × α) → List (Nat × α)
  | [] => []
  | (j, v) :: r => if j = k then AList.drop k r else (j, v) :: AList.drop k r

/-- Insert an entry before the first entry of a larger key. -/
def AList.ins {α : Type} (k : Nat) (v : α) : List (Nat × α) → List (Nat × α)
  | [] => [(k, v)]
  | (j, w) :: r => if k < j then (k, v) :: (j, w) :: r else (j, w) :: AList.ins k v r

/-- Write `v` at `k`, keeping the canonical form: writing the default removes the entry. -/
def AList.put {α : Type} [DecidableEq α] (d : α) (k : Nat) (v : α) (l : List (Nat × α)) : List (Nat × α) :=
  if v = d then AList.drop k l else AList.ins k v (AList.drop k l)

/-- Keys strictly rising and no entry equal to the default. -/
def AList.canonical {α : Type} [DecidableEq α] (d : α) : List (Nat × α) → Bool
  | [] => true
  | [(_, v)] => v != d
  | (j, v) :: (k, w) :: r => v != d && decide (j < k) && AList.canonical d ((k, w) :: r)

/-- The value at `k`, the default `d` where none is listed. -/
def SMap.get {α : Type} (d : α) (m : SMap α) (k : Nat) : α := AList.find d k m.entries

/-- Write the value at `k`. -/
def SMap.put {α : Type} [DecidableEq α] (d : α) (m : SMap α) (k : Nat) (v : α) : SMap α :=
  ⟨AList.put d k v m.entries⟩

/-- The canonical form of a sparse map. -/
def SMap.wf {α : Type} [DecidableEq α] (d : α) (m : SMap α) : Bool := AList.canonical d m.entries

end Sys2Proof
end

