-- ==== Sys2Proof/Machine/RegTable.lean ====
section
/-!
DEFINITION. The register index of the control register region (20_register_index.md R744, R745) with the reset words and the
access codes of the chapters' register tables (R14). Offsets are from 0x14_0000_0000.
-/
namespace Sys2Proof

/-- One register, or one array of registers, of the index. -/
structure RegRow where
  /-- Offset of the first copy from the start of the control register region. -/
  off : Nat
  /-- Reset word (R13, R745). -/
  reset : Nat := 0
  /-- Bits with access RW, RWL, RWS, W1C, W1S (R14). -/
  rw : Nat := 0
  rwl : Nat := 0
  rws : Nat := 0
  w1c : Nat := 0
  w1s : Nat := 0
  /-- Outer and inner stride and count of an array. -/
  sx : Nat := 1
  nx : Nat := 1
  sy : Nat := 1
  ny : Nat := 1
  /-- 1: low word, 2: high word of a 64-bit quantity (R12). -/
  pair : Nat := 0
  /-- Each register agent has its own copy (R36, R82, R236, R366, R428, R610, R709). -/
  priv : Bool := false
  /-- The LOCK bit that governs the RWL fields: offset of its register (of copy 0) and bit (R17). -/
  lock : Option (Nat × Nat) := none
  deriving DecidableEq, Repr

namespace Reg

abbrev SYS_ID : Nat := 0x0
abbrev SYS_STEP : Nat := 0x4
abbrev SYS_MODE : Nat := 0x8
abbrev SYS_MODE_REQ : Nat := 0xC
abbrev SYS_CTRL : Nat := 0x10
abbrev SYS_ISO : Nat := 0x14
abbrev SYS_CMD : Nat := 0x18
abbrev SYS_RESET : Nat := 0x1C
abbrev SYS_RESET_CAUSE : Nat := 0x20
abbrev SYS_WDOG : Nat := 0x24
abbrev SYS_WDOG_KICK : Nat := 0x28
abbrev SYS_BOOT : Nat := 0x2C
abbrev SYS_FS_BASE_LO : Nat := 0x30
abbrev SYS_FS_BASE_HI : Nat := 0x34
abbrev SYS_FS_STAT : Nat := 0x38
abbrev SYS_PMBOX_LO : Nat := 0x3C
abbrev SYS_PMBOX_HI : Nat := 0x40
abbrev SYS_WAKE : Nat := 0x48
abbrev SYS_WAKE_FIX : Nat := 0x4C
abbrev SYS_WAKE_TIME_LO : Nat := 0x50
abbrev SYS_WAKE_TIME_HI : Nat := 0x54
abbrev SYS_WAKE_CAUSE : Nat := 0x58
abbrev SYS_GPIO_OE : Nat := 0x60
abbrev SYS_GPIO_OUT : Nat := 0x64
abbrev SYS_GPIO_IN : Nat := 0x68
abbrev SYS_MODE_CNT : Nat := 0x70
abbrev SYS_SUPPRESS_CNT : Nat := 0x74
abbrev SYS_SCRATCH : Nat := 0x80
abbrev SID_CTRL : Nat := 0x10000
abbrev SID_STATUS : Nat := 0x10004
abbrev SID_CMD : Nat := 0x10008
abbrev SID_PHASE_LO : Nat := 0x10010
abbrev SID_PHASE_HI : Nat := 0x10014
abbrev SID_INC_LO : Nat := 0x10018
abbrev SID_INC_HI : Nat := 0x1001C
abbrev SID_INC_NOM_LO : Nat := 0x10020
abbrev SID_INC_NOM_HI : Nat := 0x10024
abbrev SID_UPF_NUM : Nat := 0x10028
abbrev SID_UPF_DEN : Nat := 0x1002C
abbrev SID_ORIGIN_LO : Nat := 0x10030
abbrev SID_ORIGIN_HI : Nat := 0x10034
abbrev SID_ERR : Nat := 0x10038
abbrev SID_RATE_ERR : Nat := 0x1003C
abbrev SID_LOOP : Nat := 0x10040
abbrev SID_LOSS : Nat := 0x10044
abbrev SID_JUMP : Nat := 0x10048
abbrev SID_MEDIA : Nat := 0x1004C
abbrev SID_MEDIA_OFS : Nat := 0x10050
abbrev SID_LTC : Nat := 0x10054
abbrev SID_LTC_TC : Nat := 0x10058
abbrev SID_OFS_LO : Nat := 0x10060
abbrev SID_OFS_HI : Nat := 0x10064
abbrev SID_CAPT_PPS_LO : Nat := 0x10080
abbrev SID_CAPT_PPS_HI : Nat := 0x10084
abbrev SID_STEP_CNT : Nat := 0x10088
abbrev PTP_CTRL : Nat := 0x10400
abbrev PTP_TIME_NS : Nat := 0x10404
abbrev PTP_TIME_SUBNS : Nat := 0x10408
abbrev PTP_TIME_SEC_LO : Nat := 0x1040C
abbrev PTP_TIME_SEC_HI : Nat := 0x10410
abbrev PTP_SET_NS : Nat := 0x10414
abbrev PTP_SET_SEC_LO : Nat := 0x10418
abbrev PTP_SET_SEC_HI : Nat := 0x1041C
abbrev PTP_ADJ : Nat := 0x10420
abbrev PTP_STEP : Nat := 0x10424
abbrev PTP_CMD : Nat := 0x10428
abbrev PPS_CAPT_NS : Nat := 0x10430
abbrev PPS_CAPT_SEC_LO : Nat := 0x10434
abbrev PPS_DIFF : Nat := 0x10438
abbrev PPS_CNT : Nat := 0x1043C
abbrev PPS_XCHK : Nat := 0x10440
abbrev MONO_LO : Nat := 0x10480
abbrev MONO_HI : Nat := 0x10484
abbrev MAINS_CTRL : Nat := 0x104C0
abbrev MAINS_PHASE : Nat := 0x104C4
abbrev MAINS_FREQ : Nat := 0x104C8
abbrev EPH_CTRL : Nat := 0x10800
abbrev EPH_STATUS : Nat := 0x10804
abbrev EPH_POST : Nat := 0x10810
abbrev EPH_POST_RES : Nat := 0x10830
abbrev EPH_CANCEL : Nat := 0x10834
abbrev EPH_CANCEL_RES : Nat := 0x10838
abbrev EPH_NEXT_LO : Nat := 0x10840
abbrev EPH_NEXT_HI : Nat := 0x10844
abbrev EPH_LATE_CNT : Nat := 0x10848
abbrev EPH_SKIP_CNT : Nat := 0x1084C
abbrev EPH_PER_LO : Nat := 0x10880
abbrev EPH_PER_HI : Nat := 0x10884
abbrev THERM_CTRL : Nat := 0x20000
abbrev THERM_LOCK : Nat := 0x20004
abbrev THERM_STEP : Nat := 0x20008
abbrev THERM_STATUS : Nat := 0x2000C
abbrev THERM_LIM0 : Nat := 0x20010
abbrev THERM_LIM1 : Nat := 0x20014
abbrev THERM_LIM2 : Nat := 0x20018
abbrev THERM_LIM3 : Nat := 0x2001C
abbrev THERM_TMAX : Nat := 0x20020
abbrev THERM_PEAK : Nat := 0x20024
abbrev THERM_BROKEN_LO : Nat := 0x20028
abbrev THERM_BROKEN_HI : Nat := 0x2002C
abbrev THERM_CMD : Nat := 0x20030
abbrev THERM_CROSS_CNT : Nat := 0x20040
abbrev THERM_SAMPLE_CNT : Nat := 0x20050
abbrev THERM_S : Nat := 0x20100
abbrev CAL_CTRL : Nat := 0x30000
abbrev CAL_SEL : Nat := 0x30004
abbrev CAL_CMD : Nat := 0x30008
abbrev CAL_TSTAT : Nat := 0x3000C
abbrev CAL_COUNT : Nat := 0x30010
abbrev CAL_LAST_LO : Nat := 0x30014
abbrev CAL_LAST_HI : Nat := 0x30018
abbrev CAL_FACTORY : Nat := 0x3001C
abbrev CAL_USER : Nat := 0x30020
abbrev CAL_COMP : Nat := 0x30024
abbrev CAL_VALUE : Nat := 0x30028
abbrev CAL_SELECT : Nat := 0x3002C
abbrev CAL_RC_PERIOD : Nat := 0x30040
abbrev CAL_RUN_CNT : Nat := 0x30050
abbrev CAL_FAULT_CNT : Nat := 0x30054
abbrev CAL_DEFER_CNT : Nat := 0x30058
abbrev CAL_DAC_MAP_LO : Nat := 0x30100
abbrev CAL_DAC_MAP_MID : Nat := 0x30104
abbrev CAL_DAC_MAP_HI : Nat := 0x30108
abbrev FAULT_CTRL : Nat := 0x40000
abbrev FAULT_STATUS : Nat := 0x40004
abbrev FAULT_CMD : Nat := 0x40008
abbrev FAULT_FIRST_CODE : Nat := 0x40010
abbrev FAULT_FIRST_MONO_LO : Nat := 0x40014
abbrev FAULT_FIRST_MONO_HI : Nat := 0x40018
abbrev FAULT_FIRST_PHASE_LO : Nat := 0x4001C
abbrev FAULT_FIRST_PHASE_HI : Nat := 0x40020
abbrev FAULT_FIRST_ARG : Nat := 0x40024
abbrev FAULT_SECOND_CODE : Nat := 0x40030
abbrev FAULT_SECOND_MONO_LO : Nat := 0x40034
abbrev FAULT_SECOND_MONO_HI : Nat := 0x40038
abbrev FAULT_SECOND_PHASE_LO : Nat := 0x4003C
abbrev FAULT_SECOND_PHASE_HI : Nat := 0x40040
abbrev FAULT_SECOND_ARG : Nat := 0x40044
abbrev FAULT_SECOND_CNT : Nat := 0x4004C
abbrev FAULT_REC_CNT : Nat := 0x40060
abbrev FAULT_LOST_CNT : Nat := 0x40064
abbrev FAULT_LATE_CNT : Nat := 0x40068
abbrev FAULT_LATE_LOST_CNT : Nat := 0x4006C
abbrev FAULT_NEST_CNT : Nat := 0x40070
abbrev ECC_CE_CNT : Nat := 0x40100
abbrev ECC_UE_CNT : Nat := 0x40104
abbrev ECC_LAST_LO : Nat := 0x40108
abbrev ECC_LAST_HI : Nat := 0x4010C
abbrev SCRUB_CTRL : Nat := 0x40200
abbrev SCRUB_DRAM_S : Nat := 0x40204
abbrev SCRUB_SRAM_MS : Nat := 0x40208
abbrev SCRUB_DRAM_POS : Nat := 0x4020C
abbrev SCRUB_SRAM_POS : Nat := 0x40210
abbrev SCRUB_DRAM_PASS_CNT : Nat := 0x40214
abbrev SCRUB_SRAM_PASS_CNT : Nat := 0x40218
abbrev SCRUB_LATE_CNT : Nat := 0x4021C
abbrev BG_CTRL : Nat := 0x40280
abbrev BG_USED : Nat := 0x40284
abbrev BG_DEFER_CNT : Nat := 0x40288
abbrev TELEM_CTRL : Nat := 0x50000
abbrev TELEM_CMD : Nat := 0x50004
abbrev TELEM_SNAP_ID : Nat := 0x50008
abbrev TELEM_STATUS : Nat := 0x5000C
abbrev TELEM_INFO : Nat := 0x50010
abbrev TELEM_DEST_LO : Nat := 0x50014
abbrev TELEM_DEST_HI : Nat := 0x50018
abbrev TELEM_RSEL : Nat := 0x5001C
abbrev TELEM_SNAP_CNT : Nat := 0x50020
abbrev TELEM_SKIP_CNT : Nat := 0x50024
abbrev ALM_CTRL : Nat := 0x60000
abbrev ALM_GEOM : Nat := 0x60004
abbrev ALM_BASE : Nat := 0x60008
abbrev ALM_NBLK : Nat := 0x6000C
abbrev ALM_REGION : Nat := 0x60010
abbrev ALM_STATUS : Nat := 0x60014
abbrev ALM_RGEN : Nat := 0x60018
abbrev ALM_APPEND_PT : Nat := 0x6001C
abbrev ALM_CAP : Nat := 0x60020
abbrev ALM_SEQ : Nat := 0x60024
abbrev ALM_KEYS : Nat := 0x60028
abbrev ALM_XSPI : Nat := 0x6002C
abbrev ALM_FLASH : Nat := 0x60030
abbrev ALM_PF : Nat := 0x60034
abbrev ALM_WEAR : Nat := 0x60038
abbrev ALM_SCRUB : Nat := 0x6003C
abbrev ALM_KEY : Nat := 0x60040
abbrev ALM_ADDR_LO : Nat := 0x60044
abbrev ALM_ADDR_HI : Nat := 0x60048
abbrev ALM_LEN : Nat := 0x6004C
abbrev ALM_CMD : Nat := 0x60050
abbrev ALM_RES : Nat := 0x60054
abbrev ALM_RSEQ : Nat := 0x60058
abbrev ALM_RLEN : Nat := 0x6005C
abbrev ALM_MBOX_LO : Nat := 0x60060
abbrev ALM_MBOX_HI : Nat := 0x60064
abbrev ALM_APPEND_CNT : Nat := 0x60080
abbrev ALM_READ_CNT : Nat := 0x60084
abbrev ALM_COMPACT_CNT : Nat := 0x60088
abbrev ALM_REFRESH_CNT : Nat := 0x6008C
abbrev ALM_LOST_CNT : Nat := 0x60090
abbrev ALM_PF_ABORT_CNT : Nat := 0x60094
abbrev ALM_RETIRED : Nat := 0x60098
abbrev ALM_ERASE_MAX : Nat := 0x6009C
abbrev TWIN_CTRL : Nat := 0x70000
abbrev TWIN_GATE : Nat := 0x70004
abbrev TWIN_HB : Nat := 0x70008
abbrev TWIN_CMP : Nat := 0x7000C
abbrev TWIN_STATUS : Nat := 0x70010
abbrev TWIN_CMD : Nat := 0x70014
abbrev TWIN_HEALTH : Nat := 0x70018
abbrev TWIN_PEER_HEALTH : Nat := 0x7001C
abbrev TWIN_PEER_NODE : Nat := 0x70020
abbrev TWIN_LAST_MISM : Nat := 0x70024
abbrev TWIN_LAST_MISM_FRAME : Nat := 0x70028
abbrev TWIN_CMP_CNT : Nat := 0x70040
abbrev TWIN_MISM_CNT : Nat := 0x70044
abbrev TWIN_MISS_CNT : Nat := 0x70048
abbrev TWIN_JUDGE_CNT : Nat := 0x7004C
abbrev TWIN_UNDEC_CNT : Nat := 0x70050
abbrev TWIN_TAKE_CNT : Nat := 0x70054
abbrev TWIN_HB_MISS_CNT : Nat := 0x70058
abbrev TWIN_FEED_DESYNC_CNT : Nat := 0x7005C
abbrev TWIN_FIXMISM_CNT : Nat := 0x70060
abbrev RING_CTRL : Nat := 0x80000
abbrev RING_STATUS : Nat := 0x80004
abbrev RING_SPILL_LO : Nat := 0x80008
abbrev RING_SPILL_HI : Nat := 0x8000C
abbrev RING_SPILL_SIZE : Nat := 0x80010
abbrev RING_SEQ : Nat := 0x80014
abbrev RING_CMD : Nat := 0x80018
abbrev RING_HWM : Nat := 0x8001C
abbrev RING_PUSH_CNT : Nat := 0x80020
abbrev RING_POP_CNT : Nat := 0x80024
abbrev RING_OVF_CNT : Nat := 0x80028
abbrev RING_DISCARD_CNT : Nat := 0x8002C
abbrev RING_REFUSE_CNT : Nat := 0x80030
abbrev RING_SYSBIND : Nat := 0x84000
abbrev TILE_CTRL : Nat := 0x100000
abbrev TILE_CMD : Nat := 0x100004
abbrev TILE_ABORT : Nat := 0x100008
abbrev TILE_RELEASE : Nat := 0x10000C
abbrev TILE_RING_MASK_LO : Nat := 0x100010
abbrev TILE_RING_MASK_HI : Nat := 0x100014
abbrev TILE_SCHED_MASK : Nat := 0x100018
abbrev TILE_RTX : Nat := 0x10001C
abbrev TILE_LAUNCH_CNT : Nat := 0x100020
abbrev TILE_DROP_CNT : Nat := 0x100024
abbrev TILE_EXC_CNT : Nat := 0x100028
abbrev TILE_ABORT_CNT : Nat := 0x10002C
abbrev TILE_RERR_CNT : Nat := 0x100030
abbrev TILE_C_STATE : Nat := 0x100100
abbrev TILE_C_PC_LO : Nat := 0x100104
abbrev TILE_C_PC_HI : Nat := 0x100108
abbrev TILE_C_KDESC_LO : Nat := 0x10010C
abbrev TILE_C_KDESC_HI : Nat := 0x100110
abbrev TILE_C_CAUSE : Nat := 0x100114
abbrev TILE_GROUPS : Nat := 0x110000
abbrev TILE_SHED_CNT : Nat := 0x110004
abbrev TILE_SHED_STATUS : Nat := 0x110008
abbrev SUP_CTRL : Nat := 0x110100
abbrev SUP_STATE : Nat := 0x110104
abbrev SUP_ENTRY_LO : Nat := 0x110108
abbrev SUP_ENTRY_HI : Nat := 0x11010C
abbrev SUP_EPC_LO : Nat := 0x110110
abbrev SUP_EPC_HI : Nat := 0x110114
abbrev SUP_ECAUSE : Nat := 0x110118
abbrev PLATE_CTRL : Nat := 0x200000
abbrev PLATE_CMD : Nat := 0x200004
abbrev PLATE_STATUS : Nat := 0x200008
abbrev PLATE_GEOM : Nat := 0x20000C
abbrev PLATE_CANVAS : Nat := 0x200010
abbrev PLATE_ORG : Nat := 0x200014
abbrev PLATE_BG0 : Nat := 0x200018
abbrev PLATE_BG1 : Nat := 0x20001C
abbrev PLATE_LEAD : Nat := 0x200020
abbrev PLATE_LEAD_MIN : Nat := 0x200024
abbrev PLATE_FINAL_LO : Nat := 0x200028
abbrev PLATE_FINAL_HI : Nat := 0x20002C
abbrev PLATE_MESH_LO : Nat := 0x200030
abbrev PLATE_MESH_HI : Nat := 0x200034
abbrev PLATE_FMAP_LO : Nat := 0x200040
abbrev PLATE_FMAP_HI : Nat := 0x200044
abbrev PLATE_UMAP_LO : Nat := 0x200048
abbrev PLATE_UMAP_HI : Nat := 0x20004C
abbrev PLATE_MAPCTL : Nat := 0x200050
abbrev PLATE_SPLIT : Nat := 0x200054
abbrev PLATE_MASTER : Nat := 0x200058
abbrev PLATE_SF_CNT : Nat := 0x200060
abbrev PLATE_LAST_FRAME : Nat := 0x200064
abbrev PLATE_RENDER_NS : Nat := 0x200068
abbrev PLATE_RENDER_MAX : Nat := 0x20006C
abbrev PLATE_LATE_CNT : Nat := 0x200070
abbrev PLATE_ABANDON_CNT : Nat := 0x200074
abbrev PLATE_SKIP_CNT : Nat := 0x200078
abbrev PLATE_MISS_CNT : Nat := 0x20007C
abbrev PLATE_ECC_CNT : Nat := 0x200080
abbrev PLATE_L_CTRL : Nat := 0x200100
abbrev PLATE_L_OPAC : Nat := 0x200104
abbrev PLATE_L_POS : Nat := 0x200108
abbrev PLATE_L_SIZE : Nat := 0x20010C
abbrev PLATE_L_STRIDE : Nat := 0x200110
abbrev PLATE_L_GEN : Nat := 0x200114
abbrev PLATE_L_STATE : Nat := 0x200118
abbrev PLATE_LINK_CTRL : Nat := 0x200200
abbrev PLATE_LINK_STATUS : Nat := 0x200204
abbrev PLATE_LINK_CMD : Nat := 0x200208
abbrev PLATE_TE : Nat := 0x20020C
abbrev PLATE_TE_DLY : Nat := 0x200210
abbrev PLATE_TE_DLY_MAX : Nat := 0x200214
abbrev PLATE_LINK_WDOG : Nat := 0x200218
abbrev PLATE_ENG_DET : Nat := 0x20021C
abbrev PLATE_TLINK : Nat := 0x200220
abbrev PLATE_TRAIN : Nat := 0x200224
abbrev PLATE_ENG_ID : Nat := 0x200240
abbrev PLATE_ENG_STAT : Nat := 0x200260
abbrev PLATE_ENG_TEMP : Nat := 0x200270
abbrev PLATE_LC_CRC : Nat := 0x200290
abbrev PLATE_LC_FRAME : Nat := 0x200294
abbrev PLATE_LC_INFO : Nat := 0x200298
abbrev PLATE_LANE_LOSS_CNT : Nat := 0x2002A0
abbrev PLATE_TRAIN_CNT : Nat := 0x2002A4
abbrev PLATE_REJECT_CNT : Nat := 0x2002A8
abbrev PLATE_LC_MISM_CNT : Nat := 0x2002AC
abbrev PLATE_LC_LOST_CNT : Nat := 0x2002B0
abbrev PLATE_TE_MISS_CNT : Nat := 0x2002B4
abbrev PLATE_TE_SUBST_CNT : Nat := 0x2002B8
abbrev PLATE_UP_CRC_CNT : Nat := 0x2002BC
abbrev PLATE_BLANK_CNT : Nat := 0x2002C0
abbrev PLATE_NOLINK_CNT : Nat := 0x2002C4
abbrev PLATE_ENG_LCRC_CNT : Nat := 0x2002C8
abbrev PLATE_ENG_BLKERR_CNT : Nat := 0x2002CC
abbrev PLATE_LINK_TEST : Nat := 0x2002E0
abbrev PLATE_TEST_ERR : Nat := 0x2002E4
abbrev PLATE_BUF_SEL : Nat := 0x210000
abbrev PLATE_BUF_BASE_LO : Nat := 0x210004
abbrev PLATE_BUF_BASE_HI : Nat := 0x210008
abbrev PLATE_BUF_SLOT : Nat := 0x21000C
abbrev PLATE_BUF_CFG : Nat := 0x210010
abbrev PLATE_BUF_GEN : Nat := 0x210014
abbrev PLATE_BUF_CMD : Nat := 0x210018
abbrev PLATE_BUF_RES : Nat := 0x21001C
abbrev PLATE_BUF_S_STAT : Nat := 0x210020
abbrev PLATE_BUF_S_GEN : Nat := 0x210024
abbrev PLATE_DEFER_CNT : Nat := 0x210040
abbrev PLATE_PAIR : Nat := 0x210080
abbrev PLATE_PAIR_SKEW : Nat := 0x210084
abbrev PLATE_PAIR_SKEWCNT : Nat := 0x21008C
abbrev OCC_CTRL : Nat := 0x300000
abbrev OCC_CMD : Nat := 0x300004
abbrev OCC_STATUS : Nat := 0x300008
abbrev OCC_XFORM_A : Nat := 0x300010
abbrev OCC_XFORM_B : Nat := 0x300014
abbrev OCC_XFORM_C : Nat := 0x300018
abbrev OCC_XFORM_D : Nat := 0x30001C
abbrev OCC_XFORM_E : Nat := 0x300020
abbrev OCC_XFORM_F : Nat := 0x300024
abbrev OCC_CAP : Nat := 0x300028
abbrev OCC_STUCK : Nat := 0x30002C
abbrev OCC_VIOL_POS : Nat := 0x300030
abbrev OCC_VIOL_INFO : Nat := 0x300034
abbrev OCC_VIOL_CNT : Nat := 0x300040
abbrev OCC_GEOM_CNT : Nat := 0x300044
abbrev OCC_STALE_CNT : Nat := 0x300048
abbrev OCC_COVER_CNT : Nat := 0x30004C
abbrev OCC_LINEOVF_CNT : Nat := 0x300050
abbrev OCC_RETOVF_CNT : Nat := 0x300054
abbrev OCC_CONFIRM_CNT : Nat := 0x300058
abbrev OCC_RET_W0 : Nat := 0x301000
abbrev OCC_RET_W1 : Nat := 0x301004
abbrev OCC_RET_W2 : Nat := 0x301008
abbrev OCC_RET_W3 : Nat := 0x30100C
abbrev OCC_RET_W4 : Nat := 0x301010
abbrev OCC_FEED_CTRL : Nat := 0x310000
abbrev OCC_FEED_PORTS_LO : Nat := 0x310004
abbrev OCC_FEED_PORTS_HI : Nat := 0x310008
abbrev OCC_FEED_SRCIP : Nat := 0x31000C
abbrev OCC_FEED_MAXAGE : Nat := 0x310010
abbrev OCC_FEED_RX_CNT : Nat := 0x310014
abbrev OCC_FEED_REJ_CNT : Nat := 0x310018
abbrev OCC_FEED_IREJ_CNT : Nat := 0x31001C
abbrev OCC_FEED_LAST : Nat := 0x310020
abbrev OCC_GLYPH_BASE_LO : Nat := 0x310040
abbrev OCC_GLYPH_BASE_HI : Nat := 0x310044
abbrev OCC_GLYPH_SIZE : Nat := 0x310048
abbrev OCC_GLYPH_CMD : Nat := 0x310058
abbrev OCC_GLYPH_RES : Nat := 0x31005C
abbrev OCC_RGN_SEL : Nat := 0x310100
abbrev OCC_RGN_CFG0 : Nat := 0x310104
abbrev OCC_RGN_CFG1 : Nat := 0x310108
abbrev OCC_RGN_CFG2 : Nat := 0x31010C
abbrev OCC_RGN_SRCID : Nat := 0x310110
abbrev OCC_RGN_CMD : Nat := 0x310114
abbrev OCC_RGN_RES : Nat := 0x310118
abbrev OCC_RGN_STAT : Nat := 0x31011C
abbrev OCC_RGN_V : Nat := 0x310180
abbrev STR_CFG : Nat := 0x400000
abbrev STR_KNEE : Nat := 0x400004
abbrev STR_PWM : Nat := 0x400008
abbrev STR_LEVEL : Nat := 0x40000C
abbrev STR_DAC : Nat := 0x400010
abbrev STR_ON : Nat := 0x400014
abbrev STR_STATUS : Nat := 0x400018
abbrev STR_SENS : Nat := 0x40001C
abbrev STR_TEMP : Nat := 0x400020
abbrev STR_LASTGOOD_LO : Nat := 0x400024
abbrev STR_LASTGOOD_HI : Nat := 0x400028
abbrev STR_CMD : Nat := 0x40002C
abbrev STR_SPARE : Nat := 0x400030
abbrev STR_MEAS_CNT : Nat := 0x400034
abbrev STR_PROBE_CNT : Nat := 0x400038
abbrev STR_FAULT_CNT : Nat := 0x40003C
abbrev STR_THR0 : Nat := 0x400800
abbrev STR_THR1 : Nat := 0x400804
abbrev STR_DERATE : Nat := 0x400808
abbrev STR_FLOOR : Nat := 0x40080C
abbrev STR_THERM : Nat := 0x400810
abbrev STR_PROBE : Nat := 0x400814
abbrev STR_FADE_CTRL : Nat := 0x400818
abbrev STR_FADE_TBL_LO : Nat := 0x40081C
abbrev STR_FADE_TBL_HI : Nat := 0x400820
abbrev NTC_CFG : Nat := 0x400900
abbrev NTC_BIAS : Nat := 0x400904
abbrev NTC_TEMP : Nat := 0x400908
abbrev STRDIAG_CTRL : Nat := 0x400C00
abbrev STRDIAG_MAP_LO : Nat := 0x400C04
abbrev STRDIAG_MAP_HI : Nat := 0x400C08
abbrev STRDIAG_PROBE : Nat := 0x400C0C
abbrev STRDIAG_CMD : Nat := 0x400C10
abbrev STRDIAG_PASS : Nat := 0x400C14
abbrev STRDIAG_PASS_US : Nat := 0x400C18
abbrev STRDIAG_OPEN_CNT : Nat := 0x400C20
abbrev STRDIAG_SHORT_CNT : Nat := 0x400C24
abbrev STRDIAG_STUCK_CNT : Nat := 0x400C28
abbrev STRDIAG_UNVER_CNT : Nat := 0x400C2C
abbrev STRDIAG_PROBE_CNT : Nat := 0x400C30
abbrev STRDIAG_FMERR_CNT : Nat := 0x400C34
abbrev STRDIAG_TEMP : Nat := 0x400C38
abbrev STR_FADE : Nat := 0x401000
abbrev TRANSIT_CFG : Nat := 0x500000
abbrev TRANSIT_STATUS : Nat := 0x500004
abbrev TRANSIT_PEER_UID_LO : Nat := 0x500008
abbrev TRANSIT_PEER_UID_HI : Nat := 0x50000C
abbrev TRANSIT_DELAY : Nat := 0x500010
abbrev TRANSIT_CREDIT : Nat := 0x500014
abbrev TRANSIT_CMD : Nat := 0x500018
abbrev TRANSIT_TX_CNT : Nat := 0x500020
abbrev TRANSIT_RX_CNT : Nat := 0x500024
abbrev TRANSIT_CRC_CNT : Nat := 0x500028
abbrev TRANSIT_REPLAY_CNT : Nat := 0x50002C
abbrev TRANSIT_ABORT_CNT : Nat := 0x500030
abbrev TRANSIT_LDROP_CNT : Nat := 0x500034
abbrev TRANSIT_NODE : Nat := 0x510000
abbrev TRANSIT_PREF : Nat := 0x510004
abbrev TRANSIT_UID_LO : Nat := 0x510008
abbrev TRANSIT_UID_HI : Nat := 0x51000C
abbrev TRANSIT_CLAIM : Nat := 0x510010
abbrev TRANSIT_HOPLIM : Nat := 0x510014
abbrev TRANSIT_TIMEOUT : Nat := 0x510018
abbrev TRANSIT_FLUSH : Nat := 0x51001C
abbrev TRANSIT_INRD : Nat := 0x510020
abbrev TRANSIT_TGT_SEL : Nat := 0x510030
abbrev TRANSIT_TGT_STAT : Nat := 0x510034
abbrev TRANSIT_TGT_CMD : Nat := 0x510038
abbrev TRANSIT_RLOCK_BASE_LO : Nat := 0x510040
abbrev TRANSIT_RLOCK_BASE_HI : Nat := 0x510044
abbrev TRANSIT_RLOCK_SIZE : Nat := 0x510048
abbrev TRANSIT_RINGS : Nat := 0x510080
abbrev TRANSIT_MSG_MASK_LO : Nat := 0x510084
abbrev TRANSIT_MSG_MASK_HI : Nat := 0x510088
abbrev TRANSIT_PHASE : Nat := 0x510090
abbrev TRANSIT_PHASE_STAT : Nat := 0x510094
abbrev TRANSIT_PHASE_CORR : Nat := 0x510098
abbrev TRANSIT_RETRY_CNT : Nat := 0x5100A0
abbrev TRANSIT_LATE_RX_CNT : Nat := 0x5100A4
abbrev TRANSIT_LATE_TX_CNT : Nat := 0x5100A8
abbrev TRANSIT_TMO_CNT : Nat := 0x5100AC
abbrev TRANSIT_NOROUTE_CNT : Nat := 0x5100B0
abbrev TRANSIT_DROP_CNT : Nat := 0x5100B4
abbrev TRANSIT_STRM_ERR_CNT : Nat := 0x5100B8
abbrev TRANSIT_STALE_CNT : Nat := 0x5100BC
abbrev ROUTER_CTRL : Nat := 0x580000
abbrev ROUTER_ROUTE : Nat := 0x590000
abbrev ROUTER_MCAST : Nat := 0x5A0000
abbrev MAC_CTRL : Nat := 0x600000
abbrev MAC_STATUS : Nat := 0x600004
abbrev MAC_MAC_ADDR_LO : Nat := 0x600008
abbrev MAC_MAC_ADDR_HI : Nat := 0x60000C
abbrev MAC_MAC_IP : Nat := 0x600010
abbrev MAC_MAXFRAME : Nat := 0x600014
abbrev MAC_PRIOMAP : Nat := 0x600018
abbrev MAC_PFC : Nat := 0x60001C
abbrev MAC_PFC_THR : Nat := 0x600020
abbrev MAC_LAUNCH : Nat := 0x600024
abbrev MAC_EEE : Nat := 0x600028
abbrev MAC_AN_LP : Nat := 0x60002C
abbrev MAC_MCHASH_LO : Nat := 0x600030
abbrev MAC_MCHASH_HI : Nat := 0x600034
abbrev MAC_CBS : Nat := 0x600040
abbrev MAC_TX_CNT : Nat := 0x600080
abbrev MAC_RX_CNT : Nat := 0x600084
abbrev MAC_RX_FCS_CNT : Nat := 0x600088
abbrev MAC_RX_DROP_CNT : Nat := 0x60008C
abbrev MAC_RX_TRUNC_CNT : Nat := 0x600090
abbrev MAC_RX_OVF_CNT : Nat := 0x600094
abbrev MAC_TX_LATE_CNT : Nat := 0x600098
abbrev MAC_TX_LDROP_CNT : Nat := 0x60009C
abbrev MAC_PFC_RX_CNT : Nat := 0x6000A0
abbrev MAC_PFC_TX_CNT : Nat := 0x6000A4
abbrev MAC_LPI_CNT : Nat := 0x6000A8
abbrev MAC_JOB_CNT : Nat := 0x6000AC
abbrev MAC_RINGS : Nat := 0x640000
abbrev MAC_RINGS2 : Nat := 0x640004
abbrev MAC_PTPRING : Nat := 0x640008
abbrev MAC_SACN_CTRL : Nat := 0x640010
abbrev MAC_SACN_ID_LO : Nat := 0x640014
abbrev MAC_SACN_ID_HI : Nat := 0x640018
abbrev MAC_SACN_MAP_LO : Nat := 0x64001C
abbrev MAC_SACN_MAP_HI : Nat := 0x640020
abbrev MAC_SACN_RXTBL_LO : Nat := 0x640024
abbrev MAC_SACN_RXTBL_HI : Nat := 0x640028
abbrev MAC_SACN_SEQ_SEL : Nat := 0x64002C
abbrev MAC_SACN_SEQ : Nat := 0x640030
abbrev MAC_JOBBAD_CNT : Nat := 0x640040
abbrev MAC_JOBOVF_CNT : Nat := 0x640044
abbrev MAC_SACN_RX_CNT : Nat := 0x640048
abbrev MAC_SACN_BAD_CNT : Nat := 0x64004C
abbrev UPL_CTRL : Nat := 0x680000
abbrev UPL_STATUS : Nat := 0x680004
abbrev UPL_MAC_ADDR_LO : Nat := 0x680008
abbrev UPL_MAC_ADDR_HI : Nat := 0x68000C
abbrev UPL_MAC_IP : Nat := 0x680010
abbrev UPL_MAXFRAME : Nat := 0x680014
abbrev UPL_PRIOMAP : Nat := 0x680018
abbrev UPL_PFC : Nat := 0x68001C
abbrev UPL_PFC_THR : Nat := 0x680020
abbrev UPL_LAUNCH : Nat := 0x680024
abbrev UPL_EEE : Nat := 0x680028
abbrev UPL_AN_LP : Nat := 0x68002C
abbrev UPL_MCHASH_LO : Nat := 0x680030
abbrev UPL_MCHASH_HI : Nat := 0x680034
abbrev UPL_CBS : Nat := 0x680040
abbrev UPL_TX_CNT : Nat := 0x680080
abbrev UPL_RX_CNT : Nat := 0x680084
abbrev UPL_RX_FCS_CNT : Nat := 0x680088
abbrev UPL_RX_DROP_CNT : Nat := 0x68008C
abbrev UPL_RX_TRUNC_CNT : Nat := 0x680090
abbrev UPL_RX_OVF_CNT : Nat := 0x680094
abbrev UPL_TX_LATE_CNT : Nat := 0x680098
abbrev UPL_TX_LDROP_CNT : Nat := 0x68009C
abbrev UPL_PFC_RX_CNT : Nat := 0x6800A0
abbrev UPL_PFC_TX_CNT : Nat := 0x6800A4
abbrev UPL_LPI_CNT : Nat := 0x6800A8
abbrev UPL_JOB_CNT : Nat := 0x6800AC
abbrev ST_CFG : Nat := 0x688000
abbrev ST_DST : Nat := 0x688004
abbrev ST_PORT : Nat := 0x688008
abbrev ST_SRC : Nat := 0x68800C
abbrev ST_SIZE : Nat := 0x688010
abbrev ST_STRIDE : Nat := 0x688014
abbrev ST_BUF : Nat := 0x688018
abbrev ST_GEN : Nat := 0x68801C
abbrev ST_FRAME_CNT : Nat := 0x688020
abbrev ST_LOSS_CNT : Nat := 0x688024
abbrev ST_DROP_CNT : Nat := 0x688028
abbrev ST_RTP : Nat := 0x68802C
abbrev MGMT_CTRL : Nat := 0x6C0000
abbrev MGMT_STATUS : Nat := 0x6C0004
abbrev MGMT_MAC_ADDR_LO : Nat := 0x6C0008
abbrev MGMT_MAC_ADDR_HI : Nat := 0x6C000C
abbrev MGMT_MAC_IP : Nat := 0x6C0010
abbrev MGMT_MAXFRAME : Nat := 0x6C0014
abbrev MGMT_LAUNCH : Nat := 0x6C0024
abbrev MGMT_MCHASH_LO : Nat := 0x6C0030
abbrev MGMT_MCHASH_HI : Nat := 0x6C0034
abbrev MGMT_TX_CNT : Nat := 0x6C0080
abbrev MGMT_RX_CNT : Nat := 0x6C0084
abbrev MGMT_RX_FCS_CNT : Nat := 0x6C0088
abbrev MGMT_RX_DROP_CNT : Nat := 0x6C008C
abbrev MGMT_RX_TRUNC_CNT : Nat := 0x6C0090
abbrev MGMT_RX_OVF_CNT : Nat := 0x6C0094
abbrev MGMT_TX_LATE_CNT : Nat := 0x6C0098
abbrev MGMT_TX_LDROP_CNT : Nat := 0x6C009C
abbrev MGMT_PFC_RX_CNT : Nat := 0x6C00A0
abbrev MGMT_PFC_TX_CNT : Nat := 0x6C00A4
abbrev MGMT_LPI_CNT : Nat := 0x6C00A8
abbrev MGMT_JOB_CNT : Nat := 0x6C00AC
abbrev DMX_CFG : Nat := 0x700000
abbrev DMX_TIME : Nat := 0x700004
abbrev DMX_SRC_LO : Nat := 0x700008
abbrev DMX_SRC_HI : Nat := 0x70000C
abbrev DMX_SRC_CFG : Nat := 0x700010
abbrev DMX_RDM : Nat := 0x700014
abbrev DMX_STATUS : Nat := 0x700018
abbrev DMX_CMD : Nat := 0x70001C
abbrev DMX_UIDTBL_LO : Nat := 0x700020
abbrev DMX_UIDTBL_HI : Nat := 0x700024
abbrev DMX_UIDCNT : Nat := 0x700028
abbrev DMX_LAST_PUB : Nat := 0x70002C
abbrev DMX_RDMWIN : Nat := 0x700030
abbrev DMX_PKT_CNT : Nat := 0x700040
abbrev DMX_PBUSY_CNT : Nat := 0x700044
abbrev DMX_LATE_CNT : Nat := 0x700048
abbrev DMX_STALE_CNT : Nat := 0x70004C
abbrev DMX_RDM_TX_CNT : Nat := 0x700050
abbrev DMX_RDM_TMO_CNT : Nat := 0x700054
abbrev DMX_RDM_BAD_CNT : Nat := 0x700058
abbrev DMX_COLL_CNT : Nat := 0x70005C
abbrev DMX_RINGS : Nat := 0x704000
abbrev DMX_UID_LO : Nat := 0x704004
abbrev DMX_UID_HI : Nat := 0x704008
abbrev DMX_BRIDGE : Nat := 0x70400C
abbrev DMX_PEND : Nat := 0x704010
abbrev DMX_GET_CNT : Nat := 0x704020
abbrev DMX_SET_CNT : Nat := 0x704024
abbrev DMX_DISCARD_CNT : Nat := 0x704028
abbrev DMX_LATEERR_CNT : Nat := 0x70402C
abbrev DMX_BUSY_CNT : Nat := 0x704030
abbrev PANEL_CTRL : Nat := 0x740000
abbrev PANEL_POL : Nat := 0x740004
abbrev PANEL_EN : Nat := 0x740008
abbrev PANEL_MAINT : Nat := 0x74000C
abbrev PANEL_QUANT : Nat := 0x740010
abbrev PANEL_STUCK : Nat := 0x740014
abbrev PANEL_CHAT : Nat := 0x740018
abbrev PANEL_RAW : Nat := 0x74001C
abbrev PANEL_LEVEL : Nat := 0x740020
abbrev PANEL_REARM : Nat := 0x740024
abbrev PANEL_STATE : Nat := 0x740028
abbrev PANEL_SAFE : Nat := 0x740038
abbrev PANEL_EDGE_CNT : Nat := 0x740040
abbrev PANEL_POST_CNT : Nat := 0x740044
abbrev PANEL_REFUSE_CNT : Nat := 0x740048
abbrev PANEL_ACT_ON : Nat := 0x740100
abbrev PANEL_ACT_OFF : Nat := 0x740120
abbrev SERDES_CTRL : Nat := 0x800000
abbrev SERDES_STATUS : Nat := 0x800004
abbrev SERDES_TERM : Nat := 0x800008
abbrev SERDES_UNLOCK_CNT : Nat := 0x80000C
abbrev SERDES_REF_STAT : Nat := 0x830000
abbrev SMB_CTRL : Nat := 0x840000
abbrev SMB_XFER : Nat := 0x840004
abbrev SMB_GO : Nat := 0x840008
abbrev SMB_STATUS : Nat := 0x84000C
abbrev SMB_DATA : Nat := 0x840010
abbrev ORRERY_CTRL : Nat := 0x900000
abbrev ORRERY_STATUS : Nat := 0x900004
abbrev ORRERY_EPOCH : Nat := 0x900008
abbrev ORRERY_TBL_LO : Nat := 0x90000C
abbrev ORRERY_TBL_HI : Nat := 0x900010
abbrev ORRERY_CAP : Nat := 0x900014
abbrev ORRERY_POOL_BASE_LO : Nat := 0x900020
abbrev ORRERY_POOL_BASE_HI : Nat := 0x900024
abbrev ORRERY_POOL_SIZE : Nat := 0x900028
abbrev ORRERY_REBAL : Nat := 0x900050
abbrev ORRERY_RINGS : Nat := 0x900054
abbrev ORRERY_LOAD : Nat := 0x900058
abbrev ORRERY_CAPCU : Nat := 0x90005C
abbrev ORRERY_ITEMS : Nat := 0x900060
abbrev ORRERY_MOVE_CNT : Nat := 0x900070
abbrev ORRERY_LOSS_CNT : Nat := 0x900074
abbrev ORRERY_LOSTFR_CNT : Nat := 0x900078
abbrev ORRERY_LATECOPY_CNT : Nat := 0x90007C
abbrev ORRERY_CANCEL_CNT : Nat := 0x900080
abbrev ORRERY_REPL_MAX : Nat := 0x900084

end Reg

/-- Rows of block SYS. -/
def regRowsSys : List RegRow := [
  { off := 0x0, reset := 0x514E2000 },
  { off := 0x4, reset := 0xB1 },
  { off := 0x8, reset := 0x11 },
  { off := 0xC, reset := 0x2, rw := 0xF },
  { off := 0x10, reset := 0x2, rw := 0x80000000, rwl := 0x3, lock := some (0x10, 31) },
  { off := 0x14, reset := 0x3E80064, rw := 0xFFFFFFFF },
  { off := 0x18, w1s := 0x7 },
  { off := 0x1C },
  { off := 0x20 },
  { off := 0x24, reset := 0x3E8, rwl := 0x1FFFF, lock := some (0x10, 31) },
  { off := 0x28 },
  { off := 0x2C },
  { off := 0x30, rwl := 0xFFFFF000, pair := 1, lock := some (0x10, 31) },
  { off := 0x34, rwl := 0xFF, pair := 2, lock := some (0x10, 31) },
  { off := 0x38 },
  { off := 0x3C, rwl := 0xFFFFFFF0, pair := 1, lock := some (0x10, 31) },
  { off := 0x40, rwl := 0xFF, pair := 2, lock := some (0x10, 31) },
  { off := 0x48, rw := 0xFFFF001F },
  { off := 0x4C, rw := 0xFFFFFFFF },
  { off := 0x50, rw := 0xFFFFFFFF, pair := 1 },
  { off := 0x54, rw := 0xFFFFFFFF, pair := 2 },
  { off := 0x58 },
  { off := 0x60, rw := 0xFFFF },
  { off := 0x64, rw := 0xFFFF },
  { off := 0x68 },
  { off := 0x70 },
  { off := 0x74 },
  { off := 0x80, rws := 0xFFFFFFFF, sx := 0x4, nx := 4 }]

/-- Rows of block CLK. -/
def regRowsClk : List RegRow := [
  { off := 0x10000, reset := 0x10, rw := 0xFF },
  { off := 0x10004 },
  { off := 0x10008, w1s := 0x3 },
  { off := 0x10010, pair := 1 },
  { off := 0x10014, pair := 2 },
  { off := 0x10018, pair := 1 },
  { off := 0x1001C, pair := 2 },
  { off := 0x10020, reset := 0x6565348D, rw := 0xFFFFFFFF, pair := 1 },
  { off := 0x10024, reset := 0x203, rw := 0xFFFFFFFF, pair := 2 },
  { off := 0x10028, reset := 0x17D7840, rw := 0xFFFFFFFF },
  { off := 0x1002C, reset := 0x3, rw := 0xFFFFFFFF },
  { off := 0x10030, rw := 0xFFFFFFFF, pair := 1 },
  { off := 0x10034, rw := 0xFFFFFFFF, pair := 2 },
  { off := 0x10038 },
  { off := 0x1003C },
  { off := 0x10040, reset := 0x1003E8, rw := 0xFFFFFF },
  { off := 0x10044, reset := 0x64000A, rw := 0xFFFFFFFF },
  { off := 0x10048, reset := 0x3E8, rw := 0xFFFF },
  { off := 0x1004C, reset := 0x1E000, rw := 0xFFFFFF },
  { off := 0x10050, rw := 0xFFFFFFFF },
  { off := 0x10054, reset := 0x4, rw := 0x7 },
  { off := 0x10058 },
  { off := 0x10060, rw := 0xFFFFFFFF, sx := 0x8, nx := 4, pair := 1 },
  { off := 0x10064, rw := 0xFFFFFFFF, sx := 0x8, nx := 4, pair := 2 },
  { off := 0x10080, pair := 1 },
  { off := 0x10084, pair := 2 },
  { off := 0x10088 },
  { off := 0x10400, rw := 0xF },
  { off := 0x10404 },
  { off := 0x10408 },
  { off := 0x1040C },
  { off := 0x10410 },
  { off := 0x10414, rw := 0xFFFFFFFF },
  { off := 0x10418, rw := 0xFFFFFFFF, pair := 1 },
  { off := 0x1041C, rw := 0xFFFF, pair := 2 },
  { off := 0x10420, rw := 0xFFFFFFFF },
  { off := 0x10424, rw := 0xFFFFFFFF },
  { off := 0x10428, w1s := 0x3 },
  { off := 0x10430 },
  { off := 0x10434 },
  { off := 0x10438 },
  { off := 0x1043C },
  { off := 0x10440, reset := 0x3E8, rw := 0xFFFFFFFF },
  { off := 0x10480, pair := 1 },
  { off := 0x10484, pair := 2 },
  { off := 0x104C0, reset := 0xC800, rw := 0xFF03 },
  { off := 0x104C4 },
  { off := 0x104C8 },
  { off := 0x10800, rw := 0x3F, w1s := 0x100 },
  { off := 0x10804 },
  { off := 0x10810, sx := 0x4, nx := 8, priv := true },
  { off := 0x10830, priv := true },
  { off := 0x10834 },
  { off := 0x10838, priv := true },
  { off := 0x10840, pair := 1 },
  { off := 0x10844, pair := 2 },
  { off := 0x10848 },
  { off := 0x1084C },
  { off := 0x10880, rw := 0xFFFFFFFF, sx := 0x8, nx := 8, pair := 1 },
  { off := 0x10884, rw := 0xFFFFFFFF, sx := 0x8, nx := 8, pair := 2 }]

/-- Rows of block THERM. -/
def regRowsTherm : List RegRow := [
  { off := 0x20000, reset := 0x80100850, rw := 0xFFFFFFFF },
  { off := 0x20004, rw := 0x1, lock := some (0x20004, 0) },
  { off := 0x20008, reset := 0x140C640A, rw := 0xFFFFFFFF },
  { off := 0x2000C },
  { off := 0x20010, reset := 0x83005F0, rwl := 0xFFFFFFFF, lock := some (0x20004, 0) },
  { off := 0x20014, reset := 0x8300690, rwl := 0xFFFFFFFF, lock := some (0x20004, 0) },
  { off := 0x20018, reset := 0x8300730, rwl := 0xFFFFFFFF, lock := some (0x20004, 0) },
  { off := 0x2001C, reset := 0x83007D0, rwl := 0xFFFFFFFF, lock := some (0x20004, 0) },
  { off := 0x20020 },
  { off := 0x20024, reset := 0x8000 },
  { off := 0x20028 },
  { off := 0x2002C },
  { off := 0x20030, w1s := 0x3 },
  { off := 0x20040, sx := 0x4, nx := 4 },
  { off := 0x20050 },
  { off := 0x20100, sx := 0x4, nx := 64 }]

/-- Rows of block CAL. -/
def regRowsCal : List RegRow := [
  { off := 0x30000, reset := 0x3C0003, rw := 0xFFFF0003 },
  { off := 0x30004, rw := 0xFFFF, priv := true },
  { off := 0x30008, w1s := 0x3 },
  { off := 0x3000C },
  { off := 0x30010 },
  { off := 0x30014, pair := 1 },
  { off := 0x30018, pair := 2 },
  { off := 0x3001C },
  { off := 0x30020 },
  { off := 0x30024 },
  { off := 0x30028 },
  { off := 0x3002C },
  { off := 0x30040, reset := 0x3E80000 },
  { off := 0x30050 },
  { off := 0x30054 },
  { off := 0x30058 },
  { off := 0x30100, reset := 0xFFFFFFFF, sx := 0x10, nx := 32 },
  { off := 0x30104, reset := 0xFFFFFFFF, sx := 0x10, nx := 32 },
  { off := 0x30108, sx := 0x10, nx := 32 }]

/-- Rows of block FAULT. -/
def regRowsFault : List RegRow := [
  { off := 0x40000, reset := 0xC1, rw := 0x800000F0, rwl := 0x7, lock := some (0x40000, 31) },
  { off := 0x40004, w1c := 0xF },
  { off := 0x40008, w1s := 0x3 },
  { off := 0x40010 },
  { off := 0x40014, pair := 1 },
  { off := 0x40018, pair := 2 },
  { off := 0x4001C, pair := 1 },
  { off := 0x40020, pair := 2 },
  { off := 0x40024, sx := 0x4, nx := 2 },
  { off := 0x40030 },
  { off := 0x40034, pair := 1 },
  { off := 0x40038, pair := 2 },
  { off := 0x4003C, pair := 1 },
  { off := 0x40040, pair := 2 },
  { off := 0x40044, sx := 0x4, nx := 2 },
  { off := 0x4004C },
  { off := 0x40060 },
  { off := 0x40064 },
  { off := 0x40068 },
  { off := 0x4006C },
  { off := 0x40070 },
  { off := 0x40100, sx := 0x10, nx := 6 },
  { off := 0x40104, sx := 0x10, nx := 6 },
  { off := 0x40108, sx := 0x10, nx := 6, pair := 1 },
  { off := 0x4010C, sx := 0x10, nx := 6, pair := 2 },
  { off := 0x40200, reset := 0x3, rw := 0x3 },
  { off := 0x40204, reset := 0xE10, rw := 0xFFFFFFFF },
  { off := 0x40208, reset := 0x2710, rw := 0xFFFFFFFF },
  { off := 0x4020C },
  { off := 0x40210 },
  { off := 0x40214 },
  { off := 0x40218 },
  { off := 0x4021C },
  { off := 0x40280, reset := 0xA03, rw := 0xFFFF },
  { off := 0x40284 },
  { off := 0x40288 }]

/-- Rows of block TELEM. -/
def regRowsTelem : List RegRow := [
  { off := 0x50000, reset := 0x2, rw := 0x3 },
  { off := 0x50004, w1s := 0x1 },
  { off := 0x50008, rw := 0xFFFFFFFF },
  { off := 0x5000C },
  { off := 0x50010, reset := 0x970 },
  { off := 0x50014, rw := 0xFFFFC000, pair := 1 },
  { off := 0x50018, rw := 0xFF, pair := 2 },
  { off := 0x5001C, rw := 0x1, priv := true },
  { off := 0x50020 },
  { off := 0x50024 }]

/-- Rows of block ALM. -/
def regRowsAlm : List RegRow := [
  { off := 0x60000, reset := 0x6, rw := 0x7 },
  { off := 0x60004, reset := 0x10, rw := 0x1F },
  { off := 0x60008, rw := 0x1FFFF },
  { off := 0x6000C, rw := 0x1FFFF },
  { off := 0x60010, reset := 0x4B0400, rw := 0xFFFFFF },
  { off := 0x60014 },
  { off := 0x60018 },
  { off := 0x6001C },
  { off := 0x60020 },
  { off := 0x60024 },
  { off := 0x60028 },
  { off := 0x6002C, reset := 0x1404, rw := 0x1F07 },
  { off := 0x60030, reset := 0x7D01388, rw := 0xFFFFFFFF },
  { off := 0x60034, reset := 0x640004, rw := 0xFFFFFFFF },
  { off := 0x60038, reset := 0x186A0, rw := 0xFFFFFFFF },
  { off := 0x6003C, reset := 0x18, rw := 0xFF },
  { off := 0x60040, rw := 0xFFFFFFFF, priv := true },
  { off := 0x60044, rw := 0xFFFFFFFF, pair := 1, priv := true },
  { off := 0x60048, rw := 0xFF, pair := 2, priv := true },
  { off := 0x6004C, rw := 0x81FFFF, priv := true },
  { off := 0x60050 },
  { off := 0x60054, priv := true },
  { off := 0x60058, priv := true },
  { off := 0x6005C, priv := true },
  { off := 0x60060, rw := 0xFFFFFE00, pair := 1 },
  { off := 0x60064, rw := 0xFF, pair := 2 },
  { off := 0x60080 },
  { off := 0x60084 },
  { off := 0x60088 },
  { off := 0x6008C },
  { off := 0x60090 },
  { off := 0x60094 },
  { off := 0x60098 },
  { off := 0x6009C }]

/-- Rows of block TWIN. -/
def regRowsTwin : List RegRow := [
  { off := 0x70000, reset := 0x4002BC, rw := 0x80FF0FC0, rwl := 0x3F, lock := some (0x70000, 31) },
  { off := 0x70004, reset := 0x17F, rwl := 0xFF7F, lock := some (0x70000, 31) },
  { off := 0x70008, reset := 0x14030064, rw := 0xFF0F03FF },
  { off := 0x7000C, reset := 0x20032, rw := 0xFFFFFF },
  { off := 0x70010 },
  { off := 0x70014, w1s := 0x3 },
  { off := 0x70018 },
  { off := 0x7001C },
  { off := 0x70020 },
  { off := 0x70024 },
  { off := 0x70028 },
  { off := 0x70040 },
  { off := 0x70044 },
  { off := 0x70048 },
  { off := 0x7004C },
  { off := 0x70050 },
  { off := 0x70054 },
  { off := 0x70058 },
  { off := 0x7005C },
  { off := 0x70060 }]

/-- Rows of block RING. -/
def regRowsRing : List RegRow := [
  { off := 0x80000, reset := 0x1, rw := 0x80000000, rwl := 0x1, sx := 0x100, nx := 64, lock := some (0x80000, 31) },
  { off := 0x80004, w1c := 0x1000000, sx := 0x100, nx := 64 },
  { off := 0x80008, rwl := 0xFFFFF000, sx := 0x100, nx := 64, pair := 1, lock := some (0x80000, 31) },
  { off := 0x8000C, rwl := 0xFF, sx := 0x100, nx := 64, pair := 2, lock := some (0x80000, 31) },
  { off := 0x80010, rwl := 0x1F, sx := 0x100, nx := 64, lock := some (0x80000, 31) },
  { off := 0x80014, sx := 0x100, nx := 64 },
  { off := 0x80018, w1s := 0x1, sx := 0x100, nx := 64 },
  { off := 0x8001C, sx := 0x100, nx := 64 },
  { off := 0x80020, sx := 0x100, nx := 64 },
  { off := 0x80024, sx := 0x100, nx := 64 },
  { off := 0x80028, sx := 0x100, nx := 64 },
  { off := 0x8002C, sx := 0x100, nx := 64 },
  { off := 0x80030, sx := 0x100, nx := 64 },
  { off := 0x84000, reset := 0x2E2F30, rw := 0x80000000, rwl := 0x3F3F3F, lock := some (0x84000, 31) }]

/-- Rows of block TILE. -/
def regRowsTile : List RegRow := [
  { off := 0x100000, reset := 0xFFFF, rw := 0x8001FFFF, sx := 0x1000, nx := 16, lock := some (0x100000, 31) },
  { off := 0x100004, w1s := 0x1, sx := 0x1000, nx := 16 },
  { off := 0x100008, sx := 0x1000, nx := 16 },
  { off := 0x10000C, sx := 0x1000, nx := 16 },
  { off := 0x100010, rwl := 0xFFFFFFFF, sx := 0x1000, nx := 16, lock := some (0x100000, 31) },
  { off := 0x100014, rwl := 0xFFFFFFFF, sx := 0x1000, nx := 16, lock := some (0x100000, 31) },
  { off := 0x100018, reset := 0x17F, rwl := 0x3FF, sx := 0x1000, nx := 16, lock := some (0x100000, 31) },
  { off := 0x10001C, reset := 0xC820, rw := 0xFFFFFF, sx := 0x1000, nx := 16 },
  { off := 0x100020, sx := 0x1000, nx := 16 },
  { off := 0x100024, sx := 0x1000, nx := 16 },
  { off := 0x100028, sx := 0x1000, nx := 16 },
  { off := 0x10002C, sx := 0x1000, nx := 16 },
  { off := 0x100030, sx := 0x1000, nx := 16 },
  { off := 0x100100, sx := 0x1000, nx := 16, sy := 0x20, ny := 16 },
  { off := 0x100104, sx := 0x1000, nx := 16, sy := 0x20, ny := 16, pair := 1 },
  { off := 0x100108, sx := 0x1000, nx := 16, sy := 0x20, ny := 16, pair := 2 },
  { off := 0x10010C, sx := 0x1000, nx := 16, sy := 0x20, ny := 16, pair := 1 },
  { off := 0x100110, sx := 0x1000, nx := 16, sy := 0x20, ny := 16, pair := 2 },
  { off := 0x100114, sx := 0x1000, nx := 16, sy := 0x20, ny := 16 },
  { off := 0x110000 },
  { off := 0x110004 },
  { off := 0x110008 },
  { off := 0x110100, w1s := 0x3, sx := 0x100, nx := 4 },
  { off := 0x110104, sx := 0x100, nx := 4 },
  { off := 0x110108, rw := 0xFFFFFFFF, sx := 0x100, nx := 4, pair := 1 },
  { off := 0x11010C, rw := 0xFFFFFFFF, sx := 0x100, nx := 4, pair := 2 },
  { off := 0x110110, sx := 0x100, nx := 4, pair := 1 },
  { off := 0x110114, sx := 0x100, nx := 4, pair := 2 },
  { off := 0x110118, sx := 0x100, nx := 4 }]

/-- Rows of block PLATE. -/
def regRowsPlate : List RegRow := [
  { off := 0x200000, reset := 0x230, rw := 0x3FFF, sx := 0x4000, nx := 4 },
  { off := 0x200004, w1s := 0x1, sx := 0x4000, nx := 4 },
  { off := 0x200008, sx := 0x4000, nx := 4 },
  { off := 0x20000C, rw := 0x1FFF1FFF, sx := 0x4000, nx := 4 },
  { off := 0x200010, rw := 0x1FFF1FFF, sx := 0x4000, nx := 4 },
  { off := 0x200014, rw := 0xFFFFFFFF, sx := 0x4000, nx := 4 },
  { off := 0x200018, rw := 0xFFFFFFFF, sx := 0x4000, nx := 4 },
  { off := 0x20001C, rw := 0xFFFF, sx := 0x4000, nx := 4 },
  { off := 0x200020, reset := 0x3A980, rw := 0xFFFFFFFF, sx := 0x4000, nx := 4 },
  { off := 0x200024, sx := 0x4000, nx := 4 },
  { off := 0x200028, rw := 0xFFFFFFFF, sx := 0x4000, nx := 4, pair := 1 },
  { off := 0x20002C, rw := 0xFF, sx := 0x4000, nx := 4, pair := 2 },
  { off := 0x200030, rw := 0xFFFFFFFF, sx := 0x4000, nx := 4, sy := 0x8, ny := 2, pair := 1 },
  { off := 0x200034, rw := 0xFF, sx := 0x4000, nx := 4, sy := 0x8, ny := 2, pair := 2 },
  { off := 0x200040, rw := 0xFFFFFFFF, sx := 0x4000, nx := 4, pair := 1 },
  { off := 0x200044, rw := 0xFF, sx := 0x4000, nx := 4, pair := 2 },
  { off := 0x200048, rw := 0xFFFFFFFF, sx := 0x4000, nx := 4, pair := 1 },
  { off := 0x20004C, rw := 0xFF, sx := 0x4000, nx := 4, pair := 2 },
  { off := 0x200050, rw := 0xF, sx := 0x4000, nx := 4 },
  { off := 0x200054, reset := 0x2000, rw := 0x1FFFF, sx := 0x4000, nx := 4 },
  { off := 0x200058, rw := 0xFFFF, sx := 0x4000, nx := 4 },
  { off := 0x200060, sx := 0x4000, nx := 4 },
  { off := 0x200064, sx := 0x4000, nx := 4 },
  { off := 0x200068, sx := 0x4000, nx := 4 },
  { off := 0x20006C, sx := 0x4000, nx := 4 },
  { off := 0x200070, sx := 0x4000, nx := 4 },
  { off := 0x200074, sx := 0x4000, nx := 4 },
  { off := 0x200078, sx := 0x4000, nx := 4 },
  { off := 0x20007C, sx := 0x4000, nx := 4 },
  { off := 0x200080, sx := 0x4000, nx := 4 },
  { off := 0x200100, rw := 0xFFF7F, sx := 0x4000, nx := 4, sy := 0x20, ny := 8 },
  { off := 0x200104, rw := 0xFFFF, sx := 0x4000, nx := 4, sy := 0x20, ny := 8 },
  { off := 0x200108, rw := 0xFFFFFFFF, sx := 0x4000, nx := 4, sy := 0x20, ny := 8 },
  { off := 0x20010C, rw := 0x1FFF1FFF, sx := 0x4000, nx := 4, sy := 0x20, ny := 8 },
  { off := 0x200110, rw := 0xFFFFF, sx := 0x4000, nx := 4, sy := 0x20, ny := 8 },
  { off := 0x200114, sx := 0x4000, nx := 4, sy := 0x20, ny := 8 },
  { off := 0x200118, sx := 0x4000, nx := 4, sy := 0x20, ny := 8 },
  { off := 0x200200, reset := 0x2B, rw := 0x1FF, sx := 0x4000, nx := 4 },
  { off := 0x200204, sx := 0x4000, nx := 4 },
  { off := 0x200208, w1s := 0x3, sx := 0x4000, nx := 4 },
  { off := 0x20020C, reset := 0x80014, rw := 0xFFFFFF, sx := 0x4000, nx := 4 },
  { off := 0x200210, sx := 0x4000, nx := 4 },
  { off := 0x200214, sx := 0x4000, nx := 4 },
  { off := 0x200218, rw := 0xFFFF, sx := 0x4000, nx := 4 },
  { off := 0x20021C, reset := 0x64000A, rw := 0xFFFFFFFF, sx := 0x4000, nx := 4 },
  { off := 0x200220, sx := 0x4000, nx := 4 },
  { off := 0x200224, reset := 0x32, rw := 0xFFFF, sx := 0x4000, nx := 4 },
  { off := 0x200240, sx := 0x4000, nx := 4, sy := 0x4, ny := 8 },
  { off := 0x200260, sx := 0x4000, nx := 4, sy := 0x4, ny := 4 },
  { off := 0x200270, sx := 0x4000, nx := 4, sy := 0x4, ny := 8 },
  { off := 0x200290, sx := 0x4000, nx := 4 },
  { off := 0x200294, sx := 0x4000, nx := 4 },
  { off := 0x200298, sx := 0x4000, nx := 4 },
  { off := 0x2002A0, sx := 0x4000, nx := 4 },
  { off := 0x2002A4, sx := 0x4000, nx := 4 },
  { off := 0x2002A8, sx := 0x4000, nx := 4 },
  { off := 0x2002AC, sx := 0x4000, nx := 4 },
  { off := 0x2002B0, sx := 0x4000, nx := 4 },
  { off := 0x2002B4, sx := 0x4000, nx := 4 },
  { off := 0x2002B8, sx := 0x4000, nx := 4 },
  { off := 0x2002BC, sx := 0x4000, nx := 4 },
  { off := 0x2002C0, sx := 0x4000, nx := 4 },
  { off := 0x2002C4, sx := 0x4000, nx := 4 },
  { off := 0x2002C8, sx := 0x4000, nx := 4 },
  { off := 0x2002CC, sx := 0x4000, nx := 4 },
  { off := 0x2002E0, rw := 0xFF03, sx := 0x4000, nx := 4 },
  { off := 0x2002E4, sx := 0x4000, nx := 4, sy := 0x4, ny := 4 },
  { off := 0x210000, rw := 0xFFF, priv := true },
  { off := 0x210004, rw := 0xFFFFFFFF, pair := 1, priv := true },
  { off := 0x210008, rw := 0xFF, pair := 2, priv := true },
  { off := 0x21000C, rw := 0xFFFFFFFF, priv := true },
  { off := 0x210010, rw := 0xF, priv := true },
  { off := 0x210014, rw := 0xFFFFFFFF, priv := true },
  { off := 0x210018 },
  { off := 0x21001C, priv := true },
  { off := 0x210020, sx := 0x8, nx := 4 },
  { off := 0x210024, sx := 0x8, nx := 4 },
  { off := 0x210040 },
  { off := 0x210080, reset := 0x7D00000, rw := 0xFFFF0003 },
  { off := 0x210084, sx := 0x4, nx := 2 },
  { off := 0x21008C, sx := 0x4, nx := 2 }]

/-- Rows of block OCC. -/
def regRowsOcc : List RegRow := [
  { off := 0x300000, reset := 0x8010, rw := 0xF7FF, sx := 0x4000, nx := 4 },
  { off := 0x300004, w1s := 0xF, sx := 0x4000, nx := 4 },
  { off := 0x300008, sx := 0x4000, nx := 4 },
  { off := 0x300010, reset := 0x2000, rw := 0xFFFFFFFF, sx := 0x4000, nx := 4 },
  { off := 0x300014, rw := 0xFFFFFFFF, sx := 0x4000, nx := 4 },
  { off := 0x300018, rw := 0xFFFFFFFF, sx := 0x4000, nx := 4 },
  { off := 0x30001C, rw := 0xFFFFFFFF, sx := 0x4000, nx := 4 },
  { off := 0x300020, reset := 0x2000, rw := 0xFFFFFFFF, sx := 0x4000, nx := 4 },
  { off := 0x300024, rw := 0xFFFFFFFF, sx := 0x4000, nx := 4 },
  { off := 0x300028, reset := 0xFFFF, sx := 0x4000, nx := 4 },
  { off := 0x30002C, sx := 0x4000, nx := 4 },
  { off := 0x300030, sx := 0x4000, nx := 4 },
  { off := 0x300034, sx := 0x4000, nx := 4 },
  { off := 0x300040, sx := 0x4000, nx := 4 },
  { off := 0x300044, sx := 0x4000, nx := 4 },
  { off := 0x300048, sx := 0x4000, nx := 4 },
  { off := 0x30004C, sx := 0x4000, nx := 4 },
  { off := 0x300050, sx := 0x4000, nx := 4 },
  { off := 0x300054, sx := 0x4000, nx := 4 },
  { off := 0x300058, sx := 0x4000, nx := 4 },
  { off := 0x301000, rw := 0xFFFFFFFF, sx := 0x4000, nx := 4, sy := 0x20, ny := 256 },
  { off := 0x301004, rw := 0xFFFFFFFF, sx := 0x4000, nx := 4, sy := 0x20, ny := 256 },
  { off := 0x301008, rw := 0xFFFFFFFF, sx := 0x4000, nx := 4, sy := 0x20, ny := 256 },
  { off := 0x30100C, rw := 0xFFFFFFFF, sx := 0x4000, nx := 4, sy := 0x20, ny := 256 },
  { off := 0x301010, rw := 0xFFFFFFFF, sx := 0x4000, nx := 4, sy := 0x20, ny := 256 },
  { off := 0x310000, reset := 0xBAB8, rw := 0x7FFFF },
  { off := 0x310004, rw := 0xFFFFFFFF },
  { off := 0x310008, rw := 0x1F },
  { off := 0x31000C, rw := 0xFFFFFFFF },
  { off := 0x310010, reset := 0x4E20, rw := 0xFFFFFFFF },
  { off := 0x310014 },
  { off := 0x310018 },
  { off := 0x31001C },
  { off := 0x310020 },
  { off := 0x310040, rw := 0xFFFFFFFF, sx := 0xC, nx := 2, pair := 1 },
  { off := 0x310044, rw := 0xFF, sx := 0xC, nx := 2, pair := 2 },
  { off := 0x310048, rw := 0xFFFFFFFF, sx := 0xC, nx := 2 },
  { off := 0x310058, w1s := 0x3 },
  { off := 0x31005C },
  { off := 0x310100, rw := 0x3FF, priv := true },
  { off := 0x310104, rw := 0xFF01F7, priv := true },
  { off := 0x310108, rw := 0xFFFFFFFF, priv := true },
  { off := 0x31010C, rw := 0xFFFF, priv := true },
  { off := 0x310110, rw := 0xFFFFFFFF, priv := true },
  { off := 0x310114 },
  { off := 0x310118, priv := true },
  { off := 0x31011C },
  { off := 0x310180, rw := 0xFFFFFFFF, sx := 0x4, nx := 32, priv := true }]

/-- Rows of block STRING. -/
def regRowsString : List RegRow := [
  { off := 0x400000, reset := 0x3D0, rw := 0x3FF, sx := 0x40, nx := 32 },
  { off := 0x400004, reset := 0x2000, rw := 0xFFFF, sx := 0x40, nx := 32 },
  { off := 0x400008, reset := 0x9C40, rw := 0xFFFFF, sx := 0x40, nx := 32 },
  { off := 0x40000C, sx := 0x40, nx := 32 },
  { off := 0x400010, sx := 0x40, nx := 32 },
  { off := 0x400014, sx := 0x40, nx := 32 },
  { off := 0x400018, sx := 0x40, nx := 32 },
  { off := 0x40001C, sx := 0x40, nx := 32 },
  { off := 0x400020, sx := 0x40, nx := 32 },
  { off := 0x400024, sx := 0x40, nx := 32, pair := 1 },
  { off := 0x400028, sx := 0x40, nx := 32, pair := 2 },
  { off := 0x40002C, w1s := 0x1, sx := 0x40, nx := 32 },
  { off := 0x400030, sx := 0x40, nx := 32 },
  { off := 0x400034, sx := 0x40, nx := 32 },
  { off := 0x400038, sx := 0x40, nx := 32 },
  { off := 0x40003C, sx := 0x40, nx := 32 },
  { off := 0x400800, reset := 0x640014, rw := 0xFFFFFFFF },
  { off := 0x400804, reset := 0x404B0, rw := 0xFFFFFF },
  { off := 0x400808, reset := 0xC80550, rw := 0xFFFFFFFF },
  { off := 0x40080C, reset := 0x2000, rw := 0xFFFF },
  { off := 0x400810, reset := 0x500780, rw := 0xFFFFFFFF },
  { off := 0x400814, reset := 0x3E803E8, rw := 0xFFFFFFFF },
  { off := 0x400818, rw := 0x1 },
  { off := 0x40081C, rw := 0xFFFFFFFF, pair := 1 },
  { off := 0x400820, rw := 0xFF, pair := 2 },
  { off := 0x400900, reset := 0x3E80F6E, rw := 0xFFFFFFFF, sx := 0x10, nx := 8 },
  { off := 0x400904, reset := 0x3E8, rw := 0xFFFF, sx := 0x10, nx := 8 },
  { off := 0x400908, sx := 0x10, nx := 8 },
  { off := 0x400C00, rw := 0x3, sx := 0x80, nx := 4 },
  { off := 0x400C04, rw := 0xFFFFFFFF, sx := 0x80, nx := 4, pair := 1 },
  { off := 0x400C08, rw := 0xFF, sx := 0x80, nx := 4, pair := 2 },
  { off := 0x400C0C, reset := 0x10000000, rw := 0xFFFF3FFF, sx := 0x80, nx := 4 },
  { off := 0x400C10, w1s := 0x3, sx := 0x80, nx := 4 },
  { off := 0x400C14, sx := 0x80, nx := 4 },
  { off := 0x400C18, sx := 0x80, nx := 4 },
  { off := 0x400C20, sx := 0x80, nx := 4 },
  { off := 0x400C24, sx := 0x80, nx := 4 },
  { off := 0x400C28, sx := 0x80, nx := 4 },
  { off := 0x400C2C, sx := 0x80, nx := 4 },
  { off := 0x400C30, sx := 0x80, nx := 4 },
  { off := 0x400C34, sx := 0x80, nx := 4 },
  { off := 0x400C38, sx := 0x80, nx := 4 },
  { off := 0x401000, sx := 0x4, nx := 1024 }]

/-- Rows of block TRANSIT. -/
def regRowsTransit : List RegRow := [
  { off := 0x500000, reset := 0x300, rw := 0xFF07, sx := 0x1000, nx := 16 },
  { off := 0x500004, sx := 0x1000, nx := 16 },
  { off := 0x500008, sx := 0x1000, nx := 16, pair := 1 },
  { off := 0x50000C, sx := 0x1000, nx := 16, pair := 2 },
  { off := 0x500010, sx := 0x1000, nx := 16 },
  { off := 0x500014, sx := 0x1000, nx := 16 },
  { off := 0x500018, w1s := 0x1, sx := 0x1000, nx := 16 },
  { off := 0x500020, sx := 0x1000, nx := 16 },
  { off := 0x500024, sx := 0x1000, nx := 16 },
  { off := 0x500028, sx := 0x1000, nx := 16 },
  { off := 0x50002C, sx := 0x1000, nx := 16 },
  { off := 0x500030, sx := 0x1000, nx := 16 },
  { off := 0x500034, sx := 0x1000, nx := 16 },
  { off := 0x510000 },
  { off := 0x510004, rw := 0x11FFF },
  { off := 0x510008, pair := 1 },
  { off := 0x51000C, pair := 2 },
  { off := 0x510010, reset := 0x14, rw := 0xFFFF },
  { off := 0x510014, reset := 0x1F, rw := 0x1F },
  { off := 0x510018, reset := 0x32, rw := 0xFFFFFFFF },
  { off := 0x51001C, reset := 0x1F4, rw := 0xFFFF },
  { off := 0x510020, reset := 0x80, rw := 0xFF },
  { off := 0x510030, rw := 0x1FFF, priv := true },
  { off := 0x510034, rw := 0x2 },
  { off := 0x510038, w1s := 0x1 },
  { off := 0x510040, rw := 0xFFFFF001, sx := 0x10, nx := 4, pair := 1 },
  { off := 0x510044, rw := 0xFF, sx := 0x10, nx := 4, pair := 2 },
  { off := 0x510048, rw := 0xFFFFF, sx := 0x10, nx := 4 },
  { off := 0x510080, reset := 0x3C3D3E3F, rw := 0x3F3F3F3F },
  { off := 0x510084, rw := 0xFFFFFFFF },
  { off := 0x510088, rw := 0xFFFFFFFF },
  { off := 0x510090, reset := 0x3E88000, rw := 0xFFFFFF01 },
  { off := 0x510094 },
  { off := 0x510098 },
  { off := 0x5100A0 },
  { off := 0x5100A4 },
  { off := 0x5100A8 },
  { off := 0x5100AC },
  { off := 0x5100B0 },
  { off := 0x5100B4 },
  { off := 0x5100B8 },
  { off := 0x5100BC }]

/-- Rows of block ROUTER. -/
def regRowsRouter : List RegRow := [
  { off := 0x580000, rw := 0x1 },
  { off := 0x590000, rw := 0xFFFFF, sx := 0x4, nx := 8192 },
  { off := 0x5A0000, rw := 0x3FFFF, sx := 0x4, nx := 4096 }]

/-- Rows of block FIXMAC. -/
def regRowsFixmac : List RegRow := [
  { off := 0x600000, reset := 0x6, rw := 0x7FF, sx := 0x1000, nx := 32 },
  { off := 0x600004, sx := 0x1000, nx := 32 },
  { off := 0x600008, rw := 0xFFFFFFFF, sx := 0x1000, nx := 32, pair := 1 },
  { off := 0x60000C, rw := 0xFFFF, sx := 0x1000, nx := 32, pair := 2 },
  { off := 0x600010, rw := 0xFFFFFFFF, sx := 0x1000, nx := 32 },
  { off := 0x600014, reset := 0x5F2, rw := 0x3FFF, sx := 0x1000, nx := 32 },
  { off := 0x600018, reset := 0xFAC688, rw := 0xFFFFFF, sx := 0x1000, nx := 32 },
  { off := 0x60001C, reset := 0x640000, rw := 0xFFFF01FF, sx := 0x1000, nx := 32 },
  { off := 0x600020, reset := 0x1000300, rw := 0xFFFFFFFF, sx := 0x1000, nx := 32 },
  { off := 0x600024, reset := 0x3E8, rw := 0xFFFFFF, sx := 0x1000, nx := 32 },
  { off := 0x600028, reset := 0x4E201400, rw := 0xFFFFFF01, sx := 0x1000, nx := 32 },
  { off := 0x60002C, sx := 0x1000, nx := 32 },
  { off := 0x600030, rw := 0xFFFFFFFF, sx := 0x1000, nx := 32 },
  { off := 0x600034, rw := 0xFFFFFFFF, sx := 0x1000, nx := 32 },
  { off := 0x600040, rw := 0xFFFFFFFF, sx := 0x1000, nx := 32, sy := 0x4, ny := 8 },
  { off := 0x600080, sx := 0x1000, nx := 32 },
  { off := 0x600084, sx := 0x1000, nx := 32 },
  { off := 0x600088, sx := 0x1000, nx := 32 },
  { off := 0x60008C, sx := 0x1000, nx := 32 },
  { off := 0x600090, sx := 0x1000, nx := 32 },
  { off := 0x600094, sx := 0x1000, nx := 32 },
  { off := 0x600098, sx := 0x1000, nx := 32 },
  { off := 0x60009C, sx := 0x1000, nx := 32 },
  { off := 0x6000A0, sx := 0x1000, nx := 32 },
  { off := 0x6000A4, sx := 0x1000, nx := 32 },
  { off := 0x6000A8, sx := 0x1000, nx := 32 },
  { off := 0x6000AC, sx := 0x1000, nx := 32 },
  { off := 0x640000, reset := 0x35343332, rw := 0x3F3F3F3F },
  { off := 0x640004, reset := 0x39383736, rw := 0x3F3F3F3F },
  { off := 0x640008, reset := 0x31, rw := 0x3F },
  { off := 0x640010, rw := 0x1 },
  { off := 0x640014, rw := 0xFFFFFFFF, pair := 1 },
  { off := 0x640018, rw := 0xFF, pair := 2 },
  { off := 0x64001C, rw := 0xFFFFFFFF, pair := 1 },
  { off := 0x640020, rw := 0xFF, pair := 2 },
  { off := 0x640024, rw := 0xFFFFFFFF, pair := 1 },
  { off := 0x640028, rw := 0xFF, pair := 2 },
  { off := 0x64002C, rw := 0xFFF, priv := true },
  { off := 0x640030, rw := 0xFF },
  { off := 0x640040 },
  { off := 0x640044 },
  { off := 0x640048 },
  { off := 0x64004C }]

/-- Rows of block UPMAC. -/
def regRowsUpmac : List RegRow := [
  { off := 0x680000, reset := 0x6, rw := 0x7FF, sx := 0x1000, nx := 4 },
  { off := 0x680004, sx := 0x1000, nx := 4 },
  { off := 0x680008, rw := 0xFFFFFFFF, sx := 0x1000, nx := 4, pair := 1 },
  { off := 0x68000C, rw := 0xFFFF, sx := 0x1000, nx := 4, pair := 2 },
  { off := 0x680010, rw := 0xFFFFFFFF, sx := 0x1000, nx := 4 },
  { off := 0x680014, reset := 0x5F2, rw := 0x3FFF, sx := 0x1000, nx := 4 },
  { off := 0x680018, reset := 0xFAC688, rw := 0xFFFFFF, sx := 0x1000, nx := 4 },
  { off := 0x68001C, reset := 0x640000, rw := 0xFFFF01FF, sx := 0x1000, nx := 4 },
  { off := 0x680020, reset := 0x1000300, rw := 0xFFFFFFFF, sx := 0x1000, nx := 4 },
  { off := 0x680024, reset := 0x3E8, rw := 0xFFFFFF, sx := 0x1000, nx := 4 },
  { off := 0x680028, reset := 0x4E201400, rw := 0xFFFFFF01, sx := 0x1000, nx := 4 },
  { off := 0x68002C, sx := 0x1000, nx := 4 },
  { off := 0x680030, rw := 0xFFFFFFFF, sx := 0x1000, nx := 4 },
  { off := 0x680034, rw := 0xFFFFFFFF, sx := 0x1000, nx := 4 },
  { off := 0x680040, rw := 0xFFFFFFFF, sx := 0x1000, nx := 4, sy := 0x4, ny := 8 },
  { off := 0x680080, sx := 0x1000, nx := 4 },
  { off := 0x680084, sx := 0x1000, nx := 4 },
  { off := 0x680088, sx := 0x1000, nx := 4 },
  { off := 0x68008C, sx := 0x1000, nx := 4 },
  { off := 0x680090, sx := 0x1000, nx := 4 },
  { off := 0x680094, sx := 0x1000, nx := 4 },
  { off := 0x680098, sx := 0x1000, nx := 4 },
  { off := 0x68009C, sx := 0x1000, nx := 4 },
  { off := 0x6800A0, sx := 0x1000, nx := 4 },
  { off := 0x6800A4, sx := 0x1000, nx := 4 },
  { off := 0x6800A8, sx := 0x1000, nx := 4 },
  { off := 0x6800AC, sx := 0x1000, nx := 4 },
  { off := 0x688000, rw := 0x1F, sx := 0x800, nx := 4, sy := 0x80, ny := 16 },
  { off := 0x688004, rw := 0xFFFFFFFF, sx := 0x800, nx := 4, sy := 0x80, ny := 16 },
  { off := 0x688008, rw := 0xFFFF, sx := 0x800, nx := 4, sy := 0x80, ny := 16 },
  { off := 0x68800C, rw := 0xFFFFFFFF, sx := 0x800, nx := 4, sy := 0x80, ny := 16 },
  { off := 0x688010, rw := 0xFFF0FFF, sx := 0x800, nx := 4, sy := 0x80, ny := 16 },
  { off := 0x688014, rw := 0xFFFFF, sx := 0x800, nx := 4, sy := 0x80, ny := 16 },
  { off := 0x688018, rw := 0xFFF, sx := 0x800, nx := 4, sy := 0x80, ny := 16 },
  { off := 0x68801C, rw := 0xFFFFFFFF, sx := 0x800, nx := 4, sy := 0x80, ny := 16 },
  { off := 0x688020, sx := 0x800, nx := 4, sy := 0x80, ny := 16 },
  { off := 0x688024, sx := 0x800, nx := 4, sy := 0x80, ny := 16 },
  { off := 0x688028, sx := 0x800, nx := 4, sy := 0x80, ny := 16 },
  { off := 0x68802C, sx := 0x800, nx := 4, sy := 0x80, ny := 16 }]

/-- Rows of block MGMAC. -/
def regRowsMgmac : List RegRow := [
  { off := 0x6C0000, reset := 0x6, rw := 0x7FF },
  { off := 0x6C0004 },
  { off := 0x6C0008, rw := 0xFFFFFFFF, pair := 1 },
  { off := 0x6C000C, rw := 0xFFFF, pair := 2 },
  { off := 0x6C0010, rw := 0xFFFFFFFF },
  { off := 0x6C0014, reset := 0x5F2, rw := 0x3FFF },
  { off := 0x6C0024, reset := 0x3E8, rw := 0xFFFFFF },
  { off := 0x6C0030, rw := 0xFFFFFFFF },
  { off := 0x6C0034, rw := 0xFFFFFFFF },
  { off := 0x6C0080 },
  { off := 0x6C0084 },
  { off := 0x6C0088 },
  { off := 0x6C008C },
  { off := 0x6C0090 },
  { off := 0x6C0094 },
  { off := 0x6C0098 },
  { off := 0x6C009C },
  { off := 0x6C00A0 },
  { off := 0x6C00A4 },
  { off := 0x6C00A8 },
  { off := 0x6C00AC }]

/-- Rows of block DMX. -/
def regRowsDmx : List RegRow := [
  { off := 0x700000, reset := 0x400, rw := 0xFF1FFF, sx := 0x400, nx := 16 },
  { off := 0x700004, reset := 0x30B0, rw := 0xFFFFFFF, sx := 0x400, nx := 16 },
  { off := 0x700008, rw := 0xFFFFFE00, sx := 0x400, nx := 16, pair := 1 },
  { off := 0x70000C, rw := 0xFF, sx := 0x400, nx := 16, pair := 2 },
  { off := 0x700010, rw := 0x7, sx := 0x400, nx := 16 },
  { off := 0x700014, reset := 0xA020AF0, rw := 0xFF0FFFFF, sx := 0x400, nx := 16 },
  { off := 0x700018, sx := 0x400, nx := 16 },
  { off := 0x70001C, w1s := 0x1, sx := 0x400, nx := 16 },
  { off := 0x700020, rw := 0xFFFFFFC0, sx := 0x400, nx := 16, pair := 1 },
  { off := 0x700024, rw := 0xFF, sx := 0x400, nx := 16, pair := 2 },
  { off := 0x700028, w1c := 0x200, sx := 0x400, nx := 16 },
  { off := 0x70002C, sx := 0x400, nx := 16 },
  { off := 0x700030, rw := 0xFFFF, sx := 0x400, nx := 16 },
  { off := 0x700040, sx := 0x400, nx := 16 },
  { off := 0x700044, sx := 0x400, nx := 16 },
  { off := 0x700048, sx := 0x400, nx := 16 },
  { off := 0x70004C, sx := 0x400, nx := 16 },
  { off := 0x700050, sx := 0x400, nx := 16 },
  { off := 0x700054, sx := 0x400, nx := 16 },
  { off := 0x700058, sx := 0x400, nx := 16 },
  { off := 0x70005C, sx := 0x400, nx := 16 },
  { off := 0x704000, rw := 0x13F3F },
  { off := 0x704004, rw := 0xFFFFFFFF, pair := 1 },
  { off := 0x704008, rw := 0xFFFF, pair := 2 },
  { off := 0x70400C, reset := 0x7D0, rw := 0xFFFF },
  { off := 0x704010 },
  { off := 0x704020 },
  { off := 0x704024 },
  { off := 0x704028 },
  { off := 0x70402C },
  { off := 0x704030 }]

/-- Rows of block PANEL. -/
def regRowsPanel : List RegRow := [
  { off := 0x740000, reset := 0xA00, rw := 0x1FF7F },
  { off := 0x740004, rw := 0xFFFFFFFF },
  { off := 0x740008, rw := 0xFFFFFFFF },
  { off := 0x74000C, rw := 0xFFFFFFFF },
  { off := 0x740010, rw := 0xFFFFFFFF },
  { off := 0x740014, reset := 0x258, rw := 0xFFFF },
  { off := 0x740018, reset := 0x3E808, rw := 0xFFFFFF },
  { off := 0x74001C },
  { off := 0x740020 },
  { off := 0x740024 },
  { off := 0x740028, sx := 0x4, nx := 4 },
  { off := 0x740038, reset := 0x3E80000, rw := 0xFFFF0000 },
  { off := 0x740040 },
  { off := 0x740044 },
  { off := 0x740048 },
  { off := 0x740100, rw := 0xFFFFFFFF, sx := 0x40, nx := 32, sy := 0x4, ny := 8 },
  { off := 0x740120, rw := 0xFFFFFFFF, sx := 0x40, nx := 32, sy := 0x4, ny := 8 }]

/-- Rows of block SERDES. -/
def regRowsSerdes : List RegRow := [
  { off := 0x800000, reset := 0x8000, rw := 0x3FFFF3, sx := 0x800, nx := 68 },
  { off := 0x800004, sx := 0x800, nx := 68 },
  { off := 0x800008, reset := 0x10, sx := 0x800, nx := 68 },
  { off := 0x80000C, sx := 0x800, nx := 68 },
  { off := 0x830000 },
  { off := 0x840000, reset := 0x2300, rw := 0xFF07, sx := 0x100, nx := 2 },
  { off := 0x840004, rw := 0x3F3FFF7F, sx := 0x100, nx := 2 },
  { off := 0x840008, w1s := 0x1, sx := 0x100, nx := 2 },
  { off := 0x84000C, sx := 0x100, nx := 2 },
  { off := 0x840010, rw := 0xFFFFFFFF, sx := 0x100, nx := 2, sy := 0x4, ny := 8 }]

/-- Rows of block ORRERY. -/
def regRowsOrrery : List RegRow := [
  { off := 0x900000, reset := 0x18000, rw := 0xFFFF07 },
  { off := 0x900004 },
  { off := 0x900008 },
  { off := 0x90000C, rw := 0xFFFFF000, pair := 1 },
  { off := 0x900010, rw := 0xFF, pair := 2 },
  { off := 0x900014, reset := 0x500100, rw := 0x7F01FF },
  { off := 0x900020, rw := 0xFFFFF000, sx := 0x10, nx := 3, pair := 1 },
  { off := 0x900024, rw := 0xFF, sx := 0x10, nx := 3, pair := 2 },
  { off := 0x900028, rw := 0xFFFFF, sx := 0x10, nx := 3 },
  { off := 0x900050, reset := 0x41019, rw := 0xFFFFFF },
  { off := 0x900054, reset := 0x3A3B, rw := 0x3F3F },
  { off := 0x900058 },
  { off := 0x90005C },
  { off := 0x900060 },
  { off := 0x900070 },
  { off := 0x900074 },
  { off := 0x900078 },
  { off := 0x90007C },
  { off := 0x900080 },
  { off := 0x900084 }]

/-- The rows of the block that holds offset `a`: a block extends from its base to the next base (R744). -/
def regRowsAt (a : Nat) : List RegRow :=
  if a < 0x10000 then regRowsSys else
  if a < 0x20000 then regRowsClk else
  if a < 0x30000 then regRowsTherm else
  if a < 0x40000 then regRowsCal else
  if a < 0x50000 then regRowsFault else
  if a < 0x60000 then regRowsTelem else
  if a < 0x70000 then regRowsAlm else
  if a < 0x80000 then regRowsTwin else
  if a < 0x100000 then regRowsRing else
  if a < 0x200000 then regRowsTile else
  if a < 0x300000 then regRowsPlate else
  if a < 0x400000 then regRowsOcc else
  if a < 0x500000 then regRowsString else
  if a < 0x580000 then regRowsTransit else
  if a < 0x600000 then regRowsRouter else
  if a < 0x680000 then regRowsFixmac else
  if a < 0x6C0000 then regRowsUpmac else
  if a < 0x700000 then regRowsMgmac else
  if a < 0x740000 then regRowsDmx else
  if a < 0x800000 then regRowsPanel else
  if a < 0x900000 then regRowsSerdes else
  if a < 0xA00000 then regRowsOrrery else []

/-- The row covers offset `a`. -/
def RegRow.covers (r : RegRow) (a : Nat) : Bool :=
  if a < r.off then false else
    let d := a - r.off
    let i := if r.nx = 1 then 0 else d / r.sx
    let e := if r.nx = 1 then d else d % r.sx
    let j := if r.ny = 1 then 0 else e / r.sy
    let f := if r.ny = 1 then e else e % r.sy
    decide (i < r.nx) && decide (j < r.ny) && f == 0

/-- The row of the index that names offset `a`. -/
def regRow (a : Nat) : Option RegRow := (regRowsAt a).find? (·.covers a)

/-- The reset word of the register at offset `a`; 0 where the index names none (R745). -/
def resetWord (a : Nat) : Word :=
  match regRow a with
  | some r => BitVec.ofNat 32 r.reset
  | none => 0#32

/-- Outer index of offset `a` inside an array of registers. -/
def RegRow.outer (r : RegRow) (a : Nat) : Nat := if r.nx = 1 then 0 else (a - r.off) / r.sx

/-- Inner index of offset `a` inside an array of registers. -/
def RegRow.inner (r : RegRow) (a : Nat) : Nat :=
  if r.ny = 1 then 0 else (if r.nx = 1 then a - r.off else (a - r.off) % r.sx) / r.sy

/-- Every copy of an array of registers, as offsets. -/
def RegRow.copies (r : RegRow) : List Nat :=
  (List.range r.nx).flatMap fun i => (List.range r.ny).map fun j =>
    r.off + (if r.nx = 1 then 0 else i * r.sx) + (if r.ny = 1 then 0 else j * r.sy)

/-- The rows that the telemetry counter set takes in: names ending in _CNT (18_faults_telemetry.md R705). -/
def counterRows : List Nat := [
  0x70, 0x74, 0x10088, 0x1043C, 0x10848, 0x1084C, 0x20040, 0x20050, 0x30050, 0x30054,
  0x30058, 0x4004C, 0x40060, 0x40064, 0x40068, 0x4006C, 0x40070, 0x40100, 0x40104, 0x40214,
  0x40218, 0x4021C, 0x40288, 0x50020, 0x50024, 0x60080, 0x60084, 0x60088, 0x6008C, 0x60090,
  0x60094, 0x70040, 0x70044, 0x70048, 0x7004C, 0x70050, 0x70054, 0x70058, 0x7005C, 0x70060,
  0x80020, 0x80024, 0x80028, 0x8002C, 0x80030, 0x100020, 0x100024, 0x100028, 0x10002C, 0x100030,
  0x110004, 0x200060, 0x200070, 0x200074, 0x200078, 0x20007C, 0x200080, 0x2002A0, 0x2002A4, 0x2002A8,
  0x2002AC, 0x2002B0, 0x2002B4, 0x2002B8, 0x2002BC, 0x2002C0, 0x2002C4, 0x2002C8, 0x2002CC, 0x210040,
  0x300040, 0x300044, 0x300048, 0x30004C, 0x300050, 0x300054, 0x300058, 0x310014, 0x310018, 0x31001C,
  0x400034, 0x400038, 0x40003C, 0x400C20, 0x400C24, 0x400C28, 0x400C2C, 0x400C30, 0x400C34, 0x500020,
  0x500024, 0x500028, 0x50002C, 0x500030, 0x500034, 0x5100A0, 0x5100A4, 0x5100A8, 0x5100AC, 0x5100B0,
  0x5100B4, 0x5100B8, 0x5100BC, 0x600080, 0x600084, 0x600088, 0x60008C, 0x600090, 0x600094, 0x600098,
  0x60009C, 0x6000A0, 0x6000A4, 0x6000A8, 0x6000AC, 0x640040, 0x640044, 0x640048, 0x64004C, 0x680080,
  0x680084, 0x680088, 0x68008C, 0x680090, 0x680094, 0x680098, 0x68009C, 0x6800A0, 0x6800A4, 0x6800A8,
  0x6800AC, 0x688020, 0x688024, 0x688028, 0x6C0080, 0x6C0084, 0x6C0088, 0x6C008C, 0x6C0090, 0x6C0094,
  0x6C0098, 0x6C009C, 0x6C00A0, 0x6C00A4, 0x6C00A8, 0x6C00AC, 0x700040, 0x700044, 0x700048, 0x70004C,
  0x700050, 0x700054, 0x700058, 0x70005C, 0x704020, 0x704024, 0x704028, 0x70402C, 0x704030, 0x740040,
  0x740044, 0x740048, 0x80000C, 0x900070, 0x900074, 0x900078, 0x90007C, 0x900080]

/-- The offsets of every counter register, in the order of the rows. -/
def counterOffsets : List Nat :=
  counterRows.flatMap fun a => match regRow a with
    | some r => r.copies
    | none => []

end Sys2Proof
end

