-- ==== Sys2Proof/Machine/State.lean ====
section
/-!
DEFINITION. The machine state: every register, ring, buffer, engine and pin the spec gives the block, and the queue of waiting commands.
-/
namespace Sys2Proof.Machine

/-- Why the machine stops. The device reports every error through its own fault unit (R685), so no command raises a fault:
the constructor is here because the interface asks for a type. Safe: nothing stops. -/
inductive Fault where
  /-- Raised by no command. Safe. -/
  | none
  deriving DecidableEq, Repr

/-- Why a command is refused. -/
inductive Refusal where
  /-- A command that has no meaning yet. Raised by its arm of exec only. Safe: the run stops. -/
  | notModelled (mnemonic : String)
  deriving DecidableEq, Repr

/-- A fault record waiting in the fault unit's queue (R686, R687). -/
structure FaultRec where
  code : Nat
  inst : Nat
  mono : Nat
  phase : DWord
  args : List Word
  deriving DecidableEq, Repr

/-- Records dropped since the last summary (R688). -/
structure LostRec where
  code : Nat
  count : Nat
  mono : Nat
  /-- Older records still in the queue. -/
  before : Nat
  deriving DecidableEq, Repr

/-- A hardware ring (R528, R530, R538). -/
structure RingSt where
  /-- Entries at the head, at most 16; every pop is served from it. -/
  head : List Entry := []
  /-- Entries in the spill region. -/
  spill : List Entry := []
  /-- Entries at the tail, at most 16. -/
  tail : List Entry := []
  pushSeq : Nat := 0
  popSeq : Nat := 0
  dropping : Bool := false
  hwm : Nat := 0
  deriving DecidableEq, Repr

/-- One agent's copy of a ring window (R543). -/
structure RingWin where
  stage : Entry := 0
  res : Nat := 0
  popped : Entry := 0
  deriving DecidableEq, Repr

/-- A reference mapping (R51, R54). -/
structure Mapping where
  num : Nat := 25000000
  den : Nat := 3
  origin : Nat := 0
  deriving DecidableEq, Repr

/-- What the Sidereal counter holds beside its registers (R49 to R64, R71 to R75, R750). -/
structure SidSt where
  /-- Frequency and phase terms of the increment, in 2^-64 frame per ns (R49, R56). -/
  fT : Int := 0
  pT : Int := 0
  /-- The selected reference has been valid without a break since this time (R52). -/
  validSince : Option Nat := none
  /-- The last time at which the selected reference was valid. -/
  lastValid : Option Nat := none
  /-- Error of the previous qualified sample that counts for a jump (R62). -/
  prevErr : Option Int := none
  /-- Consecutive samples inside and outside LOCK_THR (R58). -/
  runIn : Nat := 0
  runOut : Nat := 0
  /-- Error before a pending jump (R62). -/
  jumpBase : Option Int := none
  /-- A step is requested; it is armed once the reference is qualified, at the phase given (R63, R64). -/
  stepReq : Bool := false
  armedAt : Option DWord := none
  active : Mapping := {}
  /-- The shadow mapping copied at a REF change or at APPLY, waiting for its sample (R54). -/
  copied : Option Mapping := none
  /-- Index of the last 1 ms period of PTP time that gave a sample. -/
  lastMs : Nat := 0
  /-- Monotonic time of the last FABRIC update. -/
  lastUpd : Option Nat := none
  mediaFails : Nat := 0
  mediaPass : Option Nat := none
  /-- Frame count of the last decoded LTC word. -/
  ltcNum : Option Nat := none
  /-- Mains half cycles counted since EN, last counted edge, last rising edge, period in ns, in range. -/
  mainsHalf : Nat := 0
  mainsEdge : Option Nat := none
  mainsRise : Option Nat := none
  mainsPeriod : Nat := 0
  mainsOut : Bool := false
  /-- Last PPS edge, last edge of the other polarity, last valid PPS edge, expected edges missed since, run of edges above
  PPS_XCHK. -/
  ppsEdge : Option Nat := none
  ppsOff : Option Nat := none
  ppsValid : Option Nat := none
  ppsMiss : Nat := 0
  ppsRun : Nat := 0
  deriving DecidableEq, Repr

/-- PTP time: seconds, ns, a fraction in 1 / (256 × 10^9) ns, and the alignment still being spread over PTP ticks (R67, R72). -/
structure PtpSt where
  sec : Nat := 0
  ns : Nat := 0
  frac : Nat := 0
  spread : Int := 0
  spreadLeft : Nat := 0
  deriving DecidableEq, Repr

/-- A pending Ephemeris entry (R76, R83); `late` when its fire phase had passed at acceptance (R85). -/
structure EphEntry where
  nominal : DWord
  fire : DWord
  act : Word
  a0 : Word
  a1 : Word
  a2 : Word
  a3 : Word
  tag : Word
  late : Bool := false
  deriving DecidableEq, Repr

/-- An action the Ephemeris has issued and its unit has not yet taken (R86, R87). -/
structure Act where
  act : Word
  a0 : Word
  a1 : Word
  a2 : Word
  a3 : Word
  tag : Word
  fire : DWord
  mono : Nat
  outcome : Nat
  lateNs : Nat
  deriving DecidableEq, Repr

/-- One slot of a plate buffer (R229, R232). -/
structure Slot where
  /-- 0 EMPTY, 1 OPEN, 2 SEALED, 3 RETIRING. -/
  state : Nat := 0
  gen : Word := 0
  pins : Nat := 0
  deriving DecidableEq, Repr

/-- A plate buffer (R227). -/
structure PBuf where
  valid : Bool := false
  base : Nat := 0
  slotSize : Nat := 0
  depth : Nat := 0
  auto : Bool := false
  slots : SMap Slot := {}
  deriving DecidableEq, Repr

/-- A launch as one member holds it (R105, R110, R113, R114). -/
structure Kernel where
  gid : Nat
  karg : Word
  kdesc : DWord
  a0 : Word
  rank : Nat
  size : Nat
  lphase : DWord
  entry : DWord
  budget : Nat
  nortx : Bool
  deriving DecidableEq, Repr

/-- A group record of the launch distributor (R112, R121); `alive` lists the members that have not ended. -/
structure Group where
  id : Nat
  karg : Word
  kdesc : DWord
  lphase : DWord
  notify : Bool
  ring : Nat
  alive : List Nat
  done : Nat := 0
  failed : Nat := 0
  deriving DecidableEq, Repr

/-- State of a core: R123 for a field core; for a supervisor core idle is STOPPED (SUPn_STATE). -/
inductive CoreRun where
  | idle | run | wait | held | off
  deriving DecidableEq, Repr

/-- What a core in WAIT waits for (R136, R142, R215). -/
inductive CoreWait where
  | none
  | phase (t : DWord)
  | barT
  | barG
  | wfi
  deriving DecidableEq, Repr

/-- A fence that has not completed (R134). -/
inductive Fence where
  | none | t | d | f
  deriving DecidableEq, Repr

/-- An outstanding local load: its destination, the data it read, the lanes it writes, and the poison it brings (R157, R176). -/
structure LoadOut where
  vec : Bool
  dest : Nat
  value : Vec
  mask : BitVec 8
  addr : Nat
  bad : Bool
  deriving DecidableEq, Repr

/-- One Selmir core (R102 to R106, R123). Register keys: g register n is n, v register n is 32 + n. -/
structure Core where
  g : SMap DWord := {}
  v : SMap Vec := {}
  p : SMap (BitVec 8) := {}
  pc : DWord := 0
  kstat : Word := 0
  fpsr : Word := 0
  rtx : Bool := false
  run : CoreRun := .idle
  wait : CoreWait := .none
  fence : Fence := .none
  /-- The running or last kernel, and when it started. -/
  kernel : Option Kernel := none
  started : Nat := 0
  pend : Option Kernel := none
  loads : List LoadOut := []
  /-- Outstanding remote reads: transaction slot and destination key (R138). -/
  remote : List (Nat × Nat) := []
  /-- Poisoned registers with the address of the load (R157). -/
  poison : SMap (Option Nat) := {}
  /-- Plate pins held: buffer and generation (R152). -/
  pins : List (Nat × Word) := []
  /-- Nodes written since the last FENCE.F, and nodes whose flush of the fence in progress is unanswered (R134). -/
  farNodes : List Nat := []
  flushes : List Nat := []
  evec : DWord := 0
  epc : DWord := 0
  ecause : Word := 0
  eaddr : DWord := 0
  edepth : Nat := 0
  esave0 : DWord := 0
  esave1 : DWord := 0
  ien : DWord := 0
  gie : Bool := false
  deriving DecidableEq, Repr

/-- A region's shape on the output, in 1/8 px (R325, R327, R333). -/
inductive Shape where
  | poly (pts : List (Int × Int))
  | ellipse (c u v : Int × Int)
  | rect (x0 y0 x1 y1 : Int)
  /-- Contains every pixel centre (R333, R367). -/
  | all
  | none
  deriving DecidableEq, Repr

/-- A region of an Occulter (R324, R331, R332). `geo` holds X, Y of the vertices, or CX, CY, UX, UY, VX, VY. -/
structure Region256 where
  feed : Bool := false
  kind : Nat := 0
  nv : Nat := 0
  geo : List Int := []
  feather : Nat := 0
  ceil : Nat := 0
  minceil : Nat := 0
  timeout : Nat := 0
  source : Word := 0
  armed : Bool := false
  /-- 0 DISARMED, 1 FRESH, 2 STALE, 3 COVER, as of the last cut. -/
  state : Nat := 0
  m : Nat := 0
  /-- PTP time in ns, and local monotonic time, of the last refresh. -/
  refPtp : Int := 0
  refMono : Nat := 0
  /-- A refresh since the last cut. -/
  fresh : Bool := false
  /-- The last geometry before an EMPTY one: kind, vertex count, numbers (R333). -/
  last : Option (Nat × Nat × List Int) := none
  /-- The rectangle of the last cut while STALE or COVER (R333). -/
  rect : Shape := .none
  deriving DecidableEq, Repr

/-- A change of R334 that waits for its cut. -/
inductive OccChange where
  /-- WRITE of configuration and geometry, at a PTP and a monotonic time. -/
  | write (r : Nat) (v : Region256)
  | arm (r : Nat) (ptp : Int) (mono : Nat)
  | disarm (r : Nat)
  | refresh (r : Nat) (ptp : Int) (mono : Nat)
  /-- XF_COMMIT of A to F. -/
  | xform (c : List Int)
  | ctrl (w : Word)
  /-- Words W0 to W4 of a Reticle instance. -/
  | inst (k : Nat) (ws : List Word)
  | glyph (store : Nat)
  /-- One item of an accepted feed record: kind 3 (KEEP) leaves the geometry. -/
  | item (src seq : Word) (r kind nv : Nat) (geo : List Int) (ptp : Int) (mono : Nat)
  deriving DecidableEq, Repr

/-- An armed region as the cut fixed it. -/
structure CutRgn where
  no : Nat
  shape : Shape
  ceil : Nat
  minceil : Nat
  feather : Nat
  deriving DecidableEq, Repr

/-- What TCUT names for a cut (R587, R589): the count of register changes and the last SEQ of each source. -/
structure TCut where
  n : Nat
  sf : Nat
  count : Nat
  seqs : List (Word × Word)
  deriving DecidableEq, Repr

/-- One Occulter port (R325, R334, R345 to R354, R587). -/
structure OccPort where
  /-- Transform committed last, and transform in force. -/
  xfCmd : List Int := [0x2000, 0, 0, 0, 0x2000, 0]
  xf : List Int := [0x2000, 0, 0, 0, 0x2000, 0]
  ctrl : Word := 0x8010
  glyph : Option Nat := none
  changes : List OccChange := []
  /-- Register changes applied since the port was enabled. -/
  applied : Nat := 0
  cut : List CutRgn := []
  /-- Start phase that the last cut belongs to. -/
  cutFor : Option DWord := none
  exitPend : Bool := false
  relReq : Bool := false
  /-- Blank hold of R354. -/
  noChan : Bool := false
  tcut : Option TCut := none
  /-- The last cut was aligned with the owner's (R588). -/
  aligned : Bool := true
  /-- SEQ last applied of each feed source (R587). -/
  seqs : List (Word × Word) := []
  deriving DecidableEq, Repr

/-- A feed source entry (R342). -/
structure FeedSrc where
  id : Word
  seq : Word
  last : Nat
  deriving DecidableEq, Repr

/-- A PLATE_LATCH that waits for its target sub-frame, named by its latch phase; no target while the port is off (R238, R239, R244). -/
structure Latch where
  target : Option DWord
  gen : Word
  mask : Nat
  freeOld : Bool
  master : Option Nat
  mesh : Option Bool
  deriving DecidableEq, Repr

/-- A layer of a plate port: the generation it renders from, whether the last sub-frame drew it, and FREE_OLD of the latch that made
the selection (R240, R241). -/
structure Layer where
  held : Option (Nat × Word) := none
  draw : Bool := false
  freeOld : Bool := false
  deriving DecidableEq, Repr

/-- A pin that waits for the completion of a sub-frame before it is released (R241). -/
structure Release where
  buf : Nat
  gen : Word
  freeOld : Bool
  deriving DecidableEq, Repr

/-- A started sub-frame that is not yet complete (R223 to R226, R288 to R299). -/
structure SubFrame where
  n : Nat
  s : Nat
  c : Word
  latch : DWord
  crc : Word
  /-- Array-current value to hand to the bound channel at the latch (R259, R260, R352). -/
  current : Option Nat
  /-- The port streams it; the FS has been sent; only FS and a blank LE are sent; its LN packets were aborted; LE left at. -/
  stream : Bool
  fs : Bool := false
  blank : Bool := false
  void : Bool := false
  latched : Bool := false
  le : Option Nat := none
  leBlank : Bool := false
  te : Bool := false
  lc : Bool := false
  rel : List Release := []
  /-- A code entered the serializer above its limit (R346). -/
  viol : Bool := false
  aligned : Bool := true
  deriving DecidableEq, Repr

/-- A query sent and not answered (R287, R309, R317). -/
structure Query where
  code : Nat
  tag : Nat
  arg : Word
  tries : Nat
  sent : Nat
  deriving DecidableEq, Repr

/-- One plate port with its link (chapters 05 and 06). -/
structure PlatePort where
  act : SMap Word := {}
  lead : Nat := 0
  enAt : Nat := 0
  /-- Phase up to which start phases have been taken. -/
  lastPh : DWord := 0
  latches : List Latch := []
  layers : SMap Layer := {}
  pins : List Release := []
  sfs : List SubFrame := []
  master : Nat := 0
  mesh : Bool := false
  -- the link
  since : Nat := 0
  /-- ENG_DET_L asserted (the pin), and since when it has its level. -/
  det : Bool := false
  detAt : Nat := 0
  rate : Nat := 3
  lanes : Nat := 2
  aligns : Nat := 0
  trained : Bool := true
  capsRaised : Bool := false
  ident : Option (List DWord) := none
  query : Option Query := none
  tag : Nat := 0
  statAt : Nat := 0
  pstate : Nat := 0
  /-- LIGHT or DEEP being entered or left, since when. -/
  pexit : Option Nat := none
  testEnd : Option Nat := none
  /-- No ACK came to three SQ PWR for the power state requested (R317). -/
  pwrFailed : Bool := false
  /-- The last streamed sub-frame has been released (R289). -/
  released : Bool := true
  /-- Time of the last LE EOP that no TE has followed, and of the last TE. -/
  teWait : Option Nat := none
  teAt : Option Nat := none
  stall : Nat := 0
  /-- Last sub-frame whose LE was sent: n, s and its frame CRC. -/
  lastLe : Option (Nat × Nat × Word) := none
  /-- Frame CRCs of the last sub-frames sent, newest first. -/
  crcs : List (Nat × Nat × Word) := []
  /-- Packets sent last: FS, LE and SQ as their SOP and data blocks (R283). -/
  outFs : List DWord := []
  outLe : List DWord := []
  outSq : List DWord := []
  deriving DecidableEq, Repr

/-- A string channel beside its registers (R374 to R393). Its state is STRn_STATUS.STATE. -/
structure StrCh where
  /-- Level of a free channel, as STR_SET and fades set it; a mode may substitute it (R663). -/
  level : Nat := 0
  fade : Option Nat := none
  /-- Entry to the state; class and length of the run of bad conversions; run of GOOD conversions; samples above and not above the
  trip. -/
  since : Nat := 0
  runClass : Nat := 0
  badRun : Nat := 0
  goodRun : Nat := 0
  hot : Nat := 0
  cool : Nat := 0
  /-- Time and class of the last conversion (R390). -/
  convAt : Option Nat := none
  convClass : Nat := 0
  /-- Start and length of the PWM period in progress. -/
  periodAt : Nat := 0
  period : Nat := 0
  probeDue : Bool := false
  /-- A probe is placed in the period in progress; time of the last probe. -/
  probing : Bool := false
  probeAt : Nat := 0
  /-- Entry to UNVERIFIED, or the last STR_UNVERIFIED since. -/
  unverAt : Nat := 0
  /-- DERATE has been raised; DF is back at 0x8000 since. -/
  derated : Bool := false
  dfBack : Option Nat := none
  deriving DecidableEq, Repr

/-- A fade engine (R384, R385). -/
structure Fade where
  active : Bool := false
  ch : Nat := 0
  curve : Nat := 0
  first : Nat := 0
  last : Nat := 0
  dur : Nat := 0
  ph0 : DWord := 0
  value : Nat := 0
  deriving DecidableEq, Repr

/-- An NTC input: conversions in a row outside and inside the limits (R383). -/
structure NtcSt where
  bad : Nat := 0
  good : Nat := 0
  deriving DecidableEq, Repr

/-- Diagnostics of a port's engine (R381, R395 to R399). -/
structure DiagSt where
  /-- MAPSEQ of the last chunk received since READY; offset at which the next chunk continues. -/
  seq : Option Nat := none
  next : Option Nat := none
  passAt : Nat := 0
  /-- FM_ERROR has been raised for a reserved status in this pass, for an unknown format since IDENT. -/
  badRaised : Bool := false
  fmtRaised : Bool := false
  /-- First sub-emitter of the pass that entered OPEN, SHORT, STUCK, UNVERIFIED, by STATE. -/
  first : List (Nat × Nat) := []
  trAt : Option Nat := none
  deriving DecidableEq, Repr

/-- A packet in a link's replay buffer (R411). -/
structure Replay where
  lseq : Nat
  pkt : Pkt
  sent : Bool
  deriving DecidableEq, Repr

/-- A transit link (R405 to R412, R429 to R431). -/
structure TLink where
  queue : List Pkt := []
  replay : List Replay := []
  txSeq : Nat := 0
  rxNext : Nat := 0
  /-- Packets are discarded until the expected one arrives (R409). -/
  nak : Bool := false
  credits : List Nat := [0, 0, 0, 0]
  /-- Credits to return. -/
  give : List Nat := [0, 0, 0, 0]
  /-- VC0 is next when VC2 and VC0 wait (R440). -/
  vc0Next : Bool := false
  /-- Resends of the oldest packet without progress, and the time of the last progress. -/
  tries : Nat := 0
  ackAt : Nat := 0
  /-- The last LLC block sent (R410). -/
  outLlc : DWord := 0
  /-- Entry to the state, valid HELLOs in a row in HELLO, time of the last valid one, when block lock was lost. -/
  since : Nat := 0
  helloRun : Nat := 0
  helloAt : Nat := 0
  lockLost : Option Nat := none
  /-- HELLOs sent: next HSEQ, and departures of the last ones, newest first. -/
  hseq : Nat := 0
  sentAt : List (Nat × Nat) := []
  outHello : List Byte := []
  /-- The last HELLO received: HSEQ, arrival, its ECHO_SEQ and RX_ECHO; UID of the peer. -/
  peer : Option (Nat × Nat × Nat × Nat) := none
  peerUid : DWord := 0
  /-- Delay samples in 2^-16 ns, newest first, at most 16 (R431). -/
  delays : List Nat := []
  /-- Since when a FABRIC link has been UP. -/
  upAt : Option Nat := none
  deriving DecidableEq, Repr

/-- A slot of the non-posted transactions (R32, R415, R425). -/
structure TSlot where
  busy : Bool := false
  /-- Issue count of the slot. -/
  seq : Nat := 0
  /-- 1 RD, 2 FADD, 3 FLUSH. -/
  type : Nat := 1
  op : Nat := 0
  core : Nat := 0
  /-- Destination register key. -/
  key : Nat := 0
  dst : Nat := 0
  addr : Nat := 0
  len : Nat := 0
  data : List Byte := []
  issued : Nat := 0
  first : Nat := 0
  reissues : Nat := 0
  /-- SENT of the target at the FENCE.F. -/
  snap : Word := 0
  /-- An answer has arrived: STATUS and payload. -/
  answer : Option (Nat × List Byte) := none
  /-- A reissue waits since this time. -/
  gap : Option Nat := none
  deriving DecidableEq, Repr

/-- What the endpoint keeps for a node (R424 to R426). -/
structure Tgt where
  late : Bool := false
  fence : Bool := false
  lateCnt : Nat := 0
  sent : Word := 0
  lrcv : Word := 0
  drop : Word := 0
  drcv : Word := 0
  wcnt : Word := 0
  lcnt : Word := 0
  deriving DecidableEq, Repr

/-- The transit unit beside its links, slots and targets. -/
structure Transit where
  /-- Packets the router holds, with the link each arrived on; 16 is this node's endpoint (R195, R439). -/
  inbox : List (Nat × Pkt) := []
  /-- Packets handed to the local endpoint (R420). -/
  epIn : List Pkt := []
  /-- Posted-write count (R415). -/
  postSeq : Nat := 0
  /-- LSA database with the time of each record, and the own LSEQ (R434). -/
  lsas : List (Lsa × Nat) := []
  lsaSeq : Word := 0
  lsaAt : Nat := 0
  grps : List (Grp × Nat) := []
  grpSeq : Word := 0
  /-- The LSA database has changed since the router table was written (R433). -/
  stale : Bool := false
  /-- Nodes reachable at the last table update (R449). -/
  reach : List (BitVec 13) := []
  claimAt : Nat := 0
  /-- LSA last sent on the UP FABRIC links, and GRP records with it. -/
  outLsa : Option Lsa := none
  outGrp : List Grp := []
  /-- Phase master by UID and node ID, a better candidate and since when (R442). -/
  master : Option DWord := none
  better : Option (DWord × Nat) := none
  pseq : BitVec 16 := 0
  phaseAt : Nat := 0
  /-- Acceptance of the last PHASE packet (R444). -/
  phaseRx : Option Nat := none
  /-- PSEQ of the last accepted PHASE, and the PHASE last sent or forwarded with its links. -/
  lastPseq : Option (BitVec 16) := none
  outPhase : Option (PhasePkt × List Nat) := none
  /-- A FABRIC link has been UP since BOOT_DONE; since when none is (R658). -/
  everUp : Bool := false
  downAt : Option Nat := none
  deriving DecidableEq, Repr

/-- Item memory that stays allocated until a frame, with the RETRY window armed over it on this node (R467). -/
structure OHeld where
  node : Nat
  pool : Nat
  addr : Nat
  pages : Nat
  until' : Nat
  win : Option Nat
  deriving DecidableEq, Repr

/-- What the system image's placement engine sends to other nodes; the spec gives these messages no format. -/
inductive OMsg where
  | put (node : Nat) (e : Entry)
  | answer (node ring : Nat) (e : Entry)
  | prepare (id : Nat) (i : OItem)
  | report (node id naddr : Nat)
  | plan (items : List (Nat × OItem)) (epoch : Word)
  | copied (node id : Nat)
  | inv (i : Inv)
  deriving DecidableEq, Repr

/-- The placement engine (R450 to R477). -/
structure Orrery where
  items : SMap OItem := {}
  /-- Inventory records with the time of each (R458). -/
  invs : List (Inv × Nat) := []
  seq : Word := 0
  invAt : Nat := 0
  /-- UID of a better coordinator candidate and since when. -/
  better : Option (DWord × Nat) := none
  /-- Time of the last rebalance round, and whether capacity has been added since. -/
  roundAt : Nat := 0
  added : Bool := false
  /-- Moves chosen and not yet sent as PREPARE: item, NEXT and its partner. -/
  moves : List (Nat × Nat × Option Nat) := []
  /-- Items whose COMMIT is to be sent. -/
  commits : List Nat := []
  held : List OHeld := []
  /-- First core of the block each own item launches on (R454). -/
  blocks : SMap (Option Nat) := {}
  /-- Items whose final copy this node waits for as NEXT, launches held for it, and final copies sent as OWNER (R467). -/
  copyWait : List Nat := []
  heldFire : List EphEntry := []
  copied : List Nat := []
  /-- Messages sent by the last placement command. -/
  out : List OMsg := []
  deriving DecidableEq, Repr

/-- A composer job (R508, R509). -/
structure Job where
  sacn : Bool
  fmt : Nat
  lateDrop : Bool
  vlan : Bool
  mcast : Bool
  count : Nat
  src : Nat
  /-- Pixels per frame, or slots per universe. -/
  per : Nat
  seqBase : Nat
  stream : Word
  univ : Nat
  sync : Nat
  dstIp : Word
  dstUdp : Nat
  srcUdp : Nat
  dstMac : List Byte
  tci : Nat
  tos : Nat
  ttl : Nat
  prio : Nat
  syncSeq : Nat
  latch : DWord
  latchNs : DWord
  /-- By the mode at acceptance: every pixel byte and slot is sent as 0; formed and not sent (R660, R664). -/
  dark : Bool := false
  mute : Bool := false
  /-- A failsafe universe: no latch, and the queue's shaper is ignored (R665). -/
  fs : Bool := false
  /-- Next frame, and the CRC of R583 so far, before its final complement. -/
  next : Nat := 0
  crc : Word := 0xFFFFFFFF
  deriving DecidableEq, Repr

/-- A frame or a job in a transmit queue (R484, R486, R512). -/
structure MItem where
  job : Option Job := none
  lmode : Nat := 0
  lateDrop : Bool := false
  ltime : DWord := 0
  wb : Bool := false
  ts : Bool := false
  cookie : Word := 0
  parts : List (Nat × Nat) := []
  /-- Fire phase of the action that released a HOLD frame (R499). -/
  released : Option DWord := none
  deriving DecidableEq, Repr

/-- The frame in progress on a port, with its transmit stamp as ns and sub-ns (R482, R493). -/
structure TxCur where
  q : Nat
  len : Nat
  item : Option MItem
  status : Nat
  lateNs : Nat
  ns : Nat
  sub : Nat
  deriving DecidableEq, Repr

/-- A received frame in a port's FIFO, with its stamp in 2^-16 ns (R504, R506). -/
structure RxFrame where
  data : List Byte
  orig : Nat
  jabber : Bool
  ptp : Bool
  stamp : Nat
  deriving DecidableEq, Repr

/-- A MAC port beside its registers. -/
structure MPort where
  queues : SMap (List MItem) := {}
  cur : Option TxCur := none
  /-- End of each queue's pause, when it began, and whether PAUSE_LONG has been raised for it (R495, R498). -/
  pause : SMap (Option (Nat × Nat × Bool)) := {}
  /-- Shaper credit in 10^-6 bit, and the time it was last brought up to date (R494). -/
  credit : SMap Int := {}
  creditAt : Nat := 0
  /-- LPI: 0 active, 1 in LPI, 2 waking since `lpiAt` (R501). -/
  lpi : Nat := 0
  lpiAt : Nat := 0
  idleAt : Nat := 0
  fifo : List RxFrame := []
  /-- The FIFO has reached XOFF; time of the last PFC sent; PFC quanta that wait for the frame boundary (R498). -/
  xoff : Option Nat := none
  pfcDue : Option Nat := none
  ident : BitVec 16 := 0
  /-- Write-backs that wait for room in ring TXDONE (R540). -/
  wbWait : List Entry := []
  /-- The last frame sent, FCS included. -/
  sent : List Byte := []
  deriving DecidableEq, Repr

/-- A datagram handed to sACN receive (`st` is none) or to a stream entry: its UDP payload and stamp (R504). -/
structure MacIn where
  port : Nat
  st : Option Nat
  data : List Byte
  stamp : Nat
  deriving DecidableEq, Repr

/-- A VIDEO stream entry: the frame being received and the last extended sequence number (R525). -/
structure StSt where
  ts : Option Word := none
  dropped : Bool := false
  seq : Option Word := none
  deriving DecidableEq, Repr

/-- The MAC block beside its ports. -/
structure Mac where
  /-- Entries of the frame being assembled from each transmit ring, and the ring served next (R484, R486). -/
  asm : SMap (List Entry) := {}
  turn : Bool := false
  /-- Free receive buffers: address, length, cookie (R505). -/
  free : List (Nat × Nat × Word) := []
  inbox : List MacIn := []
  /-- The sequence table (R516); last accepted time of each receive entry (R519). -/
  seqTab : SMap Nat := {}
  sacnAt : SMap (Option Nat) := {}
  streams : SMap StSt := {}
  deriving DecidableEq, Repr

/-- A request in a DMX port's RDM queue (R555, R558, R566). -/
structure DReq where
  /-- 0 a tunnelled GET, 1 a tunnelled SET, 2 DISC_UN_MUTE, 3 DISC_UNIQUE_BRANCH, 4 DISC_MUTE. -/
  kind : Nat
  /-- Pending entry of a GET. -/
  entry : Nat := 0
  node : Nat := 0
  lring : Nat := 0
  duid : Nat := 0
  subdev : Nat := 0
  cc : Nat := 0
  pid : Nat := 0
  pd : List Byte := []
  /-- Branch of a search. -/
  lo : Nat := 0
  hi : Nat := 0
  tries : Nat := 0
  /-- A step of a discovery that a later DISC_FULL has replaced. -/
  old : Bool := false
  deriving DecidableEq, Repr

/-- A discovery that runs on a port: branches still to search, known UIDs still to mute, and the sweep it is (R566, R567). -/
structure Disc where
  full : Bool
  stack : List (Nat × Nat)
  mutes : List Nat
  deriving DecidableEq, Repr

/-- A DMX port beside its registers (R547 to R557). -/
structure DPort where
  /-- 1 idle, 2 level packet, 3 RDM transaction. -/
  act : Nat := 1
  endAt : Nat := 0
  /-- The port buffer, and whether a level packet has been sent. -/
  buf : List Byte := []
  sentOne : Bool := false
  /-- SLOTS of the breaks that wait for the end of a transaction. -/
  waiting : List Nat := []
  lastEnd : Option Nat := none
  queue : List DReq := []
  cur : Option DReq := none
  reqEnd : Nat := 0
  tn : Byte := 0
  disc : Option Disc := none
  sweepAt : Nat := 0
  /-- Sweeps one after another in which a known UID has not answered. -/
  misses : SMap Nat := {}
  /-- Failsafe slots wait for the end of the packet; 25 ms period last served (R665). -/
  fsWait : Bool := false
  fsAt : Nat := 0
  /-- DMXd_DE, and the last packet sent, start code first. -/
  de : Bool := false
  sent : List Byte := []
  deriving DecidableEq, Repr

/-- A pending entry of a tunnelled GET (R562 to R564). -/
structure DPend where
  gen : Nat := 0
  used : Bool := false
  port : Nat := 0
  /-- 0 not ended, 1 a valid response, 2 TIMEOUT. -/
  outcome : Nat := 0
  resp : List Byte := []
  endAt : Nat := 0
  deriving DecidableEq, Repr

/-- A panel input beside its registers (R569, R570). -/
structure PanelIn where
  /-- Time of the first sample of the present raw level. -/
  runAt : Nat := 0
  activeAt : Nat := 0
  edges : List Nat := []
  chatAt : Nat := 0
  deriving DecidableEq, Repr

/-- EMERG_L or DARK_L (R573). -/
structure SafeIn where
  low : Bool := false
  runAt : Nat := 0
  edges : List Nat := []
  chatAt : Nat := 0
  assertAt : Nat := 0
  long : Bool := false
  deriving DecidableEq, Repr

/-- An item of the twin comparison: a sub-frame (kind 1, `a` = n) or a fixture job (kind 2, launch phase in `a`, `b`) (R584). -/
structure TItem where
  kind : Nat
  port : Nat
  s : Nat
  a : Word
  b : Word
  at' : Nat
  own : Option Word := none
  peer : Option Word := none
  /-- PLATEp_SF_CNT of the sub-frame, and whether its cut was aligned (R588). -/
  c : Nat := 0
  aligned : Bool := true
  deriving DecidableEq, Repr

/-- The judgement running, with the own verdict; true is AGREE (R595). -/
structure Judge where
  port : Nat
  s : Nat
  n : Word
  own : Bool
  at' : Nat
  deriving DecidableEq, Repr

/-- The twin unit beside its registers (R576 to R600). -/
structure TwinSt where
  items : List TItem := []
  /-- Mismatches, matches and aligned sub-frames one after another, per plate port (R585, R588, R592). -/
  run : SMap Nat := {}
  good : SMap Nat := {}
  feedGood : SMap Nat := {}
  feedBad : Bool := false
  judge : Option Judge := none
  /-- TJUDGE received before the own judgement started: port, s, n and verdict. -/
  early : Option (Nat × Nat × Word × Bool) := none
  /-- A judgement found this standby faulty (R596). -/
  faulty : Bool := false
  /-- Entry to the state; last heartbeat seen; last pulse driven; TWIN_OWN_L asserted since; PEER negated since. -/
  since : Nat := 0
  hbAt : Nat := 0
  hbOut : Option Nat := none
  ownAt : Nat := 0
  peerAt : Nat := 0
  /-- Takes ownership once PEER is negated, by a judgement or a TYIELD; true for a judgement. -/
  take : Option Bool := none
  /-- Ownership was taken by a judgement or a lost heartbeat; the peer has been ready for a return since (R600). -/
  byFault : Bool := false
  readyAt : Option Nat := none
  /-- Sub-frame named in TYIELD. -/
  yield : Option (Nat × Nat) := none
  /-- Show frame of the last THEALTH received and of the last health word published. -/
  peerFrame : Option Nat := none
  pubFrame : Option Nat := none
  /-- The twin link has been UP since the last TWIN_LINK_DOWN. -/
  linkSeen : Bool := false
  /-- Elements whose self-test failed last, as test × 2^16 + element (R591). -/
  failed : List Nat := []
  tests : Nat := 0
  deriving DecidableEq, Repr

/-- A queued command of the Almanac (R610, R613). -/
structure AlmCmd where
  /-- Agent index of a register copy, or 8 + slot of the mailbox. -/
  who : Nat
  op : Nat
  key : Word := 0
  addr : Nat := 0
  len : Nat := 0
  del : Bool := false
  deriving DecidableEq, Repr

/-- The live record of a key: offset in the active region, SEQ and payload length (R616). -/
structure AlmRec where
  off : Nat
  seq : Word
  len : Nat
  deriving DecidableEq, Repr

/-- The Almanac beside its registers. -/
structure AlmSt where
  queue : List AlmCmd := []
  /-- Area blocks of the active region, by INDEX; none where a block is missing. -/
  blocks : List (Option Nat) := []
  index : SMap (Option AlmRec) := {}
  /-- Blocks of the region a compaction builds. -/
  target : Option (List Nat) := none
  /-- Retired blocks that item 1 of SYSTEM does not list yet. -/
  retired : List Nat := []
  /-- Highest valid erase count the header scan found (R614). -/
  scanMax : Nat := 0
  scrubAt : Nat := 0
  scrubNow : Bool := false
  pollAt : Nat := 0
  /-- Time of the last assertion of PWRFAIL_L. -/
  pfAt : Nat := 0
  deriving DecidableEq, Repr

/-- The Seeing monitor beside its registers (R628 to R636). -/
structure ThermSt where
  /-- T_max of the last sample. -/
  last : Option Int := none
  sampleAt : Nat := 0
  /-- Bit k: limit k is active. -/
  act : Nat := 0
  /-- Consecutive samples at or above the limit, and below LIMIT − HYST, by limit. -/
  hot : List Nat := [0, 0, 0, 0]
  cool : List Nat := [0, 0, 0, 0]
  /-- Consecutive samples near no limit. -/
  quiet : Nat := 0
  /-- More than BROKEN_MAX sensors are broken. -/
  failing : Bool := false
  shedAt : Nat := 0
  inactiveAt : Nat := 0
  changeAt : Nat := 0
  /-- When CONSTRAIN last fell (R655). -/
  consAt : Option Nat := none
  deriving DecidableEq, Repr

/-- The Collimator beside its registers (R640 to R650). -/
structure CalSt where
  running : Option Nat := none
  queue : List Nat := []
  deferred : List Nat := []
  /-- CAL_TSTAT of each target, its count, and its last agreement. -/
  tstat : SMap Nat := {}
  count : SMap Word := {}
  last : SMap (BitVec 48) := {}
  /-- User values in force (R623). -/
  user : SMap (Option Word) := {}
  /-- COMP of the last sample, and the trims applied (R640). -/
  comp : SMap Int := {}
  applied : SMap Int := {}
  /-- Selections (R643). -/
  sel : SMap Nat := {}
  /-- Cell sets that wait for a PWM period start (R650). -/
  cells : SMap (Option (BitVec 72)) := {}
  stepAt : Nat := 0
  autoAt : Nat := 0
  /-- P_meas, and COMP_RC at that measurement (R641). -/
  pMeas : Int := 0x03E80000
  compMeas : Int := 0
  deriving DecidableEq, Repr

/-- Modes, resets, boot and debug beside the SYS registers. -/
structure SysSt where
  /-- Start of the watchdog's count (R669). -/
  wdogAt : Nat := 0
  /-- Nonce last read, and tokens that failed (R679). -/
  nonce : Option (BitVec 128) := none
  authFails : Nat := 0
  /-- Last poll of the mode mailbox (R678). -/
  pollAt : Nat := 0
  /-- UNDER when DORMANT was accepted (R680). -/
  dormUnder : Nat := 2
  deriving DecidableEq, Repr

/-- The scrubbers, the background budget and telemetry beside their registers (R702 to R708). -/
structure FltSt where
  /-- Start of the DRAM and of the SRAM pass, and whether it has been reported late. -/
  dramAt : Nat := 0
  sramAt : Nat := 0
  dramLate : Bool := false
  sramLate : Bool := false
  /-- Start of the background window. -/
  bgAt : Nat := 0
  /-- Images of banks 0 and 1, and the banks being copied out, oldest first. -/
  banks : SMap (List Word) := {}
  copying : List Nat := []
  deriving DecidableEq, Repr

/-- The state of the block. -/
structure State where
  /-- Commands waiting, first in first out (the model's own field). -/
  pending : List Instr := []
  /-- Free values drawn so far (the model's own field, log entry 2). -/
  freeCtr : Nat := 0
  /-- Control registers that differ from their reset words, by offset (R742, R745). -/
  regs : SMap Word := {}
  /-- Registers of which each agent has its own copy, by agent × 2^24 + offset. -/
  aregs : SMap Word := {}
  /-- Read latches of high words, by agent × 2^24 + offset (R12). -/
  latch : SMap (Option Word) := {}
  /-- Staged low words, by agent × 2^24 + offset (R12). -/
  stage : SMap (Option Word) := {}
  /-- Memory of the local address map (R742); an unlisted byte reads 0 (log entry 3). -/
  mem : List Host.Cell := []
  /-- Aligned 8-byte words that hold an uncorrectable error, by address (R701, R751). -/
  ue : SMap Bool := {}
  /-- OTP words, by offset (R748). -/
  otp : SMap Word := {}
  /-- Local monotonic counter, in ns (R45). -/
  mono : Nat := 0
  /-- Sidereal accumulator: the phase is its upper 64 bits (R46). -/
  acc : BitVec 96 := 0
  /-- Fault records waiting for the fault ring (R687). -/
  faultQ : List FaultRec := []
  faultLost : Option LostRec := none
  /-- When each fault raised at most once per second or frame was last raised. -/
  once : SMap (Option Nat) := {}
  rings : SMap RingSt := {}
  /-- Ring windows, by agent × 64 + ring. -/
  ringWins : SMap RingWin := {}
  /-- Hardware sources that hold Occulter minimum mode, per port: bit 0 the fault unit, bit 1 the twin unit (R351). -/
  minSrc : SMap Nat := {}
  /-- Fraction of a ns of the local monotonic counter, in 2^-16 ns (R45 in DORMANT). -/
  monoFrac : Nat := 0
  sid : SidSt := {}
  ptp : PtpSt := {}
  /-- Ephemeris entries, in order of acceptance (R76, R87). -/
  eph : List EphEntry := []
  /-- The 8 ns span of the last firing, entries issued in it, and the time of the last issue (R86). -/
  ephSpan : Nat := 0
  ephSpanCnt : Nat := 0
  ephLast : Nat := 0
  /-- Actions issued and not yet taken by their units, in firing order (R87). -/
  issued : List Act := []
  /-- Phase at which a warm reset began, until BOOT_DONE (R92). -/
  warmW : Option DWord := none
  /-- The time-clock PLL is locked (R578). -/
  tclkOk : Bool := true
  /-- Cores: 0 to 255 field cores, 256 + n supervisor core n. -/
  cores : SMap Core := {}
  /-- Group records, 256 at most (R112). -/
  groups : List Group := []
  /-- Plate buffers 0 to 4,095 (R227). -/
  bufs : SMap PBuf := {}
  ports : SMap PlatePort := {}
  occs : SMap OccPort := {}
  /-- Occulter regions by port × 256 + region: as commanded, and as the last cut fixed them (R324, R334). -/
  rgns : SMap Region256 := {}
  rgnsCut : SMap Region256 := {}
  /-- Reticle instances in force, by port × 256 + instance: W0 to W4 (R360). -/
  insts : SMap (List Word) := {}
  feedSrcs : List FeedSrc := []
  /-- Stuck-on pixels listed per port (R352). -/
  stuckOn : SMap (List (Nat × Nat)) := {}
  /-- Array-current value in force of each port, handed at its last latch (R260). -/
  arrayCur : SMap (Option Nat) := {}
  /-- Binding in force of each string channel: 0 free, 1 + p bound to plate port p (R379). -/
  strBind : SMap Nat := {}
  strs : SMap StrCh := {}
  fades : SMap Fade := {}
  ntcs : SMap NtcSt := {}
  diags : SMap DiagSt := {}
  /-- Show frame of the last evaluation of all fade engines (R387). -/
  fadeFrame : Option Nat := none
  /-- Transit links (R404). -/
  links : SMap TLink := {}
  /-- Non-posted transaction slots 0 to 255 (R32). -/
  tslots : SMap TSlot := {}
  /-- Per-node counts and late-error state (R424 to R426). -/
  tgts : SMap Tgt := {}
  transit : Transit := {}
  orr : Orrery := {}
  macs : SMap MPort := {}
  mac : Mac := {}
  dmx : SMap DPort := {}
  dpend : SMap DPend := {}
  panel : SMap PanelIn := {}
  /-- EMERG_L (0) and DARK_L (1). -/
  safe : SMap SafeIn := {}
  /-- Time of the last panel sample. -/
  sampleAt : Nat := 0
  twin : TwinSt := {}
  alm : AlmSt := {}
  /-- Bytes of the xSPI flash; an erased byte reads 0xFF (R604). -/
  flash : SMap Byte := {}
  therm : ThermSt := {}
  cal : CalSt := {}
  sys : SysSt := {}
  flt : FltSt := {}
  deriving DecidableEq, Repr

/-- The machine right after cold reset: every register at its reset word (R13, R745), SYS_MODE in BOOT, every memory byte
unlisted, every ring, engine and queue empty, and nothing pending. -/
def State.reset : State := {}

end Sys2Proof.Machine
end

