-- ==== Sys2Proof/Machine/Ops.lean ====
section
/-!
DEFINITION. The named operations over registers, memory, the fault unit and the rings that the meanings share.
-/
namespace Sys2Proof.Machine

open Sys2Proof

/-! ### Bit fields -/

/-- Bits [hi:lo] of a word. -/
def wfld (w : Word) (hi lo : Nat) : Nat := w.toNat / 2 ^ lo % 2 ^ (hi + 1 - lo)

/-- The word with bits [hi:lo] replaced. -/
def wset (w : Word) (hi lo v : Nat) : Word :=
  let m : Word := BitVec.ofNat 32 ((2 ^ (hi + 1 - lo) - 1) * 2 ^ lo)
  (w &&& ~~~m) ||| (BitVec.ofNat 32 (v * 2 ^ lo) &&& m)

/-- Bits [hi:lo] of any bit vector, as a number. -/
def bits {n : Nat} (w : BitVec n) (hi lo : Nat) : Nat := w.toNat / 2 ^ lo % 2 ^ (hi + 1 - lo)

/-- A number read as signed in n bits. -/
def sext (n v : Nat) : Int := if v % 2 ^ n < 2 ^ (n - 1) then (v % 2 ^ n : Nat) else ((v % 2 ^ n : Nat) : Int) - (2 ^ n : Nat)

/-- A signed number as an n-bit pattern. -/
def unsigned (n : Nat) (v : Int) : Nat := (v % ((2 ^ n : Nat) : Int)).toNat

/-- Limit a signed number to [lo, hi]. -/
def clampI (lo hi v : Int) : Int := if v < lo then lo else if hi < v then hi else v

/-- The canonical form of memory: addresses strictly rising, and no byte equal to what an unlisted address reads as (log entry 3). -/
def Memory.wf (m : List Host.Cell) : Bool := AList.canonical 0#8 m

/-- 1 for true. -/
def b2n (b : Bool) : Nat := if b then 1 else 0

namespace State

/-! ### Control registers -/

/-- The register at an offset of the control register region. -/
def reg (s : State) (a : Nat) : Word := s.regs.get (resetWord a) a

def setReg (s : State) (a : Nat) (w : Word) : State := { s with regs := s.regs.put (resetWord a) a w }

/-- Field [hi:lo] of a register. -/
def fld (s : State) (a hi lo : Nat) : Nat := wfld (s.reg a) hi lo

def setFld (s : State) (a hi lo v : Nat) : State := s.setReg a (wset (s.reg a) hi lo v)

/-- One bit of a register. -/
def bit (s : State) (a i : Nat) : Bool := s.fld a i i == 1

def setBit (s : State) (a i : Nat) (b : Bool) : State := s.setFld a i i (b2n b)

/-- A wrapping counter register rises by n. -/
def incBy (s : State) (a n : Nat) : State := s.setReg a (s.reg a + BitVec.ofNat 32 n)

def inc (s : State) (a : Nat) : State := s.incBy a 1

/-- A 64-bit quantity of two registers, low word first (R12). -/
def reg64 (s : State) (a : Nat) : DWord := s.reg (a + 4) ++ s.reg a

def setReg64 (s : State) (a : Nat) (v : DWord) : State :=
  (s.setReg a (v.extractLsb' 0 32)).setReg (a + 4) (v.extractLsb' 32 32)

/-- A 40-bit address of two registers. -/
def regAddr (s : State) (a : Nat) : Nat := (s.reg64 a).toNat % 2 ^ 40

/-- A register of which each agent has its own copy (R36). -/
def areg (s : State) (ag a : Nat) : Word := s.aregs.get (resetWord a) (ag * 2 ^ 24 + a)

def setAreg (s : State) (ag a : Nat) (w : Word) : State :=
  { s with aregs := s.aregs.put (resetWord a) (ag * 2 ^ 24 + a) w }

def afld (s : State) (ag a hi lo : Nat) : Nat := wfld (s.areg ag a) hi lo

def areg64 (s : State) (ag a : Nat) : DWord := s.areg ag (a + 4) ++ s.areg ag a

/-! ### Free values -/

/-- A value the spec does not state (log entry 2), and the state that has drawn it. -/
def free (s : State) (n : Nat) : BitVec n := (Config.freeValue s.freeCtr).setWidth n

def drawn (s : State) : State := { s with freeCtr := s.freeCtr + 1 }

/-! ### Phase and frame -/

/-- The Sidereal phase: 32 bits of frame, 32 bits of fraction. -/
def phase (s : State) : DWord := s.acc.extractLsb' 32 64

/-- The show frame. -/
def frame (s : State) : Nat := bits s.phase 63 32

/-- The counter is STOPPED (SID_STATUS.STATE = 0, R58). -/
def stopped (s : State) : Bool := s.fld Reg.SID_STATUS 2 0 == 0

/-! ### Memory -/

/-- One byte of memory. -/
def byte (s : State) (a : Nat) : Byte := AList.find 0#8 a s.mem

def setByte (s : State) (a : Nat) (b : Byte) : State := { s with mem := AList.put 0#8 a b s.mem }

/-- n bytes from address a. -/
def bytes (s : State) (a : Nat) : Nat → List Byte
  | 0 => []
  | n + 1 => s.byte a :: bytes s (a + 1) n

/-- Write bytes from address a, with no effect on error marks. -/
def setBytes (s : State) (a : Nat) : List Byte → State
  | [] => s
  | b :: r => (s.setByte a b).setBytes (a + 1) r

end State

/-- A little-endian number (R6). -/
def leNat : List Byte → Nat
  | [] => 0
  | b :: r => b.toNat + 256 * leNat r

/-- The n low bytes of a number, little-endian. -/
def leBytes : Nat → Nat → List Byte
  | 0, _ => []
  | n + 1, v => BitVec.ofNat 8 v :: leBytes n (v / 256)

/-- A big-endian number, as network packets carry it. -/
def beNat (l : List Byte) : Nat := leNat l.reverse

/-- The n low bytes of a number, big-endian. -/
def beBytes (n v : Nat) : List Byte := (leBytes n v).reverse

namespace State

/-- A little-endian number of n bytes in memory. -/
def memNat (s : State) (a n : Nat) : Nat := leNat (s.bytes a n)

def memWord (s : State) (a : Nat) : Word := BitVec.ofNat 32 (s.memNat a 4)

/-- Write a little-endian number of n bytes. -/
def setMemNat (s : State) (a n v : Nat) : State := s.setBytes a (leBytes n v)

/-- Some byte of [a, a + n) lies in a word with an uncorrectable error. -/
def hasUe (s : State) (a n : Nat) : Bool :=
  (List.range ((a + n + 7) / 8 - a / 8)).any fun i => s.ue.get false ((a / 8 + i) * 8)

def setUe (s : State) (a : Nat) (b : Bool) : State := { s with ue := s.ue.put false (a / 8 * 8) b }

end State

/-- Regions of the local address map (R742). -/
inductive Region where
  | dram | tile | plate | ringWin | supSys | supUser | rom | ctrl | unmapped
  deriving DecidableEq, Repr

def regionOf (a : Nat) : Region :=
  if a < 0x0700000000 then .dram
  else if a < 0x1000000000 then .unmapped
  else if a < 0x1008000000 then .tile
  else if a < 0x1100000000 then .unmapped
  else if a < 0x1104000000 then .plate
  else if a < 0x1200000000 then .unmapped
  else if a < 0x1200040000 then .ringWin
  else if a < 0x1300000000 then .unmapped
  else if a < 0x1300300000 then .supSys
  else if a < 0x1300400000 then .supUser
  else if a < 0x1380000000 then .unmapped
  else if a < 0x1380040000 then .rom
  else if a < 0x1400000000 then .unmapped
  else if a < 0x1401000000 then .ctrl
  else .unmapped

/-- The whole span [a, a + n) lies in plate memory. -/
def inPlate (a n : Nat) : Bool := decide (0x1100000000 ≤ a) && decide (a + n ≤ 0x1104000000)
/-- The whole span lies in DRAM. -/
def inDram (a n : Nat) : Bool := decide (a + n ≤ 0x0700000000)
/-- The whole span lies in tile memory. -/
def inTile (a n : Nat) : Bool := decide (0x1000000000 ≤ a) && decide (a + n ≤ 0x1008000000)
/-- The span lies in DRAM, tile or plate memory. -/
def inBulk (a n : Nat) : Bool := inDram a n || inTile a n || inPlate a n

/-- Offset 0 of the control register region. -/
abbrev ctrlBase : Nat := 0x1400000000

/-! ### The fault unit -/

/-- The reference pair of a lane (R730, R747). -/
def laneRef (n : Nat) : Nat := if n < 32 then 0 else if n < 48 then 1 else if n < 52 then 3 else 2

/-- INST of a field core or a supervisor core (R686). -/
def coreInst (c : CoreId) : Nat := c.val

namespace State

/-- A fault is being handled (R692). -/
def handling (s : State) : Bool := s.bit Reg.FAULT_FIRST_CODE 31

/-- Copy a fault into the capture registers that start at `a` (R691). -/
def captureAt (s : State) (a code inst : Nat) (args : List Word) : State :=
  let ph : DWord := if s.stopped then 0 else s.phase
  (((((s.setReg a (BitVec.ofNat 32 (code + inst * 2 ^ 16 + 2 ^ 31))).setReg64 (a + 4) (BitVec.ofNat 64 s.mono)).setReg64
    (a + 0xC) ph).setReg (a + 0x14) (args.getD 0 0)).setReg (a + 0x18) (args.getD 1 0))

/-- Capture of a fault of class at least CAPT_MIN (R691). -/
def capture (s : State) (code inst : Nat) (args : List Word) : State :=
  if faultClass code < s.fld Reg.FAULT_CTRL 1 0 then s
  else if !s.handling then
    (s.captureAt Reg.FAULT_FIRST_CODE code inst args).setBit Reg.FAULT_STATUS 4 true
  else
    let s := if s.reg Reg.FAULT_SECOND_CNT = 0xFFFFFFFF#32 then s else s.inc Reg.FAULT_SECOND_CNT
    if s.bit Reg.FAULT_SECOND_CODE 31 then s
    else (s.captureAt Reg.FAULT_SECOND_CODE code inst args).setBit Reg.FAULT_STATUS 5 true

/-- An event raised at most once per `period` ns under `key`: it may be raised now. -/
def onceOk (s : State) (key period : Nat) : Bool :=
  match s.once.get none key with
  | none => true
  | some t => decide (t + period ≤ s.mono)

def onceMark (s : State) (key : Nat) : State := { s with once := s.once.put none key (some s.mono) }

/-- The same, at most once per show frame. -/
def onceFrameOk (s : State) (key : Nat) : Bool := s.once.get none (key + 2 ^ 40) != some s.frame

def onceFrameMark (s : State) (key : Nat) : State :=
  { s with once := s.once.put none (key + 2 ^ 40) (some s.frame) }

/-- Queue a record for the fault ring, 256 at most (R687, R688). -/
def queueFault (s : State) (code inst : Nat) (args : List Word) : State :=
  let ph : DWord := if s.stopped then 0 else s.phase
  if s.faultQ.length < 256 then
    let t : State := { s with faultQ := s.faultQ ++ [⟨code, inst, s.mono, ph, args⟩] }
    t.setFld Reg.FAULT_STATUS 24 16 t.faultQ.length
  else
    let s := s.inc Reg.FAULT_LOST_CNT
    { s with faultLost := some (match s.faultLost with
      | none => LostRec.mk code 1 s.mono s.faultQ.length
      | some l => { l with count := l.count + 1 }) }

/-- What raising a fault does before its class action: count, ALERT, capture, queue (R685, R690, R691). -/
def raiseRecord (s : State) (code inst : Nat) (args : List Word) : State :=
  let full := decide (256 ≤ s.faultQ.length)
  let s := s.inc Reg.FAULT_REC_CNT
  let s := s.setBit Reg.FAULT_STATUS (faultClass code) true
  let s := s.capture code inst args
  let s := s.queueFault code inst args
  -- FAULT_LOST, at most once per second; its own record finds the queue full as well (R688)
  if full && s.onceOk Code.SYS_FAULT_LOST 1000000000 then
    let s := s.onceMark Code.SYS_FAULT_LOST
    let s := s.inc Reg.FAULT_REC_CNT
    let s := s.setBit Reg.FAULT_STATUS 1 true
    (s.capture Code.SYS_FAULT_LOST 0 []).queueFault Code.SYS_FAULT_LOST 0 []
  else s

/-- A hardware source (bit `src` of minSrc) puts the port in Occulter minimum mode; entry raises MIN_MODE (R351). -/
def minModeBy (s : State) (p src : Nat) : State :=
  let a := p * 0x4000
  let was := s.bit (Reg.OCC_STATUS + a) 1
  let s := { s with minSrc := s.minSrc.put 0 p (s.minSrc.get 0 p ||| src) }
  let s := (s.setBit (Reg.OCC_STATUS + a) 1 true).setBit (Reg.OCC_STATUS + a) 2 true
  if was then s else s.raiseRecord Code.OCC_MIN_MODE p []

/-- The plate ports a SAFETY or FATAL record affects (R695): the port INST names, or every enabled port. -/
def safePorts (s : State) (code inst : Nat) : List Nat :=
  if (faultBlock code = 8 ∨ faultBlock code = 9) ∧ inst < 4 then [inst]
  else (List.range 4).filter fun p => s.bit (Reg.PLATE_CTRL + p * 0x4000) 0

/-- The action of R695 on one port: minimum mode, or DARK. -/
def safeAct (s : State) (p : Nat) : State :=
  let s := if s.bit Reg.FAULT_CTRL 2 then s.setBit (Reg.PLATE_CTRL + p * 0x4000) 12 true else s.minModeBy p 1
  s.setBit Reg.FAULT_STATUS (8 + p) true

/-- A port leaves STREAM; its sub-frame in progress is no longer sent (R295, R302, R313). -/
def dropStream (s : State) (p : Nat) : State :=
  let v := s.ports.get {} p
  { s with ports := s.ports.put {} p { v with
      sfs := v.sfs.map fun x => if x.le.isNone then { x with stream := false } else x
      released := true
      teWait := none
      stall := 0 } }

/-- The twin output gate closes: gated plate links leave STREAM for READY (R302, R580). -/
def gateShut (s : State) : State :=
  let s := s.setBit Reg.TWIN_STATUS 5 false
  (List.range 4).foldl (fun s p =>
    let a := Reg.PLATE_LINK_STATUS + p * 0x4000
    if s.bit Reg.TWIN_GATE p && s.fld a 3 0 == 6 then
      let s := (s.dropStream p).setFld a 3 0 5
      { s with ports := s.ports.put {} p { s.ports.get {} p with since := s.mono } }
    else s) s

/-- An owner or yielding device enters STANDBY: TWIN_OWN_L is released and the gate closes (R577, R580, R593). -/
def twinToStandby (s : State) : State :=
  let s := ((s.setFld Reg.TWIN_STATUS 2 0 3).setBit Reg.TWIN_STATUS 3 false).gateShut
  { s with twin := { s.twin with since := s.mono, take := none, yield := none, hbOut := none } }

/-- A FATAL fault sets FS_LATCH and moves an owning twin unit to STANDBY (R577, R578, R657). -/
def fatalAct (s : State) : State :=
  let s := s.setBit Reg.SYS_MODE 10 true
  let st := s.fld Reg.TWIN_STATUS 2 0
  if st = 2 ∨ st = 5 then s.twinToStandby else s

/-- Raise a fault (R685 to R695). -/
def raise (s : State) (code inst : Nat) (args : List Word := []) : State :=
  let was := s.handling
  let s := s.raiseRecord code inst args
  let s := if faultClass code = 3 then s.fatalAct else s
  if 2 ≤ faultClass code ∧ was then
    ((s.safePorts code inst).foldl safeAct s).inc Reg.FAULT_NEST_CNT
  else s

/-- Raise a fault that is raised at most once per second for each instance. -/
def raiseSec (s : State) (code inst : Nat) (args : List Word := []) : State :=
  let key := code + 65536 * inst
  if s.onceOk key 1000000000 then (s.onceMark key).raise code inst args else s

/-- Raise a fault that is raised at most once per show frame for each instance. -/
def raiseFrame (s : State) (code inst : Nat) (args : List Word := []) : State :=
  let key := code + 65536 * inst
  if s.onceFrameOk key then (s.onceFrameMark key).raise code inst args else s

/-- Raise a fault that is raised at most once per second, whatever its instance. -/
def raiseSecAll (s : State) (code inst : Nat) (args : List Word := []) : State :=
  if s.onceOk code 1000000000 then (s.onceMark code).raise code inst args else s

/-- Raise a fault that is raised at most once per show frame, whatever its instance. -/
def raiseFrameAll (s : State) (code inst : Nat) (args : List Word := []) : State :=
  if s.onceFrameOk code then (s.onceFrameMark code).raise code inst args else s

/-! ### ECC -/

/-- The memory number of an address: 0 tile, 1 plate, 2 supervisor, 3 ROM, 4 DRAM (R701). -/
def eccMem (a : Nat) : Nat :=
  match regionOf a with
  | .tile => 0
  | .plate => 1
  | .supSys => 2
  | .supUser => 2
  | .rom => 3
  | _ => 4

/-- Count and report an uncorrectable error met at address a by `agent` (R701). -/
def reportUe (s : State) (a agent : Nat) : State :=
  let m := eccMem a
  let s := s.inc (Reg.ECC_UE_CNT + 16 * m)
  let s := s.setReg64 (Reg.ECC_LAST_LO + 16 * m) (BitVec.ofNat 64 (a % 2 ^ 40 + 2 ^ 63))
  s.raiseSec (if m = 4 then Code.DRAM_DRAM_UE else Code.SYS_SRAM_UE) m
    [BitVec.ofNat 32 a, BitVec.ofNat 32 (a / 2 ^ 32 % 256 + agent * 65536)]

/-- Count and report a corrected error at address a met by `agent` (R700). -/
def reportCe (s : State) (a agent : Nat) : State :=
  let m := eccMem a
  (s.inc (Reg.ECC_CE_CNT + 16 * m)).raiseSec (if m = 4 then Code.DRAM_DRAM_CE else Code.SYS_SRAM_CE) m
    [BitVec.ofNat 32 a, BitVec.ofNat 32 (a / 2 ^ 32 % 256 + agent * 65536)]

/-- Store bytes: a partial write of a word that holds an uncorrectable error keeps the mark and is reported (R751);
a write that covers all 8 bytes clears it. -/
def storeWord8 (s : State) (agent w a n : Nat) : State :=
  if !s.ue.get false w then s
  else if a ≤ w ∧ w + 8 ≤ a + n then s.setUe w false
  else s.reportUe w agent

def store (s : State) (agent a : Nat) (bs : List Byte) : State :=
  let n := bs.length
  let s := (List.range ((a + n + 7) / 8 - a / 8)).foldl (fun s i => s.storeWord8 agent ((a / 8 + i) * 8) a n) s
  s.setBytes a bs

/-- A read meets an uncorrectable error somewhere in [a, a + n): report the first word of it. -/
def noteUe (s : State) (agent a n : Nat) : State :=
  match ((List.range ((a + n + 7) / 8 - a / 8)).map fun i => (a / 8 + i) * 8).find? fun w => s.ue.get false w with
  | some w => s.reportUe w agent
  | none => s

end State

/-! ### Rings -/

/-- Word i of a ring entry (R527). -/
def entryWord (e : Entry) (i : Nat) : Word := e.extractLsb' (32 * i) 32

/-- An entry of the given words, word 0 first. -/
def entryOfWords (l : List Word) : Entry :=
  BitVec.ofNat 256 (leNat (l.flatMap fun w => leBytes 4 w.toNat))

/-- Word 0 of an entry of a type with its SOP, EOP, ERR and TS flags (R527). -/
def entryHead (type : Nat) (sop eop err ts : Bool) : Word :=
  BitVec.ofNat 32 (type + b2n sop * 256 + b2n eop * 512 + b2n err * 1024 + b2n ts * 2048)

/-- A one-entry packet of a type and up to seven words. -/
def entryOne (type : Nat) (ws : List Word) : Entry := entryOfWords (entryHead type true true false false :: ws)

def entryType (e : Entry) : Nat := bits e 7 0
def entrySop (e : Entry) : Bool := bits e 8 8 == 1
def entryEop (e : Entry) : Bool := bits e 9 9 == 1

/-- The ring writes its own SEQ into the entry (R528). -/
def entryWithSeq (e : Entry) (q : Nat) : Entry :=
  (e &&& ~~~(0xFFFF0000#256)) ||| BitVec.ofNat 256 (q % 65536 * 65536)

def RingSt.count (r : RingSt) : Nat := r.head.length + r.spill.length + r.tail.length

namespace State

def ring (s : State) (r : Nat) : RingSt := s.rings.get {} r

def setRing (s : State) (r : Nat) (v : RingSt) : State := { s with rings := s.rings.put {} r v }

def ringEn (s : State) (r : Nat) : Bool := s.bit (Reg.RING_CTRL + 0x100 * r) 0

/-- Entries in the spill region when SZ is in force: 0 or 2^SZ (R531). -/
def ringSpillSize (s : State) (r : Nat) : Nat :=
  let z := s.fld (Reg.RING_SPILL_SIZE + 0x100 * r) 4 0
  if z = 0 then 0 else 2 ^ z

def ringCap (s : State) (r : Nat) : Nat := 32 + s.ringSpillSize r

/-- Room for n more entries. -/
def ringRoom (s : State) (r n : Nat) : Bool := s.ringEn r && decide ((s.ring r).count + n ≤ s.ringCap r)

end State

/-- Entries settle between the parts: into the head when nothing is spilled, else from an overfull tail into the spill
region, and from an overfull spill region into the head (R530, R532). -/
def RingSt.settle (spillMax : Nat) (r : RingSt) : RingSt :=
  let r := if r.spill = [] then
      let n := 16 - r.head.length
      { r with head := r.head ++ r.tail.take n, tail := r.tail.drop n }
    else r
  let n := r.tail.length - 16
  let r := { r with spill := r.spill ++ r.tail.take n, tail := r.tail.drop n }
  let n := r.spill.length - spillMax
  { r with head := r.head ++ r.spill.take n, spill := r.spill.drop n }

/-- Accept one entry; it is discarded at once while DROPPING and without SOP (R528, R538). -/
def RingSt.push (spillMax : Nat) (r : RingSt) (e : Entry) : RingSt × Bool :=
  let e' := entryWithSeq e r.pushSeq
  let r := { r with pushSeq := (r.pushSeq + 1) % 65536 }
  if r.dropping && !entrySop e then ({ r with popSeq := (r.popSeq + 1) % 65536 }, true)
  else
    let r := ({ r with tail := r.tail ++ [e'], dropping := false }).settle spillMax
    ({ r with hwm := max r.hwm r.count }, false)

/-- Take the head entry; a head emptied while entries are spilled is refilled first (R532). -/
def RingSt.pop (spillMax : Nat) (r : RingSt) : Option Entry × RingSt :=
  match r.head ++ r.spill ++ r.tail with
  | [] => (none, r)
  | e :: _ =>
    let r := match r.head, r.spill with
      | _ :: h, _ => { r with head := h }
      | [], _ :: t => { r with spill := t }
      | [], [] => { r with tail := r.tail.drop 1 }
    (some e, ({ r with popSeq := (r.popSeq + 1) % 65536 }).settle spillMax)

namespace State

/-- The ring accepts one entry (room has been checked). -/
def ringAccept (s : State) (r : Nat) (e : Entry) : State :=
  let (v, gone) := (s.ring r).push (s.ringSpillSize r) e
  let s := (s.setRing r v).inc (Reg.RING_PUSH_CNT + 0x100 * r)
  if gone then s.inc (Reg.RING_DISCARD_CNT + 0x100 * r) else s

/-- RPUSH and window pushes: true when accepted; a refusal counts in REFUSE_CNT (R537, R540). -/
def ringPush1 (s : State) (r : Nat) (e : Entry) : Bool × State :=
  if s.ringRoom r 1 then (true, s.ringAccept r e)
  else (false, s.inc (Reg.RING_REFUSE_CNT + 0x100 * r))

/-- Drop n entries of a unit at a full or disabled ring (R537, R541). -/
def ringDropUnit (s : State) (r n : Nat) : State :=
  let s := s.incBy (Reg.RING_OVF_CNT + 0x100 * r) n
  if s.ringEn r then (s.setBit (Reg.RING_STATUS + 0x100 * r) 24 true).raiseSec Code.RING_RING_OVF r
  else s.raiseSec Code.RING_DISABLED_PUSH r

/-- A unit pushes a packet as one unit: every entry is accepted, or the packet is dropped and counted (R535, R540). -/
def ringUnit (s : State) (r : Nat) (es : List Entry) : Bool × State :=
  if s.ringRoom r es.length then (true, es.foldl (fun s e => s.ringAccept r e) s)
  else (false, s.ringDropUnit r es.length)

/-- Pop one entry, or the IDLE item whose SEQ is POP_SEQ (R536, R537). -/
def ringPop (s : State) (r : Nat) : Entry × State :=
  let v := s.ring r
  match v.pop (s.ringSpillSize r) with
  | (none, _) => (BitVec.ofNat 256 (v.popSeq * 65536), s)
  | (some e, v') => (e, (s.setRing r v').inc (Reg.RING_POP_CNT + 0x100 * r))

/-- The ring holds an entry (R543). -/
def ringBusy (s : State) (r : Nat) : Bool := (s.ring r).count != 0

/-- Discard from the head until an entry with SOP, or until empty (R538). -/
def ringDropLoop (s : State) (r : Nat) : Nat → Nat × State
  | 0 => (0, s)
  | f + 1 =>
    let v := s.ring r
    match v.head ++ v.spill ++ v.tail with
    | [] => (0, s.setRing r { v with dropping := true })
    | e :: _ =>
      if entrySop e then (0, s)
      else
        let s := (s.setRing r (v.pop (s.ringSpillSize r)).2).inc (Reg.RING_DISCARD_CNT + 0x100 * r)
        let (n, s) := ringDropLoop s r f
        (n + 1, s)

/-- RDROP: the number of entries discarded (R538); a disabled ring discards nothing (R537). -/
def ringDrop (s : State) (r : Nat) : Nat × State :=
  if s.ringEn r then s.ringDropLoop r ((s.ring r).count + 1) else (0, s)

/-- Discard every entry: RESET, or clearing EN (R538, R539). -/
def ringFlush (s : State) (r : Nat) : State :=
  let v := s.ring r
  (s.setRing r { v with head := [], spill := [], tail := [], popSeq := v.pushSeq, dropping := false }).incBy
    (Reg.RING_DISCARD_CNT + 0x100 * r) v.count

/-- IPEND: bit r while ring r is not empty (R161, R543). -/
def ipend (s : State) : DWord :=
  BitVec.ofNat 64 ((List.range 64).foldl (fun n r => n + (if s.ringBusy r then 2 ^ r else 0)) 0)

/-- The ring is the fault ring, the late-error ring or the telemetry ring (R544). -/
def faultRing (s : State) : Nat := s.fld Reg.RING_SYSBIND 5 0
def lateRing (s : State) : Nat := s.fld Reg.RING_SYSBIND 13 8
def telemRing (s : State) : Nat := s.fld Reg.RING_SYSBIND 21 16

/-- Place one late-error entry, or count it lost (R698). -/
def pushLate (s : State) (r : Nat) (e : Entry) : State :=
  if s.ringRoom r 1 then (s.ringAccept r e).inc Reg.FAULT_LATE_CNT
  else (s.inc Reg.FAULT_LATE_LOST_CNT).raiseSec Code.SYS_LATE_LOST 0

/-- The reference pair of lane n is present: without it the lane never locks (R715, R731). -/
def refOk (s : State) (n : Nat) : Bool := s.bit Reg.SERDES_REF_STAT (laneRef n)

/-- ALERT_L is driven low (R690). -/
def alertLow (s : State) : Bool := s.fld Reg.FAULT_STATUS 3 0 &&& s.fld Reg.FAULT_CTRL 7 4 != 0

/-- SYS_MODE.UNDER and MODE codes (R653, R655). -/
def under (s : State) : Nat := s.fld Reg.SYS_MODE 7 4
def mode (s : State) : Nat := s.fld Reg.SYS_MODE 3 0

/-- UNDER is one of the modes that resolve under R655: not COLD, BOOT or DORMANT. -/
def running (s : State) : Bool := !(s.mode == 0 || s.mode == 1 || s.mode == 0xA)

/-- The twin output gate is open (TWIN_STATUS.GATE; it is open while EN = 0, R580). -/
def gateOpen (s : State) : Bool := !s.bit Reg.TWIN_CTRL 0 || s.bit Reg.TWIN_STATUS 5

end State

end Sys2Proof.Machine
end

