-- ==== Sys2Proof/Machine/Access.lean ====
section
/-!
DEFINITION. Who may reach which control register, and what a forbidden access does (01_architecture.md R34 to R38).
-/
namespace Sys2Proof.Machine

open Sys2Proof

/-- Index of an agent's own copies, latches and staging registers. -/
def agIdx : Agent → Nat
  | .sup n => n.val
  | .jtag => 4

/-- INST of an agent (R686). -/
def agInst : Agent → Nat
  | .sup n => 0x100 + n.val
  | .jtag => 0x1FF

/-- The agent is a supervisor core that R34 gives read access only in the system blocks. -/
def agUser : Agent → Bool
  | .sup n => decide (2 ≤ n.val)
  | .jtag => false

/-- Offset `a` lies in a block that cores 2 and 3 may write (R34). -/
def userBlock (a : Nat) : Bool :=
  (decide (0x10000 ≤ a) && decide (a < 0x20000)) || (decide (0x50000 ≤ a) && decide (a < 0x60000))
    || (decide (0x80000 ≤ a) && decide (a < 0x500000)) || (decide (0x600000 ≤ a) && decide (a < 0x6C0000))
    || (decide (0x700000 ≤ a) && decide (a < 0x800000))

/-- The OTP window (R744, R748). -/
def inOtp (a : Nat) : Bool := decide (0xA00000 ≤ a) && decide (a < 0xA02000)

/-- Offset `a` lies in no block (R10, R744). -/
def outsideBlocks (a : Nat) : Bool := decide (0xA02000 ≤ a)

/-- The agent may write (or read) the control register at offset `a` (R34, R36, R37). -/
def mayAccess (ag : Agent) (a : Nat) (write : Bool) : Bool :=
  if outsideBlocks a then false
  else if inOtp a then !write
  else if !write then true
  else !agUser ag || userBlock a || a == Reg.TRANSIT_TGT_SEL || a == Reg.CAL_SEL

namespace State

/-- Debug is open (R679). -/
def debugOpen (s : State) : Bool := s.bit Reg.SYS_BOOT 6

/-- The agent can make an access: the device is out of reset and awake, and debug is unlocked for JTAG (R38, R667, R680). -/
def agentLive (s : State) (ag : Agent) : Bool :=
  !(s.mode == 0 || s.mode == 0xA) && (ag != .jtag || s.debugOpen)

/-- An access that completes with a bus error raises BUS_ERR and changes nothing else (R8, R10, R37, R689). -/
def busError (s : State) (inst a : Nat) (write : Bool) : State :=
  s.raise Code.SYS_BUS_ERR inst
    [BitVec.ofNat 32 a, BitVec.ofNat 32 (a / 2 ^ 32 % 256 + b2n write * 256)]

/-- A write of an agent to the register at offset `a`: `f` is its effect where the access is allowed. -/
def writeBy (s : State) (ag : Agent) (a : Nat) (f : State → State) : State :=
  if !s.agentLive ag then s
  else if mayAccess ag a true then f s
  else s.busError (agInst ag) (ctrlBase + a) true

/-- A read of an agent that has a side effect. -/
def readBy (s : State) (ag : Agent) (a : Nat) (f : State → State) : State :=
  if !s.agentLive ag then s
  else if mayAccess ag a false then f s
  else s.busError (agInst ag) (ctrlBase + a) false

/-- The LOCK bit that governs a row's RWL fields, in the copy of the array that offset `a` belongs to (R17). -/
def locked (s : State) (r : RegRow) (a : Nat) : Bool :=
  match r.lock with
  | none => false
  | some (la, b) => s.bit (la + r.outer a * (if r.nx = 1 then 0 else r.sx)) b

/-- What a register holds after a write of v, by the access codes of its fields (R14, R17). -/
def maskWrite (s : State) (r : RegRow) (a : Nat) (old v : Word) : Word :=
  let m (n : Nat) : Word := BitVec.ofNat 32 n
  let rwl := if s.locked r a then 0 else r.rwl
  let keep := old &&& ~~~(m r.rw ||| m rwl ||| m r.rws)
  let lockBit : Word := match r.lock with
    | some (la, b) => if la + r.outer a * (if r.nx = 1 then 0 else r.sx) = a then old &&& BitVec.ofNat 32 (2 ^ b) else 0
    | none => 0
  let w := keep ||| (v &&& m r.rw) ||| (v &&& m rwl) ||| (v &&& m r.rws) ||| (v &&& m r.w1s) ||| lockBit
  w &&& ~~~(v &&& m r.w1c)

/-- Store a write of an agent by the access codes, with no other effect (R9, R14, R36). -/
def plainWrite (s : State) (ag : Agent) (a : Nat) (v : Word) : State :=
  match regRow a with
  | none => s
  | some r =>
    if r.priv then s.setAreg (agIdx ag) a (s.maskWrite r a (s.areg (agIdx ag) a) v)
    else s.setReg a (s.maskWrite r a (s.reg a) v)

end State

end Sys2Proof.Machine
end

