-- ==== Sys2Proof/Machine/PlateBuf.lean ====
section
/-!
DEFINITION. Plate buffers, generations and pins (05_plate_pipeline.md R227 to R237).
-/
namespace Sys2Proof.Machine

open Sys2Proof

/-- Slot of generation g: g mod DEPTH (R227). -/
def PBuf.slotOf (b : PBuf) (g : Word) : Nat := g.toNat % b.depth

def PBuf.slot (b : PBuf) (i : Nat) : Slot := b.slots.get {} i

def PBuf.setSlot (b : PBuf) (i : Nat) (t : Slot) : PBuf := { b with slots := b.slots.put {} i t }

/-- Every slot is EMPTY. -/
def PBuf.allEmpty (b : PBuf) : Bool := (List.range 4).all fun i => (b.slot i).state == 0

/-- The slot holds g: its state is one of those given. -/
def PBuf.holds (b : PBuf) (g : Word) (states : List Nat) : Bool :=
  b.valid && (b.slot (b.slotOf g)).gen == g && states.contains (b.slot (b.slotOf g)).state

/-- The first generation after g that R227 places in g's slot (R233). -/
def PBuf.nextGen (b : PBuf) (g : Word) : Word :=
  match ((List.range 8).map fun k => g + BitVec.ofNat 32 (k + 1)).find? fun n => b.slotOf n == b.slotOf g with
  | some n => n
  | none => g

/-- The slot of g becomes EMPTY; an AUTO buffer reopens it (R233). -/
def PBuf.empty (b : PBuf) (g : Word) : PBuf :=
  b.setSlot (b.slotOf g) (if b.auto then ⟨1, b.nextGen g, 0⟩ else ⟨0, g, 0⟩)

/-- Bytes [a, a + n) lie in one tile's memory below its scratch slices (R126, R228). -/
def tileBelowScratch (a n : Nat) : Bool :=
  inTile a n && decide ((a - 0x1000000000) % 0x800000 + n ≤ 0x7C0000)

/-- A configuration that R228 refuses. -/
def bufCfgBad (base size depth : Nat) : Bool :=
  base % 64 != 0 || size == 0 || size % 64 != 0 || depth == 0 || decide (4 < depth)
    || !(inPlate base (depth * size) || tileBelowScratch base (depth * size))

namespace State

def buf (s : State) (b : Nat) : PBuf := s.bufs.get {} b

def setBuf (s : State) (b : Nat) (v : PBuf) : State := { s with bufs := s.bufs.put {} b v }

/-- Raise the pin count of the slot that holds g. -/
def bufPin (s : State) (b : Nat) (g : Word) : State :=
  let v := s.buf b
  let t := v.slot (v.slotOf g)
  s.setBuf b (v.setSlot (v.slotOf g) { t with pins := t.pins + 1 })

/-- Lower the pin count; the last unpin empties a RETIRING slot (R229). -/
def bufUnpin (s : State) (b : Nat) (g : Word) : State :=
  let v := s.buf b
  let t := v.slot (v.slotOf g)
  if !v.valid || t.gen != g || t.pins == 0 then s
  else if t.state = 3 ∧ t.pins = 1 then s.setBuf b (v.empty g)
  else s.setBuf b (v.setSlot (v.slotOf g) { t with pins := t.pins - 1 })

/-- Free g: 0 OK, 1 DEFERRED, 3 BADGEN; `report` for a FREE command, not for FREE_OLD (R229, R234, R241). R272 names a port in
INST, and a FREE command has none: a free value (log entry 2). -/
def bufFree (s : State) (b : Nat) (g : Word) (report : Bool) : Nat × State :=
  let v := s.buf b
  let t := v.slot (v.slotOf g)
  if !v.holds g [1, 2, 3] then (3, s)
  else if t.state = 3 then (1, s)
  else if t.pins = 0 then (0, s.setBuf b (v.empty g))
  else
    let s := s.setBuf b (v.setSlot (v.slotOf g) { t with state := 3 })
    if report then (1, ((s.inc Reg.PLATE_DEFER_CNT).drawn).raise Code.PLATE_PREMATURE_FREE (s.free 14).toNat) else (1, s)

/-- SEAL g: 0 OK, 3 BADGEN (R237). -/
def bufSeal (s : State) (b : Nat) (g : Word) : Nat × State :=
  let v := s.buf b
  let t := v.slot (v.slotOf g)
  if v.holds g [1] then (0, s.setBuf b (v.setSlot (v.slotOf g) { t with state := 2 }))
  else if v.holds g [2] then (0, s) else (3, s)

/-- INIT opens every slot from g (R237). -/
def bufInit (v : PBuf) (g : Word) : PBuf :=
  (List.range v.depth).foldl (fun v i => v.setSlot (v.slotOf (g + BitVec.ofNat 32 i)) ⟨1, g + BitVec.ofNat 32 i, 0⟩) v

/-- Result and effect of a buffer operation on the agent's own selection and staging (R236, R237). -/
def bufOp (s : State) (ag op : Nat) : Nat × State :=
  let b := s.afld ag Reg.PLATE_BUF_SEL 11 0
  let v := s.buf b
  let g := s.areg ag Reg.PLATE_BUF_GEN
  match op with
  | 1 =>
    let base := (s.areg64 ag Reg.PLATE_BUF_BASE_LO).toNat % 2 ^ 40
    let size := (s.areg ag Reg.PLATE_BUF_SLOT).toNat
    let depth := s.afld ag Reg.PLATE_BUF_CFG 2 0
    if !v.allEmpty then (2, s)
    else if bufCfgBad base size depth then (4, s)
    else (0, s.setBuf b ⟨true, base, size, depth, s.afld ag Reg.PLATE_BUF_CFG 3 3 == 1, {}⟩)
  | 2 => if !v.valid then (4, s) else if !v.allEmpty then (2, s) else (0, s.setBuf b (bufInit v g))
  | 3 =>
    if !v.valid then (4, s)
    else if (v.slot (v.slotOf g)).state ≠ 0 then (2, s)
    else (0, s.setBuf b (v.setSlot (v.slotOf g) ⟨1, g, 0⟩))
  | 4 => if !v.valid then (4, s) else s.bufSeal b g
  | 5 => if !v.valid then (4, s) else s.bufFree b g true
  | 6 => if !v.allEmpty then (2, s) else (0, s.setBuf b { v with valid := false })
  | _ => (5, s)

/-- A write of an operation to PLATE_BUF_CMD: the result goes to the agent's PLATE_BUF_RES, and a refusal raises BUF_REFUSED
with the buffer in INST and the commanding supervisor core in ARG0 (R237; JTAG is no core: a free value, log entry 2). -/
def bufCmd (s : State) (ag : Agent) (op : Nat) : State :=
  let b := s.afld (agIdx ag) Reg.PLATE_BUF_SEL 11 0
  let (res, s) := s.bufOp (agIdx ag) op
  let s := s.setAreg (agIdx ag) Reg.PLATE_BUF_RES (BitVec.ofNat 32 res)
  if res = 2 ∨ res = 3 ∨ res = 4 then
    match ag with
    | .sup n => s.raise Code.PLATE_BUF_REFUSED b [BitVec.ofNat 32 n.val]
    | .jtag => s.drawn.raise Code.PLATE_BUF_REFUSED b [s.free 32]
  else s

/-- The selected buffer as the registers show it to an agent: BASE, SLOT_SIZE, CFG, slot status (R236). -/
def bufStat (s : State) (ag k : Nat) : Word × Word :=
  let t := (s.buf (s.afld ag Reg.PLATE_BUF_SEL 11 0)).slot k
  (BitVec.ofNat 32 (t.state + t.pins * 16), t.gen)

end State

/-- BUF_CONFIG. -/
def execBufConfig (ag : Agent) (s : State) : Host.Outcome State Fault Refusal :=
  .next (s.writeBy ag Reg.PLATE_BUF_CMD fun s => s.bufCmd ag 1)

/-- BUF_INIT. -/
def execBufInit (ag : Agent) (s : State) : Host.Outcome State Fault Refusal :=
  .next (s.writeBy ag Reg.PLATE_BUF_CMD fun s => s.bufCmd ag 2)

/-- BUF_OPEN. -/
def execBufOpen (ag : Agent) (s : State) : Host.Outcome State Fault Refusal :=
  .next (s.writeBy ag Reg.PLATE_BUF_CMD fun s => s.bufCmd ag 3)

/-- BUF_SEAL. -/
def execBufSeal (ag : Agent) (s : State) : Host.Outcome State Fault Refusal :=
  .next (s.writeBy ag Reg.PLATE_BUF_CMD fun s => s.bufCmd ag 4)

/-- BUF_FREE. -/
def execBufFree (ag : Agent) (s : State) : Host.Outcome State Fault Refusal :=
  .next (s.writeBy ag Reg.PLATE_BUF_CMD fun s => s.bufCmd ag 5)

/-- BUF_RESET. -/
def execBufReset (ag : Agent) (s : State) : Host.Outcome State Fault Refusal :=
  .next (s.writeBy ag Reg.PLATE_BUF_CMD fun s => s.bufCmd ag 6)

/-- BUF_BADOP: operation codes 0 and 7. -/
def execBufBadop (ag : Agent) (seven : Bool) (s : State) : Host.Outcome State Fault Refusal :=
  .next (s.writeBy ag Reg.PLATE_BUF_CMD fun s => s.bufCmd ag (if seven then 7 else 0))

end Sys2Proof.Machine
end

