-- ==== Sys2Proof/Machine/Sidereal.lean ====
section
/-!
DEFINITION. Show phase and time bases (02_sidereal_time.md R41 to R75, R750): the Sidereal counter, its references and loop,
PTP time, PPS and the mains phase.
-/
namespace Sys2Proof.Machine

open Sys2Proof

/-- Signed difference of two phases (R42). -/
def phaseDiff (a b : DWord) : Int := (a - b).toInt

/-- `a` lies strictly before `b` (R42). -/
def phaseBefore (a b : DWord) : Bool := decide (phaseDiff a b < 0)

/-- π as a rational: numerator over 10^18 (log entry 20). -/
def piNum : Int := 3141592653589793238

/-- A quotient rounded to the nearest integer, halves upward (log entry 20). -/
def roundDiv (n : Int) (d : Nat) : Int := (2 * n + d) / (2 * d : Nat)

namespace State

/-! ### Increment and states -/

def sidRef (s : State) : Nat := s.fld Reg.SID_CTRL 3 0
def sidState (s : State) : Nat := s.fld Reg.SID_STATUS 2 0
def incNom (s : State) : Nat := (s.reg64 Reg.SID_INC_NOM_LO).toNat
def refQualified (s : State) : Bool := s.bit Reg.SID_STATUS 3
def jumpPending (s : State) : Bool := s.bit Reg.SID_STATUS 4

/-- The increment in use (R49, R58). -/
def sidInc (s : State) : Int :=
  match s.sidState with
  | 0 => 0
  | 1 => s.incNom
  | 2 => s.sid.fT
  | 5 => s.sid.fT
  | _ => s.sid.fT + s.sid.pT

/-- Phase difference in 2^-32 frame as ns, by SID_INC_NOM (R58, R80). -/
def phaseNs (s : State) (d : Int) : Nat := d.natAbs * 2 ^ 32 / s.incNom

/-- Enter a state of the counter (R58); a change restarts the lock counts. -/
def sidEnter (s : State) (st : Nat) : State :=
  let s := s.setFld Reg.SID_STATUS 2 0 st
  { s with sid := { s.sid with runIn := 0, runOut := 0, pT := if st = 5 ∨ st = 2 then 0 else s.sid.pT } }

/-- HOLDOVER ends once the reference is qualified and no jump is pending; leaving it raises REF_BACK (R58, R59). -/
def leaveHoldover (s : State) : State :=
  if s.sidState = 5 && s.refQualified && !s.jumpPending then (s.sidEnter 4).raise Code.CLK_REF_BACK 0 else s

def clearJump (s : State) : State :=
  let s := s.setBit Reg.SID_STATUS 4 false
  { s with sid := { s.sid with jumpBase := none } }

/-- Disarm a step; JAM clears (R63). -/
def sidDisarm (s : State) : State :=
  let s := s.setBit Reg.SID_CMD 0 false
  { s with sid := { s.sid with stepReq := false, armedAt := none } }

/-- Ask for a step: it is armed at the current phase once the reference is qualified (R63, R64). -/
def sidArm (s : State) : State :=
  { s with sid := { s.sid with stepReq := true, armedAt := if s.refQualified then some s.phase else none } }

/-- The reference is lost: HOLDOVER with REF_LOSS from SLEW or LOCKED (R52, R58, R59). -/
def sidLose (s : State) : State :=
  let s := s.setBit Reg.SID_STATUS 3 false
  let s := { s with sid := { s.sid with validSince := none, armedAt := none, ppsEdge := none, ppsOff := none, ppsMiss := 0 } }
  if s.sidState = 3 ∨ s.sidState = 4 then (s.sidEnter 5).raise Code.CLK_REF_LOSS 0 else s

/-- A phase master whose REF is FABRIC has no reference: a running counter enters HOLDOVER with REF_LOSS (R66). -/
def masterHold (s : State) : State :=
  if s.bit Reg.TRANSIT_PHASE_STAT 16 && s.sidRef == 6 && s.sidState != 0 then
    let s := s.setBit Reg.SID_STATUS 3 false
    let s : State := { s with sid := { s.sid with validSince := none, armedAt := none } }
    if s.sidState = 5 then s else (s.sidEnter 5).raise Code.CLK_REF_LOSS 0
  else s

/-! ### PTP time -/

/-- Denominator of the PTP fraction: 1 / (256 × 10^9) ns, so that PTP_ADJ is exact (R67, R68). -/
def ptpUnit : Nat := 256000000000

/-- PTP_ADJ as in force, signed (R68). -/
def ptpAdj (s : State) : Int := (s.reg Reg.PTP_ADJ).toInt

/-- PTP time in ns and sub-ns as 2^-16 ns. -/
def ptpNs (s : State) : Nat := s.ptp.sec * 1000000000 + s.ptp.ns
def ptpSub (s : State) : Nat := s.ptp.frac * 65536 / ptpUnit

/-- Add an exact amount in fraction units to PTP time, carrying into ns and seconds (R67). -/
def ptpAddUnits (s : State) (u : Int) : State :=
  let t : Int := (s.ptpNs : Int) * ptpUnit + s.ptp.frac + u
  let m : Nat := (t % ((2 ^ 48 * 1000000000 * ptpUnit : Nat) : Int)).toNat
  { s with ptp := { s.ptp with sec := m / ptpUnit / 1000000000, ns := m / ptpUnit % 1000000000, frac := m % ptpUnit } }

/-- A step of PTP time by signed ns; it ends any spread in progress (R69, R72). -/
def ptpStepBy (s : State) (d : Int) : State :=
  let s := s.ptpAddUnits (d * ptpUnit)
  { s with ptp := { s.ptp with spread := 0, spreadLeft := 0 } }

/-! ### References -/

/-- LTC frame rate as a fraction (SID_LTC.RATE, R51). -/
def ltcRate (s : State) : Nat × Nat :=
  match s.fld Reg.SID_LTC 2 0 with
  | 0 => (24, 1)
  | 1 => (25, 1)
  | 2 => (30000, 1001)
  | 3 => (30000, 1001)
  | _ => (30, 1)

def mediaRate (s : State) : Nat :=
  match s.fld Reg.SID_MEDIA 7 6 with
  | 1 => 96000
  | 2 => 90000
  | _ => 48000

/-- Reference units per second, as a fraction (R55). -/
def unitsPerSec (s : State) (ref : Nat) : Nat × Nat :=
  match ref with
  | 1 => (1000000000, 1)
  | 2 => s.ltcRate
  | 3 => (s.mediaRate, 1)
  | 4 => ((s.reg Reg.MAINS_FREQ).toNat, 1000)
  | _ => (1, 1)

/-- The limit of F_T as a divisor of SID_INC_NOM: 1024, or 16 for MAINS (R49). -/
def ftDiv (ref : Nat) : Nat := if ref = 4 then 16 else 1024

/-- REF uses a mapping (R54). -/
def mappedRef (ref : Nat) : Bool := decide (1 ≤ ref) && decide (ref ≤ 5)

/-- The mapping is accepted under R55: no zero term, and the implied rate within the F_T limits of R49. -/
def mapOk (s : State) (ref num den : Nat) : Bool :=
  if !mappedRef ref then true
  else if num = 0 ∨ den = 0 then false
  else
    let (un, ud) := s.unitsPerSec ref
    let a : Int := (un * den * 2 ^ 64 : Nat)
    let b : Int := (ud * num * 1000000000 : Nat)
    decide (((ftDiv ref : Int) * (a - s.incNom * b)).natAbs ≤ s.incNom * b.natAbs)

/-- The shadow mapping (R54). -/
def shadowMap (s : State) : Mapping :=
  ⟨(s.reg Reg.SID_UPF_NUM).toNat, (s.reg Reg.SID_UPF_DEN).toNat, (s.reg64 Reg.SID_ORIGIN_LO).toNat⟩

/-- Target phase of a count in 2^-16 reference units (R51). -/
def sidTarget (m : Mapping) (c16 : Nat) : DWord :=
  let d : Int := (BitVec.ofNat 64 (c16 / 65536) - BitVec.ofNat 64 m.origin).toInt * 65536 + (c16 % 65536 : Nat)
  BitVec.ofInt 64 (d * m.den * 4294967296 / ((m.num * 65536 : Nat) : Int))

/-- The PTP count and the MEDIA count, in 2^-16 units (R51). -/
def ptpCount16 (s : State) : Nat := s.ptpNs * 65536 + s.ptpSub
def mediaCount16At (s : State) (ns16 : Nat) : Nat :=
  ns16 * s.mediaRate / 1000000000 + (s.reg Reg.SID_MEDIA_OFS).toNat * 65536
def mediaCount16 (s : State) : Nat := s.mediaCount16At s.ptpCount16

def lossNs (s : State) : Nat := s.fld Reg.SID_LOSS 15 0 * 1000000

def ptpValid (s : State) : Bool := s.bit Reg.PTP_CTRL 0

/-- A MEDIA packet has passed within LOSS_MS (R51). -/
def mediaFresh (s : State) : Bool :=
  match s.sid.mediaPass with
  | some t => decide (s.mono ≤ t + s.lossNs)
  | none => false

/-- The selected reference is valid now (R51). -/
def refValidNow (s : State) : Bool :=
  match s.sidRef with
  | 0 => false
  | 1 => s.ptpValid
  | 3 => s.ptpValid && s.mediaFresh
  | 6 => match s.sid.lastValid with
    | some t => decide (s.mono ≤ t + s.lossNs)
    | none => false
  | _ => s.sid.validSince.isSome

def noteValid (s : State) : State :=
  { s with sid := { s.sid with lastValid := some s.mono, validSince := match s.sid.validSince with
      | some t => some t
      | none => some s.mono } }

def noteInvalid (s : State) : State := { s with sid := { s.sid with validSince := none } }

/-- The copied mapping becomes active at the next sample; APPLY clears (R54). -/
def activateMap (s : State) : State :=
  match s.sid.copied with
  | none => s
  | some m =>
    let s : State := { s with sid := { s.sid with active := m, copied := none, prevErr := none } }
    s.setBit Reg.SID_CMD 1 false

/-- |e| in 2^-32 frame is at most `ns` ns by SID_INC_NOM (R58, R62). -/
def within (s : State) (e : Int) (ns : Nat) : Bool := decide (e.natAbs * 2 ^ 32 ≤ ns * s.incNom)

/-- Effective loop bandwidth in Hz, as a fraction, for a sample interval of ts ns (R57). -/
def loopBw (s : State) (ts : Nat) : Nat × Nat :=
  let (n, d) : Nat × Nat := match s.fld Reg.SID_CTRL 5 4 with
    | 0 => (1, 10)
    | 1 => (1, 1)
    | 2 => (10, 1)
    | _ => (1, 100)
  if n * ts ≤ 100000000 * d then (n, d) else (100000000, ts)

/-- The loop at one qualified sample of error e (R56). -/
def sidLoop (s : State) (e : Int) (ts : Nat) : State :=
  let (bn, bd) := s.loopBw ts
  let p := roundDiv (e * 4294967296 * 4 * piNum * bn) (10 ^ 18 * bd * 1000000000)
  let lim := s.sid.fT / 1024
  let nom : Int := s.incNom
  let div : Int := ftDiv s.sidRef
  let f := if p < -lim ∨ lim < p then s.sid.fT
    else clampI (nom - nom / div) (nom + nom / div)
      (s.sid.fT + roundDiv (e * 4294967296 * 4 * piNum * piNum * bn * bn * ts) (10 ^ 36 * bd * bd * 1000000000 * 1000000000))
  let lim := f / 1024
  { s with sid := { s.sid with fT := f, pT := clampI (-lim) lim p } }

/-- Count a sample inside or outside LOCK_THR (R58). -/
def lockCount (s : State) (e : Int) : State :=
  if s.within e (s.fld Reg.SID_LOOP 15 0) then
    { s with sid := { s.sid with runIn := s.sid.runIn + 1, runOut := 0 } }
  else { s with sid := { s.sid with runIn := 0, runOut := s.sid.runOut + 1 } }

/-- A jump under JUMP_POL: HOLD enters HOLDOVER with JUMP_PENDING, STEP arms a step (R62). -/
def sidJump (s : State) (e before : Int) : State :=
  let s := s.raise Code.CLK_REF_JUMP 0
  let s : State := { s with sid := { s.sid with prevErr := some e } }
  if s.bit Reg.SID_CTRL 6 then s.sidArm
  else
    let s : State := { s with sid := { s.sid with jumpBase := some (s.sid.jumpBase.getD before) } }
    let s := s.setBit Reg.SID_STATUS 4 true
    if s.sidState = 3 ∨ s.sidState = 4 then s.sidEnter 5 else s

/-- A qualified sample with target phase T and sample interval ts ns (R56 to R58, R62). -/
def sidSample (s : State) (t : DWord) (ts : Nat) : State :=
  let e := phaseDiff t s.phase
  let thr := s.fld Reg.SID_JUMP 15 0 * 1000
  let s := s.setReg Reg.SID_ERR (BitVec.ofInt 32 (clampI (-2147483648) 2147483647 e))
  let back := match s.sid.jumpBase with
    | some b => s.jumpPending && s.within (e - b) thr
    | none => false
  let jump := match s.sid.prevErr with
    | some p => !back && !s.within (e - p) thr
    | none => false
  let s := if back then s.clearJump else s
  let before := s.sid.prevErr.getD e
  let s : State := { s with sid := { s.sid with prevErr := some e } }
  let s := if jump then s.sidJump e before else s
  let s := s.leaveHoldover
  if s.sidState = 5 ∨ s.sidState = 0 ∨ s.sidState = 1 then s
  else
    let s := if s.sidState = 2 then s.sidEnter 4 else s
    (s.sidLoop e ts).lockCount e

/-- A sample of reference `ref` with count c16: it is used when valid, qualified and the counter runs (R51, R52, R54). -/
def refSample (s : State) (ref c16 ts : Nat) (valid : Bool) : State :=
  if s.sidRef ≠ ref then s
  else
    let s := s.activateMap
    if !valid then s.noteInvalid
    else
      let s := s.noteValid
      if s.refQualified && s.sidState != 0 then s.sidSample (sidTarget s.sid.active c16) ts else s

/-- A phase update of the phase master: the target is its phase (R51, R65). -/
def fabricSample (s : State) (target : DWord) : State :=
  if s.sidRef ≠ 6 then s
  else
    let gap := match s.sid.lastUpd with
      | some t => s.mono - t
      | none => 1000000
    let s := match s.sid.lastValid with
      | some t => if s.mono ≤ t + s.lossNs then s else s.noteInvalid
      | none => s
    let s := s.noteValid
    let s : State := { s with sid := { s.sid with lastUpd := some s.mono } }
    if s.refQualified && s.sidState != 0 then s.sidSample target gap else s

/-- The target phase at this instant, for a step: from PTP time for PTP and MEDIA, else the phase moved by the last error
(R64; log entry 21). -/
def stepTarget (s : State) : DWord :=
  match s.sidRef with
  | 1 => sidTarget s.sid.active s.ptpCount16
  | 3 => sidTarget s.sid.active s.mediaCount16
  | _ => s.phase + BitVec.ofInt 64 (s.sid.prevErr.getD 0)

/-! ### Mains -/

/-- The mains phase now, as a 32-bit fraction of a cycle (R74, R75): 0 at the rising zero-cross, the filter delay removed;
frozen while out of range. -/
def mainsPhase (s : State) : Nat :=
  if !s.bit Reg.MAINS_CTRL 0 then 0
  else match s.sid.mainsRise with
    | none => 0
    | some t =>
      if s.sid.mainsOut ∨ s.sid.mainsPeriod = 0 then (s.reg Reg.MAINS_PHASE).toNat
      else (s.mono - t + s.fld Reg.MAINS_CTRL 15 8 * 1000) * 2 ^ 32 / s.sid.mainsPeriod % 2 ^ 32

/-- MAINS_CTRL: setting EN starts the loop and its cycle count afresh (R74). -/
def mainsCtrlWrite (s : State) (ag : Agent) (v : Word) : State :=
  let was := s.bit Reg.MAINS_CTRL 0
  let s := s.plainWrite ag Reg.MAINS_CTRL v
  if !was && s.bit Reg.MAINS_CTRL 0 then
    { s with sid := { s.sid with mainsHalf := 0, mainsEdge := none, mainsRise := none, mainsPeriod := 0, mainsOut := false } }
  else s

/-! ### Register writes of the block -/

/-- A change of REF (R52, R54, R62, R63). -/
def refChange (s : State) (ref : Nat) : State :=
  let s := s.clearJump
  let s := s.setBit Reg.SID_STATUS 3 false
  let s : State := { s with sid := { s.sid with
      copied := if mappedRef ref then some s.shadowMap else none,
      validSince := if ref = 1 ∧ s.ptpValid then some s.mono else none,
      lastValid := none, lastUpd := none, armedAt := none, ltcNum := none, mediaPass := none, mediaFails := 0,
      ppsEdge := none, ppsOff := none, ppsValid := none, ppsMiss := 0 } }
  let s := if mappedRef ref then s else s.setBit Reg.SID_CMD 1 false
  if ref = 0 then s.sidDisarm else s

/-- Entry to ACQUIRE: P_T is 0 and no earlier sample counts for a jump (R58, R62). -/
def sidAcquire (s : State) (fromNom : Bool) : State :=
  let s := s.sidEnter 2
  { s with sid := { s.sid with prevErr := none, fT := if fromNom then (s.incNom : Int) else s.sid.fT } }

/-- The fields of a write to SID_CTRL whose REF is no reserved code (R54, R55, R58, R60, R62, R63). -/
def sidCtrlFields (s : State) (v : Word) : State :=
  let ref := wfld v 3 0
  let old := s.sidRef
  let wasRun := s.bit Reg.SID_CTRL 7
  let m := s.mode
  let keepRun := wasRun && (m == 3 || m == 4 || m == 5 || m == 6 || m == 9)
  let run := wfld v 7 7 == 1 || keepRun
  let bad := ref != old && !s.mapOk ref s.shadowMap.num s.shadowMap.den
  let ref := if bad then old else ref
  let s := s.setReg Reg.SID_CTRL (wset (wset (v &&& 0xFF#32) 3 0 ref) 7 7 (b2n run))
  let s := if bad then s.raise Code.CLK_CFG_ERR 0 else s
  let st := s.sidState
  let s := if ref ≠ old then s.refChange ref else s
  if !run then if st = 0 then s else (s.sidDisarm).sidEnter 0
  else if st = 0 then
    if ref = 0 then
      let s : State := { s with sid := { s.sid with fT := s.incNom, pT := 0 } }
      s.sidEnter 1
    else s.sidAcquire true
  else if ref = old then s
  else if ref = 0 then s.sidEnter 1
  else s.sidAcquire (st == 1)

/-- A write to SID_CTRL: one of a reserved REF is ignored (R51); a phase master that follows FABRIC goes on to HOLDOVER (R66). -/
def sidCtrlEffect (s : State) (v : Word) : State :=
  if 7 ≤ wfld v 3 0 then s.raise Code.CLK_CFG_ERR 0 else (s.sidCtrlFields v).masterHold

/-- Setting SID_CMD.JAM (R63). -/
def sidJamEffect (s : State) : State :=
  if s.sidRef = 0 then s else (s.setBit Reg.SID_CMD 0 true).sidArm

/-- Setting SID_CMD.APPLY (R54, R55, R62). -/
def sidApplyEffect (s : State) : State :=
  let s := s.clearJump
  let s := if !mappedRef s.sidRef then s
    else if s.mapOk s.sidRef s.shadowMap.num s.shadowMap.den then
      let s : State := { s with sid := { s.sid with copied := some s.shadowMap } }
      s.setBit Reg.SID_CMD 1 true
    else s.raise Code.CLK_CFG_ERR 0
  s.leaveHoldover

/-- A committed write of SID_INC_NOM (R48). -/
def sidIncNomEffect (s : State) (v : DWord) : State :=
  if v.toNat < 0x6714_4770E9 ∨ 0x80D_9594_D235 < v.toNat then s.raise Code.CLK_CFG_ERR 0
  else s.setReg64 Reg.SID_INC_NOM_LO v

/-- A committed write of an output offset: −16 to +16 frames, else ignored with CFG_ERR (R94). -/
def sidOfsEffect (s : State) (a : Nat) (v : DWord) : State :=
  if v.toInt < -(16 * 2 ^ 32) ∨ 16 * 2 ^ 32 < v.toInt then s.raise Code.CLK_CFG_ERR 0 else s.setReg64 a v

/-- Setting PTP_CMD.SET: load PTP time, sub-ns 0; an NS above 999,999,999 loads as 999,999,999 (R69). -/
def ptpSetEffect (s : State) : State :=
  let sec := (s.reg Reg.PTP_SET_SEC_LO).toNat + 2 ^ 32 * s.fld Reg.PTP_SET_SEC_HI 15 0
  { s with ptp := { sec := sec, ns := min (s.reg Reg.PTP_SET_NS).toNat 999999999, frac := 0, spread := 0, spreadLeft := 0 } }

/-- Setting PTP_CMD.STEP adds the signed PTP_STEP (R69). -/
def ptpStepEffect (s : State) : State := s.ptpStepBy (s.reg Reg.PTP_STEP).toInt

/-- PTP_ADJ is clamped to ±256,000,000 (R68). -/
def ptpAdjEffect (s : State) (v : Word) : State :=
  s.setReg Reg.PTP_ADJ (BitVec.ofInt 32 (clampI (-256000000) 256000000 v.toInt))

/-- PTP_CTRL: VALID is the level that makes the PTP reference valid (R51, R52); a change of PPS_EDGE makes the other polarity's
last edge the one that the next interval starts from (R71, R750). -/
def ptpCtrlEffect (s : State) (v : Word) : State :=
  let was := s.ptpValid
  let edge := s.bit Reg.PTP_CTRL 3
  let s := s.setReg Reg.PTP_CTRL (v &&& 0xF#32)
  let s : State := if s.bit Reg.PTP_CTRL 3 = edge then s
    else { s with sid := { s.sid with ppsEdge := s.sid.ppsOff, ppsOff := s.sid.ppsEdge } }
  if s.sidRef = 1 ∨ s.sidRef = 3 then
    if was && !s.ptpValid then
      { s with sid := { s.sid with lastValid := some s.mono, validSince := none } }
    else if !was && s.ptpValid && s.sidRef = 1 then
      { s with sid := { s.sid with validSince := some s.mono } }
    else s
  else s

end State

/-! ### The commands -/

/-- SIDEREAL_TICK: n cycles add the increment to the accumulator, while the time clock runs (R46). -/
def execSiderealTick (n : Nat) (s : State) : Host.Outcome State Fault Refusal :=
  if s.mode = 0xA then .next s
  else .next { s with acc := s.acc + BitVec.ofInt 96 (s.sidInc * n) }

/-- MONO_TICK: 1 ns a cycle; in DORMANT one cycle of the low-power clock, 1,000 ns as corrected by CAL_RC_PERIOD (R45, R641). -/
def execMonoTick (n : Nat) (s : State) : Host.Outcome State Fault Refusal :=
  if s.mode = 0xA then
    let t := s.monoFrac + n * (s.reg Reg.CAL_RC_PERIOD).toNat
    .next { s with mono := s.mono + t / 65536, monoFrac := t % 65536 }
  else .next { s with mono := s.mono + n }

/-- PTP_CLOCK_TICK: each cycle adds 1 ns × (1 + PTP_ADJ / (256 × 10^9)) and the share of an alignment being spread (R67, R72). -/
def execPtpClockTick (n : Nat) (s : State) : Host.Outcome State Fault Refusal :=
  if s.mode = 0xA then .next s
  else
    let k := min n s.ptp.spreadLeft
    let s := s.ptpAddUnits ((n : Int) * ((State.ptpUnit : Int) + s.ptpAdj) + (k : Int) * 2560 * s.ptp.spread)
    .next { s with ptp := { s.ptp with spreadLeft := s.ptp.spreadLeft - k } }

/-- PTP_SAMPLE_TICK: each 1 ms of PTP time gives one PTP or MEDIA sample (R51). -/
def execPtpSampleTick (s : State) : Host.Outcome State Fault Refusal :=
  let i := s.ptpNs / 1000000
  if i = s.sid.lastMs then .next s
  else
    let s : State := { s with sid := { s.sid with lastMs := i } }
    .next <| match s.sidRef with
      | 1 => s.refSample 1 s.ptpCount16 1000000 s.ptpValid
      | 3 => s.refSample 3 s.mediaCount16 1000000 (s.ptpValid && s.mediaFresh)
      | _ => s

/-- SIDEREAL_LOCK_CHANGE (R58). -/
def execSiderealLockChange (s : State) : Host.Outcome State Fault Refusal :=
  let need := max 1 (s.fld Reg.SID_LOOP 23 16)
  if s.sidState = 4 ∧ need ≤ s.sid.runIn then .next (s.sidEnter 3)
  else if s.sidState = 3 ∧ need ≤ s.sid.runOut then .next (s.sidEnter 4)
  else .next s

/-- Frame count of a timecode from 00:00:00:00; drop-frame numbering at the drop-frame rate (R51). -/
def ltcCount (drop : Bool) (rate hh mm ss ff : Nat) : Nat :=
  let n := ((hh * 60 + mm) * 60 + ss) * rate + ff
  let m := hh * 60 + mm
  if drop then n - 2 * (m - m / 10) else n

/-- BCD of a two-digit number. -/
def bcd (n : Nat) : Nat := n / 10 % 10 * 16 + n % 10

/-- LTC_SYNC_WORD: a word that decodes and numbers consecutively gives a sample at its end; another counts as failing (R51, R99). -/
def execLtcSyncWord (ok : Bool) (hh mm ss ff : Nat) (s : State) : Host.Outcome State Fault Refusal :=
  if s.sidRef ≠ 2 then .next s
  else
    let code := s.fld Reg.SID_LTC 2 0
    let (rn, rd) := s.ltcRate
    let rate := (rn + rd - 1) / rd
    let n := ltcCount (code == 2) rate hh mm ss ff
    let inSeq := match s.sid.ltcNum with
      | none => true
      | some p => n == p + 1 || (n == 0 && p == ltcCount (code == 2) rate 23 59 59 (rate - 1))
    let s : State := { s with sid := { s.sid with ltcNum := if ok then some n else s.sid.ltcNum } }
    if ok && inSeq then
      let s := s.setReg Reg.SID_LTC_TC (BitVec.ofNat 32 (bcd ff + bcd ss * 2 ^ 8 + bcd mm * 2 ^ 16 + bcd hh * 2 ^ 24))
      .next (s.refSample 2 ((n + 1) * 65536) (1000000000 * rd / rn) true)
    else .next ((s.refSample 2 0 0 false).raiseSec Code.CLK_LTC_WORD 0)

/-- MEDIA_RTP_PACKET: the RTP check of the selected stream (R53). -/
def execMediaRtpPacket (uplink stream : Nat) (rtp : Word) (agoNs : Nat) (s : State) : Host.Outcome State Fault Refusal :=
  if s.sidRef ≠ 3 ∨ uplink ≠ s.fld Reg.SID_MEDIA 1 0 ∨ stream ≠ s.fld Reg.SID_MEDIA 5 2 then .next s
  else
    let c := s.mediaCount16At (s.ptpCount16 - agoNs * 65536) / 65536
    let d := (BitVec.ofNat 32 c - rtp).toInt
    if 0 ≤ d ∧ d ≤ s.fld Reg.SID_MEDIA 23 8 then
      let fresh := s.mediaFresh
      let s : State := { s with sid := { s.sid with mediaPass := some s.mono, mediaFails := 0 } }
      let s := if fresh then s else s.noteInvalid
      .next (if s.ptpValid then s.noteValid else s)
    else
      let s : State := { s with sid := { s.sid with mediaFails := s.sid.mediaFails + 1 } }
      .next (if s.sid.mediaFails = 16 then s.raise Code.CLK_MEDIA_MISMATCH 0 else s)

/-- MAINS_ZC_EDGE: a filtered edge of the polarity in use advances the mains loop and gives a sample (R74, R75). -/
def execMainsZcEdge (rising : Bool) (s : State) : Host.Outcome State Fault Refusal :=
  let both := s.bit Reg.MAINS_CTRL 1
  if !s.bit Reg.MAINS_CTRL 0 || !(rising || both) then .next s
  else
    let gap := match s.sid.mainsEdge with
      | some t => s.mono - t
      | none => 0
    let period := if both then 2 * gap else gap
    let f := if period = 0 then 0 else 1000000000000 / period
    let out := period != 0 && (decide (f < 45000) || decide (65000 < f))
    let fresh := out && !s.sid.mainsOut
    let still := s.mainsPhase
    let ph := (if rising then 0 else 2 ^ 31) + (if period = 0 then 0 else s.fld Reg.MAINS_CTRL 15 8 * 1000 * 2 ^ 32 / period)
    let s : State := { s with sid := { s.sid with
        mainsHalf := s.sid.mainsHalf + (if both then 1 else 2), mainsEdge := some s.mono, mainsPeriod := period,
        mainsRise := some (if rising then s.mono else s.mono - period / 2), mainsOut := out } }
    let s := s.setReg Reg.MAINS_FREQ (BitVec.ofNat 32 f)
    let s := if !out then s.setReg Reg.MAINS_PHASE (BitVec.ofNat 32 ph)
      else if fresh then s.setReg Reg.MAINS_PHASE (BitVec.ofNat 32 still) else s
    let s := if fresh then s.raise Code.CLK_MAINS_RANGE 0 else s
    let c16 := s.sid.mainsHalf / 2 * 65536 + ph % 2 ^ 32 / 65536
    .next (s.refSample 4 c16 gap (!out && period != 0))

/-- PPS_IN_EDGE of the polarity in use: capture, count, sample, and alignment or cross-check of PTP time (R71 to R73, R750). -/
def execPpsInEdge (rising : Bool) (s : State) : Host.Outcome State Fault Refusal :=
  if rising == s.bit Reg.PTP_CTRL 3 then .next { s with sid := { s.sid with ppsOff := some s.mono } }
  else
    let diff : Int := if 500000000 ≤ s.ptp.ns then (s.ptp.ns : Int) - 1000000000 else s.ptp.ns
    let s := s.setReg Reg.PPS_CAPT_NS (BitVec.ofNat 32 s.ptp.ns)
    let s := s.setReg Reg.PPS_CAPT_SEC_LO (BitVec.ofNat 32 s.ptp.sec)
    let s := s.setReg64 Reg.SID_CAPT_PPS_LO s.phase
    let s := s.inc Reg.PPS_CNT
    let s := s.setReg Reg.PPS_DIFF (BitVec.ofInt 32 diff)
    let ok := match s.sid.ppsEdge with
      | some t => decide (999900000 ≤ s.mono - t) && decide (s.mono - t ≤ 1000100000)
      | none => false
    let s : State := { s with sid := { s.sid with
        ppsEdge := some s.mono,
        ppsValid := if ok then some s.mono else s.sid.ppsValid,
        ppsMiss := if ok then 0 else s.sid.ppsMiss } }
    let s := s.refSample 5 ((s.reg Reg.PPS_CNT).toNat * 65536) 1000000000 ok
    .next <|
      if s.bit Reg.PTP_CTRL 1 && s.bit Reg.PTP_CTRL 2 then
        if 1000000 < diff.natAbs then s.ptpStepBy (-diff)
        else { s with ptp := { s.ptp with spread := Int.tdiv (-diff) 4, spreadLeft := 100000000 } }
      else if (s.reg Reg.PPS_XCHK).toNat < diff.natAbs then
        let s : State := { s with sid := { s.sid with ppsRun := s.sid.ppsRun + 1 } }
        if s.sid.ppsRun = 3 then s.raise Code.CLK_PPS_MISMATCH 0 else s
      else { s with sid := { s.sid with ppsRun := 0 } }

/-- PPS_EDGE_MISSING: the k-th expected edge is missing once k s + 100 µs have passed since the last valid edge (R750). -/
def execPpsEdgeMissing (s : State) : Host.Outcome State Fault Refusal :=
  match s.sid.ppsValid with
  | none => .next s
  | some v =>
    let k := s.sid.ppsMiss + 1
    if s.sidRef = 5 ∧ k ≤ 3 ∧ v + k * 1000000000 + 100000 ≤ s.mono then
      let s : State := { s with sid := { s.sid with ppsMiss := k, validSince := none } }
      if k = 3 then
        let s : State := { s with sid := { s.sid with ppsValid := none } }
        .next s.sidLose
      else .next s
    else .next s

/-- When validity of the selected reference ended, and how long after it the reference is lost (R51). -/
def State.lossDue (s : State) : Bool :=
  let after (t : Option Nat) (d : Nat) : Bool := match t with
    | some t => decide (t + d ≤ s.mono)
    | none => false
  match s.sidRef with
  | 1 => !s.ptpValid && after s.sid.lastValid s.lossNs
  | 2 => after s.sid.lastValid (3 * 1000000000 * s.ltcRate.2 / s.ltcRate.1)
  | 3 => after s.sid.mediaPass (2 * s.lossNs) || (!s.ptpValid && after s.sid.lastValid s.lossNs)
  | 4 => after s.sid.lastValid (3 * (if s.bit Reg.MAINS_CTRL 1 then s.sid.mainsPeriod / 2 else s.sid.mainsPeriod))
  | 6 => after s.sid.lastValid s.lossNs
  | _ => false

/-- REFERENCE_LOSS_TIMEOUT (R51, R52, R59). -/
def execReferenceLossTimeout (s : State) : Host.Outcome State Fault Refusal :=
  if s.refQualified && s.lossDue then .next s.sidLose else .next s

/-- REFERENCE_QUALIFIED: valid without a break for REQUAL_MS (R52). A waiting step is armed (R63). -/
def execReferenceQualified (s : State) : Host.Outcome State Fault Refusal :=
  match s.sid.validSince with
  | none => .next s
  | some t =>
    if !s.refQualified && s.refValidNow && decide (t + s.fld Reg.SID_LOSS 31 16 * 1000000 ≤ s.mono) then
      let s := s.setBit Reg.SID_STATUS 3 true
      let s := if s.sid.stepReq then s.sidArm else s
      .next s.leaveHoldover
    else .next s

/-- SID_CTRL_WRITE. -/
def execSidCtrlWrite (ag : Agent) (v : Word) (s : State) : Host.Outcome State Fault Refusal :=
  .next (s.writeBy ag Reg.SID_CTRL fun s => s.sidCtrlEffect v)

/-- SID_JAM. -/
def execSidJam (ag : Agent) (s : State) : Host.Outcome State Fault Refusal :=
  .next (s.writeBy ag Reg.SID_CMD fun s => s.sidJamEffect)

/-- SID_APPLY. -/
def execSidApply (ag : Agent) (s : State) : Host.Outcome State Fault Refusal :=
  .next (s.writeBy ag Reg.SID_CMD fun s => s.sidApplyEffect)

/-- PTP_SET. -/
def execPtpSet (ag : Agent) (s : State) : Host.Outcome State Fault Refusal :=
  .next (s.writeBy ag Reg.PTP_CMD fun s => s.ptpSetEffect)

/-- PTP_STEP. -/
def execPtpStep (ag : Agent) (s : State) : Host.Outcome State Fault Refusal :=
  .next (s.writeBy ag Reg.PTP_CMD fun s => s.ptpStepEffect)

/-- PTP_ADJ_WRITE. -/
def execPtpAdjWrite (ag : Agent) (v : Word) (s : State) : Host.Outcome State Fault Refusal :=
  .next (s.writeBy ag Reg.PTP_ADJ fun s => s.ptpAdjEffect v)

/-- Latch sub-ns and seconds of PTP time for an agent (R70). -/
def State.ptpLatch (s : State) (ag : Nat) : State :=
  let put (m : SMap (Option Word)) (a : Nat) (v : Nat) : SMap (Option Word) :=
    m.put none (ag * 2 ^ 24 + a) (some (BitVec.ofNat 32 v))
  let l := put s.latch Reg.PTP_TIME_SUBNS s.ptpSub
  let l := put l Reg.PTP_TIME_SEC_LO s.ptp.sec
  { s with latch := put l Reg.PTP_TIME_SEC_HI (s.ptp.sec / 2 ^ 32) }

/-- PTP_TIME_NS_READ (R70). -/
def execPtpTimeNsRead (ag : Agent) (s : State) : Host.Outcome State Fault Refusal :=
  .next (s.readBy ag Reg.PTP_TIME_NS fun s => s.ptpLatch (agIdx ag))

end Sys2Proof.Machine
end

