-- ==== Sys2Proof/Machine/PlatePort.lean ====
section
/-!
DEFINITION. Plate ports: registers staged and active, sub-frame phases, bounds, checks, packets, blank requests and link states
(05_plate_pipeline.md R216 to R222, R246, R265 to R271; 06_plate_link.md R283, R294, R298 to R311, R314).
-/
namespace Sys2Proof.Machine

open Sys2Proof

/-- CRC-32 of IEEE 802.3 (R165, R280, R339): one byte, then a list. -/
def crcByte (c : Word) (b : Byte) : Word :=
  (List.range 8).foldl (fun c _ => if c.getLsbD 0 then (c >>> 1) ^^^ 0xEDB88320#32 else c >>> 1) (c ^^^ b.setWidth 32)

def crc32 (l : List Byte) : Word := ~~~(l.foldl crcByte 0xFFFFFFFF#32)

/-- Quotient rounded up. -/
def ceilDiv (n d : Nat) : Nat := (n + d - 1) / d

/-- k of a K code (R216). -/
def kOf (code : Nat) : Nat := 2 ^ code

/-- Offsets of the staged registers of a port (R268). -/
def stagedOffs : List Nat :=
  [0x0, 0xC, 0x10, 0x14, 0x18, 0x1C, 0x20, 0x28, 0x2C, 0x30, 0x34, 0x38, 0x3C, 0x40, 0x44, 0x48, 0x4C, 0x50, 0x54, 0x58]
    ++ (List.range 8).flatMap fun l => [0x100, 0x104, 0x108, 0x10C, 0x110].map fun o => o + 0x20 * l

/-- Bytes of one pixel of a layer format; 0 for a reserved one (R245). -/
def fmtBytes (f : Nat) : Nat := [2, 4, 1, 6, 8].getD f 0

/-- Configuration values of a port, staged or active: registers by offset from the port's block. -/
abbrev PCfg := Nat → Word

namespace PCfg

def mode (r : PCfg) : Nat := wfld (r 0) 1 1
def ch (r : PCfg) : Nat := if r.mode = 1 then 3 else 1
def depth (r : PCfg) : Nat := wfld (r 0) 5 2
def kk (r : PCfg) : Nat := kOf (wfld (r 0) 7 6)
def warp (r : PCfg) : Bool := wfld (r 0) 10 10 == 1
def w (r : PCfg) : Nat := wfld (r 0xC) 12 0
def h (r : PCfg) : Nat := wfld (r 0xC) 28 16
def cw (r : PCfg) : Nat := wfld (r 0x10) 12 0
def chh (r : PCfg) : Nat := wfld (r 0x10) 28 16
def addr (r : PCfg) (o : Nat) : Nat := (r o).toNat + wfld (r (o + 4)) 7 0 * 2 ^ 32
def lreg (r : PCfg) (l o : Nat) : Word := r (0x100 + 0x20 * l + o)
def lEn (r : PCfg) (l : Nat) : Bool := wfld (r.lreg l 0) 0 0 == 1
def lFmt (r : PCfg) (l : Nat) : Nat := wfld (r.lreg l 0) 3 1
def lBuf (r : PCfg) (l : Nat) : Nat := wfld (r.lreg l 0) 19 8
def lX (r : PCfg) (l : Nat) : Int := sext 16 (wfld (r.lreg l 8) 15 0)
def lY (r : PCfg) (l : Nat) : Int := sext 16 (wfld (r.lreg l 8) 31 16)
def lW (r : PCfg) (l : Nat) : Nat := wfld (r.lreg l 0xC) 12 0
def lH (r : PCfg) (l : Nat) : Nat := wfld (r.lreg l 0xC) 28 16
def lStride (r : PCfg) (l : Nat) : Nat := wfld (r.lreg l 0x10) 19 0
def orgX (r : PCfg) : Nat := wfld (r 0x14) 15 0
def orgY (r : PCfg) : Nat := wfld (r 0x14) 31 16
def mapEn (r : PCfg) (user : Bool) : Bool := if user then wfld (r 0x50) 1 1 == 1 else wfld (r 0x50) 0 0 == 1
def mapE (r : PCfg) (user : Bool) : Nat := if (if user then wfld (r 0x50) 3 3 else wfld (r 0x50) 2 2) = 1 then 4 else 2
def mapBase (r : PCfg) (user : Bool) : Nat := r.addr (if user then 0x48 else 0x40)
def mapBytes (r : PCfg) (user : Bool) : Nat := r.w * r.h * r.ch * r.mapE user

/-- Bytes of one final-plate line (R265). -/
def lineBytes (r : PCfg) : Nat := ceilDiv (r.w * r.ch * r.depth) 512 * 64

/-- Length of the overlap of [a, a + n) and [b, b + m). -/
def overlap (a : Int) (n : Nat) (b : Int) (m : Nat) : Nat := (min (a + n) (b + m) - max a b).toNat

/-- Bytes fetched by the render bound; with the warp on, the area given (R222, R267). -/
def fetchBytes (r : PCfg) (ax ay : Int) (aw ah : Nat) : Nat :=
  ((List.range 8).foldl (fun t l => if r.lEn l then
      t + overlap (r.lX l) (r.lW l) ax aw * overlap (r.lY l) (r.lH l) ay ah * fmtBytes (r.lFmt l) else t) 0)
    + (if r.mapEn false then r.mapBytes false else 0) + (if r.mapEn true then r.mapBytes true else 0) + (if r.warp then 8580 else 0)

/-- R_bound in ns: with the warp on, over the whole canvas (R222). -/
def rBound (r : PCfg) : Nat :=
  let fb := if r.warp then r.fetchBytes 0 0 r.cw r.chh else r.fetchBytes r.orgX r.orgY r.w r.h
  max (ceilDiv (r.w * r.h) 8) (ceilDiv fb 64) + 2000

/-- T_link in ns at a RATE and LANES code (R294). -/
def tLink (r : PCfg) (rate lanes : Nat) : Nat :=
  let nseg := ceilDiv r.w 1024
  let seg (i : Nat) := ceilDiv (min 1024 (r.w - 1024 * i) * r.ch * r.depth) 64 + 2
  let b := 6 + r.h * ((List.range nseg).foldl (fun t i => t + seg i) 0)
  let bl := ceilDiv b (2 ^ lanes)
  2000 + ceilDiv ((bl + ceilDiv bl 4095) * 1056) ([50, 100, 165, 200].getD rate 200)

/-- A span lies in plate memory or in tile memory (R257). -/
def inPlateOrTile (a n : Nat) : Bool := inPlate a n || inTile a n

/-- An enabled layer that R246 refuses. -/
def layerBad (r : PCfg) (l : Nat) : Bool :=
  let f := r.lFmt l
  r.lEn l && (decide (4 < f) || (decide (3 ≤ f) && r.mode == 0) || r.lW l == 0 || decide (4096 < r.lW l) || r.lH l == 0
    || decide (4096 < r.lH l) || decide (r.lStride l < r.lW l * fmtBytes f) || r.lStride l % 16 != 0)

/-- An enabled map that R257 refuses. -/
def mapBad (r : PCfg) (user : Bool) : Bool :=
  r.mapEn user && (r.mapBase user % 64 != 0 || !inPlateOrTile (r.mapBase user) (r.mapBytes user))

/-- Everything R246, R252, R257, R261, R265 and the register tables refuse, the lead apart. -/
def bad (r : PCfg) : Bool :=
  decide (r.depth < 10) || decide (14 < r.depth) || wfld (r 0) 9 8 == 3
    || r.w % 8 != 0 || decide (r.w < 8) || decide (4096 < r.w) || r.h == 0 || decide (4096 < r.h) || decide (1048576 < r.w * r.h)
    || r.cw == 0 || decide (4096 < r.cw) || r.chh == 0 || decide (4096 < r.chh)
    || (List.range 8).any r.layerBad || r.mapBad false || r.mapBad true
    || decide (wfld (r 0x54) 15 0 < 0x100)
    || r.addr 0x28 % 4096 != 0 || !inPlate (r.addr 0x28) (3 * r.lineBytes * r.h)

end PCfg

namespace State

/-- Offset of a port's block. -/
def pOfs (p : Nat) : Nat := p * 0x4000

def port (s : State) (p : Nat) : PlatePort := s.ports.get {} p
def setPort (s : State) (p : Nat) (v : PlatePort) : State := { s with ports := s.ports.put {} p v }
def updPort (s : State) (p : Nat) (f : PlatePort → PlatePort) : State := s.setPort p (f (s.port p))

/-- Staged and active configuration of a port. -/
def staged (s : State) (p : Nat) : PCfg := fun o => s.reg (Reg.PLATE_CTRL + pOfs p + o)
def active (s : State) (p : Nat) : PCfg := fun o => (s.port p).act.get 0 o

def pEn (s : State) (p : Nat) : Bool := s.bit (Reg.PLATE_CTRL + pOfs p) 0
def pState (s : State) (p : Nat) : Nat := s.fld (Reg.PLATE_STATUS + pOfs p) 1 0
def setPState (s : State) (p v : Nat) : State := s.setFld (Reg.PLATE_STATUS + pOfs p) 1 0 v

/-- The port is one of a locked pair (R305). -/
def paired (s : State) (p : Nat) : Bool := s.bit Reg.PLATE_PAIR (p / 2)
/-- The other port of the pair. -/
def mate (p : Nat) : Nat := if p % 2 = 0 then p + 1 else p - 1

/-- Ports a pair action covers. -/
def pairPorts (s : State) (p : Nat) : List Nat := if s.paired p then [p, mate p] else [p]

/-- T_link for the staged values, the larger of a locked pair's (R294, R306). -/
def tLinkOf (s : State) (p : Nat) : Nat :=
  let one (q : Nat) := (s.staged q).tLink (s.fld (Reg.PLATE_LINK_CTRL + pOfs q) 1 0) (s.fld (Reg.PLATE_LINK_CTRL + pOfs q) 3 2)
  (s.pairPorts p).foldl (fun t q => max t (one q)) 0

/-- PLATEp_LEAD_MIN for the staged values (R222). -/
def leadMin (s : State) (p : Nat) : Nat := max (s.staged p).rBound (s.tLinkOf p) + 4000

/-- A staged value of a port, or its pairing, has been written: PLATEp_LEAD_MIN and PLATEp_TLINK are computed anew, a locked pair's
for both ports (R222, R294, R306; log entry 113). -/
def leadShow (s : State) (p : Nat) : State :=
  (s.pairPorts p).foldl (fun t q =>
    (t.setReg (Reg.PLATE_LEAD_MIN + pOfs q) (BitVec.ofNat 32 (s.leadMin q))).setReg (Reg.PLATE_TLINK + pOfs q) (BitVec.ofNat 32 (s.tLinkOf q))) s

/-- The lead conditions of R221, exact: LEAD_MIN ≤ LEAD ≤ period − 10,000 ns. -/
def leadOk (s : State) (p : Nat) (lead k : Nat) : Bool :=
  decide (s.leadMin p ≤ lead) && decide ((lead + 10000) * s.incNom * k ≤ 2 ^ 64)

/-- Values on which a locked pair must agree (R269, R305). -/
def pairKey (s : State) (p : Nat) : List Nat :=
  let r := s.staged p
  [r.kk, (r 0x20).toNat, r.mode, r.depth, r.h, s.fld (Reg.PLATE_LINK_CTRL + pOfs p) 3 0]

/-- The staged values of a port pass every check of an enable or commit (R221, R246, R257, R261, R265, R268, R269, R305). -/
def cfgOk (s : State) (p : Nat) : Bool :=
  let r := s.staged p
  !r.bad && s.leadOk p (r 0x20).toNat r.kk && (!s.paired p || decide (s.pairKey p = s.pairKey (mate p)))

/-- Make the staged values active (R268). -/
def activate (s : State) (p : Nat) : State :=
  let m := stagedOffs.foldl (fun m o => m.put 0 o (s.staged p o)) (s.port p).act
  let s := s.updPort p fun v => { v with
    act := m, lead := (s.staged p 0x20).toNat, master := wfld (s.staged p 0x58) 15 0,
    mesh := wfld (s.staged p 0) 13 13 == 1, capsRaised := false }
  s.setBit (Reg.PLATE_STATUS + pOfs p) 2 false

/-! ### Phases of sub-frames -/

/-- Lead in phase units (R217). -/
def leadPh (s : State) (p : Nat) : DWord := BitVec.ofNat 64 ((s.port p).lead * s.incNom / 2 ^ 32)

/-- Phase between two sub-frames of a port. -/
def sfStep (s : State) (p : Nat) : Nat := 2 ^ 32 / (s.active p).kk

/-- Offset of the plate class (R94). -/
def plateOfs (s : State) : DWord := s.reg64 Reg.SID_OFS_LO

/-- The latch phase of the first sub-frame whose start phase lies after `t` (R216, R217, R239). -/
def nextLatch (s : State) (p : Nat) (t : DWord) : DWord :=
  let base := (t + s.leadPh p - s.plateOfs).toNat
  let st := s.sfStep p
  BitVec.ofNat 64 ((base / st + 1) * st) + s.plateOfs

/-- Start phase of a sub-frame by its latch phase (R217). -/
def startOf (s : State) (p : Nat) (latch : DWord) : DWord := latch - s.leadPh p

/-- (n, s) of a sub-frame by its latch phase (R216). -/
def sfOf (s : State) (p : Nat) (latch : DWord) : Nat × Nat :=
  let v := latch - s.plateOfs
  (bits v 63 32, bits v 31 0 / s.sfStep p)

/-! ### Link states -/

def lState (s : State) (p : Nat) : Nat := s.fld (Reg.PLATE_LINK_STATUS + pOfs p) 3 0

/-- The twin gate of a plate port is open (R302, R581). -/
def portGate (s : State) (p : Nat) : Bool := s.gateOpen || !s.bit Reg.TWIN_GATE p

/-- Enter a link state; LOCK counts, takes RATE and LANES, and trains afresh (R309, R312). -/
def setLState (s : State) (p st : Nat) : State :=
  let s := s.setFld (Reg.PLATE_LINK_STATUS + pOfs p) 3 0 st
  let c := Reg.PLATE_LINK_CTRL + pOfs p
  if st = 3 then
    let s := s.setFld (Reg.PLATE_LINK_STATUS + pOfs p) 14 13 0
    (s.inc (Reg.PLATE_TRAIN_CNT + pOfs p)).updPort p fun v => { v with
      since := s.mono, aligns := 0, query := none, pexit := none, testEnd := none,
      rate := s.fld c 1 0, lanes := s.fld c 3 2 }
  else
    let s := if st = 7 ∨ st = 8 then s else s.setFld (Reg.PLATE_LINK_STATUS + pOfs p) 14 13 0
    let s : State := if st = 5 then { s with diags := s.diags.put {} p { s.diags.get {} p with seq := none, next := none } } else s
    s.updPort p fun v => { v with since := s.mono, pexit := none, aligns := 0 }

/-- Send a query (R287). -/
def sendSq (s : State) (p code : Nat) (arg : Word) (tries : Nat) : State :=
  s.updPort p fun v =>
    let tag := (v.tag + 1) % 256
    let sop : DWord := BitVec.ofNat 64 (0x78 + 0x04 * 2 ^ 8 + code * 2 ^ 16 + tag * 2 ^ 24 + arg.toNat * 2 ^ 32)
    { v with tag := tag, query := some ⟨code, tag, arg, tries, s.mono⟩, outSq := [sop] }

/-- A sub-frame can be streamed: the link is in STREAM, and for a locked pair both are (R295, R308). -/
def streaming (s : State) (p : Nat) : Bool := (s.pairPorts p).all fun q => s.lState q == 6

/-- The guard, LC_HOLD, the BLANK bit or R354 holds this port blank (R299). -/
def blankHold1 (s : State) (p : Nat) : Bool :=
  s.bit (Reg.PLATE_LINK_CTRL + pOfs p) 6 || s.bit (Reg.PLATE_LINK_STATUS + pOfs p) 7 || s.bit (Reg.OCC_STATUS + pOfs p) 0
    || (s.occs.get {} p).noChan

/-- Blank hold: on either port of a locked pair (R299, R301). -/
def blankHold (s : State) (p : Nat) : Bool := (s.pairPorts p).any s.blankHold1

/-- LINK_STATUS.BLANKED follows the hold. -/
def showBlank (s : State) (p : Nat) : State :=
  (s.pairPorts p).foldl (fun s q => s.setBit (Reg.PLATE_LINK_STATUS + pOfs q) 6 (s.blankHold q)) s

/-- Own bits of ALIGN and FS: PAIR and HALF (R277, R283). -/
def pairBits (s : State) (p : Nat) : Nat := b2n (s.paired p) + (p % 2) * 2

/-- Watchdog units sent in FS (R314). -/
def wdogAct (s : State) (p : Nat) : Nat :=
  let w := s.fld (Reg.PLATE_LINK_WDOG + pOfs p) 15 0
  if w ≠ 0 then w else ceilDiv (4 * 2 ^ 64) (s.incNom * (s.active p).kk * 16000)

/-- The FS packet of a sub-frame (R283). -/
def fsPacket (s : State) (p n sf : Nat) (c : Word) : List DWord :=
  let r := s.active p
  [BitVec.ofNat 64 (0x78 + 0x01 * 2 ^ 8 + n * 2 ^ 16 + sf * 2 ^ 48 + wfld (r 0) 7 6 * 2 ^ 51 + r.mode * 2 ^ 53 + r.depth * 2 ^ 54
      + s.pairBits p * 2 ^ 58),
    BitVec.ofNat 64 (r.w + r.h * 2 ^ 16 + s.wdogAct p % 65536 * 2 ^ 32 + c.toNat % 65536 * 2 ^ 48)]

/-- The LE packet (R283). -/
def lePacket (n sf : Nat) (blank : Bool) (crc : Word) : List DWord :=
  [BitVec.ofNat 64 (0x78 + 0x03 * 2 ^ 8 + n * 2 ^ 16 + sf * 2 ^ 48 + b2n blank * 2 ^ 51),
    if blank then 0 else crc.setWidth 64]

/-- Replace the sub-frame of latch phase `l`. -/
def updSf (s : State) (p : Nat) (l : DWord) (f : SubFrame → SubFrame) : State :=
  s.updPort p fun v => { v with sfs := v.sfs.map fun x => if x.latch = l then f x else x }

/-- The sub-frame in progress: the last one started whose LE has not left (R298). -/
def sfCur (s : State) (p : Nat) : Option SubFrame := (s.port p).sfs.reverse.find? fun x => x.le.isNone

/-- An LE leaves: 3 bonded block times later its EOP (R290, R296); the TE of it is awaited. -/
def sendLe (s : State) (p : Nat) (x : SubFrame) (blank : Bool) : State :=
  let eop := s.mono + ceilDiv (3 * 1056) (([50, 100, 165, 200].getD (s.port p).rate 200) * 2 ^ (s.port p).lanes)
  let s := s.updSf p x.latch fun y => { y with le := some eop, leBlank := blank, void := y.void || blank }
  s.updPort p fun v => { v with
    outLe := lePacket x.n x.s blank x.crc, teWait := some eop, teAt := none, lastLe := some (x.n, x.s, x.crc),
    released := if blank then v.released else false, crcs := ((x.n, x.s, x.crc) :: v.crcs).take 4 }

/-- The last sub-frame whose LE was sent is (n, sf). -/
def isLastLe (s : State) (p n sf : Nat) : Bool :=
  match (s.port p).lastLe with
  | some (a, b, _) => a == n && b == sf
  | none => false

/-- A blank request: the packet in progress is aborted and an LE with BLANK = 1 follows at once, naming the sub-frame in progress
or the last one sent (R298, R301). -/
def blankOne (s : State) (p : Nat) : State :=
  let s := s.inc (Reg.PLATE_BLANK_CNT + pOfs p)
  if s.lState p ≠ 6 then s
  else match s.sfCur p with
    | some x => s.sendLe p x true
    | none => match (s.port p).lastLe with
      | some (n, sf, _) => s.updPort p fun v => { v with outLe := lePacket n sf true 0 }
      | none => s

/-- A blank request acts on both ports of a locked pair; BLANK and LC_HOLD also raise LINK_BLANK (R298, R301, R320). -/
def blankRequest (s : State) (p : Nat) (report : Bool) : State :=
  let s := (s.pairPorts p).foldl blankOne s
  let s := s.showBlank p
  if report then s.raise Code.PLATE_LINK_BLANK p else s

/-- A port leaves STREAM for a state. -/
def leaveStream (s : State) (p st : Nat) : State :=
  let s := if s.lState p = 6 then s.dropStream p else s
  s.setLState p st

end State

end Sys2Proof.Machine
end

