-- ==== Sys2Proof/Machine/Ephemeris.lean ====
section
/-!
DEFINITION. The Ephemeris: posting, cancelling, firing and re-arming of phase events (02_sidereal_time.md R76 to R97).
-/
namespace Sys2Proof.Machine

open Sys2Proof

/-- Fields of an action code word (R77). -/
def actCode (w : Word) : Nat := wfld w 7 0
def actTarget (w : Word) : Nat := wfld w 15 8
def actRepeat (w : Word) : Bool := wfld w 16 16 == 1
def actPer (w : Word) : Nat := wfld w 19 17
def actNotify (w : Word) : Bool := wfld w 20 20 == 1
def actLateSkip (w : Word) : Bool := wfld w 21 21 == 1
def actNow (w : Word) : Bool := wfld w 22 22 == 1

/-- TARGET is in range for the action (R78, R84). -/
def actTargetOk (w : Word) : Bool :=
  match actCode w with
  | 2 => decide (actTarget w < 4)
  | 3 => decide (actTarget w < 36)
  | 4 => decide (actTarget w < 16)
  | 5 => decide (actTarget w < 32)
  | 8 => decide (actTarget w < 64)
  | 9 => decide (actTarget w < 16)
  | c => decide (c < 10)

/-- A period below 2^-16 frame is refused for a REPEAT entry (R84, R88, R93). -/
def perTooSmall (p : DWord) : Bool := decide (p.toNat < 0x10000)

namespace State

/-- EPH_PERn (R88). -/
def ephPer (s : State) (n : Nat) : DWord := s.reg64 (Reg.EPH_PER_LO + 8 * n)

/-- Output offset of a class: 0 plate, 1 fixture, 2 DMX, 3 string (R94). -/
def classOfs (s : State) (c : Nat) : DWord := s.reg64 (Reg.SID_OFS_LO + 8 * c)

/-- Offset of an action's output class now (R78, R83, R97). -/
def actOfs (s : State) (w : Word) : DWord :=
  match actCode w with
  | 2 => s.classOfs 0
  | 3 => s.classOfs 1
  | 4 => s.classOfs 2
  | 5 => if s.strBind.get 0 (actTarget w) = 0 then s.classOfs 3 else s.classOfs 0
  | 6 => s.classOfs 3
  | _ => 0

/-- The EPH_FIRED ring entry (R80). -/
def firedEntry (a : Act) (suppressed : Bool) : Entry :=
  entryOfWords [entryHead 0x21 true true (decide (2 ≤ a.outcome)) false, a.tag, a.fire.extractLsb' 0 32,
    a.fire.extractLsb' 32 32, BitVec.ofNat 32 a.mono, BitVec.ofNat 32 (a.mono / 2 ^ 32), a.act,
    BitVec.ofNat 32 (a.outcome + b2n suppressed * 4 + (if a.outcome = 1 then a.lateNs else 0) * 65536)]

/-- Post an EPH_FIRED entry; a full ring drops it (R79, R81). -/
def postFired (s : State) (r : Nat) (a : Act) (suppressed : Bool) : State :=
  (s.ringUnit r [firedEntry a suppressed]).2

def ephNotify (s : State) (a : Act) (suppressed : Bool) : State :=
  if actNotify a.act then s.postFired (s.fld Reg.EPH_CTRL 5 0) a suppressed else s

/-- The record of an entry that is skipped or fired now. -/
def actOf (s : State) (e : EphEntry) (outcome : Nat) : Act :=
  let ns := if phaseBefore s.phase e.fire then 0 else s.phaseNs (phaseDiff s.phase e.fire)
  ⟨e.act, e.a0, e.a1, e.a2, e.a3, e.tag, e.fire, s.mono, outcome, min ns 65535⟩

/-- Submit an entry of eight words: result 0 OK, 1 FULL, 2 RANGE, 3 BADACT (R83 to R85, R90). -/
def ephSubmit (s : State) (w : List Word) : Nat × State :=
  if s.bit Reg.EPH_CTRL 8 then (1, s)
  else
    let act := w.getD 2 0
    if 10 ≤ actCode act || !actTargetOk act || (actRepeat act && perTooSmall (s.ephPer (actPer act))) then
      (3, s.raise Code.CLK_EPH_REFUSED 0)
    else
      let ph : DWord := w.getD 1 0 ++ w.getD 0 0
      let ofs := s.actOfs act
      let fire := if actNow act then s.phase else ph + ofs
      let nominal := if actNow act then s.phase - ofs else ph
      if 2 ^ 62 < (phaseDiff fire s.phase).natAbs then (2, s.raise Code.CLK_EPH_REFUSED 0)
      else if 4096 ≤ s.eph.length then (1, s.raise Code.CLK_EPH_FULL 0)
      else
        let late := !actNow act && phaseBefore fire s.phase
        let e : EphEntry := ⟨nominal, fire, act, w.getD 3 0, w.getD 4 0, w.getD 5 0, w.getD 6 0, w.getD 7 0, late⟩
        if late then
          let s := (s.inc Reg.EPH_LATE_CNT).raiseFrame Code.CLK_EPH_LATE 0
          if actLateSkip act then (0, (s.inc Reg.EPH_SKIP_CNT).ephNotify (s.actOf e 2) false)
          else (0, { s with eph := s.eph ++ [e] })
        else (0, { s with eph := s.eph ++ [e] })

/-- Of two pending entries, the one that fires first: the earlier fire phase, in order of acceptance (R87). -/
def ephFirst : List EphEntry → Option EphEntry
  | [] => none
  | e :: r => match ephFirst r with
    | none => some e
    | some f => if phaseBefore f.fire e.fire then some f else some e

/-- Replace the first entry equal to e: by its re-armed form, or by nothing. -/
def ephReplace (e : EphEntry) (by' : Option EphEntry) : List EphEntry → List EphEntry
  | [] => []
  | f :: r => if f = e then (match by' with
      | some g => g :: r
      | none => r) else f :: ephReplace e by' r

/-- The device is in BOOT or COLD, or the counter is STOPPED: nothing fires (R91, R92, R660). -/
def ephHeld (s : State) : Bool := s.stopped || s.mode == 0 || s.mode == 1 || s.mode == 0xA

/-- UNDER is HOLD and the action is one that HOLD suppresses (R661). -/
def suppresses (s : State) (w : Word) : Bool :=
  s.under == 4 && (actCode w == 1 || actCode w == 2 || actCode w == 5 || actCode w == 6)

/-- Fire an entry: issue its action or suppress it, notify, and re-arm it or remove it (R80, R86 to R88, R661). -/
def ephFire (s : State) (e : EphEntry) (late : Bool) : State :=
  let a := s.actOf e (b2n late)
  let sup := s.suppresses e.act
  let s := if sup then (s.inc Reg.SYS_SUPPRESS_CNT).raiseFrame Code.SYS_SUPPRESSED 0
    else if actCode e.act = 0 then s else { s with issued := s.issued ++ [a] }
  let s := s.ephNotify a sup
  let per := s.ephPer (actPer e.act)
  if !actRepeat e.act then { s with eph := ephReplace e none s.eph }
  else if perTooSmall per then
    let s : State := { s with eph := ephReplace e none s.eph }
    s.raise Code.CLK_EPH_REFUSED 0
  else
    let nom := e.nominal + per
    { s with eph := ephReplace e (some { e with nominal := nom, fire := nom + s.actOfs e.act, late := false }) s.eph }

/-- The earliest phase after N that differs from `f` by a whole number of periods (R92, R93). -/
def movePhase (f n per : DWord) : DWord :=
  f + BitVec.ofInt 64 ((phaseDiff n f / (per.toNat : Int) + 1) * per.toNat)

/-- What a step from S to N does to one pending entry: kept, moved, or discarded (R93). -/
def ephStepEntry (s : State) (sPh nPh : DWord) (e : EphEntry) : Option EphEntry :=
  if actRepeat e.act then
    let per := s.ephPer (actPer e.act)
    if perTooSmall per then none
    else
      let f := movePhase e.fire nPh per
      some { e with nominal := e.nominal + (f - e.fire), fire := f, late := false }
  else if phaseBefore sPh nPh && phaseBefore sPh e.fire && !phaseBefore nPh e.fire then none
  else some e

/-- A step from S to N over every pending entry, in firing order of acceptance (R92, R93). -/
def ephStep (s : State) (sPh nPh : DWord) : State :=
  let gone := s.eph.filter fun e => (s.ephStepEntry sPh nPh e).isNone
  let s1 : State := { s with eph := s.eph.filterMap fun e => s.ephStepEntry sPh nPh e }
  gone.foldl (fun t e => (t.inc Reg.EPH_SKIP_CNT).ephNotify (t.actOf e 3) false) s1

/-- Take the first issued action of a code (R87). -/
def takeIssued (s : State) (code : Nat) : Option (Act × State) :=
  match s.issued.find? fun a => actCode a.act == code with
  | none => none
  | some a => some (a, { s with issued := s.issued.erase a })

/-- Remove every pending entry of a TAG; the number removed goes to the agent's EPH_CANCEL_RES (R89). -/
def ephCancelEffect (s : State) (ag : Nat) (tag : Word) : State :=
  let n := (s.eph.filter fun e => e.tag == tag).length
  let s : State := { s with eph := s.eph.filter fun e => e.tag != tag }
  s.setAreg ag Reg.EPH_CANCEL_RES (BitVec.ofNat 32 n)

/-- Setting EPH_CTRL.CLEAR removes every pending entry (R90). -/
def ephClearEffect (s : State) : State :=
  let s := s.setBit Reg.EPH_CTRL 8 true
  { s with eph := [] }

/-- A write to EPH_POST7 submits the staged entry (R82, R84). -/
def ephPostEffect (s : State) (ag : Nat) (v : Word) : State :=
  let ws := (List.range 7).map (fun i => s.areg ag (Reg.EPH_POST + 4 * i)) ++ [v]
  let (res, s) := s.ephSubmit ws
  s.setAreg ag Reg.EPH_POST_RES (BitVec.ofNat 32 res)

/-- The earliest pending fire phase; the current phase plus 2^30 frames with none pending (EPH_NEXT). -/
def ephNext (s : State) : DWord :=
  match ephFirst s.eph with
  | some e => e.fire
  | none => s.phase + BitVec.ofNat 64 (2 ^ 62)

end State

/-- EPH_POST_WORD_WRITE: words 0 to 6 are staged for the writing agent (R82). -/
def execEphPostWordWrite (ag : Agent) (i : Fin 7) (v : Word) (s : State) : Host.Outcome State Fault Refusal :=
  .next (s.writeBy ag (Reg.EPH_POST + 4 * i.val) fun s => s.setAreg (agIdx ag) (Reg.EPH_POST + 4 * i.val) v)

/-- EPH_POST: a write to EPH_POST7. -/
def execEphPost (ag : Agent) (v : Word) (s : State) : Host.Outcome State Fault Refusal :=
  .next (s.writeBy ag (Reg.EPH_POST + 28) fun s => s.ephPostEffect (agIdx ag) v)

/-- EPH_CANCEL. -/
def execEphCancel (ag : Agent) (tag : Word) (s : State) : Host.Outcome State Fault Refusal :=
  .next (s.writeBy ag Reg.EPH_CANCEL fun s => s.ephCancelEffect (agIdx ag) tag)

/-- EPH_CLEAR. -/
def execEphClear (ag : Agent) (s : State) : Host.Outcome State Fault Refusal :=
  .next (s.writeBy ag Reg.EPH_CTRL fun s => s.ephClearEffect)

/-- EPH_CLEAR_DONE: CLEAR clears once the table is empty (R90). -/
def execEphClearDone (s : State) : Host.Outcome State Fault Refusal :=
  if s.eph.isEmpty then .next (s.setBit Reg.EPH_CTRL 8 false) else .next s

/-- RING_POST: the action posts an EPH_FIRED entry to the target ring (R79). -/
def execRingPost (s : State) : Host.Outcome State Fault Refusal :=
  match s.takeIssued 8 with
  | none => .next s
  | some (a, s) => .next (s.postFired (actTarget a.act) a false)

/-- GPIO_ACTION: the level of A0 bit 0 onto the target GPIO (R78). -/
def execGpioAction (s : State) : Host.Outcome State Fault Refusal :=
  match s.takeIssued 9 with
  | none => .next s
  | some (a, s) => .next (s.setBit Reg.SYS_GPIO_OUT (actTarget a.act) (wfld a.a0 0 0 == 1))

end Sys2Proof.Machine
end

