-- ==== Sys2Proof/Machine/Operands.lean ====
section
/-!
DEFINITION. Selmir operands: registers, lanes, predicates, instruction words and the poison a load leaves
(03_selmir_machine.md R102 to R108, R157; 04_selmir_instructions.md R170, R171, R173).
-/
namespace Sys2Proof.Machine

open Sys2Proof

/-! ### Instruction words (R170, R173) -/

def encR (op d a b p fn : Nat) : Word := BitVec.ofNat 32 (op * 2 ^ 26 + d * 2 ^ 21 + a * 2 ^ 16 + b * 2 ^ 11 + p * 2 ^ 8 + fn)
def encI (op d a imm : Nat) : Word := BitVec.ofNat 32 (op * 2 ^ 26 + d * 2 ^ 21 + a * 2 ^ 16 + imm)
def encK (op d hw imm : Nat) : Word := BitVec.ofNat 32 (op * 2 ^ 26 + d * 2 ^ 21 + hw * 2 ^ 16 + imm)
def encM (op t a kind off : Nat) : Word := BitVec.ofNat 32 (op * 2 ^ 26 + t * 2 ^ 21 + a * 2 ^ 16 + kind * 2 ^ 13 + off)
def encP (pd cond a imm : Nat) : Word := BitVec.ofNat 32 (0x0E * 2 ^ 26 + pd * 2 ^ 23 + cond * 2 ^ 20 + a * 2 ^ 15 + imm)
def encJ (op off : Nat) : Word := BitVec.ofNat 32 (op * 2 ^ 26 + off)
def encC (p test off : Nat) : Word := BitVec.ofNat 32 (0x04 * 2 ^ 26 + p * 2 ^ 23 + test * 2 ^ 21 + off)
def encD (g off : Nat) : Word := BitVec.ofNat 32 (0x05 * 2 ^ 26 + g * 2 ^ 21 + off)
def encQ (gd vn ring op rr gr : Nat) : Word :=
  BitVec.ofNat 32 (0x18 * 2 ^ 26 + gd * 2 ^ 21 + vn * 2 ^ 16 + ring * 2 ^ 10 + op * 2 ^ 8 + rr * 2 ^ 7 + gr)
def encS (g dir sr : Nat) : Word := BitVec.ofNat 32 (0x1D * 2 ^ 26 + g * 2 ^ 21 + dir * 2 ^ 20 + sr)

/-! ### Register keys -/

/-- Keys of the poison and interlock lists: g register n is n, v register n is 32 + n. g0 never depends on a load. -/
def gKey (r : GReg) : Nat := r.val
def vKey (r : VReg) : Nat := 32 + r.val

/-- v[n + 1] of a register pair. -/
def vNext (n : VReg) : VReg := Fin.ofNat 32 (n.val + 1)

namespace Core

/-- A general register; g0 reads 0 (R102). -/
def gr (k : Core) (r : GReg) : DWord := if r.val = 0 then 0 else k.g.get 0 r.val

/-- Write a general register: a write to g0 is discarded; the poison clears (R102, R157). -/
def setG (k : Core) (r : GReg) (w : DWord) : Core :=
  if r.val = 0 then k else { k with g := k.g.put 0 r.val w, poison := k.poison.put none r.val none }

/-- A vector register (R103). -/
def vr (k : Core) (r : VReg) : Vec := k.v.get 0 r.val

def setV (k : Core) (r : VReg) (w : Vec) : Core :=
  { k with v := k.v.put 0 r.val w, poison := k.poison.put none (vKey r) none }

/-- A predicate; p0 reads 0xFF (R104). -/
def pr (k : Core) (r : PReg) : BitVec 8 := if r.val = 0 then 0xFF else k.p.get 0 r.val

/-- Write a predicate: writes to p0 are discarded (R104). -/
def setP (k : Core) (r : PReg) (w : BitVec 8) : Core := if r.val = 0 then k else { k with p := k.p.put 0 r.val w }

/-- Bit 0 of a predicate governs a scalar instruction (R104). -/
def p0 (k : Core) (r : PReg) : Bool := bits (k.pr r) 0 0 == 1

/-- The first poisoned register of a list, with the load's address (R157). -/
def firstPoison (k : Core) (rd : List Nat) : Option Nat := rd.findSome? fun r => k.poison.get none r

/-- Some register of the list waits for an outstanding access (R176). -/
def outstanding (k : Core) (rs : List Nat) : Bool :=
  rs.any fun r => k.loads.any (fun l => (if l.vec then 32 + l.dest else l.dest) == r && r != 0)
    || k.remote.any (fun x => x.2 == r && r != 0)

/-- Go on to the next instruction. -/
def next (k : Core) : Core := { k with pc := k.pc + 4 }

end Core

/-! ### Lanes (R103, R104) -/

/-- Lane i of a vector with lanes of w bits, as a number. -/
def lane (w : Nat) (v : Vec) (i : Nat) : Nat := v.toNat / 2 ^ (w * i) % 2 ^ w

/-- A vector of n lanes of w bits. -/
def ofLanes (w n : Nat) (f : Nat → Nat) : Vec :=
  BitVec.ofNat 128 ((List.range n).foldl (fun a i => a + f i % 2 ^ w * 2 ^ (w * i)) 0)

/-- Lane i of width w is active under a predicate: bit i for 16-bit lanes, bit 2i for 32-bit lanes. -/
def laneOn (w : Nat) (p : BitVec 8) (i : Nat) : Bool := bits p (i * (w / 16)) (i * (w / 16)) == 1

/-- Number of lanes of width w. -/
def lanesOf (w : Nat) : Nat := 128 / w

/-- Active lanes take f, the others keep the old value. -/
def maskLanes (w : Nat) (p : BitVec 8) (old : Vec) (f : Nat → Nat) : Vec :=
  ofLanes w (lanesOf w) fun i => if laneOn w p i then f i else lane w old i

/-! ### Rounding and saturation (R108, chapter 04 notation) -/

/-- x clamped to 0 to 0xFFFF. -/
def sat16 (x : Int) : Int := clampI 0 65535 x
/-- x clamped to −32,768 to 32,767. -/
def sats16 (x : Int) : Int := clampI (-32768) 32767 x
/-- Floor division by a positive divisor. -/
def fdiv (n : Int) (m : Nat) : Int := n / (m : Int)
/-- The L16 product (R108). -/
def lmul (x y : Nat) : Nat := (2 * x * y + 65535) / 131070

/-- BLEND of an over level s with opacity al onto an under level u: OVER, ADD, MAX, MUL (R205). -/
def blendOp (mode u s al : Nat) : Nat :=
  let sa := lmul s al
  match mode with
  | 0 => min 65535 (sa + lmul u (65535 - al))
  | 1 => min 65535 (u + sa)
  | 2 => max u sa
  | _ => lmul u (65535 - lmul (65535 - s) al)

/-- FADE from a to b at progress t: LIN, S, SQ (R206). -/
def fadeOp (curve a b t : Nat) : Nat :=
  let t := min t 0x8000
  let (num, den) : Nat × Nat := match curve with
    | 0 => (t, 2 ^ 15)
    | 1 => (t * t * (98304 - 2 * t), 2 ^ 45)
    | _ => (t * t, 2 ^ 30)
  ((a : Int) + fdiv (2 * ((b : Int) - a) * num + den) (2 * den)).toNat

/-- The entry of a vector pair and the pair of an entry: words 0 to 3 in the first register, 4 to 7 in the second (R207). -/
def entryOfPair (lo hi : Vec) : Entry := hi ++ lo
def entryLo (e : Entry) : Vec := e.extractLsb' 0 128
def entryHi (e : Entry) : Vec := e.extractLsb' 128 128

end Sys2Proof.Machine
end

