-- ==== Sys2Proof/Machine/Flags.lean ====
section
/-!
DEFINITION. Conditions of the compares, KSTAT flags, and the fp16 arithmetic with its FPSR flags
(03_selmir_machine.md R106, R109; 04_selmir_instructions.md R183, R184, R199, R200).
-/
namespace Sys2Proof.Machine

open Sys2Proof

/-! ### KSTAT (R106) -/

/-- Set or clear a KSTAT flag. -/
def Core.kflag (k : Core) (i : Nat) (b : Bool) : Core := { k with kstat := wset k.kstat i i (b2n b) }

/-- Set FPSR flags, which stay set (R105). -/
def Core.fpOr (k : Core) (f : Nat) : Core := { k with fpsr := k.fpsr ||| BitVec.ofNat 32 f }

/-! ### Integer conditions (R183) -/

/-- Condition `c` on two numbers of n bits. -/
def intCond (n c x y : Nat) : Bool :=
  match c with
  | 0 => x == y
  | 1 => x != y
  | 2 => decide (sext n x < sext n y)
  | 3 => decide (sext n y ≤ sext n x)
  | 4 => decide (x < y)
  | 5 => decide (y ≤ x)
  | 6 => (x &&& y) != 0
  | _ => decide (sext n ((x + 2 ^ n - y) % 2 ^ n) < 0)

/-! ### fp16 (R107, R109) -/

def f16Nan (x : Nat) : Bool := x / 1024 % 32 == 31 && x % 1024 != 0
def f16Inf (x : Nat) : Bool := x % 0x8000 == 0x7C00
def f16Zero (x : Nat) : Bool := x % 0x8000 == 0
def f16Neg (x : Nat) : Bool := x / 0x8000 % 2 == 1
/-- The NaN result. -/
def f16NaN : Nat := 0x7E00

/-- A finite value in units of 2^-24. -/
def f16Int (x : Nat) : Int :=
  let e := x / 1024 % 32
  let m := x % 1024
  let a : Nat := if e = 0 then m else (1024 + m) * 2 ^ (e - 1)
  if f16Neg x then -(a : Int) else a

/-- Round to the nearest integer, ties to even, of n / d with d > 0. -/
def rneDiv (n d : Nat) : Nat :=
  let q := n / d
  let r := n % d
  if 2 * r < d then q else if d < 2 * r then q + 1 else if q % 2 = 0 then q else q + 1

/-- Flags: 1 invalid, 2 overflow, 4 underflow, 8 inexact. Round a value n / d (n ≥ 0) of the given sign to fp16, nearest even.
IEEE 754 leaves to the implementation whether a value is tiny before or after rounding: Config.tinyAfterRounding. -/
def f16Round (neg : Bool) (n d : Nat) : Nat × Nat :=
  -- e: the largest exponent from 15 down to −14 with 2^e ≤ n / d, else −14; k = e + 14
  let k := ((List.range 30).map fun i => 29 - i).find? fun k => decide (2 ^ k * d ≤ n * 2 ^ 14)
  let k := k.getD 0
  -- units of 2^(e − 10) = 2^(k − 24)
  let m := rneDiv (n * 2 ^ 24) (d * 2 ^ k)
  let exact := n * 2 ^ 24 % (d * 2 ^ k) == 0
  let w := k * 1024 + m
  let s := if neg then 0x8000 else 0
  if 0x7C00 ≤ w then (s + 0x7C00, 2 + 8)
  else
    let tinyBefore := decide (n * 2 ^ 14 < d)
    -- rounded with an unbounded exponent range, the value stays below 2^-14
    let tinyAfter := decide (2 * n * 2 ^ 25 < (2 * 2048 - 1) * d)
    let tiny := if Config.tinyAfterRounding then tinyBefore && tinyAfter else tinyBefore
    (s + w, (if exact then 0 else 8) + (if tiny && !exact then 4 else 0))

/-- Round a signed exact value v / 2^sh; an exact zero takes the sign given. -/
def f16RoundInt (zeroNeg : Bool) (v : Int) (sh : Nat) : Nat × Nat :=
  if v = 0 then (if zeroNeg then 0x8000 else 0, 0) else f16Round (decide (v < 0)) v.natAbs (2 ^ sh)

/-- x + y × 1 in general: addend x, and a product y × z with a single rounding (R199). -/
def f16Fma (x y z : Nat) : Nat × Nat :=
  let ns := f16Neg y != f16Neg z
  let badMul := (f16Inf y && f16Zero z) || (f16Zero y && f16Inf z)
  if badMul then (f16NaN, 1)
  else if f16Nan x || f16Nan y || f16Nan z then (f16NaN, 0)
  else if f16Inf y || f16Inf z then
    if f16Inf x && f16Neg x != ns then (f16NaN, 1) else ((if ns then 0xFC00 else 0x7C00), 0)
  else if f16Inf x then (x, 0)
  else
    let v := f16Int x * 2 ^ 24 + f16Int y * f16Int z
    f16RoundInt (f16Neg x && ns) v 48

def f16Mul (y z : Nat) : Nat × Nat :=
  let ns := f16Neg y != f16Neg z
  if (f16Inf y && f16Zero z) || (f16Zero y && f16Inf z) then (f16NaN, 1)
  else if f16Nan y || f16Nan z then (f16NaN, 0)
  else if f16Inf y || f16Inf z then ((if ns then 0xFC00 else 0x7C00), 0)
  else f16RoundInt ns (f16Int y * f16Int z) 48

def f16Add (x y : Nat) : Nat × Nat :=
  if f16Nan x || f16Nan y then (f16NaN, 0)
  else if f16Inf x && f16Inf y && f16Neg x != f16Neg y then (f16NaN, 1)
  else if f16Inf x then (x, 0)
  else if f16Inf y then (y, 0)
  else f16RoundInt (f16Neg x && f16Neg y) (f16Int x + f16Int y) 24

def f16Flip (x : Nat) : Nat := if f16Neg x then x - 0x8000 else x + 0x8000

/-- A number to compare values by; infinities beyond every finite value. -/
def f16Ord (x : Nat) : Int :=
  if f16Inf x then (if f16Neg x then -(2 ^ 50) else 2 ^ 50) else f16Int x

/-- Minimum (or maximum): the operand that is not a NaN; invalid when an operand is a NaN (R199). Of two zeros of different
sign either is the minimum: the spec names none (Config.zeroPick). -/
def f16MinMax (wantMax : Bool) (x y : Nat) : Nat × Nat :=
  if f16Nan x && f16Nan y then (f16NaN, 1)
  else if f16Nan x then (y, 1)
  else if f16Nan y then (x, 1)
  else if f16Ord x = f16Ord y then
    if x = y then (x, 0) else (if Config.zeroPick wantMax x then x else y, 0)
  else if (decide (f16Ord x < f16Ord y)) != wantMax then (x, 0) else (y, 0)

/-- fp16 compares: 0 FEQ, 1 FLT, 2 FLE, 3 FUN (R184). -/
def f16Cond (c x y : Nat) : Bool :=
  let nan := f16Nan x || f16Nan y
  match c with
  | 0 => !nan && decide (f16Ord x = f16Ord y)
  | 1 => !nan && decide (f16Ord x < f16Ord y)
  | 2 => !nan && decide (f16Ord x ≤ f16Ord y)
  | _ => nan

/-- An unsigned or signed value v / d to fp16; inexact alone is reported (R200). -/
def toF16 (v : Int) (d : Nat) : Nat × Nat :=
  if v = 0 then (0, 0)
  else
    let r := f16Round (decide (v < 0)) v.natAbs d
    (r.1, r.2 / 8 * 8)

/-- round(x × scale) ties to even, of an fp16 value, clamped to [lo, hi]; NaN gives 0 and invalid (R200). -/
def fromF16 (scale lo hi : Int) (x : Nat) : Int × Nat :=
  if f16Nan x then (0, 1)
  else if f16Inf x then ((if f16Neg x then lo else hi), 0)
  else
    let v := f16Int x * scale
    let m : Int := rneDiv v.natAbs (2 ^ 24)
    (clampI lo hi (if v < 0 then -m else m), 0)

end Sys2Proof.Machine
end

