-- ==== Sys2Proof/Machine/Selmir.lean ====
section
/-!
DEFINITION. Selmir cores: issue, exceptions, kernels, launches, fences and barriers, supervisor control
(03_selmir_machine.md R100 to R164; 18_faults_telemetry.md R694).
-/
namespace Sys2Proof.Machine

open Sys2Proof

/-- A field core (R100). -/
def isField (c : Nat) : Bool := decide (c < 256)

/-- Number of a supervisor core. -/
def supNo (c : Nat) : Nat := c - 256

/-- INST of a core (R686). -/
def coreInstOf (c : Nat) : Nat := if isField c then c else 0x100 + supNo c

/-- Base of a field core's scratch slice (R126). -/
def scratchBase (c : Nat) : Nat := 0x1000000000 + c / 16 * 0x800000 + 0x7C0000 + c % 16 * 0x4000

/-- [a, a + n) touches a scratch slice (R126). -/
def inScratch (a n : Nat) : Bool := inTile a n && decide (0x7C0000 < (a - 0x1000000000) % 0x800000 + n)

/-- Code and descriptors may lie there: DRAM, or tile memory outside the scratch slices (R110, R129). -/
def codeRegion (a n : Nat) : Bool := inDram a n || tileBelowScratch a n

/-- Why an address may not be reached: no region (UNMAPPED) or forbidden (ACCESS) (R129, R140). -/
def badRegion (a : Nat) : Nat := if regionOf a = .unmapped then Code.TILE_UNMAPPED else Code.TILE_ACCESS

namespace State

def core (s : State) (c : Nat) : Core := s.cores.get {} c

def setCore (s : State) (c : Nat) (k : Core) : State := { s with cores := s.cores.put {} c k }

def updCore (s : State) (c : Nat) (f : Core → Core) : State := s.setCore c (f (s.core c))

/-- Offset of a tile register of core c. -/
def tileReg (a c : Nat) : Nat := a + c / 16 * 0x1000

/-- Offset of a per-core register of field core c. -/
def coreReg (a c : Nat) : Nat := a + c / 16 * 0x1000 + c % 16 * 0x20

def coreEn (s : State) (c : Nat) : Bool := s.bit (tileReg Reg.TILE_CTRL c) (c % 16)

def icInv (s : State) (c : Nat) : Bool := s.bit (tileReg Reg.TILE_CMD c) 0

def setGroups (s : State) (g : List Group) : State :=
  { s with groups := g }.setReg Reg.TILE_GROUPS (BitVec.ofNat 32 g.length)

/-! ### Groups and kernels -/

/-- The KDONE entry of a group whose last member has ended (R121). -/
def kdoneEntry (s : State) (g : Group) : Entry :=
  entryOfWords [entryHead 0x30 true true (g.failed != 0) false, g.karg, g.kdesc.extractLsb' 0 32, g.kdesc.extractLsb' 32 32,
    g.lphase.extractLsb' 0 32, g.lphase.extractLsb' 32 32, BitVec.ofNat 32 (g.done + g.failed * 65536), BitVec.ofNat 32 s.mono]

def postKdone (s : State) (g : Group) : State :=
  if g.notify then (s.ringUnit g.ring [s.kdoneEntry g]).2 else s

/-- A member of group `gid` has ended, at END or otherwise (R121). -/
def memberEnd (s : State) (gid c : Nat) (ok : Bool) : State :=
  match s.groups.find? fun g => g.id == gid with
  | none => s
  | some g =>
    let g' : Group := { g with alive := g.alive.erase c, done := g.done + b2n ok, failed := g.failed + b2n (!ok) }
    if g'.alive.isEmpty then (s.setGroups (s.groups.filter fun h => h.id != gid)).postKdone g'
    else s.setGroups (s.groups.map fun h => if h.id = gid then g' else h)

/-- A member starts its kernel with the state of R117; special registers describe it. -/
def kernelStart (s : State) (c : Nat) (k : Kernel) : State :=
  let base : DWord := BitVec.ofNat 64 (scratchBase c)
  let fresh : Core := { pc := k.entry, rtx := !k.nortx, run := .run, kernel := some k, started := s.mono }
  s.setCore c (((fresh.setG 1 (k.karg.setWidth 64)).setG 2 base).setG 31 (base + 0x4000))

/-- After the end of a kernel: the pending launch starts, or the core is IDLE, or OFF (R119, R120, R124). -/
def afterKernel (s : State) (c : Nat) : State :=
  match (s.core c).pend with
  | some k =>
    if s.icInv c then s.updCore c fun k => { k with run := .idle, wait := .none, fence := .none }
    else s.kernelStart c k
  | none => s.updCore c fun k =>
    { k with run := if s.coreEn c then .idle else .off, wait := .none, fence := .none }

/-- Every pin the core still holds is released (R155). -/
def releasePins (s : State) (c : Nat) : State :=
  let s' := (s.core c).pins.foldl (fun s x => s.bufUnpin x.1 x.2) s
  s'.updCore c fun k => { k with pins := [] }


end State

/-- A load writes its destination (R157, R188, R189). -/
def Core.landLoad (k : Core) (l : LoadOut) : Core :=
  let k := if l.vec then
      let r : VReg := Fin.ofNat 32 l.dest
      k.setV r (maskLanes 16 l.mask (k.vr r) (lane 16 l.value))
    else k.setG (Fin.ofNat 32 l.dest) (l.value.setWidth 64)
  let key := if l.vec then 32 + l.dest else l.dest
  if l.bad && key != 0 then { k with poison := k.poison.put none key (some l.addr) } else k

/-- Every outstanding local load completes (R156). -/
def Core.landAll (k : Core) : Core := { k.loads.foldl Core.landLoad k with loads := [] }

namespace State

/-! ### Exceptions -/

/-- An exception on a field core: record, counts, and the end of the kernel, or HELD (R119, R123, R155, R156, R158). -/
def fieldExc (s : State) (c code : Nat) (w : Word) (addr : Nat) : State :=
  let k := s.core c
  let kd := match k.kernel with
    | some x => x.kdesc
    | none => 0
  let s := s.raise code c [BitVec.ofNat 32 c, w, k.pc.extractLsb' 0 32, k.pc.extractLsb' 32 32,
    BitVec.ofNat 32 addr, BitVec.ofNat 32 (addr / 2 ^ 32), kd.extractLsb' 0 32, kd.extractLsb' 32 32]
  let s := (s.inc (tileReg Reg.TILE_EXC_CNT c)).setReg (coreReg Reg.TILE_C_CAUSE c) (BitVec.ofNat 32 code)
  let s := (s.updCore c Core.landAll).releasePins c
  let s := match k.kernel with
    | some x => s.memberEnd x.gid c false
    | none => s
  if s.bit (tileReg Reg.TILE_CTRL c) 16 then s.updCore c fun k => { k with run := .held, wait := .none, fence := .none }
  else s.afterKernel c

/-- Entry to a supervisor core's handler (R159). -/
def Core.enter (k : Core) (pc : DWord) (cause : Nat) (intr : Bool) (addr : Nat) : Core :=
  { k with
    epc := pc
    ecause := BitVec.ofNat 32 (cause + b2n k.gie * 2 ^ 30 + b2n intr * 2 ^ 31)
    eaddr := BitVec.ofNat 64 addr
    gie := false
    edepth := k.edepth + 1
    pc := k.evec
    run := .run
    wait := .none
    fence := .none }

/-- A supervisor core stops. -/
def supHalt (s : State) (c : Nat) : State :=
  s.updCore c fun k => { k with run := .idle, wait := .none, fence := .none }

/-- An exception on a supervisor core: cores 0 and 1 vector to EVEC, with SUP_NEST at depth 1 and SUP_HALT at depth 2; cores 2
and 3 stop (R40, R159, R160, R694). `args` go into the record of a bus error (R689). -/
def supExc (s : State) (c code addr : Nat) (args : List Word) : State :=
  let n := supNo c
  let s := s.updCore c Core.landAll
  let k := s.core c
  if n < 2 then
    if 2 ≤ k.edepth then ((s.raise Code.SYS_SUP_HALT (0x100 + n)).raise code (0x100 + n) args).supHalt c
    else
      let s := if k.edepth = 1 then s.raise Code.SYS_SUP_NEST (0x100 + n) else s
      (s.raise code (0x100 + n) args).setCore c (Core.enter k k.pc code false addr)
  else
    let s := if code = Code.SYS_BUS_ERR then s.raise code (0x100 + n) args else s
    let s := s.raise Code.TILE_SUP_STOP (0x100 + n) [BitVec.ofNat 32 code]
    let s := (s.setReg64 (Reg.SUP_EPC_LO + n * 0x100) k.pc).setReg (Reg.SUP_ECAUSE + n * 0x100) (BitVec.ofNat 32 code)
    s.supHalt c

/-- A precise exception on core c at its PC (R156). -/
def exc (s : State) (c code : Nat) (w : Word) (addr : Nat := 0) : State :=
  if isField c then s.fieldExc c code w addr else s.supExc c code addr []

/-! ### Issue -/

/-- The kernel has run for longer than BUDGET (R119, R163). -/
def overBudget (s : State) (c : Nat) : Bool :=
  match (s.core c).kernel with
  | some x => isField c && x.budget != 0 && decide ((s.core c).started + x.budget * 1000 < s.mono)
  | none => false

/-- What forbids the fetch at a core's PC: its exception code (R34, R129, R187). -/
def fetchBad (s : State) (c : Nat) : Option Nat :=
  let a := (s.core c).pc.toNat
  if isField c then if codeRegion a 4 then none else some (badRegion a)
  else match regionOf a with
    | .dram => none
    | .tile => none
    | .plate => none
    | .supUser => none
    | .supSys => if supNo c < 2 then none else some Code.TILE_ACCESS
    | .rom => if supNo c < 2 then none else some Code.TILE_ACCESS
    | .unmapped => some Code.TILE_UNMAPPED
    | _ => some Code.TILE_ACCESS

/-- TRIP is active: field cores issue nothing (R639). -/
def tripped (s : State) : Bool := s.fld Reg.THERM_STATUS 2 0 == 4

/-- The core can commit an instruction: it runs, no fence is open (R123, R134), the device is out of reset and awake, and a field
core is not halted by TRIP (R639). -/
def coreLive (s : State) (c : Nat) : Bool :=
  (s.core c).run == .run && (s.core c).fence == .none && !(s.mode == 0 || s.mode == 0xA) && !(isField c && s.tripped)

/-- Issue of an instruction word w that reads and writes the registers named: it waits for outstanding accesses (R176); BUDGET,
the fetch and poison come before its own effect (R119, R129, R157). -/
def issue (s : State) (c : CoreId) (w : Word) (rd wr : List Nat) (f : State → State) : State :=
  let k := s.core c.val
  if !s.coreLive c.val then s
  else if s.overBudget c.val then s.exc c.val Code.TILE_BUDGET w
  else match s.fetchBad c.val with
    | some e => s.exc c.val e w k.pc.toNat
    | none =>
      if k.outstanding (rd ++ wr) then s
      else match k.firstPoison rd with
        | some a => s.exc c.val Code.TILE_ECC_UNCORR w a
        | none => f s

/-- An instruction that acts on its core alone. -/
def alu (s : State) (c : CoreId) (w : Word) (rd wr : List Nat) (f : Core → Core) : State :=
  s.issue c w rd wr fun s => s.updCore c.val fun k => (f k).next

/-- The same, governed by bit 0 of p (R104). -/
def aluP (s : State) (c : CoreId) (w : Word) (p : PReg) (rd wr : List Nat) (f : Core → Core) : State :=
  if ((s.core c.val).p0 p) then s.alu c w rd wr f else s.alu c w [] [] fun k => k

/-- An instruction word that raises ILLEGAL, with no effect (R172). -/
def illegal (s : State) (c : CoreId) (w : Word) : State := s.issue c w [] [] fun s => s.exc c.val Code.TILE_ILLEGAL w

/-- An instruction marked "field only" raises ILLEGAL on a supervisor core (R172). -/
def fieldOnly (s : State) (c : CoreId) (w : Word) (t : State) : State := if isField c.val then t else s.illegal c w

/-! ### Launch -/

/-- The descriptor at an address fails R110, its fetch or its alignment (R111). -/
def kdescBad (s : State) (a : Nat) : Bool :=
  let w (i : Nat) := s.memWord (a + 4 * i)
  let entry := (w 1).toNat + (w 2).toNat * 2 ^ 32
  a % 32 != 0 || !codeRegion a 32 || s.hasUe a 32
    || wfld (w 0) 15 0 != 0x4B44 || wfld (w 0) 23 16 != 1 || wfld (w 0) 31 27 != 0
    || entry % 4 != 0 || !codeRegion entry 4 || wfld (w 4) 31 6 != 0 || w 5 != 0 || w 6 != 0 || w 7 != 0

/-- Cores selected by A0 that accept: IDLE with nothing pending, or busy without a pending launch (R113). -/
def selected (s : State) (a0 : Word) : List Nat :=
  (List.range 256).filter fun c => wfld a0 (c / 16) (c / 16) == 1 && wfld a0 (16 + c % 16) (16 + c % 16) == 1 && s.coreEn c

def freeGid (s : State) : Nat :=
  match (List.range 256).find? fun i => s.groups.all fun g => g.id != i with
  | some i => i
  | none => 256

/-- Give one member its launch: an IDLE core starts it, unless its instruction cache is being invalidated; any other core holds it
pending (R113, R117, R130). -/
def deliver (s : State) (c : Nat) (k : Kernel) : State :=
  let s := s.inc (tileReg Reg.TILE_LAUNCH_CNT c)
  if (s.core c).run = .idle ∧ s.icInv c = false then s.kernelStart c k else s.updCore c fun x => { x with pend := some k }

/-- The launch distributor takes a LAUNCH action (R111 to R117). -/
def launch (s : State) (a : Act) : State :=
  let kd := a.a1.toNat + a.a2.toNat * 2 ^ 32
  let s := if s.hasUe kd 32 && codeRegion kd 32 && kd % 32 == 0 then s.noteUe 0x3FFF kd 32 else s
  if s.kdescBad kd then s.raise Code.TILE_LAUNCH_BAD 0
  else
    let w0 := s.memWord kd
    let g : Group := ⟨s.freeGid, a.a3, BitVec.ofNat 64 kd, a.fire, wfld w0 26 26 == 1, wfld (s.memWord (kd + 16)) 5 0, [], 0, 0⟩
    if s.bit Reg.TILE_SHED_STATUS 0 && wfld w0 24 24 == 1 then (s.inc Reg.TILE_SHED_CNT).postKdone g
    else if 256 ≤ s.groups.length then s.raise Code.TILE_GROUP_FULL 0
    else
      let sel := s.selected a.a0
      let acc := sel.filter fun c => (s.core c).pend.isNone
      let rej := sel.filter fun c => (s.core c).pend.isSome
      let s := rej.foldl (fun s c => s.inc (tileReg Reg.TILE_DROP_CNT c)) s
      let s := match rej with
        | [] => s
        | c :: _ => s.raise Code.TILE_LAUNCH_OVF c
      if acc.isEmpty then s.postKdone g
      else
        let s := s.setGroups (s.groups ++ [{ g with alive := acc }])
        let entry : DWord := s.memWord (kd + 8) ++ s.memWord (kd + 4)
        acc.zipIdx.foldl (fun s x => s.deliver x.1 ⟨g.id, a.a3, g.kdesc, a.a0, x.2, acc.length, a.fire, entry,
          (s.memWord (kd + 12)).toNat, wfld w0 25 25 == 1⟩) s

/-! ### End, abort, release -/

/-- END has taken effect: pins are released with PIN_LEAK, the member ends, the pending launch starts (R120, R155). -/
def endKernel (s : State) (c : Nat) : State :=
  let s := if (s.core c).pins.isEmpty then s else s.raise Code.TILE_PIN_LEAK c
  let s := s.releasePins c
  let s := match (s.core c).kernel with
    | some x => s.memberEnd x.gid c true
    | none => s
  s.afterKernel c

/-- An abort of one core (R122, R123): the kernel ends, the pending launch is cleared, pins are released. -/
def abortCore (s : State) (c : Nat) : State :=
  let k := s.core c
  let busy := k.run == .run || k.run == .wait
  if !busy && k.run != .held && k.pend.isNone then s
  else
    let s := s.inc (tileReg Reg.TILE_ABORT_CNT c)
    let s := match k.pend with
      | some x => s.memberEnd x.gid c false
      | none => s
    let s := s.updCore c fun k => { k with pend := none, loads := [], remote := [], flushes := [] }
    let s := s.releasePins c
    let s := match busy, k.kernel with
      | true, some x => s.memberEnd x.gid c false
      | _, _ => s
    s.afterKernel c

/-- The cores of a tile named by a mask. -/
def tileCores (t m : Nat) : List Nat := ((List.range 16).filter fun i => m / 2 ^ i % 2 == 1).map fun i => t * 16 + i

def abortEffect (s : State) (t : Nat) (v : Word) : State := (tileCores t v.toNat).foldl abortCore s

/-- TILEt_RELEASE: HELD cores go to their pending launch or to IDLE (R123). -/
def releaseEffect (s : State) (t : Nat) (v : Word) : State :=
  (tileCores t v.toNat).foldl (fun s c => if (s.core c).run = .held then s.afterKernel c else s) s

/-- TILEt_CTRL: CORE_EN off turns an idle core OFF at once, on turns it IDLE (R123, R124). -/
def tileCtrlEffect (s : State) (ag : Agent) (t : Nat) (v : Word) : State :=
  let s := s.plainWrite ag (Reg.TILE_CTRL + t * 0x1000) v
  (tileCores t 0xFFFF).foldl (fun s c => s.updCore c fun k =>
    if k.run = .idle ∧ k.pend = none ∧ s.coreEn c = false then { k with run := .off }
    else if k.run = .off ∧ s.coreEn c = true then { k with run := .idle } else k) s

/-- TILEt_CMD.ICINV (R130). -/
def icinvEffect (s : State) (t : Nat) : State := s.setBit (Reg.TILE_CMD + t * 0x1000) 0 true

/-- SUPn_CTRL for cores 2 and 3, from supervisor cores 0 and 1 only; STOP wins (R35, R164). START on a core that runs already
has no effect (log entry 23). -/
def supCtrlEffect (s : State) (ag : Agent) (n : Nat) (v : Word) : State :=
  let ok := match ag with
    | .sup m => decide (m.val < 2)
    | .jtag => false
  if !ok || n < 2 then s
  else if wfld v 1 1 = 1 then s.supHalt (256 + n)
  else if wfld v 0 0 = 1 ∧ (s.core (256 + n)).run = .idle then
    s.updCore (256 + n) fun k => { k with pc := s.reg64 (Reg.SUP_ENTRY_LO + n * 0x100), run := .run, wait := .none, fence := .none }
  else s

/-! ### Interrupts, waits, fences, barriers -/

/-- IPEND of a supervisor core (R105, R161). -/
def ipendOf (s : State) (c : Nat) : DWord := s.ipend &&& (s.core c).ien

/-- An access of the core that a fence waits for (R134). -/
def fenceOpen (k : Core) (kind : Fence) : Bool :=
  !k.loads.isEmpty || (kind == Fence.f && (!k.remote.isEmpty || !k.flushes.isEmpty))

/-- Members of the core's group that a barrier counts: all of them, or those of its tile (R136). -/
def barrierMembers (s : State) (c : Nat) (tileOnly : Bool) : List Nat :=
  match (s.core c).kernel with
  | none => [c]
  | some x => match s.groups.find? fun g => g.id == x.gid with
    | none => [c]
    | some g => g.alive.filter fun m => !tileOnly || m / 16 == c / 16

/-- A member has reached the barrier: it runs the group's kernel and waits there; a member whose launch is still pending has not. -/
def atBarrier (s : State) (c m : Nat) (wt : CoreWait) : Bool :=
  (s.core m).wait == wt && ((s.core m).kernel.map fun x => x.gid) == ((s.core c).kernel.map fun x => x.gid)

/-- The barrier of core c completes for every member that waits at it, once all have reached it (R136). -/
def barrierDone (s : State) (c : Nat) : State :=
  let wt := (s.core c).wait
  let ms := s.barrierMembers c (wt == .barT)
  if (wt == .barT || wt == .barG) && ms.all (fun m => s.atBarrier c m wt) then
    ms.foldl (fun s m => s.updCore m fun k => { k with run := .run, wait := .none }.next) s
  else s

/-- WAITPH for a target (R142 to R144, R208): on in order, PHASE_RANGE, WLATE, or WAIT. -/
def waitPhase (s : State) (c : Nat) (w : Word) (t : DWord) : State :=
  let d := phaseDiff t s.phase
  if d ≤ 0 ∧ s.stopped = false then s.updCore c fun k => (k.kflag 4 true).next
  else if 2 ^ 62 < d then s.exc c Code.TILE_PHASE_RANGE w
  else s.updCore c fun k => { k.kflag 4 false with run := .wait, wait := .phase t }

end State

/-! ### Commands -/

/-- LAUNCH. -/
def execLaunch (s : State) : Host.Outcome State Fault Refusal :=
  match s.takeIssued 1 with
  | none => .next s
  | some (a, s) => .next (s.launch a)

/-- END: an implied FENCE.D, every outstanding load, then the end (R120, R135); it completes with nothing outstanding. -/
def execSEnd (c : CoreId) (s : State) : Host.Outcome State Fault Refusal :=
  let w := encR 0x19 0 0 0 0 8
  .next (s.fieldOnly c w (s.issue c w [] [] fun s =>
    if (s.core c.val).loads.isEmpty && (s.core c.val).remote.isEmpty then s.endKernel c.val else s))

/-- Words that every profile reads as a defined instruction (R172, R173): the fields of each group are checked. -/
def wordLegal (field : Bool) (w : Word) : Bool :=
  let f (h l : Nat) := wfld w h l
  let fn := f 7 0
  let d := f 25 21
  let a := f 20 16
  let b := f 15 11
  let p := f 10 8
  match f 31 26 with
  | 0x01 => decide (fn ≤ 0x17) && !(decide (0x0F ≤ fn) && decide (fn ≤ 0x16) && b != 0)
  | 0x02 => true
  | 0x03 => true
  | 0x04 => true
  | 0x05 => d != 0
  | 0x06 => (fn == 0 && d == 0 && b == 0) || (fn == 1 && b == 0)
  | 0x07 => true
  | 0x08 => true
  | 0x09 => true
  | 0x0A => true
  | 0x0B => f 15 8 == 0
  | 0x0C => f 20 16 == 0
  | 0x0D => f 20 18 == 0
  | 0x0E => true
  | 0x0F => decide (fn ≤ 7) && fn != 3
  | 0x10 => decide (fn < 8) && decide (d < 8)
  | 0x11 => p == 0 && decide (fn ≤ 6) && (if fn = 6 then decide (a < 8) && b == 0 else
      decide (d < 8) && (if fn = 5 then b == 0 else decide (a < 8) && (if fn = 4 then b == 0 else decide (b < 8))))
  | 0x12 => f 15 13 != 7
  | 0x13 => f 15 13 % 2 == 0
  | 0x14 => true
  | 0x15 => true
  | 0x16 => decide (fn ≤ 5)
  | 0x17 => fn ≤ 2 || (4 ≤ fn && fn ≤ 6) || fn == 8 || fn == 9 || (0x10 ≤ fn && fn ≤ 0x2F)
  | 0x18 => f 6 5 == 0 && a % 2 == 0 && f 9 8 != 3 && (f 7 7 == 1 || f 4 0 == 0) && (f 9 8 != 2 || a == 0)
  | 0x19 => d == 0 && a == 0 && b == 0 && p == 0 && (decide (fn ≤ 3) || (field && (fn == 4 || fn == 5 || fn == 8)))
  | 0x1A => p == 0 && (match fn with
      | 0 => a == 0 && b == 0
      | 1 => d == 0 && b == 0
      | 2 => field && d == 0 && b == 0
      | 3 => b == 0 && a % 2 == 0
      | _ => false)
  | 0x1B => field && (match fn with
      | 0 => true
      | 1 => p == 0
      | 2 => p == 0 && b == 0
      | _ => false)
  | 0x1C => d == 0 && a == 0
  | 0x1D => f 19 12 == 0 && (decide (f 11 0 ≤ 0xC) || (decide (0x100 ≤ f 11 0) && decide (f 11 0 ≤ 0x106))
      || (decide (0x110 ≤ f 11 0) && decide (f 11 0 ≤ 0x112)))
  | 0x1E => d == 0 && a == 0 && b == 0 && p == 0 && decide (fn ≤ 1)
  | 0x20 => decide (fn % 128 ≤ 0x13) && !(decide (128 ≤ fn) && decide (7 ≤ fn % 128) && decide (fn % 128 ≤ 9))
  | 0x21 => decide (fn ≤ 7) && (decide (fn < 6) || b == 0)
  | 0x22 => f 7 5 == 0 && decide (d < 8) && (if f 4 4 = 1 then f 3 3 == 0 && decide (f 2 0 ≤ 3) else f 2 0 != 7)
  | 0x23 => decide (fn ≤ 0xB) && (fn == 0 || fn == 1 || p == 0) && (match fn with
      | 3 => b == 0
      | 4 => b == 0
      | 5 => decide (b < 8)
      | 6 => decide (b < 8)
      | 8 => b == 0
      | 9 => b == 0
      | 0xB => decide (b < 2)
      | _ => true)
  | 0x24 => decide (fn < 4)
  | 0x25 => decide (fn < 2) && b % 2 == 0
  | 0x26 => decide (fn < 128)
  | 0x27 => decide (fn < 128) && f 1 0 != 3
  | 0x28 => decide (fn ≤ 7) && b == 0
  | _ => false

/-- The core meets the word w at its PC and it raises an exception: the fetch is forbidden, or the word is reserved (R129, R172). -/
def State.wordExc (s : State) (c : CoreId) (w : Word) : State :=
  s.issue c w [] [] fun s => if wordLegal (isField c.val) w then s else s.exc c.val Code.TILE_ILLEGAL w

/-- FIELD_EXCEPTION. -/
def execFieldException (t c : Fin 16) (w : Word) (s : State) : Host.Outcome State Fault Refusal :=
  .next (s.wordExc (Fin.ofNat 260 (t.val * 16 + c.val)) w)

/-- SUP_EXCEPTION. -/
def execSupException (n : Fin 4) (w : Word) (s : State) : Host.Outcome State Fault Refusal :=
  .next (s.wordExc (Fin.ofNat 260 (256 + n.val)) w)

/-- BUDGET_EXPIRY: in RUN or WAIT, with the instruction word at the PC in the record (R119, R123). -/
def execBudgetExpiry (t c : Fin 16) (s : State) : Host.Outcome State Fault Refusal :=
  let i := t.val * 16 + c.val
  let k := s.core i
  if (k.run = .run ∨ k.run = .wait) ∧ s.overBudget i = true then .next (s.exc i Code.TILE_BUDGET (s.memWord k.pc.toNat))
  else .next s

/-- TILE_ABORT. -/
def execTileAbort (ag : Agent) (t : Fin 16) (v : Word) (s : State) : Host.Outcome State Fault Refusal :=
  .next (s.writeBy ag (Reg.TILE_ABORT + t.val * 0x1000) fun s => s.abortEffect t.val v)

/-- TILE_RELEASE. -/
def execTileRelease (ag : Agent) (t : Fin 16) (v : Word) (s : State) : Host.Outcome State Fault Refusal :=
  .next (s.writeBy ag (Reg.TILE_RELEASE + t.val * 0x1000) fun s => s.releaseEffect t.val v)

/-- TILE_CTRL_WRITE. -/
def execTileCtrlWrite (ag : Agent) (t : Fin 16) (v : Word) (s : State) : Host.Outcome State Fault Refusal :=
  .next (s.writeBy ag (Reg.TILE_CTRL + t.val * 0x1000) fun s => s.tileCtrlEffect ag t.val v)

/-- TILE_ICINV. -/
def execTileIcinv (ag : Agent) (t : Fin 16) (s : State) : Host.Outcome State Fault Refusal :=
  .next (s.writeBy ag (Reg.TILE_CMD + t.val * 0x1000) fun s => s.icinvEffect t.val)

/-- ICINV_DONE: ICINV clears, and launches that arrived during the invalidation start (R130). -/
def execIcinvDone (t : Fin 16) (s : State) : Host.Outcome State Fault Refusal :=
  let s := s.setBit (Reg.TILE_CMD + t.val * 0x1000) 0 false
  .next ((State.tileCores t.val 0xFFFF).foldl (fun s c =>
    if (s.core c).run = .idle ∧ (s.core c).pend.isSome = true then s.afterKernel c else s) s)

/-- SUP_START. -/
def execSupStart (ag : Agent) (n : Fin 4) (s : State) : Host.Outcome State Fault Refusal :=
  .next (s.writeBy ag (Reg.SUP_CTRL + n.val * 0x100) fun s => s.supCtrlEffect ag n.val 1)

/-- SUP_STOP. -/
def execSupStop (ag : Agent) (n : Fin 4) (s : State) : Host.Outcome State Fault Refusal :=
  .next (s.writeBy ag (Reg.SUP_CTRL + n.val * 0x100) fun s => s.supCtrlEffect ag n.val 2)

/-- RING_INTERRUPT: between two instructions, or during a WAITPH, with GIE = 1, IPEND not 0 and EDEPTH below 2 (R159 to R161,
R208, R694). -/
def execRingInterrupt (n : Fin 4) (s : State) : Host.Outcome State Fault Refusal :=
  let c := 256 + n.val
  let k := s.core c
  let can := match k.run, k.wait with
    | .run, _ => k.fence == .none
    | .wait, .phase _ => true
    | _, _ => false
  if can && k.gie && s.ipendOf c != 0 && decide (k.edepth < 2) then .next (s.setCore c (State.Core.enter k k.pc 0 true 0))
  else .next s

/-- LOAD_RETURN: outstanding load i of the core returns (R157). -/
def execLoadReturn (c : CoreId) (i : Fin 8) (s : State) : Host.Outcome State Fault Refusal :=
  match (s.core c.val).loads[i.val]? with
  | none => .next s
  | some l => .next (s.updCore c.val fun k => { k.landLoad l with loads := k.loads.eraseIdx i.val })

/-- WAITPH_RELEASE: the phase has reached the target (R142). -/
def execWaitphRelease (c : CoreId) (s : State) : Host.Outcome State Fault Refusal :=
  match (s.core c.val).run, (s.core c.val).wait with
  | .wait, .phase t =>
    if phaseBefore s.phase t || s.stopped then .next s
    else .next (s.updCore c.val fun k => { k with run := .run, wait := .none }.next)
  | _, _ => .next s

/-- BARRIER_COMPLETE. -/
def execBarrierComplete (c : CoreId) (s : State) : Host.Outcome State Fault Refusal := .next (s.barrierDone c.val)

/-- FENCE_COMPLETE: every earlier access has been performed in the fence's scope (R134). -/
def execFenceComplete (c : CoreId) (s : State) : Host.Outcome State Fault Refusal :=
  let k := s.core c.val
  if k.fence = .none ∨ State.fenceOpen k k.fence = true then .next s
  else .next (s.updCore c.val fun k => { k with fence := .none, farNodes := if k.fence = Fence.f then [] else k.farNodes }.next)

end Sys2Proof.Machine
end

