-- ==== Sys2Proof/Machine/SelmirAlu.lean ====
section
/-!
DEFINITION. Scalar, predicate, branch, control, phase, ring and plate instructions (04_selmir_instructions.md R179 to R187, R207 to R215).
-/
namespace Sys2Proof.Machine

open Sys2Proof

/-- Leading zeros of a 64-bit number; 64 of 0 (R179). -/
def clz64 (n : Nat) : Nat := if n = 0 then 64 else 63 - n.log2

/-- Set bits of a 64-bit number (R179). -/
def popc64 (n : Nat) : Nat := (List.range 64).foldl (fun a i => a + n / 2 ^ i % 2) 0

/-- SHL, SHR, SRA, ROR (R180). -/
def shiftOp (kind : Nat) (x : DWord) (n : Nat) : DWord :=
  match kind with
  | 0 => x <<< n
  | 1 => x >>> n
  | 2 => x.sshiftRight n
  | _ => x.rotateRight n

/-- Signed quotient rounded toward zero; −1 for a zero divisor (R181). -/
def divS (x y : DWord) : DWord := if y = 0 then 0xFFFFFFFFFFFFFFFF else BitVec.ofInt 64 (x.toInt.tdiv y.toInt)

/-- Signed remainder with the sign of the dividend; the dividend for a zero divisor (R181). -/
def remS (x y : DWord) : DWord := if y = 0 then x else BitVec.ofInt 64 (x.toInt.tmod y.toInt)

/-- One halfword of a register replaced (R182). -/
def putHalf (x : DWord) (hw : Nat) (imm : BitVec 16) : DWord :=
  (x &&& ~~~((0xFFFF : DWord) <<< (16 * hw))) ||| (imm.setWidth 64 <<< (16 * hw))

/-- A scalar compare writes its result into all 8 bits (R104). -/
def all8 (b : Bool) : BitVec 8 := if b then 0xFF else 0

/-- VCMP: the result of 16-bit lane i goes into bit i, of 32-bit lane i into bits 2i and 2i + 1; inactive lanes keep theirs (R184). -/
def vcmpOp (fp wide : Bool) (cond : Nat) (p old : BitVec 8) (x y : Vec) : BitVec 8 :=
  let w := if wide then 32 else 16
  BitVec.ofNat 8 ((List.range 8).foldl (fun acc i =>
    let l := if wide then i / 2 else i
    let on := laneOn w p l
    let r := if fp then f16Cond cond (lane 16 x l) (lane 16 y l) else intCond w cond (lane w x l) (lane w y l)
    acc + (if on then b2n r else bits old i i) * 2 ^ i) 0)

/-- The test of a BC (R186). -/
def bcTest (t : Nat) (p : BitVec 8) : Bool :=
  match t with
  | 0 => bits p 0 0 == 1
  | 1 => bits p 0 0 == 0
  | 2 => p != 0
  | _ => p == 0

/-- Go on at an address. -/
def Core.jump (k : Core) (t : DWord) : Core := { k with pc := t }

/-- LPHASE of the running kernel (R105). -/
def Core.lphase (k : Core) : DWord :=
  match k.kernel with
  | some x => x.lphase
  | none => 0

/-- A fence: it completes at once when nothing is open, else the core waits for FENCE_COMPLETE (R134). -/
def Core.startFence (k : Core) (kind : Fence) : Core :=
  if State.fenceOpen k kind then { k with fence := kind }
  else { k with farNodes := if kind = Fence.f then [] else k.farNodes }.next

/-- The ring of a RING instruction (R207). -/
def ringSel (k : Core) (ring : RingId) (rr : Bool) (gr : GReg) : Nat := if rr then bits (k.gr gr) 5 0 else ring.val

/-- Numbers of the special register table (R105). -/
def srExists (n : Nat) : Bool :=
  decide (n ≤ 0xC) || (decide (0x100 ≤ n) && decide (n ≤ 0x106)) || (decide (0x110 ≤ n) && decide (n ≤ 0x112))

/-- MVT (R105, R106). -/
def Core.srWrite (k : Core) (field : Bool) (n : Nat) (v : DWord) : Core :=
  let w : Word := v.setWidth 32
  match n with
  | 0x009 => { k with kstat := w &&& 0x3F#32 }
  | 0x00A => { k with fpsr := w &&& 0xF#32 }
  | 0x00C => if field then { k with rtx := wfld w 0 0 == 1 } else k
  | 0x100 => { k with evec := v }
  | 0x101 => { k with epc := v }
  | 0x102 => { k with ecause := w &&& 0xC000FFFF#32 }
  | 0x103 => { k with eaddr := v }
  | 0x105 => { k with esave0 := v }
  | 0x106 => { k with esave1 := v }
  | 0x110 => { k with ien := v }
  | 0x112 => { k with gie := wfld w 0 0 == 1 }
  | _ => k

namespace State

/-- A field core may use the ring (R147). -/
def mayRing (s : State) (c r : Nat) : Bool :=
  !isField c || s.bit (tileReg Reg.TILE_RING_MASK_LO c + r / 32 * 4) (r % 32)

/-- JR and JLR: a target that is not word aligned raises ALIGN at the jump, with the target as the address (R186, R187). -/
def jumpReg (s : State) (c : Nat) (w : Word) (t : DWord) (link : Option GReg) : State :=
  if bits t 1 0 ≠ 0 then s.exc c Code.TILE_ALIGN w t.toNat
  else s.updCore c fun k => (match link with
    | some d => k.setG d (k.pc + 4)
    | none => k).jump t

/-- Reach a barrier; a lone member passes at once (R136). -/
def reachBarrier (s : State) (c : Nat) (wt : CoreWait) : State :=
  let s := s.updCore c fun k => { k with run := .wait, wait := wt }
  if s.barrierMembers c (wt == .barT) = [c] then s.barrierDone c else s

/-- Store the bytes of the active 16-bit lanes at an address (R189, R190). -/
def storeLanes (s : State) (c addr : Nat) (p : BitVec 8) (v : Vec) : State :=
  let all := decide (p = 0xFF#8)
  if all then s.store (coreInstOf c) addr (leBytes 16 v.toNat)
  else (List.range 8).foldl (fun s i =>
    if laneOn 16 p i then s.store (coreInstOf c) (addr + 2 * i) (leBytes 2 (lane 16 v i)) else s) s

/-- MVS (R105): 32-bit registers are zero-extended, a dash reads 0. -/
def srRead (s : State) (c n : Nat) : DWord :=
  let k := s.core c
  let field := isField c
  let onField (v : DWord) : DWord := if field then v else 0
  let kern (f : Kernel → DWord) : DWord := match k.kernel with
    | some x => f x
    | none => 0
  match n with
  | 0x000 => BitVec.ofNat 64 (if field then c else 0x100 + supNo c)
  | 0x001 => BitVec.ofNat 64 (s.fld Reg.TRANSIT_NODE 12 0)
  | 0x002 => onField (kern fun x => x.karg.setWidth 64)
  | 0x003 => onField (kern fun x => x.kdesc)
  | 0x004 => onField (kern fun x => BitVec.ofNat 64 (x.a0.toNat + x.rank * 2 ^ 32 + x.size * 2 ^ 48))
  | 0x005 => onField k.lphase
  | 0x006 => onField (BitVec.ofNat 64 (scratchBase c))
  | 0x007 => BitVec.ofNat 64 (if field then (s.mono - k.started) * 3 / 2 else s.mono * 6 / 5)
  | 0x008 => BitVec.ofNat 64 s.mono
  | 0x009 => k.kstat.setWidth 64
  | 0x00A => k.fpsr.setWidth 64
  | 0x00B => BitVec.ofNat 64 (s.fld Reg.THERM_STATUS 7 4 + s.fld Reg.TILE_SHED_STATUS 0 0 * 16)
  | 0x00C => onField (BitVec.ofNat 64 (b2n k.rtx))
  | 0x100 => k.evec
  | 0x101 => k.epc
  | 0x102 => k.ecause.setWidth 64
  | 0x103 => k.eaddr
  | 0x104 => BitVec.ofNat 64 k.edepth
  | 0x105 => k.esave0
  | 0x106 => k.esave1
  | 0x110 => k.ien
  | 0x111 => s.ipendOf c
  | 0x112 => BitVec.ofNat 64 (b2n k.gie)
  | _ => 0

end State

/-! ### The instructions -/

/-- ADD (R179). -/
def execSAdd (c : CoreId) (d a b : GReg) (p : PReg) (s : State) : Host.Outcome State Fault Refusal :=
  .next (s.aluP c (encR 0x01 d a b p 0) p [gKey a, gKey b] [gKey d] fun k => k.setG d ((k.gr a) + (k.gr b)))

/-- SUB (R179). -/
def execSSub (c : CoreId) (d a b : GReg) (p : PReg) (s : State) : Host.Outcome State Fault Refusal :=
  .next (s.aluP c (encR 0x01 d a b p 1) p [gKey a, gKey b] [gKey d] fun k => k.setG d ((k.gr a) - (k.gr b)))

/-- AND (R179). -/
def execSAnd (c : CoreId) (d a b : GReg) (p : PReg) (s : State) : Host.Outcome State Fault Refusal :=
  .next (s.aluP c (encR 0x01 d a b p 2) p [gKey a, gKey b] [gKey d] fun k => k.setG d ((k.gr a) &&& (k.gr b)))

/-- OR (R179). -/
def execSOr (c : CoreId) (d a b : GReg) (p : PReg) (s : State) : Host.Outcome State Fault Refusal :=
  .next (s.aluP c (encR 0x01 d a b p 3) p [gKey a, gKey b] [gKey d] fun k => k.setG d ((k.gr a) ||| (k.gr b)))

/-- XOR (R179). -/
def execSXor (c : CoreId) (d a b : GReg) (p : PReg) (s : State) : Host.Outcome State Fault Refusal :=
  .next (s.aluP c (encR 0x01 d a b p 4) p [gKey a, gKey b] [gKey d] fun k => k.setG d ((k.gr a) ^^^ (k.gr b)))

/-- ANDN (R179). -/
def execSAndn (c : CoreId) (d a b : GReg) (p : PReg) (s : State) : Host.Outcome State Fault Refusal :=
  .next (s.aluP c (encR 0x01 d a b p 5) p [gKey a, gKey b] [gKey d] fun k => k.setG d ((k.gr a) &&& ~~~(k.gr b)))

/-- SHL (R179). -/
def execSShl (c : CoreId) (d a b : GReg) (p : PReg) (s : State) : Host.Outcome State Fault Refusal :=
  .next (s.aluP c (encR 0x01 d a b p 6) p [gKey a, gKey b] [gKey d] fun k => k.setG d ((k.gr a) <<< (bits (k.gr b) 5 0)))

/-- SHR (R179). -/
def execSShr (c : CoreId) (d a b : GReg) (p : PReg) (s : State) : Host.Outcome State Fault Refusal :=
  .next (s.aluP c (encR 0x01 d a b p 7) p [gKey a, gKey b] [gKey d] fun k => k.setG d ((k.gr a) >>> (bits (k.gr b) 5 0)))

/-- SRA (R179). -/
def execSSra (c : CoreId) (d a b : GReg) (p : PReg) (s : State) : Host.Outcome State Fault Refusal :=
  .next (s.aluP c (encR 0x01 d a b p 8) p [gKey a, gKey b] [gKey d] fun k => k.setG d ((k.gr a).sshiftRight (bits (k.gr b) 5 0)))

/-- ROR (R179). -/
def execSRor (c : CoreId) (d a b : GReg) (p : PReg) (s : State) : Host.Outcome State Fault Refusal :=
  .next (s.aluP c (encR 0x01 d a b p 9) p [gKey a, gKey b] [gKey d] fun k => k.setG d ((k.gr a).rotateRight (bits (k.gr b) 5 0)))

/-- MIN (R179). -/
def execSMin (c : CoreId) (d a b : GReg) (p : PReg) (s : State) : Host.Outcome State Fault Refusal :=
  .next (s.aluP c (encR 0x01 d a b p 10) p [gKey a, gKey b] [gKey d] fun k => k.setG d (if (k.gr a).toInt ≤ (k.gr b).toInt then k.gr a else k.gr b))

/-- MAX (R179). -/
def execSMax (c : CoreId) (d a b : GReg) (p : PReg) (s : State) : Host.Outcome State Fault Refusal :=
  .next (s.aluP c (encR 0x01 d a b p 11) p [gKey a, gKey b] [gKey d] fun k => k.setG d (if (k.gr b).toInt ≤ (k.gr a).toInt then k.gr a else k.gr b))

/-- MINU (R179). -/
def execSMinu (c : CoreId) (d a b : GReg) (p : PReg) (s : State) : Host.Outcome State Fault Refusal :=
  .next (s.aluP c (encR 0x01 d a b p 12) p [gKey a, gKey b] [gKey d] fun k => k.setG d (if (k.gr a).toNat ≤ (k.gr b).toNat then k.gr a else k.gr b))

/-- MAXU (R179). -/
def execSMaxu (c : CoreId) (d a b : GReg) (p : PReg) (s : State) : Host.Outcome State Fault Refusal :=
  .next (s.aluP c (encR 0x01 d a b p 13) p [gKey a, gKey b] [gKey d] fun k => k.setG d (if (k.gr b).toNat ≤ (k.gr a).toNat then k.gr a else k.gr b))

/-- SEL: p is the selector and does not gate it (R179). -/
def execSSel (c : CoreId) (d a b : GReg) (p : PReg) (s : State) : Host.Outcome State Fault Refusal :=
  .next (s.alu c (encR 0x01 d a b p 0x0E) [gKey a, gKey b] [gKey d] fun k => k.setG d (if k.p0 p then k.gr a else k.gr b))

/-- CLZ: 64 when g[a] = 0 (R179). -/
def execSClz (c : CoreId) (d a : GReg) (p : PReg) (s : State) : Host.Outcome State Fault Refusal :=
  .next (s.aluP c (encR 0x01 d a 0 p 15) p [gKey a] [gKey d] fun k => k.setG d (BitVec.ofNat 64 (clz64 (k.gr a).toNat)))

/-- POPC (R179). -/
def execSPopc (c : CoreId) (d a : GReg) (p : PReg) (s : State) : Host.Outcome State Fault Refusal :=
  .next (s.aluP c (encR 0x01 d a 0 p 16) p [gKey a] [gKey d] fun k => k.setG d (BitVec.ofNat 64 (popc64 (k.gr a).toNat)))

/-- SEXT.B (R179). -/
def execSSextB (c : CoreId) (d a : GReg) (p : PReg) (s : State) : Host.Outcome State Fault Refusal :=
  .next (s.aluP c (encR 0x01 d a 0 p 17) p [gKey a] [gKey d] fun k => k.setG d (((k.gr a).setWidth 8).signExtend 64))

/-- SEXT.H (R179). -/
def execSSextH (c : CoreId) (d a : GReg) (p : PReg) (s : State) : Host.Outcome State Fault Refusal :=
  .next (s.aluP c (encR 0x01 d a 0 p 18) p [gKey a] [gKey d] fun k => k.setG d (((k.gr a).setWidth 16).signExtend 64))

/-- SEXT.W (R179). -/
def execSSextW (c : CoreId) (d a : GReg) (p : PReg) (s : State) : Host.Outcome State Fault Refusal :=
  .next (s.aluP c (encR 0x01 d a 0 p 19) p [gKey a] [gKey d] fun k => k.setG d (((k.gr a).setWidth 32).signExtend 64))

/-- ZEXT.B (R179). -/
def execSZextB (c : CoreId) (d a : GReg) (p : PReg) (s : State) : Host.Outcome State Fault Refusal :=
  .next (s.aluP c (encR 0x01 d a 0 p 20) p [gKey a] [gKey d] fun k => k.setG d (((k.gr a).setWidth 8).setWidth 64))

/-- ZEXT.H (R179). -/
def execSZextH (c : CoreId) (d a : GReg) (p : PReg) (s : State) : Host.Outcome State Fault Refusal :=
  .next (s.aluP c (encR 0x01 d a 0 p 21) p [gKey a] [gKey d] fun k => k.setG d (((k.gr a).setWidth 16).setWidth 64))

/-- ZEXT.W (R179). -/
def execSZextW (c : CoreId) (d a : GReg) (p : PReg) (s : State) : Host.Outcome State Fault Refusal :=
  .next (s.aluP c (encR 0x01 d a 0 p 22) p [gKey a] [gKey d] fun k => k.setG d (((k.gr a).setWidth 32).setWidth 64))

/-- ADDW (R179). -/
def execSAddw (c : CoreId) (d a b : GReg) (p : PReg) (s : State) : Host.Outcome State Fault Refusal :=
  .next (s.aluP c (encR 0x01 d a b p 23) p [gKey a, gKey b] [gKey d] fun k => k.setG d ((((k.gr a) + (k.gr b)).setWidth 32).signExtend 64))

/-- ADDI (R180). -/
def execSAddi (c : CoreId) (d a : GReg) (imm : BitVec 16) (s : State) : Host.Outcome State Fault Refusal :=
  .next (s.alu c (encI 0x07 d a imm.toNat) [gKey a] [gKey d] fun k => k.setG d (k.gr a + imm.signExtend 64))

/-- ANDI (R180). -/
def execSAndi (c : CoreId) (d a : GReg) (imm : BitVec 16) (s : State) : Host.Outcome State Fault Refusal :=
  .next (s.alu c (encI 0x08 d a imm.toNat) [gKey a] [gKey d] fun k => k.setG d (k.gr a &&& imm.setWidth 64))

/-- ORI (R180). -/
def execSOri (c : CoreId) (d a : GReg) (imm : BitVec 16) (s : State) : Host.Outcome State Fault Refusal :=
  .next (s.alu c (encI 0x09 d a imm.toNat) [gKey a] [gKey d] fun k => k.setG d (k.gr a ||| imm.setWidth 64))

/-- XORI (R180). -/
def execSXori (c : CoreId) (d a : GReg) (imm : BitVec 16) (s : State) : Host.Outcome State Fault Refusal :=
  .next (s.alu c (encI 0x0A d a imm.toNat) [gKey a] [gKey d] fun k => k.setG d (k.gr a ^^^ imm.setWidth 64))

/-- SHI: SHL, SHR, SRA or ROR by n (R180). -/
def execSShi (c : CoreId) (d a : GReg) (kind : Fin 4) (n : Fin 64) (s : State) : Host.Outcome State Fault Refusal :=
  .next (s.alu c (encI 0x0B d a (kind * 64 + n)) [gKey a] [gKey d] fun k => k.setG d (shiftOp kind.val (k.gr a) n.val))

/-- MUL (R181). -/
def execSMul (c : CoreId) (d a b : GReg) (p : PReg) (s : State) : Host.Outcome State Fault Refusal :=
  .next (s.aluP c (encR 0x0F d a b p 0) p [gKey a, gKey b] [gKey d] fun k => k.setG d ((k.gr a) * (k.gr b)))

/-- MULH (R181). -/
def execSMulh (c : CoreId) (d a b : GReg) (p : PReg) (s : State) : Host.Outcome State Fault Refusal :=
  .next (s.aluP c (encR 0x0F d a b p 1) p [gKey a, gKey b] [gKey d] fun k => k.setG d (BitVec.ofInt 64 ((k.gr a).toInt * (k.gr b).toInt / 2 ^ 64)))

/-- MULHU (R181). -/
def execSMulhu (c : CoreId) (d a b : GReg) (p : PReg) (s : State) : Host.Outcome State Fault Refusal :=
  .next (s.aluP c (encR 0x0F d a b p 2) p [gKey a, gKey b] [gKey d] fun k => k.setG d (BitVec.ofNat 64 ((k.gr a).toNat * (k.gr b).toNat / 2 ^ 64)))

/-- DIV (R181). -/
def execSDiv (c : CoreId) (d a b : GReg) (p : PReg) (s : State) : Host.Outcome State Fault Refusal :=
  .next (s.aluP c (encR 0x0F d a b p 4) p [gKey a, gKey b] [gKey d] fun k => k.setG d (divS (k.gr a) (k.gr b)))

/-- DIVU (R181). -/
def execSDivu (c : CoreId) (d a b : GReg) (p : PReg) (s : State) : Host.Outcome State Fault Refusal :=
  .next (s.aluP c (encR 0x0F d a b p 5) p [gKey a, gKey b] [gKey d] fun k => k.setG d (if k.gr b = 0 then 0xFFFFFFFFFFFFFFFF else (k.gr a) / (k.gr b)))

/-- REM (R181). -/
def execSRem (c : CoreId) (d a b : GReg) (p : PReg) (s : State) : Host.Outcome State Fault Refusal :=
  .next (s.aluP c (encR 0x0F d a b p 6) p [gKey a, gKey b] [gKey d] fun k => k.setG d (remS (k.gr a) (k.gr b)))

/-- REMU (R181). -/
def execSRemu (c : CoreId) (d a b : GReg) (p : PReg) (s : State) : Host.Outcome State Fault Refusal :=
  .next (s.aluP c (encR 0x0F d a b p 7) p [gKey a, gKey b] [gKey d] fun k => k.setG d (if k.gr b = 0 then k.gr a else (k.gr a) % (k.gr b)))

/-- MOVL (R182). -/
def execSMovl (c : CoreId) (d : GReg) (imm : BitVec 16) (s : State) : Host.Outcome State Fault Refusal :=
  .next (s.alu c (encK 0x0C d 0 imm.toNat) [] [gKey d] fun k => k.setG d (imm.setWidth 64))

/-- MOVH writes one halfword (R182). -/
def execSMovh (c : CoreId) (d : GReg) (hw : Fin 4) (imm : BitVec 16) (s : State) : Host.Outcome State Fault Refusal :=
  .next (s.alu c (encK 0x0D d hw imm.toNat) [] [gKey d] fun k => k.setG d (putHalf (k.gr d) hw.val imm))

/-- CMP writes all 8 bits of the predicate (R183, R184). -/
def execSCmp (c : CoreId) (d : PReg) (a b : GReg) (p : PReg) (cond : Fin 8) (s : State) : Host.Outcome State Fault Refusal :=
  .next (s.aluP c (encR 0x10 d a b p cond) p [gKey a, gKey b] [] fun k => k.setP d (all8 (intCond 64 cond.val (k.gr a).toNat (k.gr b).toNat)))

/-- CMPI compares with a sign-extended immediate (R184). -/
def execSCmpi (c : CoreId) (d : PReg) (cond : Fin 8) (a : GReg) (imm : BitVec 15) (s : State) : Host.Outcome State Fault Refusal :=
  .next (s.alu c (encP d cond a imm.toNat) [gKey a] [] fun k => k.setP d (all8 (intCond 64 cond.val (k.gr a).toNat (imm.signExtend 64).toNat)))

/-- VCMP: integer lanes of 16 or 32 bits, or fp16 lanes; the codes R184 reserves raise ILLEGAL. -/
def execSVcmp (c : CoreId) (d : PReg) (a b : VReg) (p : PReg) (fp wide : Bool) (cond : Fin 8) (s : State) : Host.Outcome State Fault Refusal :=
  let w := encR 0x22 d a b p (cond.val + b2n wide * 8 + b2n fp * 16)
  if (if fp then wide || decide (4 ≤ cond.val) else cond.val == 7) then .next (s.illegal c w)
  else .next (s.alu c w [vKey a, vKey b] [] fun k => k.setP d (vcmpOp fp wide cond.val (k.pr p) (k.pr d) (k.vr a) (k.vr b)))

/-- PAND (R185). -/
def execSPand (c : CoreId) (d a b : PReg) (s : State) : Host.Outcome State Fault Refusal :=
  .next (s.alu c (encR 0x11 d a b 0 0) [] [] fun k => k.setP d (k.pr a &&& k.pr b))

/-- POR (R185). -/
def execSPor (c : CoreId) (d a b : PReg) (s : State) : Host.Outcome State Fault Refusal :=
  .next (s.alu c (encR 0x11 d a b 0 1) [] [] fun k => k.setP d (k.pr a ||| k.pr b))

/-- PXOR (R185). -/
def execSPxor (c : CoreId) (d a b : PReg) (s : State) : Host.Outcome State Fault Refusal :=
  .next (s.alu c (encR 0x11 d a b 0 2) [] [] fun k => k.setP d (k.pr a ^^^ k.pr b))

/-- PANDN (R185). -/
def execSPandn (c : CoreId) (d a b : PReg) (s : State) : Host.Outcome State Fault Refusal :=
  .next (s.alu c (encR 0x11 d a b 0 3) [] [] fun k => k.setP d (k.pr a &&& ~~~(k.pr b)))

/-- PNOT (R185). -/
def execSPnot (c : CoreId) (d a : PReg) (s : State) : Host.Outcome State Fault Refusal :=
  .next (s.alu c (encR 0x11 d a 0 0 4) [] [] fun k => k.setP d (~~~(k.pr a)))

/-- PMOVG (R185). -/
def execSPmovg (c : CoreId) (d : PReg) (a : GReg) (s : State) : Host.Outcome State Fault Refusal :=
  .next (s.alu c (encR 0x11 d a 0 0 5) [gKey a] [] fun k => k.setP d ((k.gr a).setWidth 8))

/-- GMOVP (R185). -/
def execSGmovp (c : CoreId) (d : GReg) (a : PReg) (s : State) : Host.Outcome State Fault Refusal :=
  .next (s.alu c (encR 0x11 d a 0 0 6) [] [gKey d] fun k => k.setG d ((k.pr a).setWidth 64))

/-- B (R186). -/
def execSB (c : CoreId) (off : BitVec 26) (s : State) : Host.Outcome State Fault Refusal :=
  .next (s.issue c (encJ 0x02 off.toNat) [] [] fun s => s.updCore c.val fun k => k.jump (k.pc + off.signExtend 64 * 4))

/-- BL links in g30 (R186). -/
def execSBl (c : CoreId) (off : BitVec 26) (s : State) : Host.Outcome State Fault Refusal :=
  .next (s.issue c (encJ 0x03 off.toNat) [] [30] fun s => s.updCore c.val fun k => (k.setG 30 (k.pc + 4)).jump (k.pc + off.signExtend 64 * 4))

/-- BC: bit 0 set, bit 0 clear, any bit set, no bit set (R186). -/
def execSBc (c : CoreId) (p : PReg) (test : Fin 4) (off : BitVec 21) (s : State) : Host.Outcome State Fault Refusal :=
  .next (s.issue c (encC p test off.toNat) [] [] fun s => s.updCore c.val fun k =>
    if bcTest test.val (k.pr p) then k.jump (k.pc + off.signExtend 64 * 4) else k.next)

/-- DBNZ; g0 is reserved (R186). -/
def execSDbnz (c : CoreId) (g : GReg) (off : BitVec 21) (s : State) : Host.Outcome State Fault Refusal :=
  if g.val = 0 then .next (s.illegal c (encD g off.toNat))
  else .next (s.issue c (encD g off.toNat) [gKey g] [gKey g] fun s => s.updCore c.val fun k =>
    if k.gr g - 1 ≠ 0 then (k.setG g (k.gr g - 1)).jump (k.pc + off.signExtend 64 * 4) else (k.setG g (k.gr g - 1)).next)

/-- JR, governed by bit 0 of p (R186, R187). -/
def execSJr (c : CoreId) (a : GReg) (p : PReg) (s : State) : Host.Outcome State Fault Refusal :=
  let w := encR 0x06 0 a 0 p 0
  if !(s.core c.val).p0 p then .next (s.alu c w [] [] fun k => k)
  else .next (s.issue c w [gKey a] [] fun s => s.jumpReg c.val w ((s.core c.val).gr a) none)

/-- JLR: the target is read before the link is written (R186, R187). -/
def execSJlr (c : CoreId) (d a : GReg) (p : PReg) (s : State) : Host.Outcome State Fault Refusal :=
  let w := encR 0x06 d a 0 p 1
  if !(s.core c.val).p0 p then .next (s.alu c w [] [] fun k => k)
  else .next (s.issue c w [gKey a] [gKey d] fun s => s.jumpReg c.val w ((s.core c.val).gr a) (some d))

/-- NOP (R212). -/
def execSNop (c : CoreId) (s : State) : Host.Outcome State Fault Refusal :=
  .next (s.alu c (encR 0x19 0 0 0 0 0) [] [] fun k => k)

/-- FENCE.T: it completes at once when no earlier access is open (R134). -/
def execSFenceT (c : CoreId) (s : State) : Host.Outcome State Fault Refusal :=
  .next (s.issue c (encR 0x19 0 0 0 0 1) [] [] fun s => s.updCore c.val fun k => k.startFence .t)

/-- FENCE.D: it completes at once when no earlier access is open (R134). -/
def execSFenceD (c : CoreId) (s : State) : Host.Outcome State Fault Refusal :=
  .next (s.issue c (encR 0x19 0 0 0 0 2) [] [] fun s => s.updCore c.val fun k => k.startFence .d)

/-- BAR.T, field only, ordering as FENCE.T (R136). -/
def execSBarT (c : CoreId) (s : State) : Host.Outcome State Fault Refusal :=
  let w := encR 0x19 0 0 0 0 4
  .next (s.fieldOnly c w (s.issue c w [] [] fun s => if (s.core c.val).loads.isEmpty then s.reachBarrier c.val .barT else s))

/-- BAR.G, field only, ordering as FENCE.D (R135, R136). -/
def execSBarG (c : CoreId) (s : State) : Host.Outcome State Fault Refusal :=
  let w := encR 0x19 0 0 0 0 5
  .next (s.fieldOnly c w (s.issue c w [] [] fun s => if (s.core c.val).loads.isEmpty then s.reachBarrier c.val .barG else s))

/-- TRAP (R162, R212). -/
def execSTrap (c : CoreId) (imm : BitVec 16) (s : State) : Host.Outcome State Fault Refusal :=
  .next (s.issue c (encI 0x1C 0 0 imm.toNat) [] [] fun s => s.exc c.val Code.TILE_TRAP (encI 0x1C 0 0 imm.toNat))

/-- RDPH (R141). -/
def execSRdph (c : CoreId) (d : GReg) (s : State) : Host.Outcome State Fault Refusal :=
  .next (s.issue c (encR 0x1A d 0 0 0 0) [] [gKey d] fun s => s.updCore c.val fun k => (k.setG d s.phase).next)

/-- WAITPH (R142 to R144). -/
def execSWaitph (c : CoreId) (a : GReg) (s : State) : Host.Outcome State Fault Refusal :=
  .next (s.issue c (encR 0x1A 0 a 0 0 1) [gKey a] [] fun s => s.waitPhase c.val (encR 0x1A 0 a 0 0 1) ((s.core c.val).gr a))

/-- WAITPH.K: LPHASE + g[a]; field only (R208). -/
def execSWaitphK (c : CoreId) (a : GReg) (s : State) : Host.Outcome State Fault Refusal :=
  let w := encR 0x1A 0 a 0 0 2
  .next (s.fieldOnly c w (s.issue c w [gKey a] [] fun s =>
    s.waitPhase c.val w ((s.core c.val).lphase + (s.core c.val).gr a)))

/-- SCHED: an implied FENCE.D, the action mask of a field core, then the post (R135, R145, R208, R209). -/
def execSSched (c : CoreId) (d : GReg) (a : VReg) (s : State) : Host.Outcome State Fault Refusal :=
  let w := encR 0x1A d a 0 0 3
  if a.val % 2 = 1 then .next (s.illegal c w)
  else .next (s.issue c w [vKey a, vKey (vNext a)] [gKey d] fun s =>
    let k := s.core c.val
    let e := entryOfPair (k.vr a) (k.vr (vNext a))
    if !k.loads.isEmpty then s
    else
      let ws := (List.range 8).map (entryWord e)
      let act := actCode (ws.getD 2 0)
      let ok := !isField c.val || (decide (act < 10) && s.bit (State.tileReg Reg.TILE_SCHED_MASK c.val) act)
      let (res, s) := if ok then s.ephSubmit ws else (3, s)
      s.updCore c.val fun k => (k.setG d (BitVec.ofNat 64 res)).next)

/-- RPUSH: an implied FENCE.D, then the push; 1 and RFULL when the ring is full (R147, R149, R207). -/
def execSRpush (c : CoreId) (d : GReg) (v : VReg) (ring : RingId) (rr : Bool) (gr : GReg) (s : State) : Host.Outcome State Fault Refusal :=
  let w := encQ d v ring 0 (b2n rr) gr
  if v.val % 2 = 1 ∨ (rr = false ∧ gr.val ≠ 0) then .next (s.illegal c w)
  else .next (s.issue c w [vKey v, vKey (vNext v), gKey gr] [gKey d] fun s =>
    let k := s.core c.val
    let r := ringSel k ring rr gr
    if !s.mayRing c.val r then s.exc c.val Code.TILE_ACCESS w
    else if !k.loads.isEmpty then s
    else
      let (ok, s) := s.ringPush1 r (entryOfPair (k.vr v) (k.vr (vNext v)))
      s.updCore c.val fun k => ((k.setG d (if ok then 0 else 1)).kflag 3 (!ok)).next)

/-- RPOP: one entry, or the IDLE item and RIDLE (R147, R150, R207). -/
def execSRpop (c : CoreId) (d : GReg) (v : VReg) (ring : RingId) (rr : Bool) (gr : GReg) (s : State) : Host.Outcome State Fault Refusal :=
  let w := encQ d v ring 1 (b2n rr) gr
  if v.val % 2 = 1 ∨ (rr = false ∧ gr.val ≠ 0) then .next (s.illegal c w)
  else .next (s.issue c w [gKey gr] [gKey d, vKey v, vKey (vNext v)] fun s =>
    let r := ringSel (s.core c.val) ring rr gr
    if !s.mayRing c.val r then s.exc c.val Code.TILE_ACCESS w
    else
      let idle := !s.ringEn r || !s.ringBusy r
      let (e, s) := s.ringPop r
      s.updCore c.val fun k => ((((k.setV v (entryLo e)).setV (vNext v) (entryHi e)).setG d ((entryWord e 0).setWidth 64)).kflag 2 idle).next)

/-- RDROP: entries discarded up to the next SOP (R147, R151, R207). -/
def execSRdrop (c : CoreId) (d : GReg) (ring : RingId) (rr : Bool) (gr : GReg) (s : State) : Host.Outcome State Fault Refusal :=
  let w := encQ d 0 ring 2 (b2n rr) gr
  if rr = false ∧ gr.val ≠ 0 then .next (s.illegal c w)
  else .next (s.issue c w [gKey gr] [gKey d] fun s =>
    let r := ringSel (s.core c.val) ring rr gr
    if !s.mayRing c.val r then s.exc c.val Code.TILE_ACCESS w
    else
      let (n, s) := s.ringDrop r
      s.updCore c.val fun k => (k.setG d (BitVec.ofNat 64 n)).next)

/-- PIN, field only (R152, R153, R210, R211, R230). -/
def execSPin (c : CoreId) (d a : GReg) (s : State) : Host.Outcome State Fault Refusal :=
  let w := encR 0x1B d a 0 0 1
  .next (s.fieldOnly c w (s.issue c w [gKey a] [gKey d] fun s =>
    let h := (s.core c.val).gr a
    let b := bits h 11 0
    let g : Word := h.extractLsb' 32 32
    if bits h 31 12 ≠ 0 ∨ (s.buf b).holds g [1, 2] = false then s.updCore c.val fun k => (k.setG d 1).next
    else if 8 ≤ (s.core c.val).pins.length then s.exc c.val Code.TILE_PIN_LIMIT w
    else (s.bufPin b g).updCore c.val fun k => { k.setG d 0 with pins := k.pins ++ [(b, g)] }.next))

/-- UNPIN, field only: 1 when this core holds no pin on the generation (R152, R211). -/
def execSUnpin (c : CoreId) (d a : GReg) (s : State) : Host.Outcome State Fault Refusal :=
  let w := encR 0x1B d a 0 0 2
  .next (s.fieldOnly c w (s.issue c w [gKey a] [gKey d] fun s =>
    let h := (s.core c.val).gr a
    let x : Nat × Word := (bits h 11 0, h.extractLsb' 32 32)
    if bits h 31 12 ≠ 0 ∨ (s.core c.val).pins.contains x = false then s.updCore c.val fun k => (k.setG d 1).next
    else (s.bufUnpin x.1 x.2).updCore c.val fun k => { k.setG d 0 with pins := k.pins.erase x }.next))

/-- PST, field only: the active lanes into an OPEN slot of the named generation (R154, R189, R210, R211, R230). -/
def execSPst (c : CoreId) (d : VReg) (a b : GReg) (p : PReg) (s : State) : Host.Outcome State Fault Refusal :=
  let w := encR 0x1B d a b p 0
  .next (s.fieldOnly c w (s.issue c w [vKey d, gKey a, gKey b] [] fun s =>
    let k := s.core c.val
    let h := k.gr a
    let v := s.buf (bits h 11 0)
    let g : Word := h.extractLsb' 32 32
    let off := (k.gr b).toNat
    let addr := v.base + v.slotOf g * v.slotSize + off
    if bits h 31 12 ≠ 0 ∨ v.holds g [1] = false then s.exc c.val Code.TILE_PST_GEN w
    else if off % 16 ≠ 0 then s.exc c.val Code.TILE_ALIGN w addr
    else if v.slotSize < off + 16 then s.exc c.val Code.TILE_ACCESS w addr
    else (s.storeLanes c.val addr (k.pr p) (k.vr d)).updCore c.val Core.next))

/-- MVS reads a special register (R101, R105, R213). -/
def execSMvs (c : CoreId) (d : GReg) (sr : BitVec 12) (s : State) : Host.Outcome State Fault Refusal :=
  let w := encS d 0 sr.toNat
  .next (s.issue c w [] [gKey d] fun s =>
    if !srExists sr.toNat then s.exc c.val Code.TILE_ILLEGAL w
    else if isField c.val && decide (0x100 ≤ sr.toNat) then s.exc c.val Code.TILE_PRIV w
    else s.updCore c.val fun k => (k.setG d (s.srRead c.val sr.toNat)).next)

/-- MVT writes a special register; accesses the table does not allow are discarded (R101, R105, R106, R213). -/
def execSMvt (c : CoreId) (a : GReg) (sr : BitVec 12) (s : State) : Host.Outcome State Fault Refusal :=
  let w := encS a 1 sr.toNat
  .next (s.issue c w [gKey a] [] fun s =>
    if !srExists sr.toNat then s.exc c.val Code.TILE_ILLEGAL w
    else if isField c.val && decide (0x100 ≤ sr.toNat) then s.exc c.val Code.TILE_PRIV w
    else s.updCore c.val fun k => (k.srWrite (isField c.val) sr.toNat (k.gr a)).next)

/-- ERET returns from a handler; PRIV on a field core, ILLEGAL at EDEPTH 0 (R101, R159, R215). -/
def execSEret (c : CoreId) (s : State) : Host.Outcome State Fault Refusal :=
  let w := encR 0x1E 0 0 0 0 0
  .next (s.issue c w [] [] fun s =>
    if isField c.val then s.exc c.val Code.TILE_PRIV w
    else if (s.core c.val).edepth = 0 then s.exc c.val Code.TILE_ILLEGAL w
    else s.updCore c.val fun k => { k with pc := k.epc, gie := wfld k.ecause 30 30 == 1, edepth := k.edepth - 1 })

/-- WFI waits until IPEND is not 0; PRIV on a field core (R101, R215). -/
def execSWfi (c : CoreId) (s : State) : Host.Outcome State Fault Refusal :=
  let w := encR 0x1E 0 0 0 0 1
  .next (s.issue c w [] [] fun s =>
    if isField c.val then s.exc c.val Code.TILE_PRIV w
    else if s.ipendOf c.val ≠ 0 then s.updCore c.val Core.next
    else s.updCore c.val fun k => { k with run := .wait, wait := .wfi })

/-- WFI_WAKE: a core waiting in WFI continues once IPEND is not 0 (R215). -/
def execWfiWake (n : Fin 4) (s : State) : Host.Outcome State Fault Refusal :=
  let c := 256 + n.val
  if (s.core c).run = .wait ∧ (s.core c).wait = .wfi ∧ s.ipendOf c ≠ 0 then
    .next (s.updCore c fun k => { k with run := .run, wait := .none }.next)
  else .next s

end Sys2Proof.Machine
end

