-- ==== Sys2Proof/Machine/Transit.lean ====
section
/-!
DEFINITION. The transit fabric: packets, link queues and replay, routing, drops, late records and transactions
(09_transit_fabric.md R404 to R428, R437 to R440, R446 to R448; 18_faults_telemetry.md R696, R698).
-/
namespace Sys2Proof.Machine

open Sys2Proof

/-- Virtual channel of a transaction type (R414). -/
def vcOf (t : BitVec 4) : Nat :=
  match t.toNat with
  | 4 => 2
  | 8 => 1
  | 9 => 1
  | 5 => 3
  | 0xC => 3
  | _ => 0

/-- A listed transaction type (R414). -/
def pktListed (t : BitVec 4) : Bool := decide (t.toNat ≤ 5) || t == 8 || t == 9 || t == 0xC

/-- Credits a packet needs (R412). -/
def pktCredits (k : Pkt) : Nat := ceilDiv (16 + k.len.toNat) 16

/-- Bytes a packet takes in the replay buffer. -/
def pktSize (k : Pkt) : Nat := 16 + k.len.toNat

/-- Full credits of the four virtual channels (R412). -/
def fullCredits : List Nat := [256, 256, 512, 128]

def addAt (l : List Nat) (i n : Nat) : List Nat := l.zipIdx.map fun x => if x.2 = i then x.1 + n else x.1
def subAt (l : List Nat) (i n : Nat) : List Nat := l.zipIdx.map fun x => if x.2 = i then x.1 - n else x.1

/-! ### One link's sender (R410, R411, R440) -/

namespace TLink

/-- Bytes held in the replay buffer. -/
def held (v : TLink) : Nat := v.replay.foldl (fun n r => n + pktSize r.pkt) 0

/-- The first packet waiting on a virtual channel, if it has its credits. -/
def head (v : TLink) (vc : Nat) : Option Pkt :=
  match v.queue.find? fun k => vcOf k.type == vc with
  | some k => if (pktCredits k) ≤ v.credits.getD vc 0 then some k else none
  | none => none

/-- The packet the output serves next (R440). -/
def pick (v : TLink) : Option Pkt :=
  (if v.vc0Next then [3, 1, 0, 2] else [3, 1, 2, 0]).findSome? v.head

/-- Send what the link can send: first resends in order, then new packets while the replay buffer has room; the new state, packets
sent and resends. -/
def drain (v : TLink) : Nat → TLink × Nat × Nat
  | 0 => (v, 0, 0)
  | f + 1 =>
    match v.replay.find? fun r => !r.sent with
    | some r =>
      let vc := vcOf r.pkt.type
      if (pktCredits r.pkt) ≤ v.credits.getD vc 0 then
        let (w, a, b) := { v with
          replay := v.replay.map fun (x : Replay) => if x.lseq = r.lseq then { x with sent := true } else x
          credits := subAt v.credits vc (pktCredits r.pkt) }.drain f
        (w, a, b + 1)
      else (v, 0, 0)
    | none =>
      match v.pick with
      | none => (v, 0, 0)
      | some k =>
        if 32768 < v.held + pktSize k ∨ 2048 ≤ v.replay.length then (v, 0, 0)
        else
          let vc := vcOf k.type
          let (w, a, b) := { v with
            queue := v.queue.erase k
            replay := v.replay ++ [Replay.mk v.txSeq k true]
            txSeq := (v.txSeq + 1) % 4096
            credits := subAt v.credits vc (pktCredits k)
            vc0Next := if vc = 2 then true else if vc = 0 then false else v.vc0Next }.drain f
          (w, a + 1, b)

/-- An LLC block with the credits to return and the acknowledgement (R410). -/
def llc (v : TLink) (nak : Bool) : TLink :=
  let g (i : Nat) : Nat := min 255 (v.give.getD i 0)
  { v with
    outLlc := BitVec.ofNat 64 (0x33 + g 0 * 2 ^ 8 + g 1 * 2 ^ 16 + g 2 * 2 ^ 24 + g 3 * 2 ^ 32
      + (v.rxNext + 4095) % 4096 * 2 ^ 40 + b2n nak * 2 ^ 52)
    give := v.give.zipIdx.map fun x => x.1 - g x.2 }

end TLink

namespace State

def link (s : State) (l : Nat) : TLink := s.links.get {} l
def setLink (s : State) (l : Nat) (v : TLink) : State :=
  let s : State := { s with links := s.links.put {} l v }
  let c (i : Nat) : Nat := min 255 (v.credits.getD i 0)
  s.setReg (Reg.TRANSIT_CREDIT + 0x1000 * l) (BitVec.ofNat 32 (c 0 + c 1 * 2 ^ 8 + c 2 * 2 ^ 16 + c 3 * 2 ^ 24))
def updLink (s : State) (l : Nat) (f : TLink → TLink) : State := s.setLink l (f (s.link l))

def updTransit (s : State) (f : Transit → Transit) : State := { s with transit := f s.transit }

def linkSt (s : State) (l : Nat) : Nat := s.fld (Reg.TRANSIT_STATUS + 0x1000 * l) 1 0
def linkRole (s : State) (l : Nat) : Nat := s.fld (Reg.TRANSIT_CFG + 0x1000 * l) 2 1
/-- The link is a FABRIC link in UP. -/
def fabricUp (s : State) (l : Nat) : Bool := s.linkSt l == 3 && s.linkRole l == 0
def fabricLinks (s : State) : List Nat := (List.range 16).filter s.fabricUp

def ownId (s : State) : Nat := s.fld Reg.TRANSIT_NODE 12 0
def idAssigned (s : State) : Bool := s.fld Reg.TRANSIT_NODE 14 13 == 2
def ownUid (s : State) : DWord := s.reg64 Reg.TRANSIT_UID_LO

def tgt (s : State) (n : Nat) : Tgt := s.tgts.get {} n
def updTgt (s : State) (n : Nat) (f : Tgt → Tgt) : State := { s with tgts := s.tgts.put {} n (f (s.tgt n)) }

def tslot (s : State) (i : Nat) : TSlot := s.tslots.get {} i
def updSlot (s : State) (i : Nat) (f : TSlot → TSlot) : State := { s with tslots := s.tslots.put {} i (f (s.tslot i)) }

/-! ### Routes (R437) -/

/-- Valid next hops of a destination. -/
def routeHops (s : State) (n : Nat) : Nat :=
  let v := s.fld (Reg.ROUTER_ROUTE + 4 * n) 18 16
  if 4 < v then 0 else v

/-- The node is this one: by its ID, or by the route entry. -/
def isLocal (s : State) (n : Nat) : Bool :=
  s.bit (Reg.ROUTER_ROUTE + 4 * n) 19 || (s.idAssigned && n == s.ownId)

/-- The link a packet takes. -/
def nextHop (s : State) (k : Pkt) : Option Nat :=
  let n := s.routeHops k.dst.toNat
  if n = 0 then none
  else
    let h := crc32 (leBytes 4 (k.src.toNat + k.dst.toNat * 2 ^ 13 + vcOf k.type * 2 ^ 26))
    let i := h.toNat % n
    some (s.fld (Reg.ROUTER_ROUTE + 4 * k.dst.toNat) (4 * i + 3) (4 * i))

/-- A request of this node cannot leave: no ID, or no route (R418). -/
def noRoute (s : State) (n : Nat) : Bool :=
  !s.idAssigned || (!s.isLocal n && (s.routeHops n == 0 || !s.bit Reg.ROUTER_CTRL 0))

/-! ### Sending -/

/-- Send what link l can send, with its counts (R411). -/
def linkDrain (s : State) (l : Nat) : State :=
  let v := s.link l
  if s.linkSt l ≠ 3 then s
  else
    let (w, a, b) := v.drain (v.queue.length + v.replay.length)
    ((s.setLink l w).incBy (Reg.TRANSIT_TX_CNT + 0x1000 * l) a).incBy (Reg.TRANSIT_REPLAY_CNT + 0x1000 * l) b

/-- A packet joins the output of a link that is UP. -/
def place (s : State) (l : Nat) (k : Pkt) : State := (s.updLink l fun v => { v with queue := v.queue ++ [k] }).linkDrain l

/-- An answer (RSP or LATE) leaves for its destination, or is dropped and counted (R422). -/
def sendAnswer (s : State) (k : Pkt) : State :=
  if s.isLocal k.dst.toNat then s.updTransit fun t => { t with inbox := t.inbox ++ [(16, k)] }
  else match s.nextHop k with
    | some l => if s.fabricUp l then s.place l k else s.inc Reg.TRANSIT_DROP_CNT
    | none => s.inc Reg.TRANSIT_DROP_CNT

def hopLimit (s : State) : BitVec 5 := BitVec.ofNat 5 (max 1 (s.fld Reg.TRANSIT_HOPLIM 4 0))

/-- An RSP with a status and a payload (R414, R419). -/
def answer (s : State) (req : Pkt) (status : Nat) (data : List Byte) : State :=
  s.sendAnswer { dst := req.src, src := BitVec.ofNat 13 s.ownId, type := 8, tag := req.tag, seq := req.seq, hops := s.hopLimit, status := BitVec.ofNat 4 status, len := BitVec.ofNat 9 data.length, payload := data }

/-- A LATE record to the source of a request (R420, R424). -/
def sendLate (s : State) (req : Pkt) (cause : Nat) : State :=
  let w0 := req.dst.toNat + b2n req.mc * 2 ^ 13 + req.type.toNat * 2 ^ 16
  let s := s.inc Reg.TRANSIT_LATE_TX_CNT
  let s := s.updTgt req.src.toNat fun t => { t with lcnt := t.lcnt + 1 }
  s.sendAnswer { dst := req.src, src := BitVec.ofNat 13 s.ownId, type := 9, tag := req.tag, seq := req.seq, addr := req.addr, hops := s.hopLimit, status := BitVec.ofNat 4 cause, len := 16, payload := leBytes 16 (w0 + req.len.toNat * 2 ^ 32) }

/-- A packet that cannot be forwarded (R422). -/
def dropPkt (s : State) (k : Pkt) (cause : Nat) : State :=
  match k.type.toNat with
  | 0 => s.sendLate k cause
  | 5 => s.sendLate k cause
  | 1 => s.answer k cause []
  | 2 => s.answer k cause []
  | 3 => s.answer k cause []
  | 0xC => s
  | _ => s.inc Reg.TRANSIT_DROP_CNT

/-- A packet of this node, whose destination has a route, leaves (R195, R417). -/
def sendOwn (s : State) (k : Pkt) : State :=
  let k := { k with src := BitVec.ofNat 13 s.ownId, hops := s.hopLimit }
  if s.isLocal k.dst.toNat then s.updTransit fun t => { t with inbox := t.inbox ++ [(16, k)] }
  else match s.nextHop k with
    | some l => if s.fabricUp l then s.place l k else s.dropPkt k 7
    | none => s.dropPkt k 5

/-- Room of a virtual channel returns to the peer (R412). -/
def giveBack (s : State) (l : Nat) (k : Pkt) : State :=
  if l ≤ 15 then s.updLink l fun v =>
    let v := { v with give := addAt v.give (vcOf k.type) (pktCredits k) }
    if v.give.any (8 ≤ ·) then v.llc false else v
  else s

/-- A CTRL packet on one link, never routed (R414, R589). -/
def sendCtrl (s : State) (l op : Nat) (data : List Byte) : State :=
  if s.linkSt l ≠ 3 then s
  else s.place l { dst := BitVec.ofNat 13 (s.fld (Reg.TRANSIT_STATUS + 0x1000 * l) 20 8), src := BitVec.ofNat 13 s.ownId, type := 0xC, op := BitVec.ofNat 4 op, len := BitVec.ofNat 9 data.length, payload := data }

/-! ### The router (R417, R437 to R439) -/

/-- One routed packet held by the router goes to its next hop or to the local endpoint. -/
def routePkt (s : State) (from' : Nat) (k : Pkt) : State :=
  if s.isLocal k.dst.toNat then s.updTransit fun t => { t with epIn := t.epIn ++ [k] }
  else if from' ≠ 16 ∧ k.hops = 0 then (s.dropPkt k 6).raiseSecAll Code.TRANSIT_HOPS_EXCEEDED from'
  else if !s.bit Reg.ROUTER_CTRL 0 then s.dropPkt k 5
  else match s.nextHop k with
    | none => s.dropPkt k 5
    | some l =>
      if s.fabricUp l then s.place l { k with hops := if from' = 16 then k.hops else k.hops - 1 } else s.dropPkt k 7

/-- A STREAM packet is replicated along its group's tree; it is delivered here when LOCAL = 1, whatever its
HOPS (R417, R438). -/
def routeStream (s : State) (from' : Nat) (k : Pkt) : State × Bool :=
  let e := Reg.ROUTER_MCAST + 4 * (k.dst.toNat % 4096)
  if !s.bit e 17 then (s.inc Reg.TRANSIT_NOROUTE_CNT, false)
  else
    let k' := { k with hops := if from' = 16 then k.hops else k.hops - 1 }
    let out := (List.range 16).filter fun l => s.bit e l && l != from'
    if out ≠ [] ∧ from' ≠ 16 ∧ k.hops = 0 then
      ((s.inc Reg.TRANSIT_DROP_CNT).raiseSecAll Code.TRANSIT_HOPS_EXCEEDED from', s.bit e 16)
    else (out.foldl (fun s l => if s.fabricUp l && s.bit Reg.ROUTER_CTRL 0 then s.place l k' else s.inc Reg.TRANSIT_DROP_CNT) s, s.bit e 16)

/-! ### The target (R420, R423, R424) -/

/-- First address after the region that holds `a`. -/
def regionEnd (a : Nat) : Nat :=
  match regionOf a with
  | .dram => 0x0700000000
  | .tile => 0x1008000000
  | .plate => 0x1104000000
  | .ringWin => 0x1200040000
  | .supSys => 0x1300400000
  | .supUser => 0x1300400000
  | .rom => 0x1380040000
  | .ctrl => 0x1401000000
  | .unmapped => 0

/-- Scratch slices are closed to remote accesses (R127). -/
def scratchHit (a n : Nat) : Bool := inTile a n && decide (0x7C0000 < (a - 0x1000000000) % 0x800000 + n)

/-- The check of R420 that a request fails, as a status; 0 when it passes. -/
def targetCheck (a n : Nat) : Nat :=
  if a % 4 ≠ 0 ∨ 256 < a % 256 + n then 10
  else if regionOf a = .unmapped ∨ regionEnd a < a + n then 3
  else if !inBulk a n || scratchHit a n then 2 else 0

/-- Agent number of the transit unit in ECC records: any other unit (R701). -/
abbrev unitAgent : Nat := 0x3FFF

/-- The RETRY windows (R423). -/
def inRetryWindow (s : State) (a : Nat) : Bool :=
  (List.range 4).any fun w =>
    let o := Reg.TRANSIT_RLOCK_BASE_LO + 0x10 * w
    let b := s.regAddr o / 4096 * 4096
    s.bit o 0 && decide (b ≤ a) && decide (a < b + s.fld (Reg.TRANSIT_RLOCK_SIZE + 0x10 * w) 19 0 * 4096)

/-- RETRY is answered: the limit of reads in progress is reached, or a window covers the address (R423). -/
def retryNow (s : State) (busy a : Nat) : Bool := decide (max 1 (s.fld Reg.TRANSIT_INRD 7 0) ≤ busy) || s.inRetryWindow a

/-- Take the first packet of a type from the local endpoint. -/
def takeEp (s : State) (type : Nat) : Option (Pkt × State) :=
  match s.transit.epIn.find? fun k => k.type.toNat == type with
  | none => none
  | some k => some (k, s.updTransit fun t => { t with epIn := t.epIn.erase k })

/-- A WR (R420, R424). -/
def doWr (s : State) (k : Pkt) : State :=
  let s := s.updTgt k.src.toNat fun t => { t with wcnt := t.wcnt + 1 }
  let e := targetCheck k.addr.toNat k.len.toNat
  if e ≠ 0 then s.sendLate k e else s.store unitAgent k.addr.toNat (k.payload.take k.len.toNat)

/-- An RD (R420, R423). -/
def doRd (s : State) (busy : Nat) (k : Pkt) : State :=
  let a := k.addr.toNat
  let n := k.len.toNat
  if s.retryNow busy a then (s.answer k 1 []).inc Reg.TRANSIT_RETRY_CNT
  else
    let e := targetCheck a n
    if e ≠ 0 then s.answer k e []
    else if s.hasUe a n then (s.noteUe unitAgent a n).answer k 4 []
    else s.answer k 0 (s.bytes a n)

/-- A FADD: the old value, zero-extended for W (R414, R420). -/
def doFadd (s : State) (busy : Nat) (k : Pkt) : State :=
  let a := k.addr.toNat
  let n := if k.op = 0 then 4 else 8
  if s.retryNow busy a then (s.answer k 1 []).inc Reg.TRANSIT_RETRY_CNT
  else
    let e := targetCheck a n
    if e ≠ 0 then s.answer k e []
    else if s.hasUe a n then (s.noteUe unitAgent a n).answer k 4 []
    else
      let old := s.memNat a n
      (s.store unitAgent a (leBytes n (old + leNat (k.payload.take n)))).answer k 0 (leBytes 8 old)

/-- A STREAM write; a failure is counted only (R438). -/
def doStream (s : State) (k : Pkt) : State :=
  if targetCheck k.addr.toNat k.len.toNat ≠ 0 then s.inc Reg.TRANSIT_STRM_ERR_CNT
  else s.store unitAgent k.addr.toNat (k.payload.take k.len.toNat)

/-- Entries of a MSG payload. -/
def msgEntries (l : List Byte) : List Entry := (List.range (l.length / 32)).map fun i => BitVec.ofNat 256 (leNat ((l.drop (32 * i)).take 32))

/-- A MSG (R447, R540): pushed as one unit, or refused whole. -/
def doMsg (s : State) (k : Pkt) : State :=
  let r := k.addr.toNat % 64
  let es := msgEntries (k.payload.take k.len.toNat)
  if !s.bit (Reg.TRANSIT_MSG_MASK_LO + 4 * (r / 32)) (r % 32) then s.sendLate k 2
  else if s.ringRoom r es.length then es.foldl (fun s e => s.ringAccept r e) s
  else s.sendLate k 9

/-! ### The requester (R32, R33, R415, R416, R425, R426) -/

/-- A slot for a requester: cores 0 and 1 first take from the reserve of 32 (R33). -/
def freeSlot (s : State) (c : Nat) : Option Nat :=
  let open' (i : Nat) : Bool := !(s.tslot i).busy
  let shared := ((List.range 224).map (· + 32)).find? open'
  if c = 256 ∨ c = 257 then match (List.range 32).find? open' with
    | some i => some i
    | none => shared
  else shared

/-- The request packet of a slot. -/
def slotPkt (s : State) (i : Nat) : Pkt :=
  let t := s.tslot i
  { dst := BitVec.ofNat 13 t.dst, src := BitVec.ofNat 13 s.ownId, type := BitVec.ofNat 4 t.type, op := BitVec.ofNat 4 t.op, tag := BitVec.ofNat 10 (512 + i), addr := BitVec.ofNat 40 t.addr, seq := BitVec.ofNat 16 t.seq, len := BitVec.ofNat 9 (if t.type = 3 then 0 else t.len), payload := t.data }

/-- Issue, or reissue, the transaction of a slot. -/
def slotSend (s : State) (i : Nat) : State :=
  (s.updSlot i fun t => { t with issued := s.mono, gap := none, answer := none }).sendOwn (s.slotPkt i)

/-- A late-error record enters the late-error ring (R696, R698). -/
def lateEntry (s : State) (target : Nat) (mc : Bool) (otype cause : Nat) (loc : Bool) (reporter : Nat) (tag : BitVec 10)
    (seq : BitVec 16) (olen addr : Nat) : State :=
  let mono := BitVec.ofNat 64 s.mono
  s.pushLate s.lateRing (entryOne 0x13
    [BitVec.ofNat 32 (target + b2n mc * 2 ^ 13 + otype * 2 ^ 16 + cause * 2 ^ 20 + b2n loc * 2 ^ 24),
      BitVec.ofNat 32 (reporter + tag.toNat * 2 ^ 16), BitVec.ofNat 32 (seq.toNat + olen * 2 ^ 16),
      BitVec.ofNat 32 addr, BitVec.ofNat 32 (addr / 2 ^ 32), mono.extractLsb' 0 32, mono.extractLsb' 32 32])

/-- KSTAT.LATE of the agent a TAG names, while its kernel runs (R139, R415). -/
def markLate (s : State) (tag : Nat) : State :=
  let t := tag % 512
  if t < 260 then
    let k := s.cores.get {} t
    if decide (256 ≤ t) || k.run == .run || k.run == .wait then { s with cores := s.cores.put {} t { k with kstat := k.kstat ||| 0x20#32 } }
    else s
  else s

/-- A LATE record of this node for a write that did not leave (R418, R426). -/
def localLate (s : State) (k : Pkt) (cause : Nat) : State :=
  (s.lateEntry k.dst.toNat k.mc k.type.toNat cause true s.ownId k.tag k.seq k.len.toNat k.addr.toNat).markLate k.tag.toNat

/-- A posted packet of this node takes its sequence number and leaves, or is refused here (R415, R418, R426). -/
def sendPosted (s : State) (k : Pkt) : State :=
  let k := { k with seq := BitVec.ofNat 16 s.transit.postSeq }
  let s := s.updTransit fun t => { t with postSeq := (t.postSeq + 1) % 65536 }
  let d := k.dst.toNat
  if k.type = 4 then
    if !s.idAssigned || !s.bit (Reg.ROUTER_MCAST + 4 * (d % 4096)) 17 then
      (s.inc Reg.TRANSIT_NOROUTE_CNT).raiseSecAll Code.TRANSIT_NOROUTE d
    else s.updTransit fun t => { t with
      inbox := t.inbox ++ [(16, { k with mc := true, src := BitVec.ofNat 13 s.ownId, hops := s.hopLimit })] }
  else if k.type = 0 ∧ (s.tgt d).late = true ∧ (s.tgt d).fence = true then s.localLate k 8
  else if s.noRoute d then
    ((s.localLate k 5).inc Reg.TRANSIT_NOROUTE_CNT).raiseSecAll Code.TRANSIT_NOROUTE d
  else
    let s := if k.type = 0 then s.updTgt d fun t => { t with sent := t.sent + 1 } else s
    s.sendOwn k

/-- Free a slot. -/
def slotFree (s : State) (i : Nat) : State := s.updSlot i fun t => { t with busy := false, answer := none, gap := none, data := [] }

/-- Record an error or a RETRY of a remote access at its core (R138). -/
def remoteFail (s : State) (c : Nat) (retry : Bool) : State :=
  let k := s.cores.get {} c
  let s : State := { s with cores := s.cores.put {} c { k with kstat := k.kstat ||| (if retry then 1#32 else 2#32) } }
  if retry || decide (256 ≤ c) then s else s.inc (Reg.TILE_RERR_CNT + c / 16 * 0x1000)

/-- A fence's flush of node d is done for core c. -/
def flushDone (s : State) (c d : Nat) : State :=
  let k := s.cores.get {} c
  { s with cores := s.cores.put {} c { k with flushes := k.flushes.erase d } }

/-- An RSP to a FLUSH (R425). -/
def flushRsp (s : State) (i status : Nat) (data : List Byte) : State :=
  let t := s.tslot i
  let g := s.tgt t.dst
  let wcnt : Word := BitVec.ofNat 32 (leNat (data.take 4))
  let lcnt : Word := BitVec.ofNat 32 (leNat ((data.drop 4).take 4))
  let mine := (s.cores.get {} t.core).flushes.contains t.dst
  if status ≠ 0 then
    let s := if mine then (s.flushDone t.core t.dst).remoteFail t.core false else s
    s.slotFree i
  else if 0 ≤ (wcnt + g.drop - t.snap).toInt ∧ 0 ≤ (g.lrcv - lcnt).toInt then (s.flushDone t.core t.dst).slotFree i
  else s.updSlot i fun t => { t with gap := some s.mono }

/-- An RSP at the requester (R416, R425). -/
def doRsp (s : State) (k : Pkt) : State :=
  let i := k.tag.toNat % 256
  let t := s.tslot i
  let s := s.updTgt k.src.toNat fun g => { g with drcv := g.drcv + 1 }
  if bits k.tag 9 8 ≠ 2 || !t.busy || t.seq % 65536 != k.seq.toNat then s.inc Reg.TRANSIT_STALE_CNT
  else if t.type = 3 then s.flushRsp i k.status.toNat k.payload
  else s.updSlot i fun t => { t with answer := some (k.status.toNat, k.payload) }

/-- A LATE record at the initiator (R425, R426). -/
def doLate (s : State) (k : Pkt) : State :=
  let w0 := leNat (k.payload.take 4)
  let target := w0 % 8192
  let s := s.inc Reg.TRANSIT_LATE_RX_CNT
  let s := s.lateEntry target (w0 / 2 ^ 13 % 2 == 1) (w0 / 2 ^ 16 % 16) k.status.toNat false k.src.toNat k.tag k.seq
    (leNat ((k.payload.drop 4).take 4) % 512) k.addr.toNat
  let s := s.markLate k.tag.toNat
  let s := s.updTgt k.src.toNat fun g => { g with lrcv := g.lrcv + 1 }
  let s := if k.src.toNat = target then s else s.updTgt target fun g => { g with drop := g.drop + 1 }
  let s := s.updTgt target fun g => { g with late := true, lateCnt := min 65535 (g.lateCnt + 1) }
  s.raiseFrameAll Code.TRANSIT_LATE_RX target

end State

end Sys2Proof.Machine
end

