-- ==== Sys2Proof/Machine/SelmirRemote.lean ====
section
/-!
DEFINITION. Remote instructions of the Selmir cores and FENCE.F (03_selmir_machine.md R134, R137 to R139; 04_selmir_instructions.md
R193 to R196; 09_transit_fabric.md R418, R425).
-/
namespace Sys2Proof.Machine

open Sys2Proof

namespace State

/-- [a, a + n) lies in the core's own scratch slice (R126). -/
def ownSlice (c a n : Nat) : Bool := isField c && decide (scratchBase c ≤ a) && decide (a + n ≤ scratchBase c + 0x4000)

/-- [a, a + n) lies in supervisor memory (or for a read in boot ROM) that the core may reach (R34). -/
def supMemOk (c a n : Nat) (write : Bool) : Bool :=
  let sys := decide (supNo c < 2)
  (decide (0x1300300000 ≤ a) && decide (a + n ≤ 0x1300400000))
    || (sys && decide (0x1300000000 ≤ a) && decide (a + n ≤ 0x1300400000))
    || (sys && !write && decide (0x1380000000 ≤ a) && decide (a + n ≤ 0x1380040000))

/-- The core may access the plain memory [a, a + n) (R34, R127). -/
def plainOk (c a n : Nat) (write : Bool) : Bool :=
  if isField c then inDram a n || inPlate a n || (inTile a n && (!inScratch a n || ownSlice c a n))
  else inBulk a n || supMemOk c a n write

/-- n free bytes, and the state that has drawn them (log entry 2). -/
def freeBytes (s : State) (n : Nat) : List Byte × State :=
  ((List.range n).map fun i => BitVec.ofNat 8 ((({ s with freeCtr := s.freeCtr + i / 32 } : State).free 256).toNat / 2 ^ (8 * (i % 32))),
    { s with freeCtr := s.freeCtr + ceilDiv n 32 })

/-- What R194 finds wrong with the far operands: an exception code. -/
def farBad (far : DWord) (align block : Nat) : Option Nat :=
  if bits far 63 40 ≠ 0 then some Code.TILE_UNMAPPED
  else if far.toNat % align ≠ 0 ∨ 256 < far.toNat % 256 + block then some Code.TILE_ALIGN
  else none

/-- Accesses a core has outstanding (R32). -/
def outCount (k : Core) : Nat := k.loads.length + k.remote.length

/-- Issue of a remote instruction, governed by bit 0 of p (R193). -/
def remoteIssue (s : State) (c : CoreId) (w : Word) (p : PReg) (rd wr : List Nat) (f : State → State) : State :=
  if (s.core c.val).p0 p then s.issue c w rd wr f else s.alu c w [] [] fun k => k

/-- A read's destination, by register key. -/
def setKey (k : Core) (key : Nat) (v : Vec) : Core :=
  if key < 32 then k.setG (Fin.ofNat 32 key) (v.setWidth 64) else k.setV (Fin.ofNat 32 (key - 32)) v

/-- A remote read or fetch-add: 0 and RERR at once without a route, else a slot and a packet; at a limit the core waits (R138,
R196, R418). -/
def remoteAsk (s : State) (c : CoreId) (w : Word) (far node : DWord) (align type op len key : Nat) (data : List Byte) : State :=
  match farBad far align 0 with
  | some e => s.exc c.val e w far.toNat
  | none =>
    let d := bits node 12 0
    if 8 ≤ outCount (s.core c.val) then s
    else if s.noRoute d then
      let s := (s.inc Reg.TRANSIT_NOROUTE_CNT).raiseSecAll Code.TRANSIT_NOROUTE d
      (s.remoteFail c.val false).updCore c.val fun k => ((setKey k key 0).kflag 0 false).next
    else match s.freeSlot c.val with
      | none => s
      | some i =>
        let s := s.updSlot i fun t => { t with
          busy := true, seq := (t.seq + 1) % 65536, type := type, op := op, core := c.val, key := key, dst := d
          addr := far.toNat, len := len, data := data, first := s.mono, reissues := 0, gap := none, answer := none }
        (s.slotSend i).updCore c.val fun k => { k with remote := k.remote ++ [(i, key)] }.next

/-- A posted write leaves; the node is remembered for the next FENCE.F (R134, R425). -/
def remotePost (s : State) (c : CoreId) (type : BitVec 4) (far node : DWord) (data : List Byte) : State :=
  let d := bits node 12 0
  let s := s.sendPosted { dst := BitVec.ofNat 13 (if type = 4 then d % 4096 else d), src := 0, type := type, tag := BitVec.ofNat 10 c.val, addr := BitVec.ofNat 40 far.toNat, len := BitVec.ofNat 9 data.length, payload := data }
  s.updCore c.val fun k => { k with farNodes := if type = 4 ∨ k.farNodes.contains d = true then k.farNodes else k.farNodes ++ [d] }.next

/-- RSTW, RSTD, RVST. -/
def remoteStore (s : State) (c : CoreId) (w : Word) (far node : DWord) (n : Nat) (v : Nat) : State :=
  match farBad far n 0 with
  | some e => s.exc c.val e w far.toNat
  | none => s.remotePost c 0 far node (leBytes n v)

/-- RPUT and RMPUT: n × 16 bytes of the local block (R194, R196). -/
def remotePut (s : State) (c : CoreId) (w : Word) (type : BitVec 4) (far node loc : DWord) (n : Nat) : State :=
  let len := 16 * n
  match farBad far 16 len with
  | some e => s.exc c.val e w far.toNat
  | none =>
    if loc.toNat % 16 ≠ 0 then s.exc c.val Code.TILE_ALIGN w loc.toNat
    else if !plainOk c.val loc.toNat len false then s.exc c.val Code.TILE_ACCESS w loc.toNat
    else if s.hasUe loc.toNat len then
      let (bs, s) := (s.noteUe (coreInstOf c.val) loc.toNat len).freeBytes len
      s.remotePost c type far node bs
    else s.remotePost c type far node (s.bytes loc.toNat len)

/-- FLUSHes of a FENCE.F: one to each node written; a node without a route is done with an error (R418, R425). -/
def flushAll (s : State) (c : Nat) : List Nat → State
  | [] => s
  | d :: r =>
    if s.noRoute d then (((s.inc Reg.TRANSIT_NOROUTE_CNT).raiseSecAll Code.TRANSIT_NOROUTE d).remoteFail c false).flushAll c r
    else match s.freeSlot c with
      | none => s.flushAll c r
      | some i =>
        let s := s.updSlot i fun t => { t with
          busy := true, seq := (t.seq + 1) % 65536, type := 3, op := 0, core := c, key := 0, dst := d, addr := 0, len := 16, data := []
          first := s.mono, reissues := 0, snap := (s.tgt d).sent, gap := none, answer := none }
        ((s.updCore c fun k => { k with flushes := k.flushes ++ [d] }).slotSend i).flushAll c r

/-- Slots free for a requester. -/
def slotsFree (s : State) (c : Nat) : Nat :=
  ((List.range 256).filter fun i => !(s.tslot i).busy && (decide (32 ≤ i) || c == 256 || c == 257)).length

/-- FENCE.F: it waits at issue while the slots for its FLUSHes are not free (R32, R134, R425). -/
def fenceF (s : State) (c : Nat) : State :=
  let nodes := (s.core c).farNodes
  if s.slotsFree c < nodes.length then s
  else (s.flushAll c nodes).updCore c fun k => k.startFence .f

end State

/-- FENCE_F. -/
def execSFenceF (c : CoreId) (s : State) : Host.Outcome State Fault Refusal :=
  .next (s.issue c (encR 0x19 0 0 0 0 3) [] [] fun s => s.fenceF c.val)

/-- RLDW. -/
def execSRldw (c : CoreId) (d a b : GReg) (p : PReg) (s : State) : Host.Outcome State Fault Refusal :=
  let w := encR 0x17 d.val a.val b.val p.val 0
  let k := s.core c.val
  .next (s.remoteIssue c w p [gKey a, gKey b] [gKey d] fun s => s.remoteAsk c w (k.gr a) (k.gr b) 4 1 0 4 (gKey d) [])

/-- RLDD. -/
def execSRldd (c : CoreId) (d a b : GReg) (p : PReg) (s : State) : Host.Outcome State Fault Refusal :=
  let w := encR 0x17 d.val a.val b.val p.val 1
  let k := s.core c.val
  .next (s.remoteIssue c w p [gKey a, gKey b] [gKey d] fun s => s.remoteAsk c w (k.gr a) (k.gr b) 8 1 0 8 (gKey d) [])

/-- RVLD. -/
def execSRvld (c : CoreId) (d : VReg) (a b : GReg) (p : PReg) (s : State) : Host.Outcome State Fault Refusal :=
  let w := encR 0x17 d.val a.val b.val p.val 2
  let k := s.core c.val
  .next (s.remoteIssue c w p [gKey a, gKey b] [vKey d] fun s => s.remoteAsk c w (k.gr a) (k.gr b) 16 1 0 16 (vKey d) [])

/-- RSTW. -/
def execSRstw (c : CoreId) (d a b : GReg) (p : PReg) (s : State) : Host.Outcome State Fault Refusal :=
  let w := encR 0x17 d.val a.val b.val p.val 4
  let k := s.core c.val
  .next (s.remoteIssue c w p [gKey a, gKey b, gKey d] [] fun s => s.remoteStore c w (k.gr a) (k.gr b) 4 (k.gr d).toNat)

/-- RSTD. -/
def execSRstd (c : CoreId) (d a b : GReg) (p : PReg) (s : State) : Host.Outcome State Fault Refusal :=
  let w := encR 0x17 d.val a.val b.val p.val 5
  let k := s.core c.val
  .next (s.remoteIssue c w p [gKey a, gKey b, gKey d] [] fun s => s.remoteStore c w (k.gr a) (k.gr b) 8 (k.gr d).toNat)

/-- RVST. -/
def execSRvst (c : CoreId) (d : VReg) (a b : GReg) (p : PReg) (s : State) : Host.Outcome State Fault Refusal :=
  let w := encR 0x17 d.val a.val b.val p.val 6
  let k := s.core c.val
  .next (s.remoteIssue c w p [gKey a, gKey b, vKey d] [] fun s => s.remoteStore c w (k.gr a) (k.gr b) 16 (k.vr d).toNat)

/-- RFADDW. -/
def execSRfaddw (c : CoreId) (d a b : GReg) (p : PReg) (s : State) : Host.Outcome State Fault Refusal :=
  let w := encR 0x17 d.val a.val b.val p.val 8
  let k := s.core c.val
  .next (s.remoteIssue c w p [gKey a, gKey b, gKey d] [gKey d] fun s =>
    s.remoteAsk c w (k.gr a) (k.gr b) 4 2 0 8 (gKey d) (leBytes 8 (bits (k.gr d) 31 0)))

/-- RFADDD. -/
def execSRfaddd (c : CoreId) (d a b : GReg) (p : PReg) (s : State) : Host.Outcome State Fault Refusal :=
  let w := encR 0x17 d.val a.val b.val p.val 9
  let k := s.core c.val
  .next (s.remoteIssue c w p [gKey a, gKey b, gKey d] [gKey d] fun s =>
    s.remoteAsk c w (k.gr a) (k.gr b) 8 2 1 8 (gKey d) (leBytes 8 (k.gr d).toNat))

/-- RPUT of m + 1 blocks of 16 bytes. -/
def execSRput (c : CoreId) (d a b : GReg) (p : PReg) (m : Fin 16) (s : State) : Host.Outcome State Fault Refusal :=
  let w := encR 0x17 d.val a.val b.val p.val (0x10 + m.val)
  let k := s.core c.val
  .next (s.remoteIssue c w p [gKey a, gKey b, gKey d] [] fun s => s.remotePut c w 0 (k.gr a) (k.gr b) (k.gr d) (m.val + 1))

/-- RMPUT of m + 1 blocks of 16 bytes. -/
def execSRmput (c : CoreId) (d a b : GReg) (p : PReg) (m : Fin 16) (s : State) : Host.Outcome State Fault Refusal :=
  let w := encR 0x17 d.val a.val b.val p.val (0x20 + m.val)
  let k := s.core c.val
  .next (s.remoteIssue c w p [gKey a, gKey b, gKey d] [] fun s => s.remotePut c w 4 (k.gr a) (k.gr b) (k.gr d) (m.val + 1))

/-- REMOTE_RESPONSE: the answer in a slot completes its access: data, a RETRY that hardware reissues or reports, or an error; the
answer to an abandoned access is discarded (R122, R138). -/
def execRemoteResponse (i : Byte) (s : State) : Host.Outcome State Fault Refusal :=
  let t := s.tslot i.toNat
  match t.busy, t.answer with
  | true, some (st, data) =>
    let k := s.core t.core
    if !k.remote.contains (i.toNat, t.key) then .next (s.slotFree i.toNat)
    else
      let rtx := s.reg (State.tileReg Reg.TILE_RTX t.core)
      if st = 1 ∧ isField t.core = true ∧ k.rtx = true ∧ t.reissues < wfld rtx 7 0 then
        .next (s.updSlot i.toNat fun t => { t with answer := none, gap := some s.mono, reissues := t.reissues + 1 })
      else
        let v : Vec := if st = 0 then BitVec.ofNat 128 (leNat data) else 0
        let s := s.updCore t.core fun k =>
          { State.setKey k t.key v with remote := k.remote.erase (i.toNat, t.key), kstat := k.kstat &&& ~~~1#32 }
        let s := if st = 0 then s else s.remoteFail t.core (st == 1)
        .next (s.slotFree i.toNat)
  | _, _ => .next s

/-- REMOTE_REISSUE: after TILEt_RTX.GAP the same slot, TAG and SEQ go out again (R138, R415). -/
def execRemoteReissue (i : Byte) (s : State) : Host.Outcome State Fault Refusal :=
  let t := s.tslot i.toNat
  match t.gap with
  | some g =>
    if t.busy = true ∧ t.type ≠ 3 ∧ g + s.fld (State.tileReg Reg.TILE_RTX t.core) 23 8 ≤ s.mono then .next (s.slotSend i.toNat)
    else .next s
  | none => .next s

end Sys2Proof.Machine
end

