-- ==== Sys2Proof/Machine/AlmBase.lean ====
section
/-!
DEFINITION. The Almanac: flash, block headers, records, appends and compaction (15_almanac_store.md R602 to R609, R616 to R621).
-/
namespace Sys2Proof.Machine

open Sys2Proof

/-- The next multiple of m. -/
def upTo (m n : Nat) : Nat := ceilDiv n m * m

/-- The header, payload and padding of a record (R606). -/
def recBody (key seq : Word) (del : Bool) (payload : List Byte) : List Byte :=
  let h := 0xA7#8 :: leBytes 3 (payload.length + b2n del * 2 ^ 23) ++ leBytes 4 key.toNat ++ leBytes 4 seq.toNat
  h ++ leBytes 4 (crc32 h).toNat ++ payload ++ List.replicate (upTo 8 payload.length - payload.length) 0#8

/-- PCRC: 0 for an empty payload (R606). -/
def recPcrc (payload : List Byte) : Word := if payload = [] then 0 else crc32 payload

def commitBytes : List Byte := [0x43#8, 0x4D#8, 0x49#8, 0x54#8]

def recMarker (payload : List Byte) : List Byte := leBytes 4 (recPcrc payload).toNat ++ commitBytes

/-- Bytes of a record from its header to the start of the next one (R606). -/
def recSpan (len : Nat) : Nat := upTo 16 (16 + upTo 8 len + 8)

/-- Insert a key and its record by offset. -/
def insRec (x : Nat × AlmRec) : List (Nat × AlmRec) → List (Nat × AlmRec)
  | [] => [x]
  | y :: r => if x.2.off ≤ y.2.off then x :: y :: r else y :: insRec x r

namespace State

/-! ### Flash and geometry -/

def flashByte (s : State) (a : Nat) : Byte := s.flash.get 0xFF#8 a

def flashBytes (s : State) (a n : Nat) : List Byte := (List.range n).map fun i => s.flashByte (a + i)

/-- Programming only clears bits (R604). -/
def flashProg (s : State) (a : Nat) (b : Byte) : State := { s with flash := s.flash.put 0xFF#8 a (s.flashByte a &&& b) }

def flashProgs (s : State) (a : Nat) : List Byte → State
  | [] => s
  | b :: r => (s.flashProg a b).flashProgs (a + 1) r

def almLog (s : State) : Nat := s.fld Reg.ALM_GEOM 4 0
def almBlk (s : State) : Nat := 2 ^ s.almLog
/-- Journal bytes of a block (R605). -/
def almSpan (s : State) : Nat := s.almBlk - 32
def almNblk (s : State) : Nat := s.fld Reg.ALM_NBLK 16 0
/-- Flash address of area block b. -/
def almAddr (s : State) (b : Nat) : Nat := (s.fld Reg.ALM_BASE 16 0 + b) * s.almBlk
def almState (s : State) : Nat := s.fld Reg.ALM_STATUS 2 0
def almPf (s : State) : Bool := s.bit Reg.ALM_STATUS 3
def setAlm (s : State) (v : AlmSt) : State := { s with alm := v }

/-- A little-endian field of the header of block b (R604). -/
def hdr (s : State) (b o n : Nat) : Nat := leNat (s.flashBytes (s.almAddr b + o) n)

/-- MAGIC and ECRC are good. -/
def hdrOk (s : State) (b : Nat) : Bool :=
  s.hdr b 0 4 == 0x4B424C41 && s.hdr b 8 4 == (crc32 (s.flashBytes (s.almAddr b) 8)).toNat

def hdrErases (s : State) (b : Nat) : Nat := s.hdr b 4 4
/-- Bit i of STATE is cleared. -/
def hdrState (s : State) (b i : Nat) : Bool := s.hdr b 0x12 1 / 2 ^ i % 2 == 0

/-- ASSIGNED with a valid ACRC. -/
def hdrAssigned (s : State) (b : Nat) : Bool :=
  s.hdrOk b && s.hdrState b 0 && s.hdr b 0x14 4 == (crc32 (s.flashBytes (s.almAddr b + 0xC) 6)).toNat

/-- The highest valid erase count of the area. -/
def maxErases (s : State) : Nat :=
  (List.range s.almNblk).foldl (fun m b => if s.hdrOk b then max m (s.hdrErases b) else m) 0

/-! ### Journal reads -/

/-- Flash address of a journal offset of the active region. -/
def jAddr (s : State) (blocks : List (Option Nat)) (off : Nat) : Option Nat :=
  ((blocks[off / s.almSpan]?).getD none).map fun b => s.almAddr b + 32 + off % s.almSpan

/-- n journal bytes; a missing block reads as erased. -/
def jBytes (s : State) (off n : Nat) : List Byte :=
  (List.range n).map fun i => match s.jAddr s.alm.blocks (off + i) with
    | some a => s.flashByte a
    | none => 0xFF#8

/-- Payload of a record at a journal offset. -/
def recPayload (s : State) (r : AlmRec) : List Byte := s.jBytes (r.off + 16) r.len

def almFind (s : State) (key : Word) : Option AlmRec := s.alm.index.get none key.toNat

/-- Live payload of a key. -/
def almLive (s : State) (key : Word) : Option (List Byte) := (s.almFind key).map s.recPayload

/-- Live records in the order of the region. -/
def liveRecs (s : State) : List (Nat × AlmRec) :=
  s.alm.index.entries.foldr (fun e l => match e.2 with
    | some r => insRec (e.1, r) l
    | none => l) []

/-- Journal bytes of all live records. -/
def liveSize (s : State) : Nat := s.liveRecs.foldl (fun n r => n + recSpan r.2.len) 0

/-- Blocks item 1 of SYSTEM lists (R608, R609). -/
def item1 (s : State) : List Nat :=
  let l := (s.almLive 1#32).getD []
  (List.range (l.length / 4)).map fun i => leNat ((l.drop (4 * i)).take 4)

/-- Block b is retired (R608). -/
def retiredBlk (s : State) (b : Nat) : Bool :=
  (s.hdrOk b && s.hdrState b 2) || s.alm.retired.contains b || s.item1.contains b

/-- The usable blocks outside the active region and the region a compaction builds. -/
def freeBlocks (s : State) : List Nat :=
  (List.range s.almNblk).filter fun b =>
    !s.alm.blocks.contains (some b) && !(s.alm.target.getD []).contains b && !s.retiredBlk b

/-- A free block that is erased: its header has no assignment. -/
def erasedBlk (s : State) (b : Nat) : Bool := s.hdrOk b && s.hdr b 0x12 1 == 0xFF

/-! ### Erase and retirement -/

/-- Retire a block (R608). -/
def retire (s : State) (b : Nat) (tmo : Bool) : State :=
  let s := s.flashProg (s.almAddr b + 0x12) 0xFB#8
  let s := (s.setAlm { s.alm with retired := s.alm.retired ++ [b] }).inc Reg.ALM_RETIRED
  let s := if tmo then s.raise Code.ALM_FLASH_TIMEOUT 0 [BitVec.ofNat 32 b] else s
  s.raise Code.ALM_BLOCK_RETIRED 0 [BitVec.ofNat 32 b]

/-- Erase a block and write its header, or retire it when the erase fails (R604, R608, R621). -/
def eraseBlk (s : State) (fails : List FlashFail) (b : Nat) : State :=
  match fails.find? fun f => f.erase && f.block == b with
  | some f => s.retire b f.tmo
  | none =>
    let n := (if s.hdrOk b then s.hdrErases b else s.alm.scanMax) + 1
    let a := s.almAddr b
    let s := { s with flash := ⟨s.flash.entries.filter fun e => decide (e.1 < a) || decide (a + s.almBlk ≤ e.1)⟩ }
    let h := [0x41#8, 0x4C#8, 0x42#8, 0x4B#8] ++ leBytes 4 n
    let s := s.flashProgs a (h ++ leBytes 4 (crc32 h).toNat)
    let s := if (s.reg Reg.ALM_ERASE_MAX).toNat < n then s.setReg Reg.ALM_ERASE_MAX (BitVec.ofNat 32 n) else s
    if n = (s.reg Reg.ALM_WEAR).toNat then s.raise Code.ALM_WEAR_WARN 0 [BitVec.ofNat 32 b] else s

/-- The erased block with the lowest ERASES, the lowest number on ties. -/
def leastWorn (s : State) : List Nat → Option Nat
  | [] => none
  | b :: r => match s.leastWorn r with
    | some c => if s.hdrErases c < s.hdrErases b then some c else some b
    | none => some b

/-- The n least worn of a list of blocks in ascending order. -/
def pickBlocks (s : State) (l : List Nat) : Nat → List Nat
  | 0 => []
  | n + 1 => match s.leastWorn l with
    | some b => b :: s.pickBlocks (l.filter fun c => c != b) n
    | none => []

/-- Assign a block: RGEN, INDEX, STATE bit 0 and ACRC (R604, R618). -/
def assignBlk (s : State) (rgen : Word) (b idx : Nat) : State :=
  let a := s.almAddr b
  let h := leBytes 4 rgen.toNat ++ leBytes 2 idx
  ((s.flashProgs (a + 0xC) h).flashProg (a + 0x12) 0xFE#8).flashProgs (a + 0x14) (leBytes 4 (crc32 h).toNat)

/-- Program COMMITTED in an INDEX 0 block. -/
def commitBlk (s : State) (b : Option Nat) : State :=
  match b with
  | some b => s.flashProg (s.almAddr b + 0x12) 0xFD#8
  | none => s

/-- Build a region of free blocks for a generation: erase first where too few blocks are erased; none with SPARE_LOW where too few are
usable (R618, R619). -/
def newRegion (s : State) (fails : List FlashFail) (rgen : Word) : Option (List Nat) × State :=
  let rb := s.fld Reg.ALM_REGION 15 0
  let free := s.freeBlocks
  if free.length < rb then (none, s.raise Code.ALM_SPARE_LOW 0)
  else
    let s := if (free.filter s.erasedBlk).length < rb then
        (free.filter fun b => !s.erasedBlk b).foldl (fun s b => s.eraseBlk fails b) s
      else s
    let ready := s.freeBlocks.filter s.erasedBlk
    if ready.length < rb then (none, s.raise Code.ALM_SPARE_LOW 0)
    else
      let bs := s.pickBlocks ready rb
      (some bs, ((bs.zip (List.range rb)).foldl (fun s p => s.assignBlk rgen p.1 p.2) s))

/-! ### Appends -/

/-- Program bytes at a journal offset of a list of blocks. -/
def jProg (s : State) (blocks : List (Option Nat)) (off : Nat) : List Byte → State
  | [] => s
  | b :: r => ((s.jAddr blocks off).elim s fun a => s.flashProg a b).jProg blocks (off + 1) r

/-- The failure a page program at a journal offset meets. -/
def progFail (s : State) (blocks : List (Option Nat)) (off : Nat) (marker : Bool) (fails : List FlashFail) : Option FlashFail :=
  fails.find? fun f => !f.erase && f.marker == marker && (blocks[off / s.almSpan]?).getD none == some f.block
    && (32 + off % s.almSpan) / 256 == f.page

/-- Program FIRST of the block in which a record ends and the next one starts (R607). -/
def setFirst (s : State) (blocks : List (Option Nat)) (stop : Nat) : State :=
  let next := upTo 16 stop
  let i := (stop - 1) / s.almSpan
  match (blocks[i]?).getD none with
  | some b => if next / s.almSpan = i ∧ s.hdr b 0x18 2 = 0xFFFF then
      s.flashProgs (s.almAddr b + 0x18) (leBytes 2 (32 + next % s.almSpan)) else s
  | none => s

/-- Program a record at a journal offset; where a page fails, retire its block and try again from the start of the next block. The
offset at which the record lies, or none where no room is left (R607, R608). -/
def progRec (s : State) (blocks : List (Option Nat)) (body marker : List Byte) (fails : List FlashFail) (off : Nat) : Nat → Option Nat × State
  | 0 => (none, s)
  | f + 1 =>
    let n := body.length
    if blocks.length * s.almSpan < off + n + 8 then (none, s)
    else
      let again (at' : Nat) (b : Nat) (tmo : Bool) (s : State) : Option Nat × State :=
        (s.retire b tmo).progRec blocks body marker fails ((at' / s.almSpan + 1) * s.almSpan) f
      match (List.range n).find? fun i => (s.progFail blocks (off + i) false fails).isSome with
      | some i =>
        let fl := (s.progFail blocks (off + i) false fails).getD { erase := false, block := 0 }
        let s := s.jProg blocks off (body.take i)
        let m := min (n - i) (256 - (32 + (off + i) % s.almSpan) % 256)
        let (junk, s) := s.freeBytes m
        again (off + i) fl.block fl.tmo (s.jProg blocks (off + i) junk)
      | none =>
        let s := s.jProg blocks off body
        match s.progFail blocks (off + n) true fails with
        | some fl => again (off + n) fl.block fl.tmo s
        | none => (some off, (s.jProg blocks (off + n) marker).setFirst blocks (off + n + 8))

def almKeys (s : State) : Nat := s.alm.index.entries.length

/-- Put or remove the live record of a key (R616). -/
def setLive (s : State) (key : Word) (r : Option AlmRec) : State :=
  let s := s.setAlm { s.alm with index := s.alm.index.put none key.toNat r }
  s.setReg Reg.ALM_KEYS (BitVec.ofNat 32 s.almKeys)

/-- Append a record that fits at the append point: true when its marker has verified (R607, R608). -/
def appendRec (s : State) (key : Word) (del : Bool) (payload : List Byte) (fails : List FlashFail) : Bool × State :=
  let seq := s.reg Reg.ALM_SEQ
  let body := recBody key seq del payload
  let bl := s.alm.blocks
  match s.progRec bl body (recMarker payload) fails (s.reg Reg.ALM_APPEND_PT).toNat (bl.length + 1) with
  | (none, s) => (false, s)
  | (some off, s) =>
    let s := s.setReg Reg.ALM_APPEND_PT (BitVec.ofNat 32 (off + recSpan payload.length))
    let s := s.setReg Reg.ALM_SEQ (seq + 1)
    (true, s.setLive key (if del then none else some ⟨off, seq, payload.length⟩))

/-- A record of n payload bytes fits at the append point. -/
def fits (s : State) (n : Nat) : Bool :=
  decide ((s.reg Reg.ALM_APPEND_PT).toNat + 16 + upTo 8 n + 8 ≤ s.alm.blocks.length * s.almSpan)

/-- Append the blocks retired meanwhile to item 1 of SYSTEM (R608). -/
def recordRetired (s : State) : State :=
  if s.alm.retired = [] ∨ s.almState < 2 then s
  else
    let l := (s.almLive 1#32).getD [] ++ s.alm.retired.flatMap fun b => leBytes 4 b
    if s.fits l.length then
      let (ok, s) := s.appendRec 1#32 false l []
      if ok then s.setAlm { s.alm with retired := [] } else s
    else s

/-! ### Compaction -/

/-- Start a compaction: true when it has started (R618, R619). -/
def startCompaction (s : State) (fails : List FlashFail) : Bool × State :=
  if s.almState ≠ 2 ∨ s.almPf then (false, s)
  else
    match s.newRegion fails (s.reg Reg.ALM_RGEN + 1) with
    | (none, s) => (false, s)
    | (some bs, s) => (true, (s.setAlm { s.alm with target := some bs }).setFld Reg.ALM_STATUS 2 0 3)

/-- The append point has passed COMPACT_PCT per cent of the capacity (R618). -/
def pastPct (s : State) : Bool :=
  decide (s.fld Reg.ALM_REGION 23 16 * (s.alm.blocks.length * s.almSpan) < 100 * (s.reg Reg.ALM_APPEND_PT).toNat)

def autoCompact (s : State) (fails : List FlashFail) : State :=
  if s.bit Reg.ALM_CTRL 2 && s.pastPct then (s.startCompaction fails).2 else s

/-- A compaction stops with its new region uncommitted (R618, R620, R625). -/
def stopCompaction (s : State) : State :=
  if s.almState = 3 then (s.setAlm { s.alm with target := none }).setFld Reg.ALM_STATUS 2 0 2 else s

/-- Copy the live records in order into the new region: their new places, and the new append point (R618). -/
def copyLive (s : State) (bs : List (Option Nat)) (fails : List FlashFail) :
    List (Nat × AlmRec) → Nat → SMap (Option AlmRec) → Option (Nat × SMap (Option AlmRec)) × State
  | [], p, m => (some (p, m), s)
  | (k, r) :: l, p, m =>
    let pay := s.recPayload r
    match s.progRec bs (recBody (BitVec.ofNat 32 k) r.seq false pay) (recMarker pay) fails p (bs.length + 1) with
    | (none, s) => (none, s)
    | (some off, s) => s.copyLive bs fails l (off + recSpan r.len) (m.put none k (some { r with off := off }))

def setCap (s : State) : State := s.setReg Reg.ALM_CAP (BitVec.ofNat 32 (s.alm.blocks.length * s.almSpan))

/-- COMMITTED is programmed and the old region is erased (R618). -/
def commitCompaction (s : State) (bs : List Nat) (fails : List FlashFail) : State :=
  let new := bs.map some
  match s.copyLive new fails s.liveRecs 0 {} with
  | (none, s) => s.stopCompaction
  | (some (p, m), s) =>
    let old := s.alm.blocks
    let s := s.commitBlk bs.head?
    let s := s.setAlm { s.alm with blocks := new, index := m, target := none }
    let s := (s.setReg Reg.ALM_RGEN (s.reg Reg.ALM_RGEN + 1)).setReg Reg.ALM_APPEND_PT (BitVec.ofNat 32 p)
    let s := ((s.setCap).setFld Reg.ALM_STATUS 2 0 2).inc Reg.ALM_COMPACT_CNT
    let s := s.raise Code.ALM_COMPACTED 0 [s.reg Reg.ALM_RGEN]
    let s := old.foldl (fun s b => match b with
      | some b => if s.retiredBlk b then s else s.eraseBlk fails b
      | none => s) s
    s.recordRetired

end State

end Sys2Proof.Machine
end

