-- ==== Sys2Proof/Machine/Almanac.lean ====
section
/-!
DEFINITION. The Almanac: commands, mailbox, replay, power loss and scrubbing (15_almanac_store.md R609 to R622, R625).
-/
namespace Sys2Proof.Machine

open Sys2Proof

/-- Spaces a client may append to: the system image through the registers, the program through the mailbox (R609). -/
def spaceOk (who : Nat) (key : Word) : Bool :=
  let k := wfld key 31 24
  if 8 ≤ who then k == 2 || k == 3 || k == 4 || k == 5 || k == 7 else k == 1 || k == 5 || k == 6

/-- [a, a + n) may hold a payload (R611). -/
def almAddrOk (a n : Nat) : Bool :=
  inDram a n || inPlate a n || tileBelowScratch a n || (decide (0x1300000000 ≤ a) && decide (a + n ≤ 0x1300400000))

/-- Generation a is at least b, compared as frame numbers (R42, R614). -/
def genLe (b a : Word) : Bool := decide (0 ≤ (a - b).toInt)

/-- A record the replay or the scrub reads. -/
structure JRec where
  key : Word
  del : Bool
  r : AlmRec
  deriving DecidableEq, Repr

/-- What a walk of the region finds (R615). -/
structure Walk where
  recs : List JRec := []
  torn : List Word := []
  damage : Nat := 0
  last : Option Word := none
  deriving DecidableEq, Repr

namespace State

/-! ### Accepting commands -/

/-- Mailbox base (R613). -/
def mboxBase (s : State) : Nat := s.fld Reg.ALM_MBOX_LO 31 9 * 512 + s.fld Reg.ALM_MBOX_HI 7 0 * 2 ^ 32

/-- A write to ALM_CMD queues the agent's command (R610). -/
def almCmd (s : State) (ag : Agent) (op : Nat) : State :=
  let i := agIdx ag
  if wfld (s.areg i Reg.ALM_RES) 4 4 = 1 then s.raise Code.ALM_CFG_ERR 0
  else
    let s := s.setAreg i Reg.ALM_RES (wset (s.areg i Reg.ALM_RES) 4 4 1)
    s.setAlm { s.alm with queue := s.alm.queue ++ [{
      who := i, op := op, key := s.areg i Reg.ALM_KEY, addr := (s.areg64 i Reg.ALM_ADDR_LO).toNat % 2 ^ 40,
      len := s.afld i Reg.ALM_LEN 16 0, del := s.afld i Reg.ALM_LEN 23 23 == 1 }] }

/-- The end of a command: its result where the client reads it (R611, R613). -/
def almEnd (s : State) (c : AlmCmd) (res : Nat) (seq : Option Word) (len : Option Nat) : State :=
  let s := s.setAlm { s.alm with queue := s.alm.queue.drop 1 }
  let w (n : Nat) : Word := BitVec.ofNat 32 n
  if c.who < 8 then
    let s := seq.elim s fun q => s.setAreg c.who Reg.ALM_RSEQ q
    let s := len.elim s fun n => s.setAreg c.who Reg.ALM_RLEN (w n)
    s.setAreg c.who Reg.ALM_RES (w res)
  else
    let a := s.mboxBase + 64 * (c.who - 8)
    let s := seq.elim s fun q => s.store 0x100 (a + 20) (leBytes 4 q.toNat)
    let s := len.elim s fun n => s.store 0x100 (a + 24) (leBytes 4 n)
    s.store 0x100 a (leBytes 4 (wset (wset (s.memWord a) 1 0 3) 11 8 res).toNat)

/-- The payload an append reads from memory; a byte that holds an uncorrectable error is free. -/
def almPayload (s : State) (a n : Nat) : List Byte × State :=
  if s.hasUe a n then
    let (l, s) := (s.noteUe 0x3FFF a n).freeBytes n
    (((List.range n).zip l).map fun p => if s.hasUe (a + p.1) 1 then p.2 else s.byte (a + p.1), s)
  else (s.bytes a n, s)

/-! ### Commands -/

def setFull (s : State) (b : Bool) : State := s.setBit Reg.ALM_STATUS 4 b

/-- APPEND at the front of the queue (R607 to R611, R616, R619, R620); without effect while it waits for a compaction. -/
def doAppend (s : State) (c : AlmCmd) (fails : List FlashFail) : State :=
  let n := if c.del then 0 else c.len
  let rb := s.fld Reg.ALM_REGION 15 0
  if !spaceOk c.who c.key ∨ 65536 < c.len ∨ (c.del ∧ c.len ≠ 0) ∨ (!c.del && !almAddrOk c.addr n) = true then s.almEnd c 3 none none
  else if s.almPf then ((s.almEnd c 4 none none).setFull false).inc Reg.ALM_PF_ABORT_CNT
  else if !c.del ∧ (s.almFind c.key).isNone ∧ 32768 ≤ s.almKeys then (s.almEnd c 2 none none).setFull true
  else if s.fits n then
    let (pay, s) := s.almPayload c.addr n
    let seq := s.reg Reg.ALM_SEQ
    let (ok, s) := s.appendRec c.key c.del pay fails
    let s := if ok then (s.almEnd c 0 (some seq) none).inc Reg.ALM_APPEND_CNT else s.almEnd c 5 none none
    ((s.setFull false).recordRetired).autoCompact fails
  else if s.fld Reg.ALM_REGION 23 16 * (s.alm.blocks.length * s.almSpan) < 100 * s.liveSize then
    ((s.almEnd c 2 none none).setFull true).raise Code.ALM_ALM_FULL 0 [c.key]
  else if s.almState = 3 then s
  else if !s.bit Reg.ALM_CTRL 2 ∨ rb * s.almSpan < s.liveSize + recSpan n then (s.almEnd c 2 none none).setFull true
  else
    let (ok, s) := s.startCompaction fails
    if ok then s else (s.almEnd c 2 none none).setFull true

/-- READ (R610 to R612). -/
def doRead (s : State) (c : AlmCmd) : State :=
  let k := wfld c.key 31 24
  if k = 0 ∨ 8 ≤ k ∨ !almAddrOk c.addr c.len then s.almEnd c 3 none none
  else
    match s.almFind c.key with
    | none => s.almEnd c 1 none none
    | some r =>
      if c.len < r.len then s.almEnd c 7 none (some r.len)
      else ((s.store 0x3FFF c.addr (s.recPayload r)).almEnd c 0 (some r.seq) (some r.len)).inc Reg.ALM_READ_CNT

/-- COMPACT: OK when a compaction runs; the result of one that cannot start is a free value. -/
def doCompact (s : State) (c : AlmCmd) (fails : List FlashFail) : State :=
  if s.almState = 3 then s.almEnd c 0 none none
  else
    let (ok, s) := s.startCompaction fails
    if ok then s.almEnd c 0 none none else (s.almEnd c (s.free 4).toNat none none).drawn

/-- The command at the front of the queue ends (R610, R611). -/
def almDone (s : State) (fails : List FlashFail) : State :=
  match s.alm.queue with
  | [] => s
  | c :: _ =>
    if s.almState < 2 then s.almEnd c 6 none none
    else match c.op with
      | 1 => s.doAppend c fails
      | 2 => s.doRead c
      | 3 => s.doCompact c fails
      | 4 => (s.almEnd c 0 none none).setAlm { (s.almEnd c 0 none none).alm with scrubNow := true }
      | _ => s.almEnd c 3 none none

/-- Clearing EN (R625). -/
def almOff (s : State) : State :=
  let s := s.setAlm { s.alm with target := none, index := {}, blocks := [] }
  let s := s.setFld Reg.ALM_STATUS 2 0 0
  match s.alm.queue with
  | [] => s
  | c :: _ => s.almEnd c 6 none none

/-- Words of a mailbox slot the poll takes: its request, OP 1 or 2 alone (R613). -/
def mboxTake (s : State) (i : Nat) : State :=
  let a := s.mboxBase + 64 * i
  let w (k : Nat) : Word := s.memWord (a + 4 * k)
  if wfld (w 0) 1 0 ≠ 1 then s
  else
    let op := wfld (w 0) 7 4
    let c : AlmCmd := {
      who := 8 + i, op := if op = 1 ∨ op = 2 then op else 0, key := w 1,
      addr := (w 2).toNat + wfld (w 3) 7 0 * 2 ^ 32, len := wfld (w 4) 16 0, del := wfld (w 4) 23 23 == 1 }
    let s := s.store 0x100 a (leBytes 4 (wset (w 0) 1 0 2).toNat)
    s.setAlm { s.alm with queue := s.alm.queue ++ [c] }

/-! ### Replay -/

/-- INDEX 0 of a committed region (R614). -/
def committed (s : State) (b : Nat) : Bool := s.hdrAssigned b && s.hdrState b 1 && s.hdr b 0x10 2 == 0

def hdrGen (s : State) (b : Nat) : Word := BitVec.ofNat 32 (s.hdr b 0xC 4)

/-- The active region's generation among readable blocks (R614). -/
def activeGen (s : State) (l : List Nat) : Option Word :=
  l.foldl (fun g b => if !s.committed b then g
    else match g with
      | none => some (s.hdrGen b)
      | some x => if genLe x (s.hdrGen b) then some (s.hdrGen b) else g) none

/-- The blocks of a generation by INDEX (R605, R614). -/
def regionBlocks (s : State) (l : List Nat) (g : Word) : List (Option Nat) :=
  let m := l.filter fun b => s.hdrAssigned b && s.hdrGen b == g
  let n := m.foldl (fun k b => max k (s.hdr b 0x10 2 + 1)) 0
  (List.range n).map fun i => m.find? fun b => s.hdr b 0x10 2 == i

/-- The geometry lets EN be set (R603). -/
def almGeomOk (s : State) : Bool :=
  decide (12 ≤ s.almLog) && decide (s.almLog ≤ 18) && decide (2 * s.fld Reg.ALM_REGION 15 0 + 4 ≤ s.almNblk)

/-- The header scan (R614). -/
def almScan (s : State) (unread : List Nat) (fails : List FlashFail) : State :=
  let l := (List.range s.almNblk).filter fun b => !unread.contains b
  let s := s.setFld Reg.ALM_STATUS 2 0 1
  let s := s.setAlm { s.alm with
    blocks := []
    index := {}
    target := none
    retired := []
    scanMax := s.maxErases
    scrubAt := s.mono
    scrubNow := false }
  let s := (s.setReg Reg.ALM_ERASE_MAX (BitVec.ofNat 32 s.maxErases)).setReg Reg.ALM_KEYS 0
  match s.activeGen l with
  | some g => ((s.setAlm { s.alm with blocks := s.regionBlocks l g }).setReg Reg.ALM_RGEN g).setCap
  | none =>
    let s := s.raise Code.ALM_NO_JOURNAL 0
    match s.newRegion fails 1#32 with
    | (none, s) => s.setCap
    | (some bs, s) => ((((s.commitBlk bs.head?).setAlm { s.alm with blocks := bs.map some }).setReg Reg.ALM_RGEN 1).setCap)

/-- FIRST of the next block at or after index i whose FIRST is programmed, as a journal offset (R615). -/
def nextFirst (s : State) (i : Nat) : Option Nat :=
  ((List.range s.alm.blocks.length).drop i).findSome? fun j => match (s.alm.blocks[j]?).getD none with
    | none => none
    | some b => let f := s.hdr b 0x18 2
                if f = 0xFFFF ∨ f < 32 then none else some (j * s.almSpan + f - 32)

/-- Walk the region (R615, R616). -/
def walk (s : State) (off : Nat) (w : Walk) : Nat → Walk
  | 0 => w
  | f + 1 =>
    if s.alm.blocks.length * s.almSpan ≤ off then w
    else
      let skip : Walk := { w with damage := w.damage + 1 }
      let jump : Walk := match s.nextFirst (off / s.almSpan + 1) with
        | some o => s.walk o skip f
        | none => skip
      match s.jAddr s.alm.blocks off with
      | none => jump
      | some _ =>
        let h := s.jBytes off 16
        if h.all fun b => b == 0xFF#8 then w
        else if h.headD 0 ≠ 0xA7#8 ∨ leNat (h.drop 12) ≠ (crc32 (h.take 12)).toNat then jump
        else
          let lw := leNat ((h.drop 1).take 3)
          let len := lw % 2 ^ 17
          let key : Word := BitVec.ofNat 32 (leNat ((h.drop 4).take 4))
          let seq : Word := BitVec.ofNat 32 (leNat ((h.drop 8).take 4))
          let r : AlmRec := ⟨off, seq, len⟩
          let good := s.jBytes (off + 16 + upTo 8 len) 8 == recMarker (s.recPayload r)
          let w := { w with last := some seq }
          let w := if good then { w with recs := w.recs ++ [⟨key, lw / 2 ^ 23 == 1, r⟩] } else { w with torn := w.torn ++ [key] }
          s.walk (off + recSpan len) w f

def walkAll (s : State) : Walk := s.walk 0 {} (s.alm.blocks.length * s.almSpan / 16 + 1)

/-- Journal offset just past the last non-erased byte (R615). -/
def lastUsed (s : State) : Nat :=
  ((List.range s.alm.blocks.length).zip s.alm.blocks).foldl (fun m p => match p.2 with
    | none => m
    | some b =>
      let a := s.almAddr b + 32
      match (s.flash.entries.filter fun e => decide (a ≤ e.1) && decide (e.1 < a + s.almSpan)).getLast? with
      | some e => p.1 * s.almSpan + (e.1 - a) + 1
      | none => m) 0

/-- The walk ends: the index, the append point, the next SEQ, READY (R615, R616, R618). -/
def replayEnd (s : State) (fails : List FlashFail) : State :=
  let w := s.walkAll
  let s := w.recs.foldl (fun s j => s.setLive j.key (if j.del then none else some j.r)) s
  let s := s.setReg Reg.ALM_APPEND_PT (BitVec.ofNat 32 (upTo 16 s.lastUsed))
  let s := s.setReg Reg.ALM_SEQ ((w.last.getD 0) + 1)
  let s := s.setReg Reg.ALM_RETIRED (BitVec.ofNat 32 ((List.range s.almNblk).filter s.retiredBlk).length)
  let s := w.torn.foldl (fun s k => s.raise Code.ALM_TORN_RECORD 0 [k]) s
  let s := (List.range w.damage).foldl (fun s _ => s.raise Code.ALM_HEADER_DAMAGE 0) s
  let s := (s.setFld Reg.ALM_STATUS 2 0 2).raise Code.ALM_REPLAY_DONE 0
  (s.recordRetired).autoCompact fails

/-! ### Scrubbing -/

/-- A live record passes its HCRC and PCRC check (R622). -/
def recPasses (s : State) (key : Nat) (r : AlmRec) : Bool :=
  let h := s.jBytes r.off 16
  leNat (h.drop 12) == (crc32 (h.take 12)).toNat && leNat ((h.drop 4).take 4) == key
    && leNat (s.jBytes (r.off + 16 + upTo 8 r.len) 4) == (recPcrc (s.recPayload r)).toNat

/-- Check one live record: refresh it when a later read passes, drop it when none does (R622). -/
def scrubRec (s : State) (soft : List Word) (fails : List FlashFail) (recs : List JRec) (x : Nat × AlmRec) : State :=
  let key : Word := BitVec.ofNat 32 x.1
  if s.recPasses x.1 x.2 then
    if soft.contains key && !s.almPf && s.fits x.2.len then
      let (ok, s) := s.appendRec key false (s.recPayload x.2) fails
      if ok then (s.inc Reg.ALM_REFRESH_CNT).raise Code.ALM_REFRESHED 0 [key] else s
    else s
  else
    let s := (s.inc Reg.ALM_LOST_CNT).raise Code.ALM_RECORD_LOST 0 [key]
    s.setLive key (match (recs.filter fun j => j.key == key && decide (j.r.off < x.2.off)).getLast? with
      | some j => if j.del then none else some j.r
      | none => none)

def scrubPass (s : State) (soft : List Word) (fails : List FlashFail) : State :=
  let recs := s.walkAll.recs
  let s := s.liveRecs.foldl (fun s x => s.scrubRec soft fails recs x) s
  ((s.setAlm { s.alm with scrubAt := s.mono, scrubNow := false }).recordRetired).autoCompact fails

/-! ### Power loss -/

/-- An append in progress stops with `left` page programs to do: its earlier pages stay, without a marker (R607, R620). -/
def cutAppend (s : State) (c : AlmCmd) (left : Nat) : State :=
  let n := if c.del then 0 else c.len
  let (pay, s) := s.almPayload c.addr n
  let p := (s.reg Reg.ALM_APPEND_PT).toNat
  let seq := s.reg Reg.ALM_SEQ
  let body := recBody c.key seq c.del pay
  -- starts of the page programs of the body
  let starts := (List.range body.length).filter fun i => i == 0 || (32 + (p + i) % s.almSpan) % 256 == 0 || (p + i) % s.almSpan == 0
  let done := starts.length + 1 - left
  let cut := (starts[done]?).getD body.length
  let s := if done = 0 then s
    else ((s.jProg s.alm.blocks p (body.take cut)).setReg Reg.ALM_SEQ (seq + 1)).setReg Reg.ALM_APPEND_PT (BitVec.ofNat 32 (p + recSpan n))
  ((s.almEnd c 4 none none).inc Reg.ALM_PF_ABORT_CNT).setFull false

/-- PWRFAIL_L is asserted (R620). -/
def pfAssert (s : State) (left : Option Nat) : State :=
  let first := !s.almPf
  let s := (s.setBit Reg.ALM_STATUS 3 true).setAlm { s.alm with pfAt := s.mono }
  let s := if first then s.raise Code.ALM_PWRFAIL 0 else s
  let s := s.stopCompaction
  match left, s.alm.queue with
  | some n, c :: _ =>
    if first ∧ 2 ≤ s.almState ∧ c.op = 1 ∧ s.fits (if c.del then 0 else c.len) ∧ spaceOk c.who c.key ∧ c.len ≤ 65536
        ∧ s.fld Reg.ALM_PF 15 0 < n then s.cutAppend c n
    else if first ∧ 2 ≤ s.almState ∧ c.op = 1 then
      -- it has few enough pages left and continues to its end
      ((s.setBit Reg.ALM_STATUS 3 false).doAppend c []).stopCompaction.setBit Reg.ALM_STATUS 3 true
    else s
  | _, _ => s

end State

def execAlmAppend (ag : Agent) (s : State) : Host.Outcome State Fault Refusal :=
  .next (s.writeBy ag Reg.ALM_CMD fun s => s.almCmd ag 1)

def execAlmRead (ag : Agent) (s : State) : Host.Outcome State Fault Refusal :=
  .next (s.writeBy ag Reg.ALM_CMD fun s => s.almCmd ag 2)

def execAlmCompact (ag : Agent) (s : State) : Host.Outcome State Fault Refusal :=
  .next (s.writeBy ag Reg.ALM_CMD fun s => s.almCmd ag 3)

def execAlmScrub (ag : Agent) (s : State) : Host.Outcome State Fault Refusal :=
  .next (s.writeBy ag Reg.ALM_CMD fun s => s.almCmd ag 4)

def execAlmBadop (ag : Agent) (k : Fin 4) (s : State) : Host.Outcome State Fault Refusal :=
  .next (s.writeBy ag Reg.ALM_CMD fun s => s.almCmd ag (if k.val = 0 then 0 else 4 + k.val))

/-- The command at the front of the queue ends (R610 to R612). -/
def execAlmCommandDone (fails : List FlashFail) (s : State) : Host.Outcome State Fault Refusal := .next (s.almDone fails)

/-- The system image polls the mailbox every 1 ms (R613). -/
def execMailboxPoll (s : State) : Host.Outcome State Fault Refusal :=
  .next (
    let a := s.mboxBase
    if s.mono < s.alm.pollAt + 1000000 ∨ regionOf a ≠ .supUser ∨ 0x1300400000 < a + 512 ∨ s.mode = 0 ∨ s.mode = 0xA then s
    else
      let s := s.setAlm { s.alm with pollAt := s.mono }
      (List.range 8).foldl (fun s i => s.mboxTake i) s)

/-- Setting ALM_CTRL.EN (R603, R614, R625). -/
def execAlmReplay (ag : Agent) (v : Word) (unread : List Nat) (fails : List FlashFail) (s : State) : Host.Outcome State Fault Refusal :=
  .next (s.writeBy ag Reg.ALM_CTRL fun s =>
    if wfld v 0 0 = 0 ∨ s.bit Reg.ALM_CTRL 0 then s
    else
      let s := s.setFld Reg.ALM_CTRL 2 1 (wfld v 2 1)
      if s.almGeomOk then (s.setBit Reg.ALM_CTRL 0 true).almScan unread fails else s.raise Code.ALM_CFG_ERR 0)

/-- Step 3 of a compaction, with the copies before it and the erases after it (R618). -/
def execCompactionCommit (fails : List FlashFail) (s : State) : Host.Outcome State Fault Refusal :=
  .next (match s.alm.target with
    | some bs => if s.almState = 3 then s.commitCompaction bs fails else s
    | none => s)

/-- PWRFAIL_L is asserted (R620). -/
def execPwrfailAssert (left : Option Nat) (s : State) : Host.Outcome State Fault Refusal := .next (s.pfAssert left)

/-- PWRFAIL_L has been negated since a time after its last assertion, for REL_MS (R620). -/
def execPwrfailRelease (since : DWord) (s : State) : Host.Outcome State Fault Refusal :=
  .next (if s.almPf ∧ s.alm.pfAt ≤ since.toNat ∧ since.toNat + s.fld Reg.ALM_PF 31 16 * 1000000 ≤ s.mono then
    s.setBit Reg.ALM_STATUS 3 false else s)

/-- A scrub pass, commanded or due (R622). -/
def execAlmScrubTick (changed : List (Nat × Byte)) (soft : List Word) (fails : List FlashFail) (s : State) : Host.Outcome State Fault Refusal :=
  .next (
    let due := decide (s.alm.scrubAt + max 1 (s.fld Reg.ALM_SCRUB 7 0) * 3600000000000 ≤ s.mono)
    if s.bit Reg.ALM_CTRL 1 && decide (2 ≤ s.almState) && (s.alm.scrubNow || due) then
      ({ s with flash := changed.foldl (fun (m : SMap Byte) (p : Nat × Byte) => m.put 0xFF#8 p.1 p.2) s.flash }).scrubPass soft fails
    else s)

end Sys2Proof.Machine
end

