-- ==== Sys2Proof/Machine/Occulter.lean ====
section
/-!
DEFINITION. The Occulter: regions, limits, the cut, the position feed, the guard and minimum mode (07_occulter_reticle.md R321 to
R355, R366, R367).
-/
namespace Sys2Proof.Machine

open Sys2Proof

abbrev Pt := Int × Int

/-! ### Geometry (R325 to R328) -/

/-- Square root rounded down, below 2^40. -/
def isqrt (n : Nat) : Nat :=
  ((List.range 40).reverse).foldl (fun r i => if (r + 2 ^ i) * (r + 2 ^ i) ≤ n then r + 2 ^ i else r) 0

def crossP (a b : Pt) : Int := a.1 * b.2 - a.2 * b.1
def subP (a b : Pt) : Pt := (a.1 - b.1, a.2 - b.2)

/-- A transformed coordinate in 1/8 px, ties toward +∞ (R325). -/
def xfRound (v : Int) : Int := (16 * v + 65536) / 131072

def coef (c : List Int) (i : Nat) : Int := c.getD i 0

/-- The whole transform of a point, and its linear part (R325). -/
def xfPoint (c : List Int) (p : Pt) : Pt :=
  (xfRound (coef c 0 * p.1 + coef c 1 * p.2 + coef c 2), xfRound (coef c 3 * p.1 + coef c 4 * p.2 + coef c 5))
def xfVec (c : List Int) (p : Pt) : Pt :=
  (xfRound (coef c 0 * p.1 + coef c 1 * p.2), xfRound (coef c 3 * p.1 + coef c 4 * p.2))

/-- The edges of a closed polygon. -/
def edges {α : Type} (l : List α) : List (α × α) := l.zip (l.drop 1 ++ l.take 1)

/-- Twice the signed area. -/
def area2 (l : List Pt) : Int := (edges l).foldl (fun t e => t + crossP e.1 e.2) 0

/-- Sign changes around a cycle of non-zero numbers. -/
def signChanges (l : List Int) : Nat :=
  let d := l.filter (· ≠ 0)
  ((d.zip (d.drop 1 ++ d.take 1)).filter fun x => decide (x.1 < 0) != decide (x.2 < 0)).length

/-- The region's shape under a transform (R324, R325). -/
def regionShape (c : List Int) (kind nv : Nat) (geo : List Int) : Shape :=
  let g (i : Nat) : Int := geo.getD i 0
  match kind with
  | 0 => .poly ((List.range nv).map fun i => xfPoint c (g (2 * i), g (2 * i + 1)))
  | 1 => .ellipse (xfPoint c (g 0, g 1)) (xfVec c (g 2, g 3)) (xfVec c (g 4, g 5))
  | _ => .none

/-- A transformed geometry is valid (R326). -/
def shapeOk (s : Shape) : Bool :=
  let small (p : Pt) : Bool := decide (p.1.natAbs ≤ 2 ^ 23) && decide (p.2.natAbs ≤ 2 ^ 23)
  match s with
  | .poly l =>
    let turns := (edges (edges l)).map fun e => crossP (subP e.1.2 e.1.1) (subP e.2.2 e.2.1)
    l.all small && (turns.all (0 ≤ ·) || turns.all (· ≤ 0)) && area2 l != 0
      && decide (signChanges ((edges l).map fun e => e.2.1 - e.1.1) ≤ 2)
  | .ellipse c u v => small c && small u && small v && crossP u v != 0
  | _ => true

/-- Bounding box of a shape (R333). -/
def shapeBox (s : Shape) : Option (Int × Int × Int × Int) :=
  match s with
  | .poly l => match l with
    | [] => none
    | p :: r => some (r.foldl (fun b q => (min b.1 q.1, min b.2.1 q.2, max b.2.2.1 q.1, max b.2.2.2 q.2)) (p.1, p.2, p.1, p.2))
  | .ellipse c u v =>
    let a : Int := u.1.natAbs + v.1.natAbs
    let b : Int := u.2.natAbs + v.2.natAbs
    some (c.1 - a, c.2 - b, c.1 + a, c.2 + b)
  | .rect x0 y0 x1 y1 => some (x0, y0, x1, y1)
  | _ => none

/-- A point lies in the closed region (R327). -/
def insideShape (s : Shape) (p : Pt) : Bool :=
  match s with
  | .poly l =>
    let pos := decide (0 < area2 l)
    (edges l).all fun e =>
      let t := crossP (subP e.2 e.1) (subP p e.1)
      if pos then decide (0 ≤ t) else decide (t ≤ 0)
  | .ellipse c u v =>
    let d := subP p c
    decide (crossP d v * crossP d v + crossP u d * crossP u d ≤ crossP u v * crossP u v)
  | .rect x0 y0 x1 y1 => decide (x0 ≤ p.1) && decide (p.1 ≤ x1) && decide (y0 ≤ p.2) && decide (p.2 ≤ y1)
  | .all => true
  | .none => false

/-- Distance of a point to a segment, rounded down. -/
def segDist (a b p : Pt) : Nat :=
  let e := subP b a
  let q := subP p a
  let ee := e.1 * e.1 + e.2 * e.2
  let t := q.1 * e.1 + q.2 * e.2
  if ee = 0 ∨ t ≤ 0 then isqrt (q.1 * q.1 + q.2 * q.2).toNat
  else if ee ≤ t then
    let q := subP p b
    isqrt (q.1 * q.1 + q.2 * q.2).toNat
  else isqrt ((crossP e q * crossP e q).toNat / ee.toNat)

/-- Fraction bits of the multiplier in `ellipseDist`: beyond the separation of the algebraic numbers compared (log entry 24). -/
def ellipseBits : Nat := 8192

/-- Distance of an outside point to an ellipse, rounded down: the nearest point is (I + t·A)⁻¹(p − c) for the t at which it meets
the ellipse; t is found bit by bit from above (R328, log entry 24). -/
def ellipseDist (c u v p : Pt) : Nat :=
  let d := subP p c
  let axx : Int := v.2 * v.2 + u.2 * u.2
  let axy : Int := -(v.1 * v.2 + u.1 * u.2)
  let ayy : Int := v.1 * v.1 + u.1 * u.1
  let dd : Int := crossP u v * crossP u v
  let sc : Int := 2 ^ ellipseBits
  -- B = s·I + n·A, w = adj(B) d
  let det (n : Int) : Int := (sc + n * axx) * (sc + n * ayy) - n * axy * (n * axy)
  let wx (n : Int) : Int := (sc + n * ayy) * d.1 - n * axy * d.2
  let wy (n : Int) : Int := (sc + n * axx) * d.2 - n * axy * d.1
  let out (n : Int) : Bool :=
    decide (dd * (det n * det n) < sc * sc * (axx * wx n * wx n + 2 * axy * wx n * wy n + ayy * wy n * wy n))
  let n : Nat := ((List.range (ellipseBits + 64)).reverse).foldl
    (fun (n : Nat) i => if out ((n + 2 ^ i : Nat) : Int) then n + 2 ^ i else n) 0
  let h : Int := (n : Int) + 1
  let ex := d.1 * det h - sc * wx h
  let ey := d.2 * det h - sc * wy h
  isqrt ((ex * ex + ey * ey) / (det h * det h)).toNat

/-- d8 of a point outside a shape; none where the shape has no place (R328). -/
def shapeDist (s : Shape) (p : Pt) : Option Nat :=
  match s with
  | .poly l => match (edges l).map fun e => segDist e.1 e.2 p with
    | [] => none
    | x :: r => some (r.foldl min x)
  | .ellipse c u v => some (ellipseDist c u v p)
  | .rect x0 y0 x1 y1 =>
    let dx := max 0 (max (x0 - p.1) (p.1 - x1))
    let dy := max 0 (max (y0 - p.2) (p.2 - y1))
    some (isqrt (dx * dx + dy * dy).toNat)
  | _ => none

/-- Centre of a pixel in 1/8 px (R327). -/
def pixCentre (x y : Nat) : Pt := (8 * (x : Int) + 4, 8 * (y : Int) + 4)

/-- The region's light limit at a pixel (R328). -/
def CutRgn.lim (r : CutRgn) (minMode : Bool) (p : Pt) : Option Nat :=
  let c := if minMode then r.minceil else r.ceil
  if insideShape r.shape p then some c
  else if r.feather = 0 then none
  else match shapeDist r.shape p with
    | some d => if d < 8 * r.feather then some (c + (0xFFFF - c) * d / (8 * r.feather)) else none
    | none => none

/-- The lesser of two limits. -/
def minLim (a b : Option Nat) : Option Nat :=
  match a, b with
  | none, b => b
  | a, none => a
  | some x, some y => some (min x y)

/-- The bounding box widened by the feather meets the pixel rows of a line (R330). -/
def CutRgn.meets (r : CutRgn) (y : Nat) : Bool :=
  match r.shape, shapeBox r.shape with
  | .all, _ => true
  | _, some b => decide (b.2.1 - 8 * r.feather ≤ 8 * (y : Int) + 7) && decide (8 * (y : Int) ≤ b.2.2.2 + 8 * r.feather)
  | _, none => false

/-- The regions that count on a line, and whether the line overflows (R330). -/
def lineRgns (rs : List CutRgn) (y : Nat) : List CutRgn := rs.filter (·.meets y)
def lineOvf (rs : List CutRgn) (y : Nat) : Bool := decide (64 < (lineRgns rs y).length)

/-- The least ceiling among regions. -/
def leastCeil (rs : List CutRgn) (minMode : Bool) : Option Nat :=
  rs.foldl (fun a r => minLim a (some (if minMode then r.minceil else r.ceil))) none

/-- The limit of a pixel at stage 5: the least over all armed regions, or the line's (R328, R330). -/
def pixLim (rs : List CutRgn) (minMode : Bool) (x y : Nat) : Option Nat :=
  if lineOvf rs y then leastCeil (lineRgns rs y) minMode
  else rs.foldl (fun a r => minLim a (r.lim minMode (pixCentre x y))) none

/-- The guard's limit of a pixel: the regions whose inside contains its centre, or the line's (R346). -/
def guardLim (rs : List CutRgn) (minMode : Bool) (x y : Nat) : Option Nat :=
  if lineOvf rs y then leastCeil (lineRgns rs y) minMode
  else leastCeil (rs.filter fun r => insideShape r.shape (pixCentre x y)) minMode

/-- The pixel lies inside an armed region or within its feather (R355). -/
def inMask (rs : List CutRgn) (x y : Nat) : Bool := rs.any fun r => (r.lim false (pixCentre x y)).isSome

/-- Code limit of a light limit at array current i and depth d (R322). -/
def codeLimit (i d lim : Nat) : Nat := if i = 0 then 2 ^ d - 1 else min (2 ^ d - 1) (lim * (2 ^ d - 1) / i)

namespace State

/-! ### Regions -/

def occ (s : State) (p : Nat) : OccPort := s.occs.get {} p
def updOcc (s : State) (p : Nat) (f : OccPort → OccPort) : State := { s with occs := s.occs.put {} p (f (s.occ p)) }

def rgn (s : State) (p r : Nat) : Region256 := s.rgns.get {} (p * 256 + r)
def rgnCut (s : State) (p r : Nat) : Region256 := s.rgnsCut.get {} (p * 256 + r)

/-- A region change applied to one region (R331, R332, R344). -/
def applyRgn (c : OccChange) (v : Region256) : Region256 :=
  let ref (v : Region256) (ptp : Int) (mono : Nat) : Region256 := { v with refPtp := ptp, refMono := mono, fresh := true }
  let past (v : Region256) : Option (Nat × Nat × List Int) := if v.kind ≠ 2 ∧ v.geo ≠ [] then some (v.kind, v.nv, v.geo) else v.last
  match c with
  | .write _ w =>
    let v := { v with
      feed := w.feed, kind := w.kind, nv := w.nv, geo := w.geo, feather := w.feather, ceil := w.ceil, minceil := w.minceil
      timeout := w.timeout, source := w.source, last := past v }
    if v.feed then v else ref v w.refPtp w.refMono
  | .arm _ ptp mono => ref { v with armed := true, last := if v.armed then v.last else none } ptp mono
  | .disarm _ => { v with armed := false }
  | .refresh _ ptp mono => ref v ptp mono
  | .item _ _ _ kind nv geo ptp mono =>
    ref (if kind = 3 then v else { v with kind := kind, nv := nv, geo := geo, last := past v }) ptp mono
  | _ => v

/-- The region a change concerns. -/
def changeRgn (c : OccChange) : Option Nat :=
  match c with
  | .write r _ => some r
  | .arm r _ _ => some r
  | .disarm r => some r
  | .refresh r _ _ => some r
  | .item _ _ r _ _ _ _ _ => some r
  | _ => none

/-- A change is accepted: the commanded copy takes it, and it waits for its cut (R334). -/
def occChange (s : State) (p : Nat) (c : OccChange) : State :=
  let s := match changeRgn c with
    | some r => { s with rgns := s.rgns.put {} (p * 256 + r) (applyRgn c (s.rgn p r)) }
    | none => s
  s.updOcc p fun o => { o with changes := o.changes ++ [c] }

/-- PTP time in ns. -/
def ptpNow (s : State) : Int := s.ptpNs

/-- PTP is in use for ages (R331). -/
def agePtp (s : State) : Bool := !(s.bit Reg.OCC_FEED_CTRL 17 && !s.ptpValid)

/-- Age of a region in ns (R331). -/
def rgnAge (s : State) (v : Region256) : Nat :=
  let m := s.mono - v.refMono
  if s.agePtp then max m (s.ptpNow - v.refPtp).toNat else m

/-- BADCFG of a region configuration (R367). -/
def rgnCfgBad (v : Region256) : Bool :=
  v.kind == 3 || (v.feed && v.timeout == 0) || decide (v.ceil < v.minceil)
    || (v.kind == 0 && (decide (v.nv < 3) || decide (16 < v.nv)))

/-- A region configuration and geometry staged by an agent (R324, R366). -/
def rgnStaged (s : State) (ag : Nat) : Region256 :=
  let f (a h l : Nat) := s.afld ag a h l
  { feed := f Reg.OCC_RGN_CFG0 0 0 == 1
    kind := f Reg.OCC_RGN_CFG0 2 1
    nv := f Reg.OCC_RGN_CFG0 8 4
    feather := f Reg.OCC_RGN_CFG0 23 16
    ceil := f Reg.OCC_RGN_CFG1 15 0
    minceil := f Reg.OCC_RGN_CFG1 31 16
    timeout := f Reg.OCC_RGN_CFG2 15 0
    source := s.areg ag Reg.OCC_RGN_SRCID
    geo := (List.range 32).map fun i => (s.areg ag (Reg.OCC_RGN_V + 4 * i)).toInt
    refPtp := s.ptpNow
    refMono := s.mono }

/-- READ copies a region into an agent's staging (R367). -/
def rgnToStaging (s : State) (ag : Nat) (v : Region256) : State :=
  let set (s : State) (a n : Nat) : State := s.setAreg ag a (BitVec.ofNat 32 n)
  let s := set s Reg.OCC_RGN_CFG0 (b2n v.feed + v.kind * 2 + v.nv * 16 + v.feather * 65536)
  let s := set s Reg.OCC_RGN_CFG1 (v.ceil + v.minceil * 65536)
  let s := set s Reg.OCC_RGN_CFG2 v.timeout
  let s := s.setAreg ag Reg.OCC_RGN_SRCID v.source
  (List.range 32).foldl (fun s i => s.setAreg ag (Reg.OCC_RGN_V + 4 * i) (BitVec.ofInt 32 (v.geo.getD i 0))) s

/-- Result and effect of a region operation on the agent's selection (R331, R332, R366, R367). -/
def rgnOp (s : State) (ag op : Nat) : Nat × State :=
  let p := s.afld ag Reg.OCC_RGN_SEL 9 8
  let r := s.afld ag Reg.OCC_RGN_SEL 7 0
  let xf := (s.occ p).xfCmd
  let check (v : Region256) : Nat :=
    if rgnCfgBad v then 2 else if shapeOk (regionShape xf v.kind v.nv v.geo) then 0 else 3
  match op with
  | 1 =>
    let v := s.rgnStaged ag
    if check v = 0 then (0, s.occChange p (.write r v)) else (check v, s)
  | 2 =>
    let v := s.rgn p r
    if check v = 0 then (0, s.occChange p (.arm r s.ptpNow s.mono)) else (check v, s)
  | 3 => (0, s.occChange p (.disarm r))
  | 4 => if (s.rgn p r).feed then (4, s) else (0, s.occChange p (.refresh r s.ptpNow s.mono))
  | 5 => (0, s.rgnToStaging ag (s.rgn p r))
  | _ => (5, s)

/-- A write to OCC_RGN_CMD: a refusal raises CFG_ERR (R367), which names the port, and the region in ARG0 (R368). -/
def rgnCmd (s : State) (ag op : Nat) : State :=
  let p := s.afld ag Reg.OCC_RGN_SEL 9 8
  let r := s.afld ag Reg.OCC_RGN_SEL 7 0
  let (res, s) := s.rgnOp ag op
  let s := s.setAreg ag Reg.OCC_RGN_RES (BitVec.ofNat 32 res)
  if res = 0 then s else s.raise Code.OCC_CFG_ERR p [BitVec.ofNat 32 r]

/-- OCC_RGN_STAT as an agent reads it (R332, R366). -/
def rgnStat (s : State) (ag : Nat) : Word :=
  let p := s.afld ag Reg.OCC_RGN_SEL 9 8
  let r := s.afld ag Reg.OCC_RGN_SEL 7 0
  let v := s.rgnCut p r
  BitVec.ofNat 32 (v.state + min v.m 4095 * 16 + min (s.rgnAge (s.rgn p r) / 100000) 65535 * 65536)

/-! ### The guard and minimum mode -/

/-- A guard hold starts with a blank request (R345, R347); CLEAN counts afresh. -/
def guardHold (s : State) (p : Nat) : State :=
  let a := Reg.OCC_STATUS + pOfs p
  let s := ((s.setBit a 0 true).setBit a 4 false).setFld a 15 8 0
  let s := s.updOcc p fun o => { o with relReq := false }
  s.blankRequest p false

/-- End of a guard hold (R348). -/
def guardEnd (s : State) (p : Nat) : State :=
  let a := Reg.OCC_STATUS + pOfs p
  let s := ((s.setBit a 0 false).setBit a 4 false).setFld a 15 8 0
  let s := s.updOcc p fun o => { o with relReq := false }
  (s.showBlank p).raise Code.OCC_HOLD_END p

/-- Minimum mode is entered by command (R351). -/
def minEnter (s : State) (p : Nat) : State :=
  let a := Reg.OCC_STATUS + pOfs p
  let was := s.bit a 1
  let s := (s.setBit a 1 true).updOcc p fun o => { o with exitPend := false }
  if was then s else s.raise Code.OCC_MIN_MODE p

/-- A hardware source withdraws; MIN_HW clears with the last of them (R351, R596, R695). -/
def minSrcClear (s : State) (p src : Nat) : State :=
  let v := s.minSrc.get 0 p &&& (3 - src)
  let s := { s with minSrc := s.minSrc.put 0 p v }
  s.setBit (Reg.OCC_STATUS + pOfs p) 2 (v != 0)

/-- OCCn_CMD (R334, R348, R351). -/
def occCmdEffect (s : State) (p : Nat) (v : Word) : State :=
  let a := Reg.OCC_STATUS + pOfs p
  let s := if wfld v 0 0 = 1 ∧ s.bit a 0 = true ∧ s.bit a 4 = true then s.updOcc p fun o => { o with relReq := true } else s
  let s := if wfld v 1 1 = 1 then s.minEnter p
    else if wfld v 2 2 = 1 ∧ s.bit a 2 = false then s.updOcc p fun o => { o with exitPend := true } else s
  if wfld v 3 3 = 1 then
    let c := (List.range 6).map fun i => (s.reg (Reg.OCC_XFORM_A + 4 * i + pOfs p)).toInt
    (s.updOcc p fun o => { o with xfCmd := c }).occChange p (.xform c)
  else s

/-! ### The cut (R332 to R334, R348, R351 to R354, R367, R587, R588) -/

/-- The twin unit is a standby that aligns its cut with the owner's on this port (R587). -/
def twinFollows (s : State) (p : Nat) : Bool :=
  s.bit Reg.TWIN_CTRL 0 && (s.fld Reg.TWIN_STATUS 2 0 == 3 || s.fld Reg.TWIN_STATUS 2 0 == 4) && s.bit Reg.TWIN_GATE p

/-- SEQ `a` is not after `b`, compared as frame numbers (R42, R341). -/
def seqLe (a b : Word) : Bool := decide (0 ≤ (b - a).toInt)

/-- Split the waiting changes: those a cut applies, and those it keeps (R587). -/
def takeChanges (t : TCut) : Nat → List OccChange → List OccChange × List OccChange
  | _, [] => ([], [])
  | done, c :: r =>
    match c with
    | .item src seq _ _ _ _ _ _ =>
      let (a, b) := takeChanges t done r
      if t.seqs.any fun x => x.1 == src && seqLe seq x.2 then (c :: a, b) else (a, c :: b)
    | _ =>
      if done < t.count then
        let (a, b) := takeChanges t (done + 1) r
        (c :: a, b)
      else
        let (a, b) := takeChanges t done r
        (a, c :: b)

def isItem (c : OccChange) : Bool :=
  match c with
  | .item .. => true
  | _ => false

/-- Record the SEQ of a feed record as the last applied of its source. -/
def noteSeq (l : List (Word × Word)) (src seq : Word) : List (Word × Word) :=
  (l.filter fun x => x.1 != src) ++ [(src, seq)]

/-- One change takes effect at the cut. -/
def cutApply (s : State) (p : Nat) (c : OccChange) : State :=
  let s := match changeRgn c with
    | some r => { s with rgnsCut := s.rgnsCut.put {} (p * 256 + r) (applyRgn c (s.rgnCut p r)) }
    | none => s
  match c with
  | .xform l => s.updOcc p fun o => { o with xf := l, applied := o.applied + 1 }
  | .ctrl w => s.updOcc p fun o => { o with ctrl := w, applied := o.applied + 1 }
  | .glyph g =>
    let s := ((s.setBit Reg.OCC_GLYPH_RES 4 (g == 1)).setBit Reg.OCC_GLYPH_RES 5 true)
    s.updOcc p fun o => { o with glyph := some g, applied := o.applied + 1 }
  | .inst k ws =>
    let s := { s with insts := s.insts.put [0, 0, 0, 0, 0] (p * 256 + k) ws }
    s.updOcc p fun o => { o with applied := o.applied + 1 }
  | .item src seq _ _ _ _ _ _ => s.updOcc p fun o => { o with seqs := noteSeq o.seqs src seq }
  | _ => s.updOcc p fun o => { o with applied := o.applied + 1 }

/-- The least rectangle that contains two: a stale rectangle never shrinks (R333). -/
def hullRect (a b : Shape) : Shape :=
  match a, b with
  | .all, _ => .all
  | _, .all => .all
  | .rect x0 y0 x1 y1, .rect u0 v0 u1 v1 => .rect (min x0 u0) (min y0 v0) (max x1 u1) (max y1 v1)
  | .rect x0 y0 x1 y1, _ => .rect x0 y0 x1 y1
  | _, b => b

/-- The rectangle of a stale region at its m-th cut: the box of its last geometry extended by G, and never less than it was; a region
without a geometry covers the port (R333). -/
def staleRect (s : State) (p : Nat) (v : Region256) (m : Nat) : Shape :=
  let o := s.occ p
  let sh := match v.kind, v.last with
    | 2, some (k, n, g) => regionShape o.xf k n g
    | _, _ => regionShape o.xf v.kind v.nv v.geo
  let g : Int := 8 * wfld o.ctrl 7 0 * m
  hullRect v.rect (match shapeBox sh with
    | some b => .rect (b.1 - g) (b.2.1 - g) (b.2.2.1 + g) (b.2.2.2 + g)
    | none => .all)

/-- The shape contains every pixel centre of the port (R332). -/
def coversPort (s : State) (p : Nat) (sh : Shape) : Bool :=
  let r := s.active p
  match sh with
  | .all => true
  | .rect x0 y0 x1 y1 => decide (x0 ≤ 4) && decide (y0 ≤ 4) && decide (8 * (r.w : Int) - 4 ≤ x1) && decide (8 * (r.h : Int) - 4 ≤ y1)
  | _ => false

/-- One region at a cut: its state, and REGION_STALE or REGION_COVER with their counts (R332, R333). -/
def cutRgnState (s : State) (p r : Nat) : State :=
  let v := s.rgnCut p r
  let put (s : State) (v : Region256) : State := { s with rgnsCut := s.rgnsCut.put {} (p * 256 + r) { v with fresh := false } }
  if !v.armed then put s { v with state := 0, m := 0, rect := .none }
  else
    let v := if v.fresh || v.state = 0 then { v with state := 1, m := 0, rect := .none } else v
    if v.state = 1 then
      if v.timeout ≠ 0 ∧ v.timeout * 100000 < s.rgnAge v then
        let sh := s.staleRect p v 1
        let cover := s.coversPort p sh
        let s := (s.inc (Reg.OCC_STALE_CNT + pOfs p)).raise Code.OCC_REGION_STALE p [BitVec.ofNat 32 r]
        let s := if cover then (s.inc (Reg.OCC_COVER_CNT + pOfs p)).raise Code.OCC_REGION_COVER p [BitVec.ofNat 32 r] else s
        put s { v with state := if cover then 3 else 2, m := 1, rect := sh }
      else put s v
    else
      let m := v.m + 1
      let sh := s.staleRect p v m
      let cover := s.coversPort p sh
      let s := if cover && v.state = 2 then
          (s.inc (Reg.OCC_COVER_CNT + pOfs p)).raise Code.OCC_REGION_COVER p [BitVec.ofNat 32 r] else s
      put s { v with state := if cover then 3 else v.state, m := m, rect := sh }

/-- The shape the port uses for an armed region: a geometry that the transform makes invalid covers the port, and a stale region is
its rectangle (R333, R367). -/
def cutShape (s : State) (p : Nat) (v : Region256) : Shape :=
  let sh := regionShape (s.occ p).xf v.kind v.nv v.geo
  if !shapeOk sh then .all else if 2 ≤ v.state then v.rect else sh

/-- Armed regions of a port. -/
def armedRgns (s : State) (p : Nat) : List Nat := (List.range 256).filter fun r => (s.rgnCut p r).armed

/-- The armed regions that contain a stuck-on pixel; with an overflowed list, all (R352, R353). -/
def stuckRgns (s : State) (p : Nat) (rs : List CutRgn) : List CutRgn :=
  if s.bit (Reg.OCC_STUCK + pOfs p) 9 then rs
  else
    let px := s.stuckOn.get [] p
    rs.filter fun r => px.any fun x => insideShape r.shape (pixCentre x.1 x.2)

/-- The least ceiling among them (R352, R353). -/
def stuckCeil (s : State) (p : Nat) (rs : List CutRgn) (minMode : Bool) : Option Nat := leastCeil (s.stuckRgns p rs) minMode

/-- A string channel is bound to the port as its array-current channel (R259, R354, R379). -/
def boundChan (s : State) (p : Nat) : Option Nat := (List.range 32).find? fun c => s.strBind.get 0 c == p + 1

/-- Stuck pixels inside regions: the cap, or the blank hold where no channel is bound (R352 to R354). -/
def cutStuck (s : State) (p : Nat) : State :=
  let o := s.occ p
  let st := Reg.OCC_STATUS + pOfs p
  let c := s.stuckCeil p o.cut (s.bit st 1)
  let had := s.bit st 3 || o.noChan
  let report (s : State) (v : Nat) : State :=
    match (s.stuckRgns p o.cut).find? fun r => v == if s.bit st 1 then r.minceil else r.ceil with
    | some r => s.raise Code.OCC_STUCK_IN_REGION p [BitVec.ofNat 32 r.no]
    | none => s.raise Code.OCC_STUCK_IN_REGION p
  let setCap (s : State) (act : Bool) (v : Nat) : State := (s.setBit st 3 act).setReg (Reg.OCC_CAP + pOfs p) (BitVec.ofNat 32 v)
  match c, s.boundChan p with
  | none, _ => ((setCap s false 0xFFFF).updOcc p fun o => { o with noChan := false }).showBlank p
  | some v, some _ =>
    let cap := if wfld o.ctrl 8 8 = 1 then 0 else v
    let s := (setCap s true cap).updOcc p fun o => { o with noChan := false }
    (if had then s else report s v).showBlank p
  | some v, none =>
    let s := (setCap s false 0xFFFF).updOcc p fun o => { o with noChan := true }
    if o.noChan then s else report (s.blankRequest p false) v

/-- Changes a cut applies; a standby applies those TCUT names, and without TCUT everything it holds, unaligned (R587, R588). -/
def cutTake (s : State) (p : Nat) (nsf : Nat × Nat) : List OccChange × List OccChange × Bool :=
  let o := s.occ p
  if !s.twinFollows p then (o.changes, [], true)
  else match o.tcut with
    | none => (o.changes, [], false)
    | some t =>
      if (t.n, t.sf) ≠ nsf then (o.changes, [], false) else
      let (a, b) := takeChanges t o.applied o.changes
      let seqs := a.foldl (fun l c => match c with
        | .item src seq _ _ _ _ _ _ => noteSeq l src seq
        | _ => l) o.seqs
      let have' := t.seqs.all fun x => seqs.any fun y => y.1 == x.1 && seqLe x.2 y.2
      (a, b, have' && decide (o.applied + (a.filter fun c => !isItem c).length = t.count))

/-- The cut of a port for the sub-frame of start phase `st` (R334). -/
def occCut (s : State) (p : Nat) (st : DWord) : State :=
  let nsf := s.sfOf p (st + s.leadPh p)
  let (now, keep, ok) := s.cutTake p nsf
  let s := s.updOcc p fun o => { o with changes := keep, aligned := ok, cutFor := some st }
  let s := if s.twinFollows p && !ok then
      (s.inc Reg.TWIN_FEED_DESYNC_CNT).raiseSecAll Code.TWIN_FEED_DESYNC p else s
  let s := now.foldl (fun s c => s.cutApply p c) s
  let xfNew := now.any fun c => match c with
    | .xform _ => true
    | _ => false
  let s := (s.armedRgns p ++ ((List.range 256).filter fun r => decide ((s.rgnCut p r).state ≠ 0) && !(s.rgnCut p r).armed)).foldl
    (fun s r => s.cutRgnState p r) s
  let armed := s.armedRgns p
  let s := if xfNew then
      match armed.find? fun r => let v := s.rgnCut p r; !shapeOk (regionShape (s.occ p).xf v.kind v.nv v.geo) with
      | some r => s.raise Code.OCC_CFG_ERR p [BitVec.ofNat 32 r]
      | none => s
    else s
  let s := s.setFld (Reg.OCC_STATUS + pOfs p) 24 16 armed.length
  let rs := armed.map fun r =>
    let v := s.rgnCut p r
    CutRgn.mk r (s.cutShape p v) v.ceil v.minceil v.feather
  let s := s.updOcc p fun o => { o with cut := rs }
  let a := Reg.OCC_STATUS + pOfs p
  let o := s.occ p
  let s := if o.exitPend && s.minSrc.get 0 p == 0 then
      (s.setBit a 1 false).updOcc p fun o => { o with exitPend := false } else s
  let s := if s.bit a 0 && (o.relReq || (wfld o.ctrl 9 9 == 1 && s.bit a 4)) then s.guardEnd p else s
  s.cutStuck p

/-! ### The position feed (R338 to R344) -/

def le32 (l : List Byte) (o : Nat) : Nat := leNat ((l.drop o).take 4)
def le16 (l : List Byte) (o : Nat) : Nat := leNat ((l.drop o).take 2)

/-- The items of a record, back to back; none when they do not end exactly at the end given (R340, R341). -/
def feedItems : Nat → List Byte → Option (List (List Byte))
  | 0, l => if l.isEmpty then some [] else none
  | n + 1, l =>
    if l.length < 4 then none
    else
      let kind := (l.getD 2 0).toNat
      let nv := (l.getD 3 0).toNat
      let len := 4 + (if kind = 0 then 8 * nv else if kind = 1 then 24 else 0)
      if l.length < len then none
      else match feedItems n (l.drop len) with
        | some r => some (l.take len :: r)
        | none => none

/-- Arrival minus PTIME in ns, seconds compared modulo 2^32 (R339, R341). -/
def feedAge (s : State) (pl : List Byte) : Int :=
  (BitVec.ofNat 32 s.ptp.sec - BitVec.ofNat 32 (le32 pl 0x10)).toInt * 1000000000 + (s.ptp.ns : Int) - (le32 pl 0x0C : Nat)

/-- The first check of R341 that a record fails; 0 for none. -/
def feedReason (s : State) (portOk : Bool) (pl : List Byte) : Nat :=
  let n := pl.length
  let cnt := (pl.getD 3 0).toNat
  let src := BitVec.ofNat 32 (le32 pl 4)
  let noptp := s.bit Reg.OCC_FEED_CTRL 17
  if n < 0x24 || le16 pl 0 != 0x434F || pl.getD 2 0 != 1 || le32 pl 0x14 != n || cnt == 0 || decide (64 < cnt) || src == 0
      || (feedItems cnt ((pl.drop 0x20).take (n - 0x24))).isNone then 1
  else if (crc32 (pl.take (n - 4))).toNat ≠ le32 pl (n - 4) then 2
  else if !portOk then 3
  else if !s.ptpValid && !noptp then 4
  else if !noptp && (decide (((s.reg Reg.OCC_FEED_MAXAGE).toNat : Int) * 1000 < s.feedAge pl) || decide (s.feedAge pl < -1000000)) then 5
  else match s.feedSrcs.find? fun x => x.id == src with
    | none => if 16 ≤ s.feedSrcs.length then 6 else 0
    | some x => if 0 < (BitVec.ofNat 32 (le32 pl 8) - x.seq).toInt then 0 else 7

/-- One item of an accepted record (R343, R344). -/
def feedItem (s : State) (src seq : Word) (ptp : Int) (it : List Byte) : State :=
  let p := (it.getD 0 0).toNat
  let r := (it.getD 1 0).toNat
  let kind := (it.getD 2 0).toNat
  let nv := (it.getD 3 0).toNat
  let geo := (List.range ((it.length - 4) / 4)).map fun i => (BitVec.ofNat 32 (le32 it (4 + 4 * i))).toInt
  let v := s.rgn p r
  let why :=
    if 3 < p ∨ v.armed = false ∨ v.feed = false then 1
    else if v.source ≠ 0 ∧ v.source ≠ src then 2
    else if 3 < kind || (if kind = 0 then decide (nv < 3) || decide (16 < nv) else nv != 0) then 3
    else if kind ≠ 3 ∧ shapeOk (regionShape (s.occ p).xfCmd kind nv geo) = false then 4
    else 0
  if why = 0 then s.occChange p (.item src seq r kind nv geo ptp s.mono)
  else ((s.inc Reg.OCC_FEED_IREJ_CNT).setFld Reg.OCC_FEED_LAST 11 8 why).raiseSecAll Code.OCC_ITEM_REJECT (if p < 4 then p else 0)

/-- A datagram handed to the Occulter (R338, R341, R342). -/
def feedRecord (s : State) (mac : Nat) (ip : Word) (pl : List Byte) : State :=
  if !s.bit Reg.OCC_FEED_CTRL 16 then s
  else
    let portOk := s.bit (Reg.OCC_FEED_PORTS_LO + mac / 32 * 4) (mac % 32)
      && (!s.bit Reg.OCC_FEED_CTRL 18 || s.reg Reg.OCC_FEED_SRCIP == ip)
    let s := s.inc Reg.OCC_FEED_RX_CNT
    let why := s.feedReason portOk pl
    if why ≠ 0 then
      ((s.inc Reg.OCC_FEED_REJ_CNT).setFld Reg.OCC_FEED_LAST 3 0 why).raiseSecAll Code.OCC_FEED_REJECT 0
    else
      let src := BitVec.ofNat 32 (le32 pl 4)
      let seq := BitVec.ofNat 32 (le32 pl 8)
      let ptp := s.ptpNow - s.feedAge pl
      let s := { s with feedSrcs := (s.feedSrcs.filter fun x => x.id != src) ++ [⟨src, seq, s.mono⟩] }
      let its := (feedItems (pl.getD 3 0).toNat ((pl.drop 0x20).take (pl.length - 0x24))).getD []
      its.foldl (fun s it => s.feedItem src seq ptp it) s

/-- A write of OCCn_CTRL, used from the next cut on (R334, R367). -/
def occCtrlEffect (s : State) (ag : Agent) (p : Nat) (v : Word) : State :=
  let s := s.plainWrite ag (Reg.OCC_CTRL + pOfs p) v
  s.occChange p (.ctrl (s.reg (Reg.OCC_CTRL + pOfs p)))

/-- A write to W0 commits the five words of an instance at the next cut (R360). -/
def instEffect (s : State) (ag : Agent) (p k : Nat) (v : Word) : State :=
  let a := Reg.OCC_RET_W0 + pOfs p + 0x20 * k
  let s := s.plainWrite ag a v
  s.occChange p (.inst k ((List.range 5).map fun i => s.reg (a + 4 * i)))

end State

/-- FEED_RECORD: an unfragmented IPv4 UDP datagram for UDP_PORT with its port, source address and payload (R338). -/
def execFeedRecord (mac : MacId) (ip : Word) (payload : List Byte) (s : State) : Host.Outcome State Fault Refusal :=
  .next (s.feedRecord mac.val ip payload)

/-- FEED_SOURCE_EXPIRE: an entry is freed after 10 s without an accepted record (R342). -/
def execFeedSourceExpire (s : State) : Host.Outcome State Fault Refusal :=
  .next { s with feedSrcs := s.feedSrcs.filter fun x => decide (s.mono < x.last + 10000000000) }

/-- RGN_WRITE. -/
def execRgnWrite (ag : Agent) (s : State) : Host.Outcome State Fault Refusal :=
  .next (s.writeBy ag Reg.OCC_RGN_CMD fun s => s.rgnCmd (agIdx ag) 1)

/-- RGN_ARM. -/
def execRgnArm (ag : Agent) (s : State) : Host.Outcome State Fault Refusal :=
  .next (s.writeBy ag Reg.OCC_RGN_CMD fun s => s.rgnCmd (agIdx ag) 2)

/-- RGN_DISARM. -/
def execRgnDisarm (ag : Agent) (s : State) : Host.Outcome State Fault Refusal :=
  .next (s.writeBy ag Reg.OCC_RGN_CMD fun s => s.rgnCmd (agIdx ag) 3)

/-- RGN_REFRESH. -/
def execRgnRefresh (ag : Agent) (s : State) : Host.Outcome State Fault Refusal :=
  .next (s.writeBy ag Reg.OCC_RGN_CMD fun s => s.rgnCmd (agIdx ag) 4)

/-- RGN_READ. -/
def execRgnRead (ag : Agent) (s : State) : Host.Outcome State Fault Refusal :=
  .next (s.writeBy ag Reg.OCC_RGN_CMD fun s => s.rgnCmd (agIdx ag) 5)

/-- RGN_BADOP: operations 0, 6 and 7. -/
def execRgnBadop (ag : Agent) (op : Fin 3) (s : State) : Host.Outcome State Fault Refusal :=
  .next (s.writeBy ag Reg.OCC_RGN_CMD fun s => s.rgnCmd (agIdx ag) (if op.val = 0 then 0 else op.val + 5))

/-- GUARD_RELEASE. -/
def execGuardRelease (ag : Agent) (p : PortId) (s : State) : Host.Outcome State Fault Refusal :=
  .next (s.writeBy ag (Reg.OCC_CMD + State.pOfs p.val) fun s => s.occCmdEffect p.val 1)

/-- MIN_ENTER. -/
def execMinEnter (ag : Agent) (p : PortId) (s : State) : Host.Outcome State Fault Refusal :=
  .next (s.writeBy ag (Reg.OCC_CMD + State.pOfs p.val) fun s => s.occCmdEffect p.val 2)

/-- MIN_EXIT. -/
def execMinExit (ag : Agent) (p : PortId) (s : State) : Host.Outcome State Fault Refusal :=
  .next (s.writeBy ag (Reg.OCC_CMD + State.pOfs p.val) fun s => s.occCmdEffect p.val 4)

/-- XF_COMMIT. -/
def execXfCommit (ag : Agent) (p : PortId) (s : State) : Host.Outcome State Fault Refusal :=
  .next (s.writeBy ag (Reg.OCC_CMD + State.pOfs p.val) fun s => s.occCmdEffect p.val 8)

/-- RET_INSTANCE_COMMIT. -/
def execRetInstanceCommit (ag : Agent) (p : PortId) (k : Fin 256) (v : Word) (s : State) : Host.Outcome State Fault Refusal :=
  .next (s.writeBy ag (Reg.OCC_RET_W0 + State.pOfs p.val + 0x20 * k.val) fun s => s.instEffect ag p.val k.val v)

end Sys2Proof.Machine
end

