-- ==== Sys2Proof/Machine/Reticle.lean ====
section
/-!
DEFINITION. The Reticle: glyph stores, instances, outlines and coverage (07_occulter_reticle.md R356 to R365).
-/
namespace Sys2Proof.Machine

open Sys2Proof

/-! ### Sine and cosine (R361) -/

/-- One Taylor step: next term of a series of alternating signs, at scale 10^18. -/
def taylorStep (x : Int) (t : Int) (a b : Nat) : Int := -(t * x / 10 ^ 18 * x / 10 ^ 18) / ((a * b : Nat) : Int)

/-- Sum of n more terms of the series, from term t whose next divisors are k + 1 and k + 2. -/
def taylorSum (x : Int) : Nat → Nat → Int → Int
  | 0, _, t => t
  | n + 1, k, t => t + taylorSum x n (k + 2) (taylorStep x t (k + 1) (k + 2))

/-- An angle in 1/65,536 turn as radians at scale 10^18, within half a turn of 0. -/
def rotRad (rot : Nat) : Int := 2 * piNum * sext 16 rot / 65536

/-- Cosine and sine of a rotation, as multiples of 2^-16, ties toward +∞ (R361, log entry 20). -/
def cosRot (rot : Nat) : Int := roundDiv (taylorSum (rotRad rot) 20 0 (10 ^ 18) * 65536) (10 ^ 18)
def sinRot (rot : Nat) : Int := roundDiv (taylorSum (rotRad rot) 20 1 (rotRad rot) * 65536) (10 ^ 18)

/-! ### Outlines (R357, R361, R362): points in 1/256 px -/

/-- A glyph point as an instance places it (R361). -/
def placePoint (ws : List Word) (c si gx gy : Int) : Pt :=
  let w1 := ws.getD 1 0
  let scale : Int := (ws.getD 2 0).toNat
  (16 * sext 16 (wfld w1 15 0) + (scale * (c * gx - si * gy) + 2 ^ 23) / 2 ^ 24,
    16 * sext 16 (wfld w1 31 16) + (scale * (si * gx + c * gy) + 2 ^ 23) / 2 ^ 24)

/-- Midpoint, ties toward +∞. -/
def midPt (a b : Pt) : Pt := ((a.1 + b.1 + 1) / 2, (a.2 + b.2 + 1) / 2)

/-- The points B(1/8) to B(8/8) of a quadratic segment (R362). -/
def quadPts (a q b : Pt) : List Pt :=
  (List.range 8).map fun i =>
    let k : Int := (i + 1 : Nat)
    let f (x y z : Int) : Int := ((8 - k) * (8 - k) * x + 2 * k * (8 - k) * y + k * k * z + 32) / 64
    (f a.1 q.1 b.1, f a.2 q.2 b.2)

/-- The vertices of a contour after point `cur`; `ctl` is an off-curve point not yet used, `first` closes the contour (R357). -/
def flatten (first : Pt) : Pt → Option Pt → List (Pt × Bool) → List Pt
  | _, none, [] => []
  | cur, some q, [] => quadPts cur q first
  | _, none, (b, true) :: r => b :: flatten first b none r
  | cur, none, (b, false) :: r => flatten first cur (some b) r
  | cur, some q, (b, true) :: r => quadPts cur q b ++ flatten first b none r
  | cur, some q, (b, false) :: r =>
    let m := midPt q b
    quadPts cur q m ++ flatten first m (some b) r

/-- A contour as a closed polygon. -/
def contourPoly (l : List (Pt × Bool)) : List Pt :=
  match l with
  | [] => []
  | (p, _) :: r => p :: flatten p p none r

/-- Split points at those marked last of a contour (R357). -/
def splitContours : List (Pt × Nat) → List (List (Pt × Bool))
  | [] => []
  | (p, f) :: r =>
    let x := (p, f % 2 == 1)
    if f / 2 % 2 = 1 then [x] :: splitContours r
    else match splitContours r with
      | [] => [[x]]
      | c :: cs => (x :: c) :: cs

/-- Winding number of closed polygons about a point; an edge counts where its lower end, not its upper one, is reached (log
entry 25). -/
def winding (cs : List (List Pt)) (p : Pt) : Int :=
  cs.foldl (fun n c => (edges c).foldl (fun n e =>
    let t := crossP (subP e.2 e.1) (subP p e.1)
    if e.1.2 ≤ p.2 ∧ p.2 < e.2.2 ∧ 0 < t then n + 1
    else if e.2.2 ≤ p.2 ∧ p.2 < e.1.2 ∧ t < 0 then n - 1 else n) n) 0

/-- Sample points of a pixel inside the outline, of 16 (R363). -/
def coverage (cs : List (List Pt)) (x y : Nat) : Nat :=
  (List.range 16).foldl (fun n i =>
    if winding cs (256 * (x : Int) + 64 * (i % 4 : Nat) + 32, 256 * (y : Int) + 64 * (i / 4 : Nat) + 32) ≠ 0 then n + 1 else n) 0

/-- An instance ready to be drawn: its mode, levels, outline, and the rows of its transformed bounding box in 1/256 px. -/
structure RetItem where
  no : Nat
  max : Bool
  level : List Nat
  outline : List (List Pt)
  y0 : Int
  y1 : Int
  deriving DecidableEq, Repr

/-- An instance counts on a line when its box meets it (R364). -/
def RetItem.meets (t : RetItem) (y : Nat) : Bool := decide (t.y0 < 256 * ((y : Int) + 1)) && decide (256 * (y : Int) ≤ t.y1)

/-- Draw one instance onto a channel value (R363). -/
def RetItem.draw (t : RetItem) (x y c v : Nat) : Nat :=
  let n := coverage t.outline x y
  let al := (2 * 65535 * n + 16) / 32
  let l := t.level.getD c 0
  if t.max then Nat.max v (lmul l al) else min 65535 (lmul l al + lmul v (65535 - al))

namespace State

/-! ### Glyph stores -/

def glyphBase (s : State) (n : Nat) : Nat := s.regAddr (Reg.OCC_GLYPH_BASE_LO + 12 * n)
def glyphSize (s : State) (n : Nat) : Nat := (s.reg (Reg.OCC_GLYPH_SIZE + 12 * n)).toNat

/-- Word w of the directory entry of glyph g. -/
def glyphDir (s : State) (n g w : Nat) : Word := s.memWord (s.glyphBase n + 16 * g + 4 * w)

def glyphPts (s : State) (n g : Nat) : Nat := wfld (s.glyphDir n g 1) 10 0
def glyphAt (s : State) (n g : Nat) : Nat := s.glyphBase n + (s.glyphDir n g 0).toNat

/-- FLAGS of a point. -/
def glyphFlags (s : State) (n g i : Nat) : Nat := (s.byte (s.glyphAt n g + 8 * i + 4)).toNat

/-- Every contour starts on-curve: the first point, and every point after one marked last. -/
def glyphStarts (s : State) (n g k : Nat) : Bool :=
  (List.range k).all fun i => (i != 0 && s.glyphFlags n g (i - 1) / 2 % 2 == 0) || s.glyphFlags n g i % 2 == 1

/-- A glyph passes R358. -/
def glyphOk (s : State) (n g : Nat) : Bool :=
  let k := s.glyphPts n g
  (s.glyphDir n g 0).toNat % 8 == 0 && decide (k ≤ 1024) && wfld (s.glyphDir n g 1) 31 11 == 0
    && (k == 0 || (decide ((s.glyphDir n g 0).toNat + 8 * k ≤ s.glyphSize n) && s.glyphFlags n g (k - 1) / 2 % 2 == 1
      && s.glyphStarts n g k))

/-- The first glyph of a store that fails, 0 where the store itself does (R358). The directory must lie in the store. -/
def glyphBad (s : State) (n : Nat) : Option Nat :=
  let b := s.glyphBase n
  if b % 64 ≠ 0 || !inPlate b (s.glyphSize n) || decide (s.glyphSize n < 16384) then some 0
  else (List.range 1024).find? fun g => !s.glyphOk n g

/-- OCC_GLYPH_CMD.COMMIT (R358): the store becomes active at each port's next cut. -/
def glyphCommitEffect (s : State) (n : Nat) : State :=
  match s.glyphBad n with
  | some g =>
    let s := s.setFld Reg.OCC_GLYPH_RES 1 0 2
    (s.setFld Reg.OCC_GLYPH_RES 25 16 g).raise Code.OCC_GLYPH_BAD 0 [BitVec.ofNat 32 g]
  | none =>
    let s := (s.setFld Reg.OCC_GLYPH_RES 1 0 0).setFld Reg.OCC_GLYPH_RES 25 16 0
    (List.range 4).foldl (fun s p => s.occChange p (.glyph n)) s

/-! ### Instances drawn in a sub-frame -/

/-- An instance's glyph entry or points hold an uncorrectable error (R359). -/
def glyphUe (s : State) (n g : Nat) : Bool :=
  s.hasUe (s.glyphBase n + 16 * g) 16 || (s.glyphPts n g != 0 && s.hasUe (s.glyphAt n g) (8 * s.glyphPts n g))

/-- The instances a port shows: FS ones in FAILSAFE, else SHOW ones while RET_EN = 1 (R365). -/
def retShown (s : State) (p : Nat) (fs : Bool) : List Nat :=
  (List.range 256).filter fun k =>
    let w := (s.insts.get [0, 0, 0, 0, 0] (p * 256 + k)).getD 0 0
    if fs then wfld w 11 11 == 1 else wfld (s.occ p).ctrl 10 10 == 1 && wfld w 10 10 == 1

/-- An instance's placed outline (R357, R361, R362). -/
def retItem (s : State) (p st k : Nat) : RetItem :=
  let ws := s.insts.get [0, 0, 0, 0, 0] (p * 256 + k)
  let w0 := ws.getD 0 0
  let g := wfld w0 9 0
  let c := cosRot (wfld w0 31 16)
  let si := sinRot (wfld w0 31 16)
  let pt (i : Nat) : Pt × Nat :=
    let a := s.glyphAt st g + 8 * i
    (placePoint ws c si (sext 16 (s.memNat a 2)) (sext 16 (s.memNat (a + 2) 2)), s.glyphFlags st g i)
  let bx (h l : Nat) : Int := sext 16 (wfld (s.glyphDir st g 2) h l)
  let bY (h l : Nat) : Int := sext 16 (wfld (s.glyphDir st g 3) h l)
  let ys := [(placePoint ws c si (bx 15 0) (bY 15 0)).2, (placePoint ws c si (bx 31 16) (bY 15 0)).2,
    (placePoint ws c si (bx 15 0) (bY 31 16)).2, (placePoint ws c si (bx 31 16) (bY 31 16)).2]
  { no := k
    max := wfld w0 12 12 == 1
    level := [wfld (ws.getD 3 0) 15 0, wfld (ws.getD 3 0) 31 16, wfld (ws.getD 4 0) 15 0]
    outline := (splitContours ((List.range (s.glyphPts st g)).map pt)).map contourPoly
    y0 := ys.foldl min (ys.getD 0 0)
    y1 := ys.foldl Max.max (ys.getD 0 0) }

/-- Instances whose outlines fit in the 128 KB a sub-frame fetches, in instance order, and the rest (R364). -/
def retFetch (s : State) (p st : Nat) : Nat → List Nat → List Nat × List Nat
  | _, [] => ([], [])
  | used, k :: r =>
    let g := wfld ((s.insts.get [0, 0, 0, 0, 0] (p * 256 + k)).getD 0 0) 9 0
    let used := used + 8 * s.glyphPts st g
    if used ≤ 131072 then
      let (a, b) := s.retFetch p st used r
      (k :: a, b)
    else ([], k :: r)

/-- What a port draws in a sub-frame: instances fetched, instances omitted, and instances whose glyph met an error (R359, R364, R365). -/
def retItems (s : State) (p : Nat) (fs : Bool) : List RetItem × List RetItem × List Nat :=
  match (s.occ p).glyph with
  | none => ([], [], [])
  | some st =>
    let g (k : Nat) : Nat := wfld ((s.insts.get [0, 0, 0, 0, 0] (p * 256 + k)).getD 0 0) 9 0
    let shown := s.retShown p fs
    let bad := shown.filter fun k => s.glyphUe st (g k)
    let (a, b) := s.retFetch p st 0 (shown.filter fun k => !s.glyphUe st (g k))
    (a.map fun k => s.retItem p st k, b.map fun k => s.retItem p st k, bad)

end State

/-- The instances drawn on a line: the 32 lowest-numbered that count on it (R364). -/
def retLine (l : List RetItem) (y : Nat) : List RetItem := (l.filter (·.meets y)).take 32

/-- Instances are omitted from a line (R364). -/
def retLineOvf (l omitted : List RetItem) (y : Nat) : Bool :=
  decide (32 < (l.filter (·.meets y)).length) || omitted.any (·.meets y)

/-- GLYPH_COMMIT. -/
def execGlyphCommit (ag : Agent) (second : Bool) (s : State) : Host.Outcome State Fault Refusal :=
  .next (s.writeBy ag Reg.OCC_GLYPH_CMD fun s => s.glyphCommitEffect (b2n second))

end Sys2Proof.Machine
end

