-- ==== Sys2Proof/Machine/Render.lean ====
section
/-!
DEFINITION. What a sub-frame renders to: compose, warp, Reticle, Occulter clamp, correction, split, dither, probes and the frame CRC
(05_plate_pipeline.md R245 to R266; 06_plate_link.md R285; 07_occulter_reticle.md R322, R329, R346; 08_string_channels_diagnostics.md
R401).
-/
namespace Sys2Proof.Machine

open Sys2Proof

/-- What the nine stages of one sub-frame work from. -/
structure RCtx where
  r : PCfg
  bg : List Nat
  master : Nat
  dark : Bool
  split : Bool
  t : Nat
  /-- Enabled layers that are drawn, with the address of the slot they render from. -/
  draw : List (Nat × Nat)
  mesh : Nat
  rgns : List CutRgn
  minMode : Bool
  cur : Nat
  ret : List RetItem
  retOmit : List RetItem

/-! ### Dither (R262) -/

/-- The 6-bit ordered-dither index of a panel position. -/
def ditherB8 (x y : Nat) : Nat :=
  let b (v i : Nat) : Nat := v / 2 ^ i % 2
  let e (i : Nat) : Nat := (b x i + b y i) % 2
  32 * e 0 + 16 * b y 0 + 8 * e 1 + 4 * b y 1 + 2 * e 2 + b y 2

def rev3 (t : Nat) : Nat := t % 2 * 4 + t / 2 % 2 * 2 + t / 4 % 2

/-- Stage 8: a value to a code of d bits, under dither mode `m`. -/
def ditherCode (d m t x y v : Nat) : Nat :=
  let q := v * (2 ^ d - 1)
  let theta (i : Nat) : Nat := (2 * i + 1) * 65535 / 1024
  match m with
  | 0 => (2 * q + 65535) / 131070
  | 1 => (q + theta (8 * ditherB8 x y + 4)) / 65535
  | _ => (q + theta (64 * rev3 (t % 8) + ditherB8 x y)) / 65535

/-! ### Correction and split (R258, R259) -/

/-- Stage 6 with factory and user entries (gain, offset). -/
def correct (f u : Nat × Int) (v : Nat) : Nat :=
  let g := sat16 (fdiv (2 * f.1 * u.1 + 32768) 65536)
  let o := sats16 (f.2 + u.2)
  if v = 0 then 0 else (clampI 0 0xFFFF (fdiv (2 * v * g + 32768) 65536 + o)).toNat

/-- Array-current value of the split, and the pixel value of stage 7. -/
def splitCurrent (b k : Nat) : Nat := if k ≤ b then b else k
def splitValue (active : Bool) (b k y : Nat) : Nat :=
  if !active then lmul y b else if k ≤ b then y else (2 * y * b + k) / (2 * k)

/-! ### The final plate (R265, R285) -/

/-- The bit string of a line of codes of d bits, as bytes padded to whole 64-bit blocks. -/
def lineString (d : Nat) (codes : List Nat) : List Byte :=
  leBytes (ceilDiv (codes.length * d) 64 * 8) (codes.foldr (fun c n => c % 2 ^ d + 2 ^ d * n) 0)

/-- The frame CRC of lines of codes (R285). -/
def frameCrc (d : Nat) (lines : List (List Nat)) : Word := crc32 (lines.flatMap (lineString d))

namespace State

/-! ### Fetch and compose (R245, R249, R250, R254) -/

/-- Address of a layer's pixel at a canvas position; none outside the layer. -/
def layerAt (c : RCtx) (l base : Nat) (cx cy : Int) : Option Nat :=
  let i := cx - c.r.lX l
  let j := cy - c.r.lY l
  if 0 ≤ i ∧ i < c.r.lW l ∧ 0 ≤ j ∧ j < c.r.lH l then
    some (base + j.toNat * c.r.lStride l + i.toNat * fmtBytes (c.r.lFmt l))
  else none

/-- Level of a channel, and alpha, of a pixel at address a in a layer format. -/
def layerPix (s : State) (fmt a ch : Nat) : Nat × Option Nat :=
  match fmt with
  | 0 => (s.memNat a 2, none)
  | 1 => (s.memNat a 2, some (s.memNat (a + 2) 2))
  | 2 => (s.memNat a 1 * 257, none)
  | 3 => (s.memNat (a + 2 * ch) 2, none)
  | _ => (s.memNat (a + 2 * ch) 2, some (s.memNat (a + 6) 2))

/-- The composed value at a position of the canvas (R250). -/
def compose (s : State) (c : RCtx) (ch : Nat) (cx cy : Int) : Nat :=
  c.draw.foldl (fun v (l, base) =>
    match layerAt c l base cx cy with
    | none => v
    | some a =>
      let (px, alpha) := s.layerPix (c.r.lFmt l) a ch
      let op := wfld (c.r.lreg l 4) 15 0
      let al := match alpha with
        | some x => lmul x op
        | none => op
      blendOp (wfld (c.r.lreg l 0) 5 4) v px al) (c.bg.getD ch 0)

/-- The canvas position that a position takes its value from; none takes the background (R254). -/
def canvasPos (c : RCtx) (cx cy : Int) : Option (Int × Int) :=
  let w : Int := c.r.cw
  let h : Int := c.r.chh
  if 0 ≤ cx ∧ cx < w ∧ 0 ≤ cy ∧ cy < h then some (cx, cy)
  else if wfld (c.r 0) 11 11 = 1 then some (clampI 0 (w - 1) cx, clampI 0 (h - 1) cy) else none

def canvas (s : State) (c : RCtx) (ch : Nat) (cx cy : Int) : Nat :=
  match canvasPos c cx cy with
  | some q => s.compose c ch q.1 q.2
  | none => c.bg.getD ch 0

/-! ### Warp (R252, R253) -/

/-- Index of a control cell and the offset in it, as a numerator over `d`. -/
def meshCell (n x d : Nat) : Nat × Nat :=
  let i := min (n * x / d) (n - 1)
  (i, n * x - i * d)

/-- Address of a control point. -/
def meshAt (c : RCtx) (i j : Nat) : Nat := c.mesh + 4 * (j * 65 + i)

/-- Canvas position of an output pixel in 1/256 px, ties toward +∞. -/
def warpPos (s : State) (c : RCtx) (x y : Nat) : Int × Int :=
  let du := c.r.w - 1
  let dv := if c.r.h = 1 then 1 else c.r.h - 1
  let (i, fu) := meshCell 64 x du
  let (j, fv) := if c.r.h = 1 then (0, 0) else meshCell 32 y dv
  let pt (i j o : Nat) : Int := sext 16 (s.memNat (meshAt c i j + o) 2)
  let f (o : Nat) : Int :=
    roundDiv (32 * (((du - fu) * (dv - fv) : Nat) * pt i j o + (fu * (dv - fv) : Nat) * pt (i + 1) j o
      + ((du - fu) * fv : Nat) * pt i (j + 1) o + (fu * fv : Nat) * pt (i + 1) (j + 1) o)) (du * dv)
  (f 0, f 2)

/-- Stages 2 and 3 (R251, R253). -/
def warped (s : State) (c : RCtx) (x y ch : Nat) : Nat :=
  if !c.r.warp then s.canvas c ch ((x + c.r.orgX : Nat) : Int) ((y + c.r.orgY : Nat) : Int)
  else
    let (cx, cy) := s.warpPos c x y
    let x0 := cx / 256
    let y0 := cy / 256
    let ax := (cx % 256).toNat
    let ay := (cy % 256).toNat
    let v := (256 - ax) * (256 - ay) * s.canvas c ch x0 y0 + ax * (256 - ay) * s.canvas c ch (x0 + 1) y0
      + (256 - ax) * ay * s.canvas c ch x0 (y0 + 1) + ax * ay * s.canvas c ch (x0 + 1) (y0 + 1)
    (2 * v + 65536) / 131072

/-! ### Correction maps (R257) -/

def mapAt (c : RCtx) (user : Bool) (x y ch : Nat) : Nat :=
  c.r.mapBase user + ((y * c.r.w + x) * c.r.ch + ch) * c.r.mapE user

/-- Gain and offset of a map; a disabled map is gain 0x8000, offset 0. -/
def mapEntry (s : State) (c : RCtx) (user : Bool) (x y ch : Nat) : Nat × Int :=
  if !c.r.mapEn user then (0x8000, 0)
  else
    let a := mapAt c user x y ch
    (s.memNat a 2, if c.r.mapE user = 4 then sext 16 (s.memNat (a + 2) 2) else 0)

/-! ### One sub-emitter -/

/-- Stages 6 to 8 of one sub-emitter (R258, R259, R262). -/
def lateCode (s : State) (c : RCtx) (x y ch v : Nat) : Nat :=
  let y1 := correct (s.mapEntry c false x y ch) (s.mapEntry c true x y ch) v
  let y2 := if c.dark then 0 else splitValue c.split c.master (wfld (c.r 0x54) 15 0) y1
  ditherCode c.r.depth (wfld (c.r 0) 9 8) c.t (x + c.r.orgX) (y + c.r.orgY) y2

/-- The largest value whose code is not above `cl` (R329). -/
def yMax (s : State) (c : RCtx) (x y ch cl : Nat) : Nat :=
  ((List.range 16).reverse).foldl (fun v i => if s.lateCode c x y ch (v + 2 ^ i) ≤ cl then v + 2 ^ i else v) 0

/-- Stages 2 to 5: warp, Reticle, Occulter (R255, R329, R363). -/
def earlyValue (s : State) (c : RCtx) (items : List RetItem) (x y ch : Nat) : Nat :=
  let v := items.foldl (fun v t => t.draw x y ch v) (s.warped c x y ch)
  match pixLim c.rgns c.minMode x y with
  | none => v
  | some lim => min v (s.yMax c x y ch (codeLimit c.cur c.r.depth lim))

/-! ### Uncorrectable errors (R249) -/

/-- The first bad span that a canvas position's value depends on. -/
def canvasUe (s : State) (c : RCtx) (cx cy : Int) : Option Nat :=
  match canvasPos c cx cy with
  | none => none
  | some q => c.draw.findSome? fun (l, base) => match layerAt c l base q.1 q.2 with
    | some a => if s.hasUe a (fmtBytes (c.r.lFmt l)) then some a else none
    | none => none

/-- The first bad span that an output pixel depends on: mesh, layers, maps. -/
def pixelUe (s : State) (c : RCtx) (x y : Nat) : Option Nat :=
  let bad (a n : Nat) : Option Nat := if s.hasUe a n then some a else none
  let early : Option Nat :=
    if !c.r.warp then s.canvasUe c ((x + c.r.orgX : Nat) : Int) ((y + c.r.orgY : Nat) : Int)
    else
      let (i, _) := meshCell 64 x (c.r.w - 1)
      let (j, _) := if c.r.h = 1 then (0, 0) else meshCell 32 y (c.r.h - 1)
      match [(i, j), (i + 1, j), (i, j + 1), (i + 1, j + 1)].findSome? fun q => bad (meshAt c q.1 q.2) 4 with
      | some a => some a
      | none =>
        let (cx, cy) := s.warpPos c x y
        [(0, 0), (1, 0), (0, 1), (1, 1)].findSome? fun (q : Int × Int) => s.canvasUe c (cx / 256 + q.1) (cy / 256 + q.2)
  match early with
  | some a => some a
  | none => [false, true].findSome? fun u =>
      if c.r.mapEn u then bad (mapAt c u x y 0) (c.r.ch * c.r.mapE u) else none

/-- The first bad span of a group of 8 output pixels. -/
def groupUe (s : State) (c : RCtx) (g y : Nat) : Option Nat := (List.range 8).findSome? fun i => s.pixelUe c (8 * g + i) y

/-- Bad spans met by a sub-frame, one for each group of 8 pixels (R249). -/
def frameUes (s : State) (c : RCtx) : List Nat :=
  (List.range c.r.h).flatMap fun y => (List.range (c.r.w / 8)).filterMap fun g => s.groupUe c g y

/-- The codes of one line after dither. -/
def lineCodes (s : State) (c : RCtx) (y : Nat) : List Nat :=
  let items := retLine c.ret y
  (List.range (c.r.w / 8)).flatMap fun g =>
    let zero := (s.groupUe c g y).isSome
    (List.range (8 * c.r.ch)).map fun i =>
      let x := 8 * g + i / c.r.ch
      if zero then 0 else s.lateCode c x y (i % c.r.ch) (s.earlyValue c items x y (i % c.r.ch))

def frameCodes (s : State) (c : RCtx) : List (List Nat) := (List.range c.r.h).map (s.lineCodes c)

/-! ### The guard (R346, R347) -/

/-- Code limit the guard holds a pixel to; none where it checks nothing. -/
def guardCl (c : RCtx) (x y : Nat) : Option Nat :=
  (guardLim c.rgns c.minMode x y).map (codeLimit c.cur c.r.depth)

/-- Codes above the guard's limit, as (x, y, channel, code). -/
def violations (c : RCtx) (lines : List (List Nat)) : List (Nat × Nat × Nat × Nat) :=
  (lines.zipIdx).flatMap fun (l, y) => (l.zipIdx).filterMap fun (v, m) =>
    match guardCl c (m / c.r.ch) y with
    | some cl => if cl < v then some (m / c.r.ch, y, m % c.r.ch, v) else none
    | none => none

/-- The region whose limit a pixel exceeded: the first of the least ceiling among those that count (R346). -/
def violRegion (c : RCtx) (x y : Nat) : Nat :=
  let rs := if lineOvf c.rgns y then lineRgns c.rgns y else c.rgns.filter fun r => insideShape r.shape (pixCentre x y)
  match rs.find? fun r => some (if c.minMode then r.minceil else r.ceil) == leastCeil rs c.minMode with
  | some r => r.no
  | none => 0

/-! ### Pixel probes (R401) -/

/-- Address of a diagnostic map entry (R396). -/
def diagAt (s : State) (p m : Nat) : Nat := s.regAddr (Reg.STRDIAG_MAP_LO + 0x80 * p) + 2 * m

/-- The sub-emitters probed in a sub-frame, in ascending order, at most MAX of them. -/
def probes (s : State) (p : Nat) (c : RCtx) (lines : List (List Nat)) : List Nat :=
  let a := 0x80 * p
  let code := s.fld (Reg.STRDIAG_PROBE + a) 13 0
  let np := max 1 (s.fld (Reg.STRDIAG_PASS + a) 23 16)
  if !s.bit (Reg.STRDIAG_CTRL + a) 1 || c.dark || s.blankHold p then []
  else
    let cand := (lines.zipIdx).flatMap fun (l, y) =>
      if lineOvf c.rgns y then [] else (l.zipIdx).filterMap fun (v, i) =>
        let m := y * c.r.w * c.r.ch + i
        let e := BitVec.ofNat 16 (s.memNat (s.diagAt p m) 2)
        if 0 < v ∧ v < code ∧ bits e 6 4 = 2 ∧ bits e 7 7 = 0 ∧ bits e 15 8 = np ∧ inMask c.rgns (i / c.r.ch) y = false
        then some m else none
    cand.take (s.fld (Reg.STRDIAG_PROBE + a) 31 16)

/-- Replace codes by number in the frame. -/
def replaceCodes (c : RCtx) (ms : List Nat) (code : Nat) (lines : List (List Nat)) : List (List Nat) :=
  (lines.zipIdx).map fun (l, y) => (l.zipIdx).map fun (v, i) => if ms.contains (y * c.r.w * c.r.ch + i) then code else v

/-- PROBED is set in each probed entry. -/
def markProbed (s : State) (p : Nat) (ms : List Nat) : State :=
  ms.foldl (fun s m =>
    let a := s.diagAt p m
    s.store 0x3FFF a (leBytes 2 ((BitVec.ofNat 16 (s.memNat a 2) ||| 0x80#16).toNat))) s

/-- Write a sub-frame's lines into final plate i (R265, R266). -/
def writeFinal (s : State) (r : PCfg) (i : Nat) (lines : List (List Nat)) : State :=
  let base := r.addr 0x28 + i * (r.lineBytes * r.h)
  (lines.zipIdx).foldl (fun s (l, y) => s.store 0x3FFF (base + y * r.lineBytes) (lineString r.depth l)) s

/-- Read the codes of final plate i back and form their frame CRC (R595). -/
def finalCrc (s : State) (r : PCfg) (i : Nat) : Word :=
  let base := r.addr 0x28 + i * (r.lineBytes * r.h)
  let n := ceilDiv (r.w * r.ch * r.depth) 64 * 8
  crc32 ((List.range r.h).flatMap fun y => s.bytes (base + y * r.lineBytes) n)

end State

end Sys2Proof.Machine
end

