-- ==== Sys2Proof/Machine/TransitLink.lean ====
section
/-!
DEFINITION. Transit links, discovery, routes, phase transport and the endpoint's commands (09_transit_fabric.md R405 to R448).
-/
namespace Sys2Proof.Machine

open Sys2Proof

/-! ### Records as bytes (R430, R434, R435, R443) -/

def lsaBytes (a : Lsa) : List Byte :=
  leBytes 8 a.uid.toNat ++ leBytes 2 (a.id.toNat + a.idst.val * 2 ^ 13) ++ [a.prio, a.flags] ++ leBytes 4 a.lseq.toNat
    ++ leBytes 1 a.links.length ++ leBytes 7 0
    ++ a.links.flatMap fun e => leBytes 1 e.no.val ++ [0] ++ leBytes 2 e.id.toNat ++ leBytes 8 e.uid.toNat

def grpBytes (g : Grp) : List Byte :=
  leBytes 8 g.uid.toNat ++ leBytes 4 g.gseq.toNat ++ leBytes 1 g.q.val ++ leBytes 3 0 ++ leBytes 128 g.member.toNat

def phaseBytes (k : PhasePkt) : List Byte :=
  leBytes 8 k.phase.toNat ++ leBytes 8 k.inc.toNat ++ leBytes 8 k.corr.toNat ++ leBytes 2 k.master.toNat ++ leBytes 2 k.pseq.toNat
    ++ [k.hops, k.refclass] ++ leBytes 2 0 ++ leBytes 8 k.muid.toNat

/-! ### Routes on the LSA database (R436) -/

/-- A node of the route graph: UID, ID, and its neighbours with the local link numbers. -/
structure GNode where
  uid : DWord
  id : BitVec 13
  nb : List (Nat × DWord)
  deriving DecidableEq, Repr

/-- Of two LSAs with one ID, the one that keeps it (R432). -/
def lsaBeats (a b : Lsa) : Bool := if a.idst ≠ b.idst then decide (b.idst.val < a.idst.val) else decide (a.uid.toNat < b.uid.toNat)

/-- The graph of ASSIGNED nodes, joined by links that both ends list. -/
def routeGraph (db : List Lsa) : List GNode :=
  let ok := db.filter fun a => a.idst.val == 2 && !(db.any fun b => b.uid != a.uid && b.id == a.id && lsaBeats b a)
  ok.map fun a => ⟨a.uid, a.id, (a.links.filter fun e => ok.any fun b => b.uid == e.uid && b.links.any fun f => f.uid == a.uid).map
    fun e => (e.no.val, e.uid)⟩

/-- One round of relaxation: the least of a node's value and one more than its neighbours' over the hops allowed. -/
def relax (g : List GNode) (hop : GNode → GNode → Bool) (d : List (DWord × Nat)) : List (DWord × Nat) :=
  let at' (u : DWord) : Option Nat := (d.find? fun x => x.1 == u).map fun x => x.2
  g.filterMap fun u =>
    let c := u.nb.filterMap fun e => match g.find? fun v => v.uid == e.2 with
      | some v => if hop u v then (at' v.uid).map (· + 1) else none
      | none => none
    let c := match at' u.uid with
      | some x => x :: c
      | none => c
    match c with
    | [] => none
    | x :: r => some (u.uid, r.foldl min x)

def relaxAll (g : List GNode) (hop : GNode → GNode → Bool) (d : List (DWord × Nat)) : Nat → List (DWord × Nat)
  | 0 => d
  | n + 1 => relaxAll g hop (relax g hop d) n

def distOf (d : List (DWord × Nat)) (u : DWord) : Option Nat := (d.find? fun x => x.1 == u).map fun x => x.2

/-- Hop distances from the root, the node with the lowest UID. -/
def routeLevels (g : List GNode) : List (DWord × Nat) :=
  match g with
  | [] => []
  | a :: r =>
    let root := r.foldl (fun m x => if x.uid.toNat < m.uid.toNat then x else m) a
    relaxAll g (fun _ _ => true) [(root.uid, 0)] g.length

/-- A hop is down: (level, ID) rises along it. -/
def downHop (lv : List (DWord × Nat)) (u v : GNode) : Bool :=
  match distOf lv u.uid, distOf lv v.uid with
  | some a, some b => decide (a < b) || (a == b && decide (u.id.toNat < v.id.toNat))
  | _, _ => false

/-- Next-hop links of node u for destination D, lowest number first, four at most (R436). -/
def nextHops (g : List GNode) (lv : List (DWord × Nat)) (u : GNode) (d : DWord) : List Nat :=
  let down := relaxAll g (downHop lv) [(d, 0)] g.length
  let up (a b : GNode) : Bool := (distOf lv a.uid).isSome && (distOf lv b.uid).isSome && !downHop lv a b
  let any := relaxAll g up down g.length
  let best (dist : List (DWord × Nat)) (hop : GNode → GNode → Bool) : List Nat :=
    match distOf dist u.uid with
    | some n => (u.nb.filter fun e => match g.find? fun v => v.uid == e.2 with
        | some v => hop u v && (distOf dist v.uid).any (· + 1 == n)
        | none => false).map fun e => e.1
    | none => []
  let ls := if (distOf down u.uid).isSome then best down (downHop lv) else best any up
  ((List.range 16).filter fun l => ls.contains l).take 4

/-- A ROUTER_ROUTE entry with the links given (R437). -/
def routeWord (ls : List Nat) (loc : Bool) : Word :=
  let nh (i : Nat) : Nat := ls.getD i 0
  BitVec.ofNat 32 (nh 0 + nh 1 * 2 ^ 4 + nh 2 * 2 ^ 8 + nh 3 * 2 ^ 12 + ls.length * 2 ^ 16 + b2n loc * 2 ^ 19)

/-- The path that follows NH0 from x toward the root member, as (node, link taken). -/
def treePath (g : List GNode) (lv : List (DWord × Nat)) (root : DWord) : Nat → GNode → List (GNode × Nat)
  | 0, _ => []
  | n + 1, x =>
    if x.uid = root then []
    else match nextHops g lv x root with
      | [] => []
      | l :: _ => match x.nb.find? fun e => e.1 == l with
        | none => []
        | some e => match g.find? fun v => v.uid == e.2 with
          | some v => (x, l) :: treePath g lv root n v
          | none => []

namespace State

/-! ### The own LSA (R434, R442) -/

/-- REFCLASS of this node's counter (R442). -/
def refClass (s : State) : Nat :=
  if s.sidRef = 6 then 3
  else if s.sidState = 0 then 2
  else if s.sidState = 3 ∧ s.sidRef ≠ 0 then 0 else 1

def ownLsa (s : State) : Lsa :=
  { uid := s.ownUid
    id := BitVec.ofNat 13 s.ownId
    idst := Fin.ofNat 4 (s.fld Reg.TRANSIT_NODE 14 13)
    prio := BitVec.ofNat 8 (s.fld Reg.TRANSIT_PHASE 15 8)
    flags := BitVec.ofNat 8 (s.fld Reg.TRANSIT_PHASE 0 0 + s.refClass * 2)
    lseq := s.transit.lsaSeq
    links := s.fabricLinks.map fun l =>
      ⟨Fin.ofNat 16 l, BitVec.ofNat 13 (s.fld (Reg.TRANSIT_STATUS + 0x1000 * l) 20 8), (s.link l).peerUid⟩ }

/-- Store an LSA in place of the one held for its UID. -/
def storeLsa (s : State) (a : Lsa) : State := s.updTransit fun t => { t with
  lsas := (t.lsas.filter fun x => x.1.uid != a.uid) ++ [(a, s.mono)]
  stale := true }

/-- A new own LSA goes out on every UP FABRIC link (R434). -/
def lsaOriginate (s : State) : State :=
  let s := s.updTransit fun t => { t with lsaSeq := t.lsaSeq + 1, lsaAt := s.mono }
  let a := s.ownLsa
  let s := (s.storeLsa a).updTransit fun t => { t with outLsa := some a }
  s.fabricLinks.foldl (fun s l => s.sendCtrl l 1 (lsaBytes a)) s

/-- This node's membership of a quarter of the groups: the LOCAL bits of ROUTER_MCAST. -/
def ownMember (s : State) (q : Nat) : BitVec 1024 :=
  BitVec.ofNat 1024 ((List.range 1024).foldl (fun n i =>
    n + (if s.bit (Reg.ROUTER_MCAST + 4 * (1024 * q + i)) 16 then 2 ^ i else 0)) 0)

/-- The four own GRP records; GSEQ rises when the membership has changed (R435). -/
def grpOriginate (s : State) : State :=
  let ms := (List.range 4).map s.ownMember
  let same := s.transit.outGrp.map (fun g => g.member) == ms
  let seq := if same then s.transit.grpSeq else s.transit.grpSeq + 1
  let gs := ms.zipIdx.map fun x => Grp.mk s.ownUid seq (Fin.ofNat 4 x.2) x.1
  let s := s.updTransit fun t => { t with
    grpSeq := seq
    outGrp := gs
    grps := (t.grps.filter fun x => x.1.uid != s.ownUid) ++ gs.map fun g => (g, s.mono) }
  s.fabricLinks.foldl (fun s l => gs.foldl (fun s g => s.sendCtrl l 2 (grpBytes g)) s) s

/-! ### Node IDs (R432) -/

/-- Claim an ID: TENTATIVE, flooded. -/
def idClaim (s : State) (id : Nat) : State :=
  let s := (s.setFld Reg.TRANSIT_NODE 12 0 id).setFld Reg.TRANSIT_NODE 14 13 1
  (s.updTransit fun t => { t with claimAt := s.mono }).lsaOriginate

/-- The ID a node starts with: the stored one, or its UID's low bits. -/
def idStart (s : State) : Nat := if s.bit Reg.TRANSIT_PREF 16 then s.fld Reg.TRANSIT_PREF 12 0 else bits s.ownUid 12 0

/-- The lowest ID in no LSA of the database. -/
def idFree (s : State) : Nat :=
  match (List.range 8192).find? fun i => s.transit.lsas.all fun x => x.1.uid == s.ownUid || x.1.id.toNat != i with
  | some i => i
  | none => 0

/-- Another node carries this node's ID: the loser takes another (R432). -/
def idMeet (s : State) (uid : DWord) (id : BitVec 13) (idst : Nat) : State :=
  let mine := s.fld Reg.TRANSIT_NODE 14 13
  if uid = s.ownUid ∨ id.toNat ≠ s.ownId ∨ mine = 0 ∨ idst = 0 then s
  else if mine < idst ∨ (mine = idst ∧ uid.toNat < s.ownUid.toNat) then
    let s := s.raise Code.TRANSIT_ID_CONFLICT s.ownId
    s.idClaim s.idFree
  else s

/-! ### Link states (R429) -/

def setLinkSt (s : State) (l st : Nat) : State :=
  (s.setFld (Reg.TRANSIT_STATUS + 0x1000 * l) 1 0 st).updLink l fun v => { v with since := s.mono, helloRun := 0, lockLost := none }

/-- What a link held when it leaves UP is dropped; credits and LSEQ restart (R422, R429). -/
def linkLeaveUp (s : State) (l : Nat) : State :=
  let v := s.link l
  let role := s.linkRole l
  let s := s.updLink l fun v => { v with
    queue := [], replay := [], txSeq := 0, rxNext := 0, nak := false, credits := [0, 0, 0, 0], give := [0, 0, 0, 0], tries := 0, upAt := none }
  let s := (v.replay.map (fun r => r.pkt) ++ v.queue).foldl (fun s k => s.dropPkt k 7) s
  if role ≠ 0 then s
  else
    let s := if s.fabricLinks.isEmpty then s.updTransit fun t => { t with downAt := some s.mono } else s
    s.lsaOriginate

/-- A link goes to TRAIN; from UP with LINK_DOWN. -/
def linkTrain (s : State) (l : Nat) : State :=
  let was := s.linkSt l == 3
  let s := s.setLinkSt l 1
  if was then (s.linkLeaveUp l).raise Code.TRANSIT_LINK_DOWN l else s

/-- Block lock is lost (R278, R429). -/
def transitLockLost (s : State) (l : Nat) : State :=
  let s := s.setBit (Reg.TRANSIT_STATUS + 0x1000 * l) 2 false
  let st := s.linkSt l
  if st = 2 then s.linkTrain l
  else if st = 3 then s.updLink l fun v => { v with lockLost := v.lockLost.or (some s.mono) }
  else s

/-- A link enters UP (R412, R429). -/
def linkUp (s : State) (l : Nat) : State :=
  let s := s.setLinkSt l 3
  let s := s.updLink l fun v => { v with give := fullCredits, ackAt := s.mono, upAt := some s.mono }.llc false
  let s := s.raise Code.TRANSIT_LINK_UP l
  if s.linkRole l = 0 then (s.updTransit fun t => { t with everUp := true, downAt := none }).lsaOriginate
  else if l = s.fld Reg.TWIN_CTRL 5 2 then { s with twin := { s.twin with linkSeen := true } } else s

def deadNs (s : State) (l : Nat) : Nat := max 1 (s.fld (Reg.TRANSIT_CFG + 0x1000 * l) 15 8) * 1000000

/-- TRANSITl_CFG (R405, R429). -/
def transitCfgEffect (s : State) (ag : Agent) (l : Nat) (v : Word) : State :=
  let a := Reg.TRANSIT_CFG + 0x1000 * l
  let role := wfld v 2 1
  let taken := role == 1 && (List.range 16).any fun m => m != l && s.linkRole m == 1
  if 2 ≤ role || taken then s.raise Code.TRANSIT_CFG_ERR l
  else
    let was := s.bit a 0
    let up := s.linkSt l == 3
    let s := s.plainWrite ag a v
    let now := s.bit a 0
    if now && !was then s.setLinkSt l 1
    else if was && !now then
      let s := s.setLinkSt l 0
      if up then s.linkLeaveUp l else s
    else s

/-! ### HELLO (R430, R431) -/

/-- Monotonic time in 2^-16 ns. -/
def mono16 (s : State) : Nat := s.mono * 65536 + s.monoFrac

/-- The HELLO this node sends on a link. -/
def helloBytes (s : State) (l : Nat) : List Byte :=
  let v := s.link l
  let prev := match v.sentAt with
    | x :: _ => x.2
    | [] => 0
  let (k, at', uid) := match v.peer with
    | some (k, at', _, _) => (k, at', v.peerUid.toNat)
    | none => (0, 0, 0)
  let t (x : Nat) : List Byte := leBytes 8 (x / 65536) ++ leBytes 2 (x % 65536)
  leBytes 8 s.ownUid.toNat ++ leBytes 2 (s.ownId + s.fld Reg.TRANSIT_NODE 14 13 * 2 ^ 13) ++ leBytes 1 l ++ leBytes 1 (s.linkRole l)
    ++ leBytes 2 v.hseq ++ leBytes 2 k ++ leBytes 8 uid ++ t prev ++ t at' ++ leBytes 4 0

/-- A delay sample from HELLO k and the TX_PREV of HELLO k + 1, in 2^-16 ns; outside 0 to 100,000 ns it is discarded (R431). -/
def delaySample (v : TLink) (h : Hello) : Option Nat :=
  match v.peer with
  | none => none
  | some (k, t4, j, t2) =>
    match v.sentAt.find? fun x => x.1 == j with
    | none => none
    | some (_, t1) =>
      let d : Int := (((t4 : Int) - t1) - ((h.txPrev.toNat : Int) - t2)) / 2
      if h.hseq.toNat = (k + 1) % 65536 ∧ 0 ≤ d ∧ d ≤ 100000 * 65536 then some d.toNat else none

/-- HELLO times are carried as ns and a 16-bit fraction, low part last (R430); as 2^-16 ns. -/
def helloReceive (s : State) (l : Nat) (h : Hello) : State :=
  let st := s.linkSt l
  if st < 2 then s
  else
    let a := Reg.TRANSIT_STATUS + 0x1000 * l
    let v := s.link l
    let other := v.peerUid != 0 && v.peerUid != h.uid
    let roleOk := decide (h.role.val = s.linkRole l)
    let sample := delaySample v h
    let s := s.updLink l fun v => { v with
      helloAt := s.mono
      peer := some (h.hseq.toNat, s.mono16, h.echoSeq.toNat, h.rxEcho.toNat)
      peerUid := h.uid
      delays := match sample with
        | some d => (d :: v.delays).take 16
        | none => v.delays }
    let ds := (s.link l).delays
    let s := if sample.isSome then
        s.setReg (Reg.TRANSIT_DELAY + 0x1000 * l) (BitVec.ofNat 32 (ds.foldl (· + ·) 0 / ds.length / 256)) else s
    let s := s.setReg64 (Reg.TRANSIT_PEER_UID_LO + 0x1000 * l) h.uid
    let s := ((((s.setBit a 3 (!roleOk)).setFld a 7 4 h.link.val).setFld a 20 8 h.id.toNat).setFld a 22 21 h.idst.val)
    let s := s.idMeet h.uid h.id h.idst.val
    if st = 3 then if other then s.linkTrain l else s
    else if !roleOk || h.peerUid != s.ownUid then s.updLink l fun v => { v with helloRun := 0 }
    else
      let s := s.updLink l fun v => { v with helloRun := v.helloRun + 1 }
      if 3 ≤ (s.link l).helloRun then s.linkUp l else s

/-! ### Receiving and replay (R408 to R411) -/

/-- Resend every unacknowledged packet; after 8 resends without progress the link trains afresh (R411). -/
def resend (s : State) (l : Nat) : State :=
  if 8 ≤ (s.link l).tries then (s.linkTrain l).raise Code.TRANSIT_REPLAY_FAIL l
  else (s.updLink l fun v => { v with
    replay := v.replay.map fun r => { r with sent := false }
    tries := v.tries + 1
    ackAt := s.mono }).linkDrain l

/-- Packets an ACK covers: the buffer up to and with that LSEQ. -/
def ackDrop (ack : Nat) (l : List Replay) : List Replay :=
  if l.any fun r => r.lseq == ack then (l.dropWhile fun r => r.lseq != ack).drop 1 else l

/-- An LLC block (R410, R411). -/
def llcReceive (s : State) (l : Nat) (cr : Fin 4 → Byte) (ack : Nat) (nak : Bool) : State :=
  if s.linkSt l ≠ 3 then s
  else
    let v := s.link l
    let rest := ackDrop ack v.replay
    let moved := decide (rest.length < v.replay.length)
    let s := s.updLink l fun v => { v with
      credits := v.credits.zipIdx.map fun x => x.1 + (cr (Fin.ofNat 4 x.2)).toNat
      replay := rest
      tries := if moved then 0 else v.tries
      ackAt := if moved then s.mono else v.ackAt }
    if nak then s.resend l else s.linkDrain l

/-- A packet on a link (R409, R414): accepted in order, a duplicate, or refused with NAK. -/
def packetReceive (s : State) (l lseq : Nat) (good : Bool) (k : Pkt) : State :=
  if s.linkSt l ≠ 3 then s
  else
    let v := s.link l
    let d := (lseq + 4096 - v.rxNext) % 4096
    let vc := vcOf k.type
    let giveAll (s : State) (nak : Bool) : State :=
      s.updLink l fun v => { v with give := addAt v.give vc (pktCredits k), nak := v.nak || nak }.llc nak
    if !good then ((giveAll s true).inc (Reg.TRANSIT_CRC_CNT + 0x1000 * l)).raiseSec Code.TRANSIT_LINK_CRC l
    else if d = 0 then
      let s := (s.updLink l fun v => { v with rxNext := (v.rxNext + 1) % 4096, nak := false }).inc (Reg.TRANSIT_RX_CNT + 0x1000 * l)
      if !pktListed k.type then (giveAll s false).inc (Reg.TRANSIT_LDROP_CNT + 0x1000 * l)
      else if k.type = 0xC then giveAll s false
      else (s.updLink l fun v => v.llc false).updTransit fun t => { t with inbox := t.inbox ++ [(l, k)] }
    else if d < 2048 then giveAll s (!v.nak)
    else giveAll s false

/-! ### The router table (R433, R436, R438) -/

/-- Write the routes to every reachable node; the entries of other IDs hold no route. NODE_LOST names each node that has left the
reachable set (R436, R449). -/
def writeRoutes (s : State) (g : List GNode) (lv : List (DWord × Nat)) : State :=
  match g.find? fun x => x.uid == s.ownUid with
  | none => (List.range 8192).foldl (fun s n => s.setReg (Reg.ROUTER_ROUTE + 4 * n) (routeWord [] (decide (n = s.ownId)))) s
  | some u =>
    let hops := g.map fun x => (x.id, if x.uid = u.uid then [] else nextHops g lv u x.uid)
    let reach := (hops.filter fun x => !x.2.isEmpty).map fun x => x.1
    let gone := s.transit.reach.filter fun i => !reach.contains i
    let s := (List.range 8192).foldl (fun s n =>
      let ls := match hops.find? fun x => x.1.toNat == n with
        | some x => x.2
        | none => []
      s.setReg (Reg.ROUTER_ROUTE + 4 * n) (routeWord ls (decide (n = u.id.toNat)))) s
    let s := s.updTransit fun t => { t with reach := reach }
    gone.foldl (fun s i => s.raise Code.TRANSIT_NODE_LOST i.toNat) s

/-- Members of a group among the nodes of the graph. -/
def groupMembers (s : State) (g : List GNode) (grp : Nat) : List GNode :=
  g.filter fun x => s.transit.grps.any fun r =>
    r.1.uid == x.uid && r.1.q.val == grp / 1024 && r.1.member.getLsbD (grp % 1024)

/-- Links of this node that lie on a group's tree (R438). -/
def treeMask (s : State) (g : List GNode) (lv : List (DWord × Nat)) (ms : List GNode) : Nat :=
  match ms with
  | [] => 0
  | a :: r =>
    let root := r.foldl (fun m x => if x.id.toNat < m.id.toNat then x else m) a
    let steps := ms.flatMap fun m => treePath g lv root.uid g.length m
    let mine := steps.flatMap fun x =>
      if x.1.uid = s.ownUid then [x.2]
      else (List.range 16).filter fun l => s.fabricUp l && (s.link l).peerUid == x.1.uid
        && s.fld (Reg.TRANSIT_STATUS + 0x1000 * l) 7 4 == x.2
    (List.range 16).foldl (fun n l => n + (if mine.contains l then 2 ^ l else 0)) 0

/-- Write the multicast masks of every group that has members or had them. -/
def writeTrees (s : State) (g : List GNode) (lv : List (DWord × Nat)) : State :=
  (List.range 4096).foldl (fun s i =>
    let a := Reg.ROUTER_MCAST + 4 * i
    let ms := s.groupMembers g i
    if ms.isEmpty then (s.setFld a 15 0 0).setBit a 17 false
    else (s.setFld a 15 0 (s.treeMask g lv ms)).setBit a 17 true) s

/-- The system image writes the router table from the database (R433). -/
def routeUpdate (s : State) : State :=
  let g := routeGraph (s.transit.lsas.map fun x => x.1)
  let lv := routeLevels g
  ((s.writeRoutes g lv).writeTrees g lv).updTransit fun t => { t with stale := false }

/-! ### The phase master (R442 to R444) -/

/-- Ranking key of a candidate. -/
def phaseBetter (a b : Lsa) : Bool :=
  let rc (x : Lsa) : Nat := bits x.flags 2 1
  if a.prio ≠ b.prio then decide (a.prio.toNat < b.prio.toNat)
  else if rc a ≠ rc b then decide (rc a < rc b) else decide (a.uid.toNat < b.uid.toNat)

/-- Candidates of this node's view; its own record is its present one. -/
def phaseCands (s : State) : List Lsa :=
  ((s.transit.lsas.map fun x => x.1).filter fun a => a.uid != s.ownUid && bits a.flags 0 0 == 1)
    ++ (if bits s.ownLsa.flags 0 0 = 1 then [s.ownLsa] else [])

def phaseBest (s : State) : Option Lsa :=
  match s.phaseCands with
  | [] => none
  | a :: r => some (r.foldl (fun m x => if phaseBetter x m then x else m) a)

/-- A new phase master (R66, R442). -/
def setMaster (s : State) (a : Option Lsa) : State :=
  let mine := match a with
    | some a => a.uid == s.ownUid
    | none => false
  let id := match a with
    | some a => a.id.toNat
    | none => 0
  let s := s.updTransit fun t => { t with master := a.map fun a => a.uid, better := none, lastPseq := none }
  let s := (s.setFld Reg.TRANSIT_PHASE_STAT 12 0 id).setBit Reg.TRANSIT_PHASE_STAT 16 mine
  let s := s.raise Code.TRANSIT_PHASE_MASTER id
  s.masterHold

/-- The election: at once when the master has vanished, else after 1 s of a better candidate. -/
def masterElect (s : State) : State :=
  let best := s.phaseBest
  match s.transit.master with
  | none => match best with
    | some b => s.setMaster (some b)
    | none => s
  | some m =>
    if !(s.phaseCands.any fun a => a.uid == m) then s.setMaster best
    else match best with
      | none => s
      | some b =>
        if b.uid = m then s.updTransit fun t => { t with better := none }
        else match s.transit.better with
          | some (u, t0) =>
            if u = b.uid then if t0 + 1000000000 ≤ s.mono then s.setMaster (some b) else s
            else s.updTransit fun t => { t with better := some (b.uid, s.mono) }
          | none => s.updTransit fun t => { t with better := some (b.uid, s.mono) }

/-- A PHASE packet goes out on links (R443, R444). -/
def sendPhase (s : State) (k : PhasePkt) (ls : List Nat) : State :=
  let s := s.updTransit fun t => { t with outPhase := some (k, ls) }
  ls.foldl (fun s l => s.sendCtrl l 3 (phaseBytes k)) s

/-- An accepted PHASE packet: forwarded with its delay, and a sample of the FABRIC reference (R51, R444). `resid` is its residence
here in 2^-16 ns. -/
def phaseReceive (s : State) (l : Nat) (k : PhasePkt) (resid : Nat) : State :=
  let m := k.master.toNat
  let new := match s.transit.lastPseq with
    | some q => decide (0 < (k.pseq - q).toInt)
    | none => true
  if !s.fabricUp l || s.routeHops m == 0 || s.fld (Reg.ROUTER_ROUTE + 4 * m) 3 0 != l
      || s.transit.master != some k.muid || s.fld Reg.TRANSIT_PHASE_STAT 12 0 != m || !new then s
  else
    let corr := k.corr.toNat + (s.reg (Reg.TRANSIT_DELAY + 0x1000 * l)).toNat * 256
    let s := s.updTransit fun t => { t with lastPseq := some k.pseq, phaseRx := some s.mono }
    let s := s.setFld Reg.TRANSIT_PHASE_STAT 28 24 k.hops.toNat
    let s := s.setReg Reg.TRANSIT_PHASE_CORR (BitVec.ofNat 32 (corr / 256))
    let out := s.fabricLinks.filter fun x => x != l
    let s := s.sendPhase { k with corr := BitVec.ofNat 48 (corr + resid), hops := k.hops + 1 } out
    s.fabricSample (k.phase + BitVec.ofInt 64 (roundDiv ((corr : Int) * k.inc.toNat) (2 ^ 48)))

/-! ### Rings of the transit unit (R428, R446) -/

def ctrlRxRing (s : State) : Nat := s.fld Reg.TRANSIT_RINGS 13 8

/-- Bytes as raw entries, EOP on the last (R446). -/
def rawEntries (l : List Byte) : Nat → List Entry
  | 0 => []
  | n + 1 =>
    let e : Entry := BitVec.ofNat 256 (leNat (l.take 32))
    (if n = 0 then e ||| 0x200#256 else e) :: rawEntries (l.drop 32) n

/-- Pop the ring's head packet for a unit: its first entry and `n` more, when all are there. -/
def popMany (s : State) (r : Nat) : Nat → List Entry × State
  | 0 => ([], s)
  | n + 1 =>
    let (e, s) := s.ringPop r
    let (l, s) := s.popMany r n
    (e :: l, s)

/-- The head entry of a ring. -/
def ringHead (s : State) (r : Nat) : Option Entry :=
  let v := s.ring r
  (v.head ++ v.spill ++ v.tail).head?

/-- The bytes of an entry. -/
def entryBytes (e : Entry) : List Byte := leBytes 32 e.toNat

/-- CTRL_TX: a packet of the ring goes out on the links named; HELLO and PHASE are discarded (R446). -/
def ctrlTx (s : State) : State :=
  let r := s.fld Reg.TRANSIT_RINGS 21 16
  match s.ringHead r with
  | none => s
  | some e =>
    if entryType e ≠ 0x41 then (s.ringPop r).2
    else
      let w := entryWord e 1
      let n := wfld w 28 20
      let k := 1 + ceilDiv n 32
      if (s.ring r).count < k then s
      else
        let (es, s) := s.popMany r k
        let data := ((es.drop 1).flatMap entryBytes).take n
        let op := wfld w 19 16
        if op = 0 ∨ op = 3 ∨ 256 < n then s
        else
          let ls := (List.range 16).filter fun l => wfld w l l == 1
          ls.foldl (fun s l =>
            let seq := (s.link l).txSeq
            let s := s.sendCtrl l op data
            if wfld w 31 31 = 1 ∧ s.linkSt l = 3 then
              (s.ringUnit s.ctrlRxRing [entryOne 0x44 [BitVec.ofNat 32 (l + seq * 16), BitVec.ofNat 32 s.ptp.ns,
                BitVec.ofNat 32 s.ptp.sec, BitVec.ofNat 32 (s.ptp.sec / 2 ^ 32 % 65536 + s.ptpSub * 65536)]]).2
            else s) s

/-- MSG_TX: the entries that follow go to a ring of another node (R446, R447). -/
def msgTx (s : State) : State :=
  let r := s.fld Reg.TRANSIT_RINGS 5 0
  match s.ringHead r with
  | none => s
  | some e =>
    let w := entryWord e 1
    let n := wfld w 25 22
    if entryType e ≠ 0x40 ∨ n = 0 ∨ 8 < n then (s.ringPop r).2
    else if (s.ring r).count < 1 + n then s
    else
      let (es, s) := s.popMany r (1 + n)
      s.sendPosted { dst := BitVec.ofNat 13 (wfld w 12 0), src := 0, type := 5, tag := 0x1FF, addr := BitVec.ofNat 40 (wfld w 21 16), len := BitVec.ofNat 9 (32 * n), payload := (es.drop 1).flatMap entryBytes }

/-- A type 0x42 request changes a target's state and is answered with type 0x43 (R428). -/
def targetReq (s : State) : State :=
  let r := s.fld Reg.TRANSIT_RINGS 29 24
  match s.ringHead r with
  | none => s
  | some e =>
    let s := (s.ringPop r).2
    if entryType e ≠ 0x42 then s
    else
      let w := entryWord e 1
      let n := wfld w 12 0
      let both := wfld w 17 16 == 3
      let s := if both then s
        else s.updTgt n fun t => { t with
          fence := if wfld w 16 16 = 1 then true else if wfld w 17 17 = 1 then false else t.fence
          late := if wfld w 18 18 = 1 then false else t.late }
      let t := s.tgt n
      (s.ringUnit (wfld (entryWord e 2) 5 0) [entryOne 0x43 [w, entryWord e 2,
        BitVec.ofNat 32 (b2n both + b2n t.late * 4 + b2n t.fence * 8)]]).2

/-- TRANSIT_TGT_STAT as an agent reads it. -/
def tgtStat (s : State) (ag : Nat) : Word :=
  let t := s.tgt (s.afld ag Reg.TRANSIT_TGT_SEL 12 0)
  BitVec.ofNat 32 (b2n t.late + b2n t.fence * 2 + t.lateCnt * 65536)

/-- A write of TRANSIT_TGT_STAT: FENCE_ON_LATE. -/
def tgtStatEffect (s : State) (ag : Nat) (v : Word) : State :=
  s.updTgt (s.afld ag Reg.TRANSIT_TGT_SEL 12 0) fun t => { t with fence := wfld v 1 1 == 1 }

/-- TRANSIT_PHASE_STAT: VALID tells that a PHASE was accepted within LOSS_MS. -/
def phaseStat (s : State) : Word :=
  let ok := match s.transit.phaseRx with
    | some t => decide (s.mono ≤ t + s.fld Reg.SID_LOSS 15 0 * 1000000)
    | none => false
  wset (s.reg Reg.TRANSIT_PHASE_STAT) 17 17 (b2n ok)

def clrLateEffect (s : State) (ag : Nat) : State := s.updTgt (s.afld ag Reg.TRANSIT_TGT_SEL 12 0) fun t => { t with late := false }

end State

/-! ### Commands -/

/-- LINK_PACKET_RECEIVE. -/
def execLinkPacketReceive (l : LinkId) (lseq : BitVec 12) (good : Bool) (k : Pkt) (s : State) : Host.Outcome State Fault Refusal :=
  .next (s.packetReceive l.val lseq.toNat good k)

/-- LLC_RECEIVE. -/
def execLlcReceive (l : LinkId) (cr : BitVec 32) (ack : BitVec 12) (nak : Bool) (s : State) : Host.Outcome State Fault Refusal :=
  .next (s.llcReceive l.val (fun i => cr.extractLsb' (8 * i.val) 8) ack.toNat nak)

/-- REPLAY_TIMEOUT: 8 µs without ACK progress (R411). -/
def execReplayTimeout (l : LinkId) (s : State) : Host.Outcome State Fault Refusal :=
  let v := s.link l.val
  if s.linkSt l.val = 3 ∧ v.replay ≠ [] ∧ v.ackAt + 8000 ≤ s.mono then .next (s.resend l.val) else .next s

/-- LINK_BLOCK_LOCK (R429, R731). -/
def execLinkBlockLock (l : LinkId) (s : State) : Host.Outcome State Fault Refusal :=
  let st := s.linkSt l.val
  if st = 0 || !s.refOk l.val then .next s
  else
    let s := s.setBit (Reg.TRANSIT_STATUS + 0x1000 * l.val) 2 true
    if st = 1 then .next (s.setLinkSt l.val 2) else .next (s.updLink l.val fun v => { v with lockLost := none })

/-- TRANSIT_BLOCK_LOCK_LOSS (R278, R429). -/
def execTransitBlockLockLoss (l : LinkId) (s : State) : Host.Outcome State Fault Refusal := .next (s.transitLockLost l.val)

/-- HELLO_TICK: every 1 ms ± 10 µs on each link not OFF (R430). -/
def execHelloTick (l : LinkId) (s : State) : Host.Outcome State Fault Refusal :=
  let v := s.link l.val
  let due := match v.sentAt with
    | x :: _ => decide (x.2 / 65536 + 990000 ≤ s.mono)
    | [] => true
  if s.linkSt l.val = 0 ∨ due = false then .next s
  else
    let b := s.helloBytes l.val
    let s := s.updLink l.val fun v => { v with
      outHello := b, hseq := (v.hseq + 1) % 65536, sentAt := ((v.hseq, s.mono16) :: v.sentAt).take 16 }
    .next (s.sendCtrl l.val 0 b)

/-- HELLO_RECEIVE (R429 to R432). -/
def execHelloReceive (l : LinkId) (h : Hello) (s : State) : Host.Outcome State Fault Refusal := .next (s.helloReceive l.val h)

/-- LINK_DEAD_TIMEOUT: DEAD_MS without a valid HELLO, or in UP without block lock (R429). -/
def execLinkDeadTimeout (l : LinkId) (s : State) : Host.Outcome State Fault Refusal :=
  let v := s.link l.val
  let d := s.deadNs l.val
  let silent := decide (max v.helloAt v.since + d ≤ s.mono)
  let unlocked := match v.lockLost with
    | some t => decide (t + d ≤ s.mono)
    | none => false
  let st := s.linkSt l.val
  if (st = 2 ∧ silent = true) ∨ (st = 3 ∧ (silent || unlocked) = true) then .next (s.linkTrain l.val) else .next s

/-- TRANSIT_LINK_CFG_WRITE. -/
def execTransitLinkCfgWrite (ag : Agent) (l : LinkId) (v : Word) (s : State) : Host.Outcome State Fault Refusal :=
  .next (s.writeBy ag (Reg.TRANSIT_CFG + 0x1000 * l.val) fun s => s.transitCfgEffect ag l.val v)

/-- RETRAIN acts in HELLO and UP (R429). -/
def State.transitRetrainEffect (s : State) (l : Nat) : State := if 1 ≤ s.linkSt l then s.linkTrain l else s

/-- TRANSIT_RETRAIN. -/
def execTransitRetrain (ag : Agent) (l : LinkId) (s : State) : Host.Outcome State Fault Refusal :=
  .next (s.writeBy ag (Reg.TRANSIT_CMD + 0x1000 * l.val) fun s => s.transitRetrainEffect l.val)

/-- ROUTER_FORWARD: the first routed packet the router holds (R437, R439). -/
def execRouterForward (s : State) : Host.Outcome State Fault Refusal :=
  match s.transit.inbox.find? fun x => x.2.type != 4 with
  | none => .next s
  | some x =>
    let s := s.updTransit fun t => { t with inbox := t.inbox.erase x }
    .next ((s.giveBack x.1 x.2).routePkt x.1 x.2)

/-- STREAM_REQUEST: the first STREAM packet the router holds (R438). -/
def execStreamRequest (s : State) : Host.Outcome State Fault Refusal :=
  match s.transit.inbox.find? fun x => x.2.type == 4 with
  | none => .next s
  | some x =>
    let s := s.updTransit fun t => { t with inbox := t.inbox.erase x }
    let (s, here) := (s.giveBack x.1 x.2).routeStream x.1 x.2
    .next (if here then s.doStream x.2 else s)

/-- WR_REQUEST. -/
def execWrRequest (s : State) : Host.Outcome State Fault Refusal :=
  match s.takeEp 0 with
  | none => .next s
  | some (k, s) => .next (s.doWr k)

/-- RD_REQUEST: `busy` reads and fetch-adds are being performed at its arrival (R423). -/
def execRdRequest (busy : Fin 129) (s : State) : Host.Outcome State Fault Refusal :=
  match s.takeEp 1 with
  | none => .next s
  | some (k, s) => .next (s.doRd busy.val k)

/-- FADD_REQUEST. -/
def execFaddRequest (busy : Fin 129) (s : State) : Host.Outcome State Fault Refusal :=
  match s.takeEp 2 with
  | none => .next s
  | some (k, s) => .next (s.doFadd busy.val k)

/-- FLUSH_REQUEST: performed once no earlier request of its source waits here (R424). -/
def execFlushRequest (s : State) : Host.Outcome State Fault Refusal :=
  match s.transit.epIn.find? fun k => k.type == 3 with
  | none => .next s
  | some k =>
    if (s.transit.epIn.takeWhile fun x => x != k).any fun x => x.src == k.src && decide (x.type.toNat ≤ 5) then .next s
    else
      let s := s.updTransit fun t => { t with epIn := t.epIn.erase k }
      let g := s.tgt k.src.toNat
      .next (s.answer k 0 (leBytes 4 g.wcnt.toNat ++ leBytes 4 g.lcnt.toNat ++ leBytes 8 0))

/-- MSG_REQUEST. -/
def execMsgRequest (s : State) : Host.Outcome State Fault Refusal :=
  match s.takeEp 5 with
  | none => .next s
  | some (k, s) => .next (s.doMsg k)

/-- RSP_RECEIVE. -/
def execRspReceive (s : State) : Host.Outcome State Fault Refusal :=
  match s.takeEp 8 with
  | none => .next s
  | some (k, s) => .next (s.doRsp k)

/-- LATE_RECEIVE. -/
def execLateReceive (s : State) : Host.Outcome State Fault Refusal :=
  match s.takeEp 9 with
  | none => .next s
  | some (k, s) => .next (s.doLate k)

/-- TRANSACTION_TIMEOUT: TRANSIT_TIMEOUT after the last issue, for a FLUSH after the first (R138, R425). -/
def execTransactionTimeout (i : Byte) (s : State) : Host.Outcome State Fault Refusal :=
  let t := s.tslot i.toNat
  let us := max 1 (s.reg Reg.TRANSIT_TIMEOUT).toNat * 1000
  let t0 := if t.type = 3 then t.first else t.issued
  if t.busy = false ∨ t.answer ≠ none ∨ s.mono < t0 + us then .next s
  else
    let s := (s.inc Reg.TRANSIT_TMO_CNT).raiseFrameAll Code.TRANSIT_RMT_TIMEOUT t.dst
    if t.type = 3 then
      let mine := (s.cores.get {} t.core).flushes.contains t.dst
      let s := if mine then (s.flushDone t.core t.dst).remoteFail t.core false else s
      .next (s.slotFree i.toNat)
    else .next (s.updSlot i.toNat fun t => { t with answer := some (15, []), gap := none })

/-- FLUSH_REISSUE: after FLUSH.GAP, same slot and SEQ (R425). -/
def execFlushReissue (i : Byte) (s : State) : Host.Outcome State Fault Refusal :=
  let t := s.tslot i.toNat
  match t.gap with
  | some g =>
    if t.busy = true ∧ t.type = 3 ∧ g + s.fld Reg.TRANSIT_FLUSH 15 0 ≤ s.mono then .next (s.slotSend i.toNat) else .next s
  | none => .next s

/-- LSA_RECEIVE: stored and relayed when newer (R432, R434). -/
def execLsaReceive (l : LinkId) (a : Lsa) (s : State) : Host.Outcome State Fault Refusal :=
  let new := match s.transit.lsas.find? fun x => x.1.uid == a.uid with
    | some x => decide (0 < (a.lseq - x.1.lseq).toInt)
    | none => true
  if !s.fabricUp l.val || !new then .next s
  else
    let s := s.storeLsa a
    let s := (s.fabricLinks.filter fun x => x != l.val).foldl (fun s x => s.sendCtrl x 1 (lsaBytes a)) s
    .next (s.idMeet a.uid a.id a.idst.val)

/-- GRP_RECEIVE: stored and relayed as an LSA (R435). -/
def execGrpReceive (l : LinkId) (g : Grp) (s : State) : Host.Outcome State Fault Refusal :=
  let new := match s.transit.grps.find? fun x => x.1.uid == g.uid && x.1.q == g.q with
    | some x => decide (0 < (g.gseq - x.1.gseq).toInt)
    | none => true
  if !s.fabricUp l.val || !new then .next s
  else
    let s := s.updTransit fun t => { t with
      grps := (t.grps.filter fun x => !(x.1.uid == g.uid && x.1.q == g.q)) ++ [(g, s.mono)]
      stale := true }
    .next ((s.fabricLinks.filter fun x => x != l.val).foldl (fun s x => s.sendCtrl x 2 (grpBytes g)) s)

/-- LSA_REFRESH_TICK: at least every 1 s (R434, R435). -/
def execLsaRefreshTick (s : State) : Host.Outcome State Fault Refusal :=
  if s.fld Reg.TRANSIT_NODE 14 13 = 0 ∨ s.mono < s.transit.lsaAt + 1000000000 then .next s
  else .next s.lsaOriginate.grpOriginate

/-- LSA_EXPIRE: records not renewed for 4 s are removed (R434). -/
def execLsaExpire (s : State) : Host.Outcome State Fault Refusal :=
  let old (t : Nat) : Bool := decide (t + 4000000000 ≤ s.mono)
  if !(s.transit.lsas.any fun x => old x.2) && !(s.transit.grps.any fun x => old x.2) then .next s
  else .next (s.updTransit fun t => { t with
    lsas := t.lsas.filter fun x => !old x.2, grps := t.grps.filter fun x => !old x.2, stale := true })

/-- ROUTE_TABLE_UPDATE (R433). -/
def execRouteTableUpdate (s : State) : Host.Outcome State Fault Refusal := .next (if s.transit.stale then s.routeUpdate else s)

/-- ID_CLAIM_TIMEOUT: CLAIM_MS without conflict (R432). -/
def execIdClaimTimeout (s : State) : Host.Outcome State Fault Refusal :=
  if s.fld Reg.TRANSIT_NODE 14 13 = 1 ∧ s.transit.claimAt + s.fld Reg.TRANSIT_CLAIM 15 0 * 1000000 ≤ s.mono then
    .next (((s.setFld Reg.TRANSIT_NODE 14 13 2).raise Code.TRANSIT_ID_ASSIGNED s.ownId).lsaOriginate)
  else .next s

/-- PHASE_MASTER_ELECT. -/
def execPhaseMasterElect (s : State) : Host.Outcome State Fault Refusal := .next s.masterElect

/-- PHASE_SEND_TICK: the master's PHASE, every PERIOD µs (R443). -/
def execPhaseSendTick (s : State) : Host.Outcome State Fault Refusal :=
  if !s.bit Reg.TRANSIT_PHASE_STAT 16 || decide (s.mono < s.transit.phaseAt + s.fld Reg.TRANSIT_PHASE 31 16 * 1000) then .next s
  else
    let s := s.updTransit fun t => { t with pseq := t.pseq + 1, phaseAt := s.mono }
    .next (s.sendPhase ⟨s.phase, BitVec.ofInt 64 s.sidInc, 0, BitVec.ofNat 13 s.ownId, s.transit.pseq, 0, BitVec.ofNat 8 s.refClass, s.ownUid⟩
      s.fabricLinks)

/-- PHASE_PACKET_RECEIVE: `resid` is the time to the egress, in 2^-16 ns (R444). -/
def execPhasePacketReceive (l : LinkId) (k : PhasePkt) (resid : Word) (s : State) : Host.Outcome State Fault Refusal :=
  .next (s.phaseReceive l.val k resid.toNat)

/-- CTRL_RX: another CTRL packet, passed to the system image (R446). -/
def execCtrlRx (l : LinkId) (op : BitVec 4) (data : List Byte) (s : State) : Host.Outcome State Fault Refusal :=
  if op = 0 ∨ op = 3 ∨ 256 < data.length then .next s
  else
    let n := ceilDiv data.length 32
    let first := entryOfWords [entryHead 0x41 true (n == 0) false true,
      BitVec.ofNat 32 (l.val + op.toNat * 16 + data.length * 256), BitVec.ofNat 32 s.ptp.ns,
      BitVec.ofNat 32 s.ptp.sec, BitVec.ofNat 32 (s.ptp.sec / 2 ^ 32 % 65536 + s.ptpSub * 65536)]
    .next (s.ringUnit s.ctrlRxRing (first :: State.rawEntries data n)).2

/-- CTRL_TX. -/
def execCtrlTx (s : State) : Host.Outcome State Fault Refusal := .next s.ctrlTx

/-- MSG_TX. -/
def execMsgTx (s : State) : Host.Outcome State Fault Refusal := .next s.msgTx

/-- TARGET_STATE_REQUEST. -/
def execTargetStateRequest (s : State) : Host.Outcome State Fault Refusal := .next s.targetReq

/-- TGT_CLR_LATE. -/
def execTgtClrLate (ag : Agent) (s : State) : Host.Outcome State Fault Refusal :=
  .next (s.writeBy ag Reg.TRANSIT_TGT_CMD fun s => s.clrLateEffect (agIdx ag))

end Sys2Proof.Machine
end

