-- ==== Sys2Proof/Machine/TwinBase.lean ====
section
/-!
DEFINITION. Twin messages, comparison, judgement, and the Occulter cut with its TCUT (14_twin_redundancy.md R576 to R596; 07 R334).
-/
namespace Sys2Proof.Machine

open Sys2Proof

namespace State

def twState (s : State) : Nat := s.fld Reg.TWIN_STATUS 2 0
def twEn (s : State) : Bool := s.bit Reg.TWIN_CTRL 0
def twLink (s : State) : Nat := s.fld Reg.TWIN_CTRL 5 2
def updTwin (s : State) (f : TwinSt → TwinSt) : State := { s with twin := f s.twin }

/-- The device owns: OWNER or YIELDING (R577). -/
def twOwns (s : State) : Bool := s.twState == 2 || s.twState == 5
/-- The device is a standby: STANDBY or BLOCKED. -/
def twStandby (s : State) : Bool := s.twState == 3 || s.twState == 4

/-- The twin link is UP: the named link holds ROLE TWIN (R589). -/
def twinLinkUp (s : State) : Bool := s.linkSt s.twLink == 3 && s.linkRole s.twLink == 1

/-- The peer's node ID as learnt from HELLO (R589). -/
def peerNode (s : State) : Nat := s.fld (Reg.TRANSIT_STATUS + 0x1000 * s.twLink) 20 8

/-- A latched FATAL fault or an unlocked time clock holds the twin unit (R578). -/
def twHeld (s : State) : Bool := s.bit Reg.SYS_MODE 10 || !s.tclkOk

def hbPeriod (s : State) : Nat := s.fld Reg.TWIN_HB 9 0 * 1000
def missN (s : State) : Nat := s.fld Reg.TWIN_HB 19 16
def mismN (s : State) : Nat := max 1 (s.fld Reg.TWIN_CTRL 11 8)
def syncN (s : State) : Nat := max 1 (s.fld Reg.TWIN_CTRL 23 16)
def cmpNs (s : State) : Nat := s.fld Reg.TWIN_CMP 15 0 * 1000

/-- HB lost: MISS_N periods with no heartbeat, counted from the entry to the state where none came since (R593). -/
def hbLost (s : State) : Bool := decide (max s.twin.hbAt s.twin.since + s.missN * s.hbPeriod ≤ s.mono)

/-- Enabled plate ports, and the gated ones among them. -/
def enPorts (s : State) : List Nat := (List.range 4).filter s.pEn
def gatedPorts (s : State) : List Nat := s.enPorts.filter fun p => s.bit Reg.TWIN_GATE p

/-- The last SYNC_N compared sub-frames of every port matched (R592). -/
def twSync (s : State) : Bool := s.enPorts.all fun p => decide (s.syncN ≤ s.twin.good.get 0 p)

/-- A message on the twin link; none while it is not UP (R589, R590). -/
def twinSend (s : State) (op : Nat) (ws : List Word) : State :=
  if s.twEn && s.twinLinkUp then s.sendCtrl s.twLink op (ws.flatMap fun w => leBytes 4 w.toNat) else s

/-- The conditions under which a YIELD is accepted (R600). -/
def yieldOk (s : State) : Bool := s.twState == 2 && s.bit Reg.TWIN_PEER_HEALTH 0 && s.twSync

/-- Note since when ownership could be handed back (R600). -/
def noteReady (s : State) : State :=
  s.updTwin fun t => { t with readyAt := if s.yieldOk then some (t.readyAt.getD s.mono) else none }

/-- TWIN_STATUS.RUN: the highest current mismatch count. -/
def showRun (s : State) : State :=
  s.setFld Reg.TWIN_STATUS 15 12 (min 15 ((List.range 4).foldl (fun m p => max m (s.twin.run.get 0 p)) 0))

/-- Enter OWNER: TWIN_OWN_L is asserted; the gate opens later (R580, R593). Not taken while R578 holds. -/
def twinOwner (s : State) (byFault : Bool) : State :=
  if s.twHeld then s
  else
    let from' := s.twState
    let s := (s.setFld Reg.TWIN_STATUS 2 0 2).setBit Reg.TWIN_STATUS 3 true
    let s := if from' = 3 ∨ from' = 4 then s.inc Reg.TWIN_TAKE_CNT else s
    s.updTwin fun t => { t with since := s.mono, ownAt := s.mono, take := none, byFault := byFault, readyAt := none, hbOut := none }

/-- A standby told to take ownership does so with PEER negated, else waits for that (R593, R596). -/
def twinTake (s : State) (judged : Bool) : State :=
  if s.twState ≠ 3 ∨ s.twHeld then s
  else if s.bit Reg.TWIN_STATUS 4 then s.updTwin fun t => { t with take := some judged }
  else
    let s := if judged then s.raise Code.TWIN_TAKEOVER s.peerNode else s
    s.twinOwner judged

/-! ### Judgement (R595, R596) -/

/-- The judgement ends: JUDGING clears, and mismatches count again from 0. -/
def judgeEnd (s : State) : State :=
  let s := (s.setBit Reg.TWIN_STATUS 8 false).updTwin fun t => { t with judge := none, early := none, run := {} }
  s.showRun

/-- Undecided: both devices hold every gated plate port in minimum mode (R596). -/
def judgeUndecided (s : State) (p : Nat) : State :=
  let s := (s.judgeEnd.inc Reg.TWIN_UNDEC_CNT).setBit Reg.TWIN_STATUS 9 true
  let s := s.raise Code.TWIN_UNDECIDED p
  ((List.range 4).filter fun q => s.bit Reg.TWIN_GATE q).foldl (fun s q => s.minModeBy q 2) s

/-- Both verdicts are known; true is AGREE. -/
def judgeOutcome (s : State) (p : Nat) (own peer : Bool) : State :=
  if own == peer then s.judgeUndecided p
  else
    let s := s.judgeEnd
    if s.twOwns then
      if own then s else (s.raise Code.TWIN_OWNER_FAULTY p).twinToStandby
    else if s.twStandby then
      if own then s.twinTake true
      else ((s.updTwin fun t => { t with faulty := true }).setBit Reg.TWIN_HEALTH 0 false).raise Code.TWIN_STANDBY_FAULTY p
    else s

/-- Start the judgement of a sub-frame: recompute its frame CRC from its final plate and send the verdict (R595). -/
def judgeStart (s : State) (x : TItem) (crc : Word) : State :=
  let r := s.active x.port
  let s := s.noteUe 0x3FFF (r.addr 0x28 + x.c % 3 * (r.lineBytes * r.h)) (r.lineBytes * r.h)
  let re := s.finalCrc r (x.c % 3)
  let own := re == crc
  let s := (s.inc Reg.TWIN_JUDGE_CNT).setBit Reg.TWIN_STATUS 8 true
  let s := s.updTwin fun t => { t with judge := some ⟨x.port, x.s, x.a, own, s.mono⟩ }
  let s := s.twinSend 11 [BitVec.ofNat 32 (x.port + x.s * 2 ^ 16 + b2n (!own) * 2 ^ 24 + 2 ^ 25), x.a, re, crc]
  match s.twin.early with
  | some (p, sf, n, v) =>
    if p = x.port ∧ sf = x.s ∧ n = x.a then s.judgeOutcome x.port own v else s
  | none => s

/-- Withdraw the twin source of minimum mode (R596). -/
def undecClear (s : State) : State :=
  let s := s.setBit Reg.TWIN_STATUS 9 false
  (List.range 4).foldl (fun s p => s.minSrcClear p 2) s

/-! ### Comparison (R584 to R586) -/

/-- A plate sub-frame whose two CRCs are present. -/
def comparePlate (s : State) (x : TItem) (own peer : Word) : State :=
  if !x.aligned then s
  else
    let s := s.inc Reg.TWIN_CMP_CNT
    let p := x.port
    if own = peer then
      let s := s.updTwin fun t => { t with run := t.run.put 0 p 0, good := t.good.put 0 p (min 65536 (t.good.get 0 p + 1)) }
      let s := s.showRun
      if s.twSync then
        let s := s.updTwin fun t => { t with faulty := false }
        (if s.bit Reg.TWIN_STATUS 9 then s.undecClear else s).noteReady
      else s
    else
      let s := s.updTwin fun t => { t with run := t.run.put 0 p (t.run.get 0 p + 1), good := t.good.put 0 p 0 }
      let s := (s.inc Reg.TWIN_MISM_CNT).showRun
      let s := (s.setReg Reg.TWIN_LAST_MISM (BitVec.ofNat 32 (p + x.s * 16))).setReg Reg.TWIN_LAST_MISM_FRAME x.a
      let s := (s.raiseFrameAll Code.TWIN_MISMATCH p).noteReady
      if s.mismN ≤ s.twin.run.get 0 p ∧ s.twin.judge = none then s.judgeStart x own else s

/-- A fixture job whose two CRCs are present (R586). -/
def compareJob (s : State) (x : TItem) (own peer : Word) : State :=
  let s := s.inc Reg.TWIN_CMP_CNT
  if own = peer then s else (s.inc Reg.TWIN_FIXMISM_CNT).raiseFrameAll Code.TWIN_FIX_MISMATCH x.port

/-- The two entries name the same item. -/
def sameItem (x y : TItem) : Bool := x.kind == y.kind && x.port == y.port && x.s == y.s && x.a == y.a && x.b == y.b

/-- A CRC of either side arrives: the item is compared once both are present (R584). -/
def twinPut (s : State) (x : TItem) : State :=
  match s.twin.items.find? (sameItem x) with
  | none => s.updTwin fun t => { t with items := t.items ++ [x] }
  | some y =>
    let z := if x.own.isSome then { x with peer := y.peer } else { y with peer := x.peer }
    match z.own, z.peer with
    | some own, some peer =>
      let s := s.updTwin fun t => { t with items := t.items.filter fun w => !sameItem x w }
      if z.kind = 1 then s.comparePlate z own peer else s.compareJob z own peer
    | _, _ => s.updTwin fun t => { t with items := t.items.map fun w => if sameItem x w then z else w }

/-- An own CRC is sent to the peer and enters the comparison, while the twin link is UP (R584, R590). -/
def twinOwn (s : State) (x : TItem) (crc : Word) : State :=
  if !(s.twEn && s.twinLinkUp) then s
  else
    let s := s.twinSend 8 [BitVec.ofNat 32 (x.kind + x.port * 2 ^ 8 + x.s * 2 ^ 16), x.a, x.b, crc]
    s.twinPut { x with own := some crc, at' := s.mono }

/-- Own CRC of a sub-frame, at its LE or where its LE would be (R582, R584). -/
def twinSubframe (s : State) (p : Nat) (x : SubFrame) : State :=
  s.twinOwn { kind := 1, port := p, s := x.s, a := BitVec.ofNat 32 x.n, b := 0, at' := s.mono, c := x.c.toNat, aligned := x.aligned } x.crc

/-- FEED_SYNC: an unaligned cut clears it until SYNC_N sub-frames on every port are aligned (R588). -/
def noteAligned (s : State) (p : Nat) (ok : Bool) : State :=
  let s := s.updTwin fun t => { t with
    feedGood := t.feedGood.put 0 p (if ok then min 65536 (t.feedGood.get 0 p + 1) else 0), feedBad := t.feedBad || !ok }
  if s.enPorts.all fun q => decide (s.syncN ≤ s.twin.feedGood.get 0 q) then s.updTwin fun t => { t with feedBad := false } else s

/-- The owner names what it applied at a cut (R587). -/
def sendTcut (s : State) (p : Nat) (nsf : Nat × Nat) : State :=
  let o := s.occ p
  if s.twOwns && s.bit Reg.TWIN_GATE p then
    s.twinSend 9 ([BitVec.ofNat 32 (p + nsf.2 * 2 ^ 16), BitVec.ofNat 32 nsf.1, BitVec.ofNat 32 o.applied,
      BitVec.ofNat 32 o.seqs.length] ++ o.seqs.flatMap fun x => [x.1, x.2])
  else s

/-- How long before a start phase the cut is made: 10 µs, less CUT_LAG_US on a standby (R334, R587). -/
def cutNs (s : State) (p : Nat) : Nat := 10000 - (if s.twinFollows p then s.fld Reg.TWIN_CMP 23 16 * 1000 else 0)

/-- The cut for the sub-frame of start phase `st`, with its TCUT or alignment (R334, R587, R588). -/
def cutMake (s : State) (p : Nat) (st : DWord) : State :=
  let s := s.occCut p st
  let s := if s.twEn && s.bit Reg.TWIN_GATE p then s.noteAligned p (s.occ p).aligned else s
  s.sendTcut p (s.sfOf p (st + s.leadPh p))

end State

/-- OCC_CUT: 10 µs before a start phase the cut is made (R334), CUT_LAG_US later on a standby (R587). `mismatch` names a region whose
stored geometry the guard finds different; `parity` is a parity error in the guard's storage (R345): hardware errors, which the command
brings. -/
def execOccCut (p : PortId) (mismatch : Option (Fin 256)) (parity : Bool) (s : State) : Host.Outcome State Fault Refusal :=
  let q := p.val
  let st := s.startOf q (s.nextLatch q (s.port q).lastPh)
  let early := BitVec.ofNat 64 (s.cutNs q * s.incNom / 2 ^ 32)
  if !s.pEn q || s.stopped || phaseBefore s.phase (st - early) || (s.occ q).cutFor == some st then .next s
  else
    let s := s.cutMake q st
    let s := match mismatch with
      | some r => if (s.occ q).cut.any fun x => x.no == r.val then
          ((s.inc (Reg.OCC_GEOM_CNT + State.pOfs q)).guardHold q).raise Code.OCC_GEOM_MISMATCH q [BitVec.ofNat 32 r.val] else s
      | none => s
    .next (if parity then (s.guardHold q).raise Code.OCC_GUARD_ECC q else s)

end Sys2Proof.Machine
end

