-- ==== Sys2Proof/Machine/MacBase.lean ====
section
/-!
DEFINITION. MAC ports: registers, shapers, pauses, queues and write-backs (11_network_ports.md R479 to R501).
-/
namespace Sys2Proof.Machine

open Sys2Proof

/-- A register of port p, from the offset of fixture port 0's register (R479). -/
def macA (p a : Nat) : Nat :=
  a - 0x600000 + (if p < 32 then 0x600000 + 0x1000 * p else if p < 36 then 0x680000 + 0x1000 * (p - 32) else 0x6C0000)

/-- Codes of a queue's frame: SENT to ECC (R493). -/
abbrev stSent : Nat := 0
abbrev stLateSent : Nat := 1
abbrev stLateDropped : Nat := 2
abbrev stLinkDropped : Nat := 3
abbrev stRefused : Nat := 4
abbrev stEcc : Nat := 5

/-- A data span of R485 and R509: DRAM, plate memory, or tile memory below the scratch slices. -/
def macSpan (a n : Nat) : Bool := inDram a n || inPlate a n || tileBelowScratch a n

namespace MPort

def queue (v : MPort) (q : Nat) : List MItem := v.queues.get [] q
def setQueue (v : MPort) (q : Nat) (l : List MItem) : MPort := { v with queues := v.queues.put [] q l }
/-- Pending jobs of the port. -/
def jobs (v : MPort) : Nat := (List.range 8).foldl (fun n q => n + ((v.queue q).filter fun i => i.job.isSome).length) 0

end MPort

namespace State

def mfld (s : State) (p a hi lo : Nat) : Nat := s.fld (macA p a) hi lo
def mbit (s : State) (p a i : Nat) : Bool := s.bit (macA p a) i
def minc (s : State) (p a : Nat) : State := s.inc (macA p a)
def mport (s : State) (p : Nat) : MPort := s.macs.get {} p
def setMport (s : State) (p : Nat) (v : MPort) : State := { s with macs := s.macs.put {} p v }

/-- Port rate in Mb/s (R479). -/
def macRate (s : State) (p : Nat) : Nat :=
  if p < 32 then match s.mfld p Reg.MAC_CTRL 2 1 with
    | 0 => 1000
    | 1 => 2500
    | 2 => 5000
    | _ => 10000
  else if p < 36 then 25000
  else if s.mfld p Reg.MAC_CTRL 2 1 = 0 then 1000 else 100

def macUp (s : State) (p : Nat) : Bool := s.mbit p Reg.MAC_CTRL 0 && s.mbit p Reg.MAC_STATUS 0
def maxFrame (s : State) (p : Nat) : Nat := s.mfld p Reg.MAC_MAXFRAME 13 0

/-- Time of n bytes on the wire with preamble and gap, in ns (R489). -/
def wireNs (s : State) (p n : Nat) : Nat := (n + 20) * 8000 / s.macRate p

def macPaused (s : State) (p q : Nat) : Bool :=
  match (s.mport p).pause.get none q with
  | some (t, _, _) => decide (s.mono < t)
  | none => false

/-- STATUS.PAUSED and JOBS follow the queues. -/
def macRefresh (s : State) (p : Nat) : State :=
  let m := (List.range 8).foldl (fun n q => n + (if s.macPaused p q then 2 ^ q else 0)) 0
  (s.setFld (macA p Reg.MAC_STATUS) 15 8 m).setFld (macA p Reg.MAC_STATUS) 20 16 (s.mport p).jobs

/-! ### Shapers (R494) -/

/-- Idle slope of a queue in kb/s. -/
def slope (s : State) (p q : Nat) : Nat := if p < 36 then (s.reg (macA p Reg.MAC_CBS + 4 * q)).toNat else 0

/-- Credit of a queue after dt ns; with every slope in kb/s, credit counts 10^-6 bit. -/
def creditStep (s : State) (p q dt : Nat) : Int :=
  let v := s.mport p
  let c := v.credit.get 0 q
  let sl : Int := s.slope p q
  let r : Int := s.macRate p * 1000
  let hi := (s.maxFrame p : Int) * 8 * sl * 1000000 / r
  let lo := (s.maxFrame p : Int) * 8 * (sl - r) * 1000000 / r
  let c := if (v.cur.map fun x => x.q) == some q then c + (sl - r) * dt
    else if !(v.queue q).isEmpty then c + sl * dt
    else if 0 < c then 0 else c
  clampI lo hi c

/-- Bring every queue's credit up to the present time. -/
def credits (s : State) (p : Nat) : State :=
  let v := s.mport p
  let dt := s.mono - v.creditAt
  let cs := (List.range 8).foldl (fun (m : SMap Int) q => m.put 0 q (if s.slope p q = 0 then 0 else s.creditStep p q dt)) {}
  s.setMport p { v with credit := cs, creditAt := s.mono }

def creditOk (s : State) (p q : Nat) : Bool := s.slope p q == 0 || decide (0 ≤ (s.mport p).credit.get 0 q)

/-! ### Write-backs (R493) -/

def txDoneRing (s : State) : Nat := s.fld Reg.MAC_RINGS 21 16

/-- PTP time in 2^-16 ns. -/
def ptp16 (s : State) : Nat := s.ptpNs * 65536 + s.ptpSub

/-- Post a write-back; it waits while the ring is full (R540). -/
def postWb (s : State) (p : Nat) (e : Entry) : State :=
  let v := s.mport p
  if !v.wbWait.isEmpty || (s.ringEn s.txDoneRing && !s.ringRoom s.txDoneRing 1) then s.setMport p { v with wbWait := v.wbWait ++ [e] }
  else (s.ringUnit s.txDoneRing [e]).2

/-- Complete a frame of a descriptor: its write-back, when one is due. -/
def txComplete (s : State) (p q : Nat) (i : MItem) (status len : Nat) (stamp : Option Nat) (late : Nat) : State :=
  if i.job.isSome || !(i.wb || i.ts || decide (2 ≤ status)) then s
  else
    let t := (if i.ts then stamp else none).getD 0
    let ns := t / 65536
    let ts := i.ts && stamp.isSome
    let w1 := p % 64 + q % 8 * 2 ^ 6 + status * 2 ^ 9 + len * 2 ^ 16
    s.postWb p (entryOfWords [entryHead 0x61 true true (decide (2 ≤ status)) ts, BitVec.ofNat 32 w1,
      BitVec.ofNat 32 (ns % 1000000000), BitVec.ofNat 32 (ns / 1000000000),
      BitVec.ofNat 32 (ns / 1000000000 / 2 ^ 32 % 65536 + t % 65536 * 65536), BitVec.ofNat 32 (min late 0xFFFFFFFF), 0, i.cookie])

/-- Every frame and job queued for a port is discarded (R481). -/
def macDiscard (s : State) (p : Nat) : State :=
  let s := (List.range 8).foldl (fun s q =>
    let s := ((s.mport p).queue q).foldl (fun s i => s.txComplete p q i stLinkDropped 0 none 0) s
    s.setMport p ((s.mport p).setQueue q [])) s
  let s := match (s.mport p).cur with
    | some c =>
      let s := s.setMport p { s.mport p with cur := none }
      match c.item with
      | some i => s.txComplete p c.q i stLinkDropped 0 none 0
      | none => s
    | none => s
  (s.setMport p { s.mport p with pfcDue := none, xoff := none, lpi := 0 }).macRefresh p

/-! ### Pauses (R495 to R498) -/

/-- Pause a queue for a number of quanta from now; 0 ends the pause (R495, R496). -/
def pauseQueue (s : State) (p q quanta : Nat) : State :=
  let v := s.mport p
  let t := s.mono + quanta * 512000 / s.macRate p
  let x := if quanta = 0 then none else match v.pause.get none q with
    | some (u, f, r) => if s.mono < u then some (t, f, r) else some (t, s.mono, false)
    | none => some (t, s.mono, false)
  s.setMport p { v with pause := v.pause.put none q x }

/-- Bytes in a port's receive FIFO. -/
def fifoBytes (s : State) (p : Nat) : Nat := (s.mport p).fifo.foldl (fun n f => n + f.data.length) 0

/-- The port's MAC address, byte 0 first. -/
def macAddr (s : State) (p : Nat) : List Byte :=
  leBytes 4 (s.reg (macA p Reg.MAC_MAC_ADDR_LO)).toNat ++ leBytes 2 (s.mfld p Reg.MAC_MAC_ADDR_HI 15 0)

/-- A frame with padding to 60 bytes and its FCS, inverted when the data is bad (R485, R492). -/
def withFcs (b : List Byte) (bad : Bool) : List Byte :=
  let b := b ++ List.replicate (60 - b.length) 0
  let c := crc32 b
  b ++ leBytes 4 (if bad then ~~~c else c).toNat

/-- The PFC frame of the priorities in TX_EN (IEEE 802.1Qbb). -/
def pfcFrame (s : State) (p quanta : Nat) : List Byte :=
  let en := s.mfld p Reg.MAC_PFC 7 0
  let t := (List.range 8).flatMap fun i => beBytes 2 (if en / 2 ^ i % 2 = 1 then quanta else 0)
  withFcs ([0x01, 0x80, 0xC2, 0x00, 0x00, 0x01] ++ s.macAddr p ++ [0x88, 0x08, 0x01, 0x01] ++ beBytes 2 en ++ t) false

/-- Send a PFC frame, at the next frame boundary when a frame is in progress (R498). -/
def sendPfc (s : State) (p quanta : Nat) : State :=
  let v := s.mport p
  if v.cur.isSome then s.setMport p { v with pfcDue := some quanta }
  else (s.setMport p { v with pfcDue := none, sent := s.pfcFrame p quanta }).minc p Reg.MAC_PFC_TX_CNT

/-! ### Register writes -/

/-- Lane settings that R481 and the CTRL table refuse. -/
def macCtrlBad (s : State) (p : Nat) (v : Word) : Bool :=
  let old := s.reg (macA p Reg.MAC_CTRL)
  (wfld old 0 0 == 1 && (wfld v 3 1 != wfld old 3 1 || wfld v 5 4 != wfld old 5 4))
    || (p == 36 && wfld v 2 2 == 1) || (32 ≤ p && decide (p < 36) && wfld v 5 4 == 3)

/-- A write of CTRL (R481). -/
def macCtrlEffect (s : State) (ag : Agent) (p : Nat) (v : Word) : State :=
  if s.macCtrlBad p v then s.raise Code.MAC_CFG_ERR p
  else
    let was := s.mbit p Reg.MAC_CTRL 0
    let s := (s.credits p).plainWrite ag (macA p Reg.MAC_CTRL) v
    if was && !s.mbit p Reg.MAC_CTRL 0 then
      (s.macDiscard p).setFld (macA p Reg.MAC_STATUS) 4 0 0
    else s

/-- A write of an idle slope (R494). -/
def cbsEffect (s : State) (ag : Agent) (p q : Nat) (v : Word) : State :=
  let sum := (List.range 8).foldl (fun n k => n + (if k = q then v.toNat else s.slope p k)) 0
  if s.macRate p * 1000 < sum then s.raise Code.MAC_CFG_ERR p
  else (s.credits p).plainWrite ag (macA p Reg.MAC_CBS + 4 * q) v

/-- A write of EEE (R500). -/
def eeeEffect (s : State) (ag : Agent) (p : Nat) (v : Word) : State :=
  let r := s.mfld p Reg.MAC_CTRL 2 1
  if wfld v 0 0 = 1 ∧ ¬(p < 32 ∧ (r = 0 ∨ r = 3)) then s.raise Code.MAC_CFG_ERR p
  else s.plainWrite ag (macA p Reg.MAC_EEE) v

/-- A write of MAXFRAME: 1,522 to 9,216. -/
def maxFrameEffect (s : State) (ag : Agent) (p : Nat) (v : Word) : State :=
  if 1522 ≤ wfld v 13 0 ∧ wfld v 13 0 ≤ 9216 then (s.credits p).plainWrite ag (macA p Reg.MAC_MAXFRAME) v
  else s.raise Code.MAC_CFG_ERR p

/-- The loss of link (R481). -/
def macLinkLost (s : State) (p : Nat) : State :=
  if !s.mbit p Reg.MAC_STATUS 0 then s
  else
    let s := ((s.credits p).macDiscard p).setFld (macA p Reg.MAC_STATUS) 4 0 0
    if s.mbit p Reg.MAC_CTRL 0 then s.raise Code.MAC_LINK_DOWN p else s

end State

/-! ### Commands -/

/-- MAC_CTRL_WRITE. -/
def execMacCtrlWrite (ag : Agent) (p : MacId) (v : Word) (s : State) : Host.Outcome State Fault Refusal :=
  .next (s.writeBy ag (macA p.val Reg.MAC_CTRL) fun s => s.macCtrlEffect ag p.val v)

/-- MAC_LINK_UP (R480, R526, R731). -/
def execMacLinkUp (p : MacId) (an : Option (BitVec 16)) (s : State) : Host.Outcome State Fault Refusal :=
  if !s.mbit p.val Reg.MAC_CTRL 0 || s.mbit p.val Reg.MAC_STATUS 0 || (decide (p.val < 36) && !s.refOk (p.val + 16)) then .next s
  else
    let auto := decide (p.val < 32) && s.mfld p.val Reg.MAC_CTRL 2 1 == 0 && s.mbit p.val Reg.MAC_CTRL 3
    let s := s.setBit (macA p.val Reg.MAC_STATUS) 0 true
    let s := match an with
      | some w => if auto then (s.setBit (macA p.val Reg.MAC_STATUS) 1 true).setReg (macA p.val Reg.MAC_AN_LP) (w.setWidth 32) else s
      | none => s
    let s := if 32 ≤ p.val ∧ p.val < 36 ∧ s.mfld p.val Reg.MAC_CTRL 5 4 ≠ 0 then s.setBit (macA p.val Reg.MAC_STATUS) 4 true else s
    let s := s.setMport p.val { s.mport p.val with idleAt := s.mono }
    .next (s.raise Code.MAC_LINK_UP p.val)

/-- MAC_LINK_LOSS (R481). -/
def execMacLinkLoss (p : MacId) (s : State) : Host.Outcome State Fault Refusal := .next (s.macLinkLost p.val)

/-- PFC_RECEIVE (R495, R496). -/
def execPfcReceive (p : MacId) (en : Byte) (quanta : BitVec 128) (s : State) : Host.Outcome State Fault Refusal :=
  if !s.macUp p.val then .next s
  else
    let s := (s.credits p.val).minc p.val Reg.MAC_PFC_RX_CNT
    if p.val = 36 || !s.mbit p.val Reg.MAC_PFC 8 then .next s
    else
      .next (((List.range 8).foldl (fun s i =>
        if en.getLsbD i then s.pauseQueue p.val (s.mfld p.val Reg.MAC_PRIOMAP (3 * i + 2) (3 * i)) (bits quanta (16 * i + 15) (16 * i))
        else s) s).macRefresh p.val)

/-- PAUSE_RECEIVE (R497). -/
def execPauseReceive (p : MacId) (quanta : BitVec 16) (s : State) : Host.Outcome State Fault Refusal :=
  if !s.macUp p.val then .next s
  else
    let s := (s.credits p.val).minc p.val Reg.MAC_PFC_RX_CNT
    if !s.mbit p.val Reg.MAC_CTRL 8 then .next s
    else .next (((List.range (if p.val = 36 then 2 else 8)).foldl (fun s q => s.pauseQueue p.val q quanta.toNat) s).macRefresh p.val)

/-- PAUSE_TIMER_EXPIRE (R495). -/
def execPauseTimerExpire (p : MacId) (q : Fin 8) (s : State) : Host.Outcome State Fault Refusal :=
  match (s.mport p.val).pause.get none q.val with
  | some (t, _, _) =>
    if s.mono < t then .next s
    else
      let s := s.credits p.val
      let v := s.mport p.val
      .next ((s.setMport p.val { v with pause := v.pause.put none q.val none }).macRefresh p.val)
  | none => .next s

/-- PAUSE_LONG: paused for longer than WDOG_MS; once for each pause (R498). -/
def execPauseLong (p : MacId) (q : Fin 8) (s : State) : Host.Outcome State Fault Refusal :=
  match (s.mport p.val).pause.get none q.val with
  | some (t, f, false) =>
    if p.val < 36 ∧ s.mono < t ∧ f + s.mfld p.val Reg.MAC_PFC 31 16 * 1000000 < s.mono then
      let v := s.mport p.val
      .next ((s.setMport p.val { v with pause := v.pause.put none q.val (some (t, f, true)) }).raise Code.MAC_PAUSE_LONG p.val
        [BitVec.ofNat 32 q.val])
    else .next s
  | _ => .next s

/-- PFC_XOFF: the receive FIFO reaches XOFF (R498). -/
def execPfcXoff (p : MacId) (s : State) : Host.Outcome State Fault Refusal :=
  if p.val = 36 ∨ s.macUp p.val = false ∨ s.mfld p.val Reg.MAC_PFC 7 0 = 0 ∨ (s.mport p.val).xoff.isSome
      ∨ s.fifoBytes p.val < s.mfld p.val Reg.MAC_PFC_THR 15 0 * 64 then .next s
  else .next ((s.setMport p.val { s.mport p.val with xoff := some s.mono }).sendPfc p.val 0xFFFF)

/-- PFC_REFRESH: each time half the quanta has passed (R498). -/
def execPfcRefresh (p : MacId) (s : State) : Host.Outcome State Fault Refusal :=
  match (s.mport p.val).xoff with
  | some t =>
    if s.mono < t + 0xFFFF * 256000 / s.macRate p.val then .next s
    else .next ((s.setMport p.val { s.mport p.val with xoff := some s.mono }).sendPfc p.val 0xFFFF)
  | none => .next s

/-- PFC_XON: the receive FIFO falls to XON (R498). -/
def execPfcXon (p : MacId) (s : State) : Host.Outcome State Fault Refusal :=
  if (s.mport p.val).xoff.isNone ∨ s.mfld p.val Reg.MAC_PFC_THR 31 16 * 64 < s.fifoBytes p.val then .next s
  else .next ((s.setMport p.val { s.mport p.val with xoff := none }).sendPfc p.val 0)

end Sys2Proof.Machine
end

