-- ==== Sys2Proof/Machine/PlateRun.lean ====
section
/-!
DEFINITION. The sub-frames of a plate port: commits, latches, layers and pins, render, stream, latch, completion
(05_plate_pipeline.md R216 to R226, R238 to R271; 06_plate_link.md R288 to R310).
-/
namespace Sys2Proof.Machine

open Sys2Proof

namespace State

/-- Offset of register `a` of port 0 for port p. -/
abbrev pReg (a p : Nat) : Nat := a + pOfs p

/-! ### Leads and commits -/

/-- Limits of the lead of a running port at the nominal rate, for its active values (R221, R222). -/
def leadClamp (s : State) (p : Nat) : Int :=
  let r := s.active p
  let one (q : Nat) := (s.active q).tLink (s.port q).rate (s.port q).lanes
  let lo : Nat := max r.rBound ((s.pairPorts p).foldl (fun t q => max t (one q)) 0) + 4000
  let hi : Int := ((2 ^ 64 / (s.incNom * r.kk) : Nat) : Int) - 10000
  let v : Int := (s.port p).lead
  if v < lo then lo else if hi < v then hi else v

/-- A change of SID_INC_NOM clamps the leads of the running ports that it breaks (R221). -/
def clampLeads (s : State) : State :=
  s.enPorts.foldl (fun s p =>
    let v := s.leadClamp p
    if v = (s.port p).lead then s
    else ((s.updPort p fun q => { q with lead := v.toNat }).setBit (pReg Reg.PLATE_STATUS p) 2 true).raise Code.PLATE_LEAD_CLAMP p) s

/-- A committed write of SID_INC_NOM with its effect on running ports (R48, R221). -/
def incNomWrite (s : State) (v : DWord) : State :=
  let t := s.sidIncNomEffect v
  if t.incNom = s.incNom then t else t.clampLeads

/-- COMMIT of either port of a pair takes effect at an s = 0 start: both ports' staged values become active, or CFG_ERR
(R221, R246, R268, R269). -/
def commitTake (s : State) (p : Nat) : State :=
  let ps := s.pairPorts p
  if !ps.any fun q => s.bit (pReg Reg.PLATE_CMD q) 0 then s
  else
    let ok := ps.all s.cfgOk
    let s := ps.foldl (fun s q => s.setBit (pReg Reg.PLATE_CMD q) 0 false) s
    if ok then (ps.filter s.pEn).foldl (fun s q => s.activate q) s else s.raise Code.PLATE_CFG_ERR p

/-- Setting COMMIT: a locked pair whose staged values disagree is refused at once (R268, R269, R305). -/
def commitSet (s : State) (p : Nat) : State :=
  if s.paired p && decide (s.pairKey p ≠ s.pairKey (mate p)) then s.raise Code.PLATE_CFG_ERR p
  else s.setBit (pReg Reg.PLATE_CMD p) 0 true

/-! ### Latches, layers and pins (R238 to R244, R247, R270) -/

/-- The selections, master and mesh of a latch take effect at its target's start (R239). -/
def latchApply (s : State) (p : Nat) (x : Latch) : State :=
  let ls := (List.range 8).filter fun l => x.mask / 2 ^ l % 2 == 1
  let s := ls.foldl (fun s l => s.setReg (pReg Reg.PLATE_L_GEN p + 0x20 * l) x.gen) s
  s.updPort p fun v => { v with
    layers := ls.foldl (fun m l => m.put {} l { m.get {} l with freeOld := x.freeOld }) v.layers
    master := x.master.getD v.master
    mesh := x.mesh.getD v.mesh }

/-- Latches whose target is not after the sub-frame of latch phase `l`, in firing order (R242, R244). -/
def latchTake (s : State) (p : Nat) (l : DWord) : State :=
  let due (x : Latch) : Bool := match x.target with
    | none => true
    | some t => !phaseBefore l t
  let xs := (s.port p).latches.filter due
  let s := s.updPort p fun v => { v with latches := v.latches.filter fun x => !due x }
  xs.foldl (fun s x => s.latchApply p x) s

/-- Release a pin; a generation to be freed is freed then (R241). -/
def releasePin (s : State) (r : Release) : State :=
  let s := s.bufUnpin r.buf r.gen
  if r.freeOld then (s.bufFree r.buf r.gen false).2 else s

/-- Release pins at the completion of the last sub-frame started, or now where it is complete (R241). -/
def releaseAfter (s : State) (p : Nat) (rs : List Release) : State :=
  match (s.port p).sfs.getLast? with
  | some x => s.updSf p x.latch fun y => { y with rel := y.rel ++ rs }
  | none => rs.foldl releasePin s

/-- One layer at a sub-frame's start: it renders from its selection, from the generation held, or not at all (R240, R247). -/
def layerStart (s : State) (p l : Nat) : State :=
  let r := s.active p
  let v := s.port p
  let old := v.layers.get {} l
  let b := r.lBuf l
  let g := s.reg (pReg Reg.PLATE_L_GEN p + 0x20 * l)
  let put (s : State) (x : Layer) (st : Nat) : State :=
    (s.updPort p fun v => { v with layers := v.layers.put {} l x }).setReg (pReg Reg.PLATE_L_STATE p + 0x20 * l) (BitVec.ofNat 32 st)
  if !r.lEn l then put s { old with held := none, draw := false } 0
  else
    let bf := s.buf b
    let fits := bf.valid && decide (r.lH l * r.lStride l ≤ bf.slotSize)
    let have' := v.pins.any fun x => x.buf == b && x.gen == g
    if fits && (have' || bf.holds g [2]) then
      let s := if have' then s else
        (s.bufPin b g).updPort p fun v => { v with pins := v.pins ++ [⟨b, g, false⟩] }
      put s { old with held := some (b, g), draw := true } 1
    else
      let s := (s.inc (pReg Reg.PLATE_MISS_CNT p)).raiseFrame Code.PLATE_LAYER_MISS p
      let keep := match old.held with
        | some h => wfld (r.lreg l 0) 6 6 == 1 && h.1 == b
        | none => false
      if keep then put s { old with draw := true } 7 else put s { old with held := none, draw := false } 2

/-- A pin whose layer left it for a new selection with FREE_OLD is freed at its release (R241). -/
def markFree (s : State) (p : Nat) (was : SMap Layer) : State :=
  let r := s.active p
  let v := s.port p
  let left (x : Release) : Bool := (List.range 8).any fun l =>
    (was.get {} l).held == some (x.buf, x.gen) && (v.layers.get {} l).held != some (x.buf, x.gen) && r.lEn l
      && (v.layers.get {} l).freeOld && s.reg (pReg Reg.PLATE_L_GEN p + 0x20 * l) != x.gen
  s.updPort p fun v => { v with pins := v.pins.map fun x => if left x then { x with freeOld := true } else x }

/-- Pins that no layer renders from any more are released (R241). -/
def dropPins (s : State) (p : Nat) : State :=
  let v := s.port p
  let used (x : Release) : Bool := (List.range 8).any fun l => (v.layers.get {} l).held == some (x.buf, x.gen)
  let gone := v.pins.filter fun x => !used x
  (s.updPort p fun v => { v with pins := v.pins.filter used }).releaseAfter p gone

/-- Every layer at a sub-frame's start. -/
def layersStart (s : State) (p : Nat) : State :=
  let was := (s.port p).layers
  let s := (List.range 8).foldl (fun s l => s.layerStart p l) s
  (s.markFree p was).dropPins p

/-- The layers that are drawn, with the base of the slot each renders from. -/
def layersDrawn (s : State) (p : Nat) : List (Nat × Nat) :=
  (List.range 8).filterMap fun l =>
    let x := (s.port p).layers.get {} l
    match x.held with
    | some (b, g) => if x.draw then some (l, (s.buf b).base + (s.buf b).slotOf g * (s.buf b).slotSize) else none
    | none => none

/-! ### What a mode makes of the port (R660, R662, R259, R379) -/

/-- A bind or unbind of a string channel takes effect at a sub-frame start of its port (R379). -/
def bindTake (s : State) (p : Nat) : State :=
  (List.range 32).foldl (fun s n =>
    let b := s.fld (Reg.STR_CFG + 0x40 * n) 3 1
    let was := s.strBind.get 0 n
    if b = p + 1 ∧ was ≠ b then { s with strBind := s.strBind.put 0 n b }
    else if was = p + 1 ∧ b ≠ was then
      { s with strBind := s.strBind.put 0 n 0, strs := s.strs.put {} n { s.strs.get {} n with level := 0, fade := none } }
    else s) s

/-- Dark; background; master; layers drawn. -/
def lookOf (s : State) (p : Nat) : Bool × List Nat × Nat × Bool :=
  let r := s.active p
  let u := s.under
  let dark := s.bit (pReg Reg.PLATE_CTRL p) 12
  let bg := [wfld (r 0x18) 15 0, wfld (r 0x18) 31 16, wfld (r 0x1C) 15 0]
  if u = 6 ∨ u = 0xB then
    let a := s.regAddr Reg.SYS_FS_BASE_LO + 0x10 + 8 * p
    (dark || !s.bit Reg.SYS_FS_STAT 0, [s.memNat (a + 2) 2, s.memNat (a + 4) 2, s.memNat (a + 6) 2], s.memNat a 2, false)
  else (dark || u == 2 || u == 7 || u == 8, bg, (s.port p).master, true)

/-- The array-current value of R259 under the cap of R352, and the value I of R322. -/
def currentOf (s : State) (p : Nat) (dark split : Bool) (master : Nat) : Nat × Nat :=
  let cap := if s.bit (pReg Reg.OCC_STATUS p) 3 then s.fld (pReg Reg.OCC_CAP p) 15 0 else 0xFFFF
  if dark then (0, 0)
  else if split then
    let v := min cap (splitCurrent master (wfld (s.active p 0x54) 15 0))
    (v, v)
  else (min cap 0xFFFF, 0xFFFF)

/-- What the sub-frame (n, sf) renders from. -/
def renderCtx (s : State) (p n sf : Nat) : RCtx × List Nat :=
  let r := s.active p
  let (dark, bg, master, layers) := s.lookOf p
  let split := wfld (r 0x54) 16 16 == 1 && (s.boundChan p).isSome
  let (ret, left, bad) := s.retItems p (s.under == 6 || s.under == 0xB)
  ({ r := r, bg := bg, master := master, dark := dark, split := split, t := (n * r.kk + sf) % 8
     draw := if layers then s.layersDrawn p else [], mesh := r.addr (if (s.port p).mesh then 0x38 else 0x30)
     rgns := (s.occ p).cut, minMode := s.bit (pReg Reg.OCC_STATUS p) 1
     cur := (s.currentOf p dark split master).2, ret := ret, retOmit := left }, bad)

/-! ### Rendering -/

/-- Fetches that met an uncorrectable error: counted, reported once (R249, R701). -/
def renderEcc (s : State) (p : Nat) (ues : List Nat) : State :=
  let s := ues.foldl (fun s a => (s.inc (pReg Reg.PLATE_ECC_CNT p)).reportUe (a / 8 * 8) 0x3FFF) s
  if ues = [] then s else s.raise Code.PLATE_FETCH_ECC p

/-- Lines with more regions or instances than are drawn on them (R330, R364). -/
def renderOvf (s : State) (p : Nat) (c : RCtx) : State :=
  let a := (List.range c.r.h).filter (lineOvf c.rgns)
  let b := (List.range c.r.h).filter (retLineOvf c.ret c.retOmit)
  let s := s.incBy (pReg Reg.OCC_LINEOVF_CNT p) a.length
  let s := if a = [] then s else s.raise Code.OCC_LINE_OVF p
  let s := s.incBy (pReg Reg.OCC_RETOVF_CNT p) b.length
  if b = [] then s else s.raise Code.OCC_RET_OVF p

/-- RENDER_NS: no less than P / 8 ns and no more than R_bound; the spec states no value between (R223, R267, log entry 2). With the
warp on the bound holds under a condition on the mesh only, and no upper bound is used. -/
def renderTime (s : State) (p : Nat) : State :=
  let r := s.active p
  let lo := r.w * r.h / 8
  let x := (s.free 32).toNat
  let t := if r.warp then max lo x else lo + x % (r.rBound - lo + 1)
  let s := s.drawn.setReg (pReg Reg.PLATE_RENDER_NS p) (BitVec.ofNat 32 t)
  s.setReg (pReg Reg.PLATE_RENDER_MAX p) (BitVec.ofNat 32 (max (s.reg (pReg Reg.PLATE_RENDER_MAX p)).toNat t))

/-- The guard meets a code above its limit (R347). -/
def guardViol (s : State) (p : Nat) (c : RCtx) (x y ch code : Nat) : State :=
  let s := s.setReg (pReg Reg.OCC_VIOL_POS p) (BitVec.ofNat 32 (x + y * 2 ^ 16))
  let s := s.setReg (pReg Reg.OCC_VIOL_INFO p)
    (BitVec.ofNat 32 (violRegion c x y + b2n (lineOvf c.rgns y) * 2 ^ 8 + ch * 2 ^ 9 + code * 2 ^ 16))
  ((s.inc (pReg Reg.OCC_VIOL_CNT p)).guardHold p).raise Code.OCC_GUARD_VIOL p [BitVec.ofNat 32 (violRegion c x y)]

/-- A sub-frame without a violation in a guard hold (R348). -/
def guardClean (s : State) (p : Nat) : State :=
  let a := pReg Reg.OCC_STATUS p
  if !s.bit a 0 then s
  else
    let n := min 255 (s.fld a 15 8 + 1)
    let s := s.setFld a 15 8 n
    if max 1 (wfld (s.occ p).ctrl 15 12) ≤ n then s.setBit a 4 true else s

/-- The guard checks the codes that enter the serializer (R346 to R348). -/
def guardCheck (s : State) (p : Nat) (c : RCtx) (lines : List (List Nat)) : State × Bool :=
  match violations c lines with
  | [] => (s.guardClean p, false)
  | (x, y, ch, code) :: _ => (s.guardViol p c x y ch code, true)

/-- Codes the serializer alters by a hardware error: line, code number, code. -/
def alterCodes (alter : List (Nat × Nat × Nat)) (lines : List (List Nat)) : List (List Nat) :=
  alter.foldl (fun ls a => ls.modify a.1 fun l => l.set a.2.1 a.2.2) lines

/-! ### Streaming (R288, R289, R295, R308, R310) -/

/-- The capability check (R310). -/
def capsOk (s : State) (p : Nat) : Bool :=
  let r := s.active p
  let v := s.port p
  match v.ident with
  | none => false
  | some d =>
    let d1 := d.getD 1 0
    let d2 := d.getD 2 0
    decide (r.w ≤ bits d1 44 32) && decide (r.h ≤ bits d1 60 48) && bits d2 r.mode r.mode == 1
      && decide (bits d2 5 2 ≤ r.depth) && decide (r.depth ≤ bits d2 9 6) && bits d2 (10 + v.rate) (10 + v.rate) == 1
      && decide (v.lanes ≤ bits d2 15 14) && decide (s.incNom * 1000000000 * r.kk ≤ bits d2 47 32 * 2 ^ 64)
      && decide (bits d2 63 48 ≤ 1000 * s.fld (pReg Reg.PLATE_TE p) 15 0)

/-- A link in READY that can stream does so from this start on; a failing capability check is reported once (R308 to R310). -/
def streamEntry (s : State) (p : Nat) : State :=
  let ps := s.pairPorts p
  let ready (q : Nat) : Bool := s.lState q == 5 || s.lState q == 6
  if !(ps.all fun q => ready q && s.pEn q && s.portGate q) then s
  else
    let bad := ps.filter fun q => s.lState q == 5 && !s.capsOk q
    let s := bad.foldl (fun s q => if (s.port q).capsRaised then s else
      (s.updPort q fun v => { v with capsRaised := true }).raise Code.PLATE_ENG_CAPS q) s
    if bad = [] then (ps.filter fun q => s.lState q == 5).foldl (fun s q => s.setLState q 6) s else s

/-- Both ports of a pair have been released (R289, R307). -/
def releasedAll (s : State) (p : Nat) : Bool := (s.pairPorts p).all fun q => (s.port q).released

/-- FS leaves (R283, R289). -/
def sendFs (s : State) (p : Nat) (x : SubFrame) : State :=
  let s := s.updSf p x.latch fun y => { y with fs := true }
  let s := s.setFld (pReg Reg.PLATE_LINK_WDOG p) 31 16 (s.wdogAct p)
  s.updPort p fun v => { v with outFs := s.fsPacket p x.n x.s x.c }

/-- The FS that waits for the release leaves. -/
def fsWaiting (s : State) (p : Nat) : State :=
  if !s.releasedAll p then s
  else (s.pairPorts p).foldl (fun s q =>
    if s.lState q ≠ 6 then s
    else match (s.port q).sfs.find? fun x => x.stream && !x.fs && x.le.isNone with
      | some x => s.sendFs q x
      | none => s) s

/-! ### Completion (R224, R226, R241, R293, R297) -/

/-- A sub-frame is complete: LC_LOST where its LC has not come, the count of R297, and its releases. -/
def completeSf (s : State) (p : Nat) (x : SubFrame) : State :=
  let s := s.updPort p fun v => { v with sfs := v.sfs.filter fun y => y.latch != x.latch }
  let sent := x.stream && x.le.isSome
  let s := if sent && !x.lc then (s.inc (pReg Reg.PLATE_LC_LOST_CNT p)).raiseFrame Code.PLATE_LC_LOST p else s
  let s := if sent then s.updPort p fun v => { v with stall := if x.te || x.lc then 0 else v.stall + 1 } else s
  x.rel.foldl releasePin s

/-- A sub-frame without LE at the next latch phase is abandoned (R226). -/
def abandonSf (s : State) (p : Nat) (x : SubFrame) : State :=
  let s := (s.inc (pReg Reg.PLATE_ABANDON_CNT p)).raise Code.PLATE_SF_ABANDON p
  s.completeSf p { x with stream := false }

/-- The sub-frame still owes its LE. -/
def owesLe (x : SubFrame) : Bool := x.stream && x.le.isNone

/-- Earlier sub-frames at a latch phase: complete, or abandoned. -/
def closeSf (s : State) (p : Nat) (x : SubFrame) : State := if owesLe x then s.abandonSf p x else s.completeSf p x

/-! ### The start of a sub-frame -/

/-- A start phase passed in the first 10 µs after EN, or jumped over (R218). -/
def skipOne (s : State) (p : Nat) : State := (s.inc (pReg Reg.PLATE_SKIP_CNT p)).raiseFrame Code.PLATE_SF_SKIP p

/-- Render, check, write and, on a link in STREAM, stream one sub-frame (R217 to R219, R240 to R266, R288, R295, R299). -/
def subframeRun (s : State) (p : Nat) (l : DWord) (alter : List (Nat × Nat × Nat)) : State :=
  let (n, sf) := s.sfOf p l
  let c := s.reg (pReg Reg.PLATE_SF_CNT p) + 1
  let s := (s.setReg (pReg Reg.PLATE_SF_CNT p) c).setFld (pReg Reg.PLATE_STATUS p) 6 4 sf
  let s := if s.pState p = 1 then s.setPState p 2 else s
  let s := ((s.latchTake p l).layersStart p).bindTake p
  let (ctx, badInsts) := s.renderCtx p n sf
  let cur := (s.currentOf p ctx.dark ctx.split ctx.master).1
  let s := s.setBit (pReg Reg.PLATE_STATUS p) 3 ctx.split
  let s := badInsts.foldl (fun s k => s.raise Code.OCC_GLYPH_ECC p [BitVec.ofNat 32 k]) s
  let lines0 := s.frameCodes ctx
  let ms := s.probes p ctx lines0
  let s1 := ((s.renderEcc p (s.frameUes ctx)).renderOvf p ctx).renderTime p
  let lines := replaceCodes ctx ms (s.fld (Reg.STRDIAG_PROBE + 0x80 * p) 13 0) lines0
  let s := s1.incBy (Reg.STRDIAG_PROBE_CNT + 0x80 * p) ms.length
  let s := (s.markProbed p ms).writeFinal ctx.r (c.toNat % 3) lines
  let sent := alterCodes alter lines
  let s := s.streamEntry p
  let stream := s.streaming p && s.portGate p
  let s := if stream then s else s.inc (pReg Reg.PLATE_NOLINK_CNT p)
  let x : SubFrame := {
    n := n, s := sf, c := c, latch := l, crc := frameCrc ctx.r.depth sent, current := some cur, stream := stream
    blank := s.blankHold p, aligned := (s.occ p).aligned }
  let s := s.updPort p fun v => { v with sfs := v.sfs ++ [x] }
  let s := s.fsWaiting p
  let (s, viol) := s.guardCheck p ctx sent
  s.updSf p l fun y => { y with viol := viol }

/-- SUBFRAME_START of a port whose next start phase is reached; a cut not made before is made at the start (R334). -/
def subframeStart (s : State) (p : Nat) (alter : List (Nat × Nat × Nat)) : State :=
  let l := s.nextLatch p (s.port p).lastPh
  let take (s : State) : State := s.updPort p fun v => { v with lastPh := s.startOf p l }
  if s.mono < (s.port p).enAt + 10000 then (take s).skipOne p
  else
    let st := s.startOf p l
    let s := if (s.occ p).cutFor == some st then s else s.cutMake p st
    let s := if (s.sfOf p l).2 = 0 then s.commitTake p else s
    (take s).subframeRun p l alter

/-! ### The latch phase -/

/-- The LE of a streamed sub-frame, or its lateness (R223, R225, R299). -/
def latchSend (s : State) (p : Nat) (x : SubFrame) (done : Bool) : State :=
  if !x.stream || x.le.isSome then s
  else if x.fs && (x.blank || done) then s.sendLe p x x.blank
  else (s.inc (pReg Reg.PLATE_LATE_CNT p)).raiseFrame Code.PLATE_SF_LATE p

/-- A standby knows what the owner's LE names: its own sub-frame of that latch (R304). -/
def latchShadow (s : State) (p : Nat) (x : SubFrame) : State :=
  if s.portGate p then s
  else s.updPort p fun v => { v with teAt := none, lastLe := some (x.n, x.s, x.crc), crcs := ((x.n, x.s, x.crc) :: v.crcs).take 4 }

/-- The latch phase of a started sub-frame is reached (R223, R224, R260, R584). -/
def subframeLatch (s : State) (p : Nat) (x : SubFrame) (done : Bool) : State :=
  let before := (s.port p).sfs.takeWhile fun y => y.latch != x.latch
  let s := before.foldl (fun s y => s.closeSf p y) s
  let s := s.updSf p x.latch fun y => { y with latched := true }
  let s : State := { s with arrayCur := s.arrayCur.put none p x.current }
  let s := s.setReg (pReg Reg.PLATE_LAST_FRAME p) (BitVec.ofNat 32 x.n)
  let s := (s.latchSend p x done).latchShadow p x
  match (s.port p).sfs.find? fun y => y.latch == x.latch with
  | some y => if owesLe y then s else s.twinSubframe p y
  | none => s

/-- The phase at which the sub-frame after x latches. -/
def nextLatchAfter (s : State) (p : Nat) (x : SubFrame) : DWord := x.latch + BitVec.ofNat 64 (s.sfStep p)

/-! ### Enable, disable, stop -/

/-- Setting EN: the checks, then every staged value becomes active (R268). -/
def plateEnable (s : State) (p : Nat) : State :=
  if !s.cfgOk p then s.raise Code.PLATE_CFG_ERR p
  else
    let s := ((s.setBit (pReg Reg.PLATE_CTRL p) 0 true).activate p).setPState p 1
    let s := (s.setReg (pReg Reg.PLATE_RENDER_MAX p) 0).setBit (pReg Reg.PLATE_CMD p) 0 false
    let s := s.updPort p fun v => { v with enAt := s.mono, lastPh := s.phase }
    let s : State := { s with arrayCur := s.arrayCur.put none p none }
    s.updOcc p fun o => { o with applied := 0, cutFor := none }

/-- A write of PLATEp_CTRL (R268, R271). -/
def plateCtrlEffect (s : State) (ag : Agent) (p : Nat) (v : Word) : State :=
  let a := pReg Reg.PLATE_CTRL p
  let was := s.pEn p
  let s := s.plainWrite ag a (wset v 0 0 (b2n was))
  let s := if wfld v 0 0 = 1 ∧ was = false then s.plateEnable p
    else if wfld v 0 0 = 0 ∧ was = true then (s.setBit a 0 false).setPState p 3 else s
  s.leadShow p

/-- The last sub-frame has finished: the port stops and releases its pins (R271). -/
def plateStop (s : State) (p : Nat) : State :=
  let s := s.setPState p 0
  let s := if s.lState p = 6 then s.setLState p 5 else s
  let rs := (s.port p).pins
  let s := s.updPort p fun v => { v with
    pins := [], layers := (List.range 8).foldl (fun m l => m.put {} l { m.get {} l with held := none, draw := false }) v.layers }
  let s := (List.range 8).foldl (fun s l => s.setReg (pReg Reg.PLATE_L_STATE p + 0x20 * l) 0) s
  (s.releaseAfter p rs).setBit (pReg Reg.PLATE_STATUS p) 3 false

/-! ### PLATE_LATCH (R238, R239, R242 to R244) -/

/-- A PLATE_LATCH arrives at one port. A latch for a port that is off seals the buffers its staged layers name (log entry 46) and has
no target; with GEN_AUTO its n is not stated (R239,
R244): a free value (log entry 2). -/
def plateLatch1 (s : State) (a : Act) (p : Nat) : State :=
  let on := s.pEn p && !s.stopped
  let l := s.nextLatch p s.phase
  let auto := wfld a.a1 10 10 == 1
  let gen := if !auto then a.a0 else if on then BitVec.ofNat 32 (s.sfOf p l).1 + a.a0 else s.free 32
  let s := if auto && !on then s.drawn else s
  let mask := wfld a.a1 7 0
  let s := if wfld a.a1 8 8 = 1 then
      ((List.range 8).filter fun i => mask / 2 ^ i % 2 == 1).foldl
        (fun s i => (s.bufSeal ((if s.pEn p then s.active p else s.staged p).lBuf i) gen).2) s
    else s
  let x : Latch := {
    target := if on then some l else none, gen := gen, mask := mask, freeOld := wfld a.a1 9 9 == 1
    master := if wfld a.a1 11 11 = 1 then some (wfld a.a2 15 0) else none
    mesh := if wfld a.a1 12 12 = 1 then some (wfld a.a1 13 13 == 1) else none }
  s.updPort p fun v => { v with latches := v.latches ++ [x] }

def plateLatch (s : State) (a : Act) : State :=
  let p := actTarget a.act
  if 4 ≤ p then s else (s.pairPorts p).foldl (fun s q => s.plateLatch1 a q) s

/-! ### A step of the Sidereal counter (R64, R93, R218, R219) -/

/-- How many start phases lie after `a` and not after `b`, a span forward. -/
def startsIn (s : State) (p : Nat) (a b : DWord) : Nat :=
  let base := (a + s.leadPh p - s.plateOfs).toNat
  (base + (b - a).toNat) / s.sfStep p - base / s.sfStep p

/-- A running port meets a step from S to N. -/
def portStep (s : State) (p : Nat) (a b : DWord) : State :=
  let k := if phaseBefore a b then s.startsIn p a b else 0
  let s := if k = 0 then s else (s.incBy (pReg Reg.PLATE_SKIP_CNT p) k).raiseFrame Code.PLATE_SF_SKIP p
  s.updPort p fun v => { v with lastPh := b }

end State

end Sys2Proof.Machine
end

