-- ==== Sys2Proof/Machine/PlateLink.lean ====
section
/-!
DEFINITION. The plate links: readback, pacing, training, power states and loops (06_plate_link.md R286 to R320).
-/
namespace Sys2Proof.Machine

open Sys2Proof

namespace State

/-- The link receives upstream packets: trained, and not in DEEP (R309, R316). -/
def linkHears (s : State) (p : Nat) : Bool := decide (4 ≤ s.lState p) && s.lState p != 8

/-- An upstream packet is discarded (R280, R320). -/
def upDiscard (s : State) (p : Nat) : State := (s.inc (pReg Reg.PLATE_UP_CRC_CNT p)).raiseFrame Code.PLATE_UP_CRC p

/-- Effect of an upstream packet: discarded unless its CRC and BLOCKS match (R280, R304). -/
def upPacket (s : State) (p : Nat) (good : Bool) (f : State → State) : State :=
  if !s.linkHears p then s else if good then f s else s.upDiscard p

/-- The release of the last streamed sub-frame (R289). -/
def releaseLink (s : State) (p : Nat) : State := (s.updPort p fun v => { v with released := true }).fsWaiting p

/-! ### LC (R293, R350) -/

/-- A LATCHED LC agrees with the frame CRC of the last sub-frame whose LE was sent. -/
def lcMatch (s : State) (p n sf : Nat) (crc : Word) : Bool :=
  s.isLastLe p n sf && (s.port p).crcs.any fun x => x.1 == n && x.2.1 == sf && x.2.2 == crc

/-- LC_MISMATCH: with LC_BLANK = 1 it also sets LC_HOLD, a blank request (R293, R298). -/
def lcMismatch (s : State) (p : Nat) : State :=
  let s := (s.inc (pReg Reg.PLATE_LC_MISM_CNT p)).raise Code.PLATE_LC_MISMATCH p
  if s.bit (pReg Reg.PLATE_LINK_CTRL p) 5 then (s.setBit (pReg Reg.PLATE_LINK_STATUS p) 7 true).blankRequest p true else s

/-- A sub-frame of the port is latched, and was sent without a violation. -/
def lcConfirms (s : State) (p n sf : Nat) : Bool :=
  match (s.port p).sfs.find? fun x => x.n == n && x.s == sf with
  | some x => !x.viol && !x.void
  | none => true

def lcReceive (s : State) (p n sf status : Nat) (crc : Word) : State :=
  let ok := status == 0 && s.lcMatch p n sf crc
  let info := pReg Reg.PLATE_LC_INFO p
  let m := if status = 0 then b2n ok else s.fld info 5 5
  let s := (s.setReg (pReg Reg.PLATE_LC_CRC p) crc).setReg (pReg Reg.PLATE_LC_FRAME p) (BitVec.ofNat 32 n)
  let s := s.setReg info (BitVec.ofNat 32 (sf + status * 8 + m * 32))
  let last := s.isLastLe p n sf
  let s := if ok && s.lcConfirms p n sf then s.inc (pReg Reg.OCC_CONFIRM_CNT p) else s
  let s := if status = 0 ∧ ok = false then s.lcMismatch p else s
  let s := if status = 1 then
      ((s.inc (pReg Reg.PLATE_REJECT_CNT p)).raiseFrame Code.PLATE_FRAME_REJECT p).updPort p
        fun v => { v with teWait := if last then none else v.teWait } else s
  let s := if last then s.releaseLink p else s
  match (s.port p).sfs.find? fun x => x.n == n && x.s == sf && x.latched && !owesLe x with
  | some x => s.completeSf p { x with lc := true }
  | none => s

/-! ### TE_L (R296, R297, R307) -/

/-- The two TE edges of a locked pair (R307). -/
def teSkew (s : State) (p : Nat) : State :=
  if !s.paired p then s
  else match (s.port (p / 2 * 2)).teAt, (s.port (p / 2 * 2 + 1)).teAt with
    | some a, some b =>
      let d : Int := (b : Int) - a
      let s := s.setReg (Reg.PLATE_PAIR_SKEW + 4 * (p / 2)) (BitVec.ofInt 32 d)
      if s.fld Reg.PLATE_PAIR 31 16 < d.natAbs then
        (s.inc (Reg.PLATE_PAIR_SKEWCNT + 4 * (p / 2))).raiseFrame Code.PLATE_TE_SKEW p else s
    | _, _ => s

def teEdge (s : State) (p : Nat) : State :=
  let v := s.port p
  let s := match v.teWait with
    | some eop =>
      let d := s.mono - eop
      let s := s.setReg (pReg Reg.PLATE_TE_DLY p) (BitVec.ofNat 32 d)
      s.setReg (pReg Reg.PLATE_TE_DLY_MAX p) (BitVec.ofNat 32 (max d (s.reg (pReg Reg.PLATE_TE_DLY_MAX p)).toNat))
    | none => s
  let s := s.updPort p fun v => { v with
    teWait := none, teAt := some s.mono, stall := 0
    sfs := v.sfs.map fun x => if s.isLastLe p x.n x.s && x.le.isSome then { x with te := true } else x }
  (s.teSkew p).releaseLink p

/-! ### States of the link (R309, R315 to R318) -/

/-- Send one SQ without waiting for its answer (R313). -/
def sqOnly (s : State) (p code : Nat) : State :=
  s.updPort p fun v =>
    let tag := (v.tag + 1) % 256
    { v with tag := tag, outSq := [BitVec.ofNat 64 (0x78 + 0x04 * 2 ^ 8 + code * 2 ^ 16 + tag * 2 ^ 24)] }

/-- Power state asked for: 3 acts as 0 (R312). -/
def pstateReq (s : State) (p : Nat) : Nat :=
  let q := s.fld (pReg Reg.PLATE_LINK_CTRL p) 8 7
  if q = 3 then 0 else q

/-- FE_MS; 0 acts as 1 (R318). -/
def feMs (s : State) (p : Nat) : Nat := max 1 (s.fld (pReg Reg.PLATE_LINK_TEST p) 15 8)

/-- A link in READY goes to TEST, or asks for the power state requested (R309, R315 to R318). -/
def readyService (s : State) (p : Nat) : State :=
  if s.lState p ≠ 5 then s
  else
    let loop := s.fld (pReg Reg.PLATE_LINK_TEST p) 1 0
    let q := s.pstateReq p
    if loop ≠ 0 then
      let s := s.setLState p 9
      if loop = 3 then s.sendSq p 4 (BitVec.ofNat 32 (s.feMs p)) 1 else s
    else if q ≠ 0 ∧ (s.port p).query = none ∧ (s.port p).pwrFailed = false then s.sendSq p 3 (BitVec.ofNat 32 q) 1
    else s

/-- A change of PSTATE_REQ meets a link in READY, LIGHT or DEEP (R315 to R317). -/
def powerService (s : State) (p : Nat) : State :=
  let s := s.updPort p fun v => { v with pwrFailed := false }
  let q := s.pstateReq p
  if s.lState p = 5 then s.readyService p
  else if s.lState p = 7 ∧ q ≠ 1 ∧ (s.port p).pexit = none then
    (s.sendSq p 3 0 1).updPort p fun v => { v with pexit := some s.mono }
  else if s.lState p = 8 ∧ q = 0 ∧ (s.port p).pexit = none then s.updPort p fun v => { v with pexit := some s.mono }
  else s

/-- The engine has answered a query. -/
def queryDone (s : State) (p : Nat) : State := s.updPort p fun v => { v with query := none }

/-- The query waiting has this code and tag. -/
def queryIs (s : State) (p code tag : Nat) : Option Query :=
  (s.port p).query.filter fun q => q.code == code && q.tag == tag

/-- ACK: the power state changes, or the far-end loop runs (R315, R316, R318). -/
def ackReceive (s : State) (p tag qcode : Nat) : State :=
  match s.queryIs p qcode tag with
  | none => s
  | some q =>
    let s := s.queryDone p
    if qcode = 3 ∧ s.lState p = 5 ∧ (q.arg = 1 ∨ q.arg = 2) then
      (s.setLState p (6 + q.arg.toNat)).setFld (pReg Reg.PLATE_LINK_STATUS p) 14 13 q.arg.toNat
    else if qcode = 4 ∧ s.lState p = 9 then s.updPort p fun v => { v with testEnd := some (s.mono + q.arg.toNat * 1000000) }
    else s

/-- SR STATUS (R286, R289, R320). -/
def statusReceive (s : State) (p : Nat) (d0 d1 : DWord) : State :=
  let a := pReg Reg.PLATE_ENG_STAT p
  let fault := s.bit (a + 4) 7
  let s := (s.setReg64 a d0).setReg64 (a + 8) d1
  let s := (s.incBy (pReg Reg.PLATE_ENG_LCRC_CNT p) (bits d0 63 48)).incBy (pReg Reg.PLATE_ENG_BLKERR_CNT p) (bits d1 31 16)
  let s := if bits d0 38 38 = 1 then s.raise Code.PLATE_ENG_WDOG p else s
  let s := if bits d0 39 39 = 1 ∧ fault = false then s.raise Code.PLATE_ENG_FAULT p else s
  if s.isLastLe p (bits d0 31 0) (bits d0 34 32) then s.releaseLink p else s

/-- SR IDENT: captured; a link in IDENT becomes READY (R309, R310). -/
def identReceive (s : State) (p : Nat) (d : List DWord) : State :=
  let s := (List.range 4).foldl (fun s i => s.setReg64 (pReg Reg.PLATE_ENG_ID p + 8 * i) (d.getD i 0)) s
  let s := s.updPort p fun v => { v with ident := some (d.take 4), capsRaised := false }
  let s : State := { s with diags := s.diags.put {} p { s.diags.get {} p with fmtRaised := false } }
  if s.lState p = 4 then ((s.queryDone p).setLState p 5).readyService p else s

/-- Lanes in use, as a mask of upstream LMASK: lane 0 alone in LIGHT and in the far-end loop (R315, R318). -/
def usedMask (s : State) (p : Nat) : Nat :=
  let n := 2 ^ (s.port p).lanes
  if s.lState p = 7 ∨ (s.lState p = 9 ∧ s.fld (pReg Reg.PLATE_LINK_TEST p) 1 0 = 3) then 1 else 2 ^ n - 1

/-- The mask covers lanes 0 to L − 1. -/
def coversLanes (s : State) (p lmask : Nat) : Bool :=
  let m := 2 ^ 2 ^ (s.port p).lanes - 1
  lmask &&& m == m

/-- Lane 0 block lock or a used lane is lost: LOCK with LANE_LOSS (R309). -/
def laneLoss (s : State) (p : Nat) : State :=
  ((s.inc (pReg Reg.PLATE_LANE_LOSS_CNT p)).raise Code.PLATE_LANE_LOSS p).leaveStream p 3

/-- Loss of lane 0 block lock (R309); in DEEP the engine has idled its upstream (R316). -/
def rxLockLost (s : State) (p : Nat) : State :=
  if s.lState p < 3 then s
  else
    let s := s.setBit (pReg Reg.PLATE_LINK_STATUS p) 12 false
    if s.lState p = 8 then s
    else if s.lState p = 3 then s.updPort p fun v => { v with aligns := 0 } else s.laneLoss p

/-- One upstream ALIGN block (R277, R309, R315). -/
def alignReceive (s : State) (p lcode lmask : Nat) : State :=
  let st := s.lState p
  let s := (s.setFld (pReg Reg.PLATE_LINK_STATUS p) 11 8 lmask).setBit (pReg Reg.PLATE_LINK_STATUS p) 12 true
  if st = 3 then
    let ok := lcode == (s.port p).lanes && s.coversLanes p lmask
    if !ok then s.updPort p fun v => { v with aligns := 0 }
    else if (s.port p).aligns = 0 then s.updPort p fun v => { v with aligns := 1 }
    else
      let s := (s.setLState p 4).updPort p fun v => { v with trained := true }
      s.sendSq p 1 0 1
  else if lmask &&& s.usedMask p ≠ s.usedMask p then s.laneLoss p
  else if st = 7 ∧ (s.port p).pexit.isSome ∧ s.coversLanes p lmask then
    (((s.setLState p 5).setFld (pReg Reg.PLATE_LINK_STATUS p) 14 13 0).queryDone p).readyService p
  else s

/-- ENG_DET_L is asserted: DOWN becomes DETECT (R309). -/
def linkDetect (s : State) (p : Nat) : State :=
  if s.lState p = 1 ∧ (s.port p).det = true then s.setLState p 2 else s

/-- LINK_EN is cleared (R309). -/
def linkOff (s : State) (p : Nat) : State :=
  let s := s.leaveStream p 0
  let s := (s.setBit (pReg Reg.PLATE_LINK_STATUS p) 4 false).setFld (pReg Reg.PLATE_LINK_STATUS p) 12 8 0
  s.queryDone p

/-- A write of PLATEp_LINK_CTRL (R309, R312, R317). -/
def linkCtrlEffect (s : State) (ag : Agent) (p : Nat) (v : Word) : State :=
  let a := pReg Reg.PLATE_LINK_CTRL p
  let old := s.reg a
  let lanes := wfld v 3 0 ≠ wfld old 3 0
  if wfld v 3 2 = 3 ∨ (lanes ∧ s.lState p = 6) then s.raise Code.PLATE_CFG_ERR p
  else
    let s := (s.plainWrite ag a v).leadShow p
    let s := if wfld old 4 4 = 0 ∧ wfld v 4 4 = 1 then
        ((s.setReg (pReg Reg.PLATE_TE_DLY_MAX p) 0).setLState p 1).linkDetect p
      else if wfld old 4 4 = 1 ∧ wfld v 4 4 = 0 then s.linkOff p
      else if lanes ∧ 3 ≤ s.lState p ∧ s.lState p ≤ 9 then s.setLState p 3 else s
    let s := if wfld old 6 6 = 0 ∧ wfld v 6 6 = 1 then s.blankRequest p true else s.showBlank p
    if wfld old 8 7 ≠ wfld v 8 7 then s.powerService p else s

/-- A write of PLATEp_LINK_TEST (R318, R319). -/
def linkTestEffect (s : State) (ag : Agent) (p : Nat) (v : Word) : State :=
  let loop := wfld v 1 0
  if (loop ≠ 0 ∧ s.pEn p = true) ∨ (loop = 3 ∧ s.fld (pReg Reg.PLATE_LINK_CTRL p) 3 2 = 0) then s.raise Code.PLATE_CFG_ERR p
  else
    let s := s.plainWrite ag (pReg Reg.PLATE_LINK_TEST p) v
    let s := (List.range 4).foldl (fun s i => s.setReg (pReg Reg.PLATE_TEST_ERR p + 4 * i) 0) s
    if s.lState p = 9 ∧ loop = 0 then s.setLState p 3 else s.readyService p

/-- Errors of a test add to PLATEp_TEST_ERRi, which saturates (R318). -/
def testErr (s : State) (p i n : Nat) : State :=
  let a := pReg Reg.PLATE_TEST_ERR p + 4 * i
  s.setReg a (BitVec.ofNat 32 (min (2 ^ 32 - 1) ((s.reg a).toNat + n)))

/-- Setting RETRAIN (R309). -/
def retrainEffect (s : State) (p : Nat) : State := if 3 ≤ s.lState p ∧ s.lState p ≤ 9 then s.leaveStream p 3 else s

/-- Setting LC_RELEASE (R299). -/
def lcReleaseEffect (s : State) (p : Nat) : State := (s.setBit (pReg Reg.PLATE_LINK_STATUS p) 7 false).showBlank p

/-- A write of PLATE_PAIR: a change of P01 or P23 is ignored while a port of the pair is enabled (R305). -/
def pairEffect (s : State) (ag : Agent) (v : Word) : State :=
  let old := s.reg Reg.PLATE_PAIR
  let busy (i : Nat) : Bool := wfld v i i != wfld old i i && (s.pEn (2 * i) || s.pEn (2 * i + 1))
  let w := (List.range 2).foldl (fun w i => if busy i then wset w i i (wfld old i i) else w) v
  let s := (List.range 2).foldl (fun s i => if busy i then s.raise Code.PLATE_CFG_ERR (2 * i) else s) s
  let s := s.plainWrite ag Reg.PLATE_PAIR w
  (List.range 2).foldl (fun s i => if wfld (s.reg Reg.PLATE_PAIR) i i ≠ wfld old i i then (s.leadShow (2 * i)).leadShow (2 * i + 1) else s) s

end State

/-! ### The commands -/

/-- LC_RECEIVED: an LC with its header, STATUS (0 LATCHED, 1 REJECTED, 2 BLANKED) and CRC (R286, R293). -/
def execLcReceived (p : PortId) (good : Bool) (n : Word) (sf : Fin 8) (status : Fin 4) (crc : Word) (s : State) : Host.Outcome State Fault Refusal :=
  .next (s.upPacket p.val good fun s => s.lcReceive p.val n.toNat sf.val status.val crc)

/-- SR_RECEIVED: KIND 0 STATUS, 1 IDENT, 2 NAK, 3 ACK, with TAG, QCODE and data blocks (R286, R287). -/
def execSrReceived (p : PortId) (good : Bool) (kind : Fin 4) (tag qcode : Byte) (data : List DWord) (s : State) : Host.Outcome State Fault Refusal :=
  .next (s.upPacket p.val good fun s =>
    match kind.val with
    | 0 => s.statusReceive p.val (data.getD 0 0) (data.getD 1 0)
    | 1 => s.identReceive p.val data
    | 3 => s.ackReceive p.val tag.toNat qcode.toNat
    | _ => s)

/-- UPSTREAM_ALIGN: an ALIGN block with LCODE and LMASK (R277, R309, R731). -/
def execUpstreamAlign (p : PortId) (lcode : Fin 4) (lmask : Fin 16) (s : State) : Host.Outcome State Fault Refusal :=
  if 3 ≤ s.lState p.val ∧ s.lState p.val ≠ 8 ∧ s.refOk (52 + 4 * p.val) then .next (s.alignReceive p.val lcode.val lmask.val) else .next s

/-- TE_EDGE (R289, R297, R304). -/
def execTeEdge (p : PortId) (s : State) : Host.Outcome State Fault Refusal :=
  if s.bit (State.pReg Reg.PLATE_LINK_CTRL p.val) 4 then .next (s.teEdge p.val) else .next s

/-- TE_TIMEOUT: TIMEOUT µs after an LE EOP with no TE, for a sub-frame that the engine reported LATCHED or BLANKED (R297). -/
def execTeTimeout (p : PortId) (s : State) : Host.Outcome State Fault Refusal :=
  let q := p.val
  match (s.port q).teWait with
  | none => .next s
  | some eop =>
    let info := s.reg (State.pReg Reg.PLATE_LC_INFO q)
    let told := s.isLastLe q (s.reg (State.pReg Reg.PLATE_LC_FRAME q)).toNat (wfld info 2 0) && wfld info 4 3 != 1
    if !told || s.mono < eop + s.fld (State.pReg Reg.PLATE_TE q) 15 0 * 1000 then .next s
    else
      let s := (s.inc (State.pReg Reg.PLATE_TE_MISS_CNT q)).raiseFrame Code.PLATE_TE_MISSING q
      .next ((s.inc (State.pReg Reg.PLATE_TE_SUBST_CNT q)).updPort q fun v => { v with teWait := none })

/-- LINK_STALL: STALL_N sub-frames in a row with neither TE nor LC (R297). -/
def execLinkStall (p : PortId) (s : State) : Host.Outcome State Fault Refusal :=
  let q := p.val
  if s.lState q = 6 ∧ max 1 (s.fld (State.pReg Reg.PLATE_TE q) 23 16) ≤ (s.port q).stall then
    .next ((s.raise Code.PLATE_LINK_STALL q).leaveStream q 3)
  else .next s

/-- ENG_DET_ASSERT: the pin falls. -/
def execEngDetAssert (p : PortId) (s : State) : Host.Outcome State Fault Refusal :=
  if (s.port p.val).det then .next s
  else .next ((s.updPort p.val fun v => { v with det := true, detAt := s.mono }).linkDetect p.val)

/-- ENG_DET_DEBOUNCE (R309). -/
def execEngDetDebounce (p : PortId) (s : State) : Host.Outcome State Fault Refusal :=
  let q := p.val
  let v := s.port q
  if s.lState q = 2 ∧ v.det = true ∧ v.since + s.fld (State.pReg Reg.PLATE_ENG_DET q) 15 0 * 1000000 ≤ s.mono then
    .next (((s.setBit (State.pReg Reg.PLATE_LINK_STATUS q) 4 true).raise Code.PLATE_ENG_FOUND q).setLState q 3)
  else .next s

/-- ENG_DET_NEGATE: the pin rises; DETECT returns to DOWN (R309). -/
def execEngDetNegate (p : PortId) (s : State) : Host.Outcome State Fault Refusal :=
  if !(s.port p.val).det then .next s
  else
    let s := s.updPort p.val fun v => { v with det := false, detAt := s.mono }
    if s.lState p.val = 2 then .next (s.setLState p.val 1) else .next s

/-- ENG_DET_LOSS: negated for LOSS_US (R309). -/
def execEngDetLoss (p : PortId) (s : State) : Host.Outcome State Fault Refusal :=
  let q := p.val
  let v := s.port q
  if 3 ≤ s.lState q ∧ v.det = false ∧ v.detAt + s.fld (State.pReg Reg.PLATE_ENG_DET q) 31 16 * 1000 ≤ s.mono then
    let s := (s.leaveStream q 1).queryDone q
    .next (((s.setBit (State.pReg Reg.PLATE_LINK_STATUS q) 4 false).setFld (State.pReg Reg.PLATE_LINK_STATUS q) 12 8 0).raise Code.PLATE_ENG_LOST q)
  else .next s

/-- TRAIN_TIMEOUT: TRAIN_FAIL once until the next success; training restarts after 1 ms of electrical idle (R309). -/
def execTrainTimeout (p : PortId) (s : State) : Host.Outcome State Fault Refusal :=
  let q := p.val
  if s.lState q = 3 ∧ (s.port q).since + s.fld (State.pReg Reg.PLATE_TRAIN q) 15 0 * 1000000 ≤ s.mono then
    let s := if (s.port q).trained then s.raise Code.PLATE_TRAIN_FAIL q else s
    .next ((s.setLState q 3).updPort q fun v => { v with since := s.mono + 1000000, trained := false })
  else .next s

/-- IDENT_TIMEOUT: 1 ms without SR IDENT; after three queries ENG_NORESP and LOCK (R309). -/
def execIdentTimeout (p : PortId) (s : State) : Host.Outcome State Fault Refusal :=
  let q := p.val
  match (s.port q).query with
  | some x =>
    if s.lState q ≠ 4 ∨ x.code ≠ 1 ∨ s.mono < x.sent + 1000000 then .next s
    else if x.tries < 3 then .next (s.sendSq q 1 0 (x.tries + 1))
    else .next ((s.raise Code.PLATE_ENG_NORESP q).setLState q 3)
  | none => .next s

/-- RX_LOCK_LOSS (R278, R309). -/
def execRxLockLoss (p : PortId) (s : State) : Host.Outcome State Fault Refusal := .next (s.rxLockLost p.val)

/-- LINK_CTRL_WRITE. -/
def execLinkCtrlWrite (ag : Agent) (p : PortId) (v : Word) (s : State) : Host.Outcome State Fault Refusal :=
  .next (s.writeBy ag (State.pReg Reg.PLATE_LINK_CTRL p.val) fun s => s.linkCtrlEffect ag p.val v)

/-- LINK_RETRAIN: setting RETRAIN. -/
def execLinkRetrain (ag : Agent) (p : PortId) (s : State) : Host.Outcome State Fault Refusal :=
  .next (s.writeBy ag (State.pReg Reg.PLATE_LINK_CMD p.val) fun s => s.retrainEffect p.val)

/-- LC_RELEASE: setting LC_RELEASE. -/
def execLcRelease (ag : Agent) (p : PortId) (s : State) : Host.Outcome State Fault Refusal :=
  .next (s.writeBy ag (State.pReg Reg.PLATE_LINK_CMD p.val) fun s => s.lcReleaseEffect p.val)

/-- SQ_STATUS_TICK: every 1 ms in READY (R313). -/
def execSqStatusTick (p : PortId) (s : State) : Host.Outcome State Fault Refusal :=
  let q := p.val
  if s.lState q = 5 ∧ max (s.port q).statAt (s.port q).since + 1000000 ≤ s.mono then
    .next (((s.sqOnly q 2).updPort q fun v => { v with statAt := s.mono }).readyService q)
  else .next s

/-- LIGHT_EXIT_TIMEOUT (R315). -/
def execLightExitTimeout (p : PortId) (s : State) : Host.Outcome State Fault Refusal :=
  match (s.port p.val).pexit with
  | some t => if s.lState p.val = 7 ∧ t + 1000000 ≤ s.mono then
      .next ((s.setLState p.val 3).setFld (State.pReg Reg.PLATE_LINK_STATUS p.val) 14 13 0) else .next s
  | none => .next s

/-- DEEP_WAKE_END (R316). -/
def execDeepWakeEnd (p : PortId) (s : State) : Host.Outcome State Fault Refusal :=
  match (s.port p.val).pexit with
  | some t => if s.lState p.val = 8 ∧ t + 20000 ≤ s.mono then
      .next ((s.setLState p.val 3).setFld (State.pReg Reg.PLATE_LINK_STATUS p.val) 14 13 0) else .next s
  | none => .next s

/-- PWR_NO_ACK: three SQ PWR without ACK leave the link in READY (R317). The spec gives no time between them; 1 ms as for IDENT. -/
def execPwrNoAck (p : PortId) (s : State) : Host.Outcome State Fault Refusal :=
  let q := p.val
  match (s.port q).query with
  | some x =>
    if s.lState q ≠ 5 ∨ x.code ≠ 3 ∨ s.mono < x.sent + 1000000 then .next s
    else if x.tries < 3 then .next (s.sendSq q 3 x.arg (x.tries + 1))
    else .next ((s.raise Code.PLATE_ENG_NORESP q).updPort q fun v => { v with query := none, pwrFailed := true })
  | none => .next s

/-- LINK_TEST_WRITE. -/
def execLinkTestWrite (ag : Agent) (p : PortId) (v : Word) (s : State) : Host.Outcome State Fault Refusal :=
  .next (s.writeBy ag (State.pReg Reg.PLATE_LINK_TEST p.val) fun s => s.linkTestEffect ag p.val v)

/-- FAR_END_LOOP_END: the far-end loop ends; `errs` holds the errors the device counted on each port lane, and lanes 1 to L − 1
carried the pattern (R309, R318). -/
def execFarEndLoopEnd (p : PortId) (errs : List Word) (s : State) : Host.Outcome State Fault Refusal :=
  match (s.port p.val).testEnd with
  | some t =>
    if s.lState p.val = 9 ∧ t ≤ s.mono then
      let used := (List.range (2 ^ (s.port p.val).lanes)).filter fun i => i ≠ 0
      .next ((used.foldl (fun s i => s.testErr p.val i (errs.getD i 0).toNat) s).setLState p.val 3)
    else .next s
  | none => .next s

end Sys2Proof.Machine
end

