-- ==== Sys2Proof/Machine/Strings.lean ====
section
/-!
DEFINITION. String channels: level, PWM, derating, fades, sense conversions and probes (08_string_channels_diagnostics.md R369 to R393).
-/
namespace Sys2Proof.Machine

open Sys2Proof

namespace State

def strCh (s : State) (n : Nat) : StrCh := s.strs.get {} n
def updStr (s : State) (n : Nat) (f : StrCh → StrCh) : State := { s with strs := s.strs.put {} n (f (s.strCh n)) }
abbrev strReg (a n : Nat) : Nat := a + 0x40 * n
def strEn (s : State) (n : Nat) : Bool := s.bit (strReg Reg.STR_CFG n) 0
def strState (s : State) (n : Nat) : Nat := s.fld (strReg Reg.STR_STATUS n) 3 0
def strBound (s : State) (n : Nat) : Option Nat :=
  match s.strBind.get 0 n with
  | 0 => none
  | k => some (k - 1)

def probeAfter (s : State) : Nat := max 1 (s.fld Reg.STR_PROBE 15 0) * 1000000
def probePeriod (s : State) : Nat := max 1 (s.fld Reg.STR_PROBE 31 16) * 1000000
def faultN (s : State) : Nat := max 1 (s.fld Reg.STR_THR1 23 16)

/-! ### Temperature and derating (R380 to R382) -/

/-- The temperature source of a channel: none where there is none, else whether it is valid, and T in 1/16 °C. -/
def strTemp (s : State) (n : Nat) : Option (Bool × Int) :=
  let src := s.fld (strReg Reg.STR_CFG n) 9 6
  if src < 8 then
    let a := Reg.NTC_TEMP + 0x10 * src
    some (s.bit a 16, sext 16 (s.fld a 15 0))
  else if src = 8 then
    match s.strBound n with
    | some p => some (s.bit (Reg.STRDIAG_TEMP + 0x80 * p) 16, sext 16 (s.fld (Reg.STRDIAG_TEMP + 0x80 * p) 15 0))
    | none => some (false, 0)
  else none

/-- The derating factor, u1.15 (R380, R381). -/
def strDf (s : State) (n : Nat) : Nat :=
  let floor := s.fld Reg.STR_FLOOR 15 0
  match s.strTemp n with
  | none => 0x8000
  | some (false, _) => floor
  | some (true, t) =>
    let tk := sext 16 (s.fld Reg.STR_DERATE 15 0)
    if t ≤ tk then 0x8000
    else (max (floor : Int) (0x8000 - fdiv (32768 * (s.fld Reg.STR_DERATE 31 16 : Int) * (t - tk)) 160000)).toNat

/-- DERATE is raised when DF first falls below 0x8000, and again after 1 s back at 0x8000. -/
def noteDf (s : State) (n df : Nat) : State :=
  let v := s.strCh n
  if df < 0x8000 then
    let s := s.updStr n fun v => { v with derated := true, dfBack := none }
    if v.derated then s else s.raise Code.STRING_DERATE n
  else if !v.derated then s
  else match v.dfBack with
    | none => s.updStr n fun v => { v with dfBack := some s.mono }
    | some t => if t + 1000000000 ≤ s.mono then s.updStr n fun v => { v with derated := false, dfBack := none } else s

/-! ### Level and state (R374, R375, R389, R660) -/

/-- Every gate is held low with DAC code 0: mode, thermal trip, or the closed twin gate (R581, R639, R660). -/
def strsOff (s : State) : Bool :=
  !s.running || s.fld Reg.THERM_STATUS 2 0 == 4 || (!s.gateOpen && s.bit Reg.TWIN_GATE 6)

/-- The level in force (R379, R660, R662). -/
def strLevel (s : State) (n : Nat) : Nat :=
  let u := s.under
  if s.strsOff || !s.strEn n || u == 2 || u == 7 || u == 8 then 0
  else match s.strBound n with
    | some p =>
      if s.pState p = 0 then 0
      else match s.arrayCur.get none p with
        | some v => v
        | none => if s.bit (pReg Reg.PLATE_STATUS p) 3 then 0 else 0xFFFF
    | none =>
      if u = 6 ∨ u = 0xB then
        (if s.bit Reg.SYS_FS_STAT 0 then s.memNat (s.regAddr Reg.SYS_FS_BASE_LO + 0x30 + 2 * n) 2 else 0)
      else (s.strCh n).level

/-- Enter a state of R389; a run of bad conversions goes on into UNVERIFIED. -/
def setStrState (s : State) (n st : Nat) : State :=
  let a := strReg Reg.STR_STATUS n
  let s := (s.setFld a 3 0 st).updStr n fun v => { v with since := s.mono }
  if st = 3 then s.updStr n fun v => { v with probeDue := true, unverAt := s.mono }
  else (s.setFld a 11 8 0).updStr n fun v => { v with probeDue := false, probing := false, runClass := 0, badRun := 0, goodRun := 0 }

/-- The state follows the level (R389). -/
def strFollow (s : State) (n : Nat) : State :=
  let v := s.strLevel n
  let st := s.strState n
  if st = 0 ∧ s.strEn n = true ∧ 0 < v then s.setStrState n 1
  else if 1 ≤ st ∧ st ≤ 3 ∧ (v = 0 ∨ s.strEn n = false) then s.setStrState n 0 else s

/-- The gate is held low by the channel's state (R382, R389). -/
def strHeld (s : State) (n : Nat) : Bool :=
  let st := s.strState n
  st == 7 || (decide (4 ≤ st) && decide (st ≤ 6) && s.bit (strReg Reg.STR_CFG n) 4)

/-- On-time of a level (R374); a bound channel is on for the whole period above 0 (R379). -/
def onTime (v k p : Nat) (bound : Bool) : Nat :=
  if v = 0 then 0 else if bound || decide (k ≤ v) then p else max 1 ((2 * p * v + k) / (2 * k))

/-- Analogue level of a level (R374). -/
def analog (v k : Nat) (bound : Bool) : Nat := if bound then v else if k ≤ v then v else k

/-- DAC code of a derated level (R374, R380). -/
def dacCode (a df : Nat) : Nat := (2 * ((2 * a * df + 32768) / 65536) * 4095 + 65535) / 131070

/-! ### Fades (R384 to R387) -/

def fadeE (s : State) (e : Nat) : Fade := s.fades.get {} e

/-- Store an engine with its register (STR_FADEe). -/
def setFade (s : State) (e : Nat) (f : Fade) : State :=
  ({ s with fades := s.fades.put {} e f } : State).setReg (Reg.STR_FADE + 4 * e)
    (BitVec.ofNat 32 (f.value + b2n f.active * 2 ^ 16 + f.ch * 2 ^ 17 + f.curve * 2 ^ 23))

/-- Progress at a phase (R385). -/
def fadeT (f : Fade) (ph : DWord) : Nat :=
  if f.dur = 0 then 0x8000
  else (clampI 0 0x8000 (fdiv (phaseDiff ph f.ph0 * 32768) (f.dur * 65536))).toNat

/-- Evaluate a running engine at a phase; it ends at progress 0x8000 (R385). A channel target takes the value. -/
def fadeEval (s : State) (e : Nat) (ph : DWord) : State :=
  let f := s.fadeE e
  if !f.active then s
  else
    let t := fadeT f ph
    let v := fadeOp f.curve f.first f.last t
    let s := s.setFade e { f with value := v, active := t != 0x8000 }
    if f.ch < 32 ∧ (s.strCh f.ch).fade = some e then
      s.updStr f.ch fun c => { c with level := v, fade := if t = 0x8000 then none else some e }
    else s

/-- Stop the engine that drives a channel; it keeps its last value (R386). -/
def fadeStopCh (s : State) (n : Nat) : State :=
  match (s.strCh n).fade with
  | some e => (s.setFade e { s.fadeE e with active := false }).updStr n fun c => { c with fade := none }
  | none => s

/-- Stop an engine's fade; its channel is driven no more. -/
def fadeStop (s : State) (e : Nat) : State :=
  let f := s.fadeE e
  let s := s.setFade e { f with active := false }
  if f.ch < 32 ∧ (s.strCh f.ch).fade = some e then s.updStr f.ch fun c => { c with fade := none } else s

/-- A FADE_START action (R379, R384, R386). -/
def fadeStart (s : State) (a : Act) : State :=
  let e := wfld a.a0 9 0
  let ch := wfld a.a0 21 16
  let curve := wfld a.a0 23 22
  if 32 < ch ∨ curve = 3 then s.raise Code.STRING_CFG_ERR (if ch < 32 then ch else 0)
  else if ch < 32 ∧ (s.strBound ch).isSome then s.raiseFrame Code.STRING_BIND_IGNORED ch
  else
    let s := s.fadeStop e
    let cur := if ch < 32 then (s.strCh ch).level else (s.fadeE e).value
    let first := if wfld a.a0 24 24 = 1 then cur else wfld a.a1 15 0
    let s := if ch < 32 then (s.fadeStopCh ch).updStr ch fun c => { c with fade := some e } else s
    s.setFade e { active := true, ch := ch, curve := curve, first := first, last := wfld a.a1 31 16, dur := a.a2.toNat, ph0 := a.fire, value := (s.fadeE e).value }

/-! ### A PWM period (R374, R376, R391) -/

/-- A probe is placed where it is due and the period leaves room for it (R391). -/
def placeProbe (s : State) (n on p : Nat) : State :=
  let v := s.strCh n
  if v.probeDue && s.bit (strReg Reg.STR_CFG n) 5 && s.strState n == 3 && (s.strBound n).isNone && decide (0 < on) && decide (on + 4000 ≤ p) then
    (s.inc (strReg Reg.STR_PROBE_CNT n)).updStr n fun v => { v with probeDue := false, probing := true, probeAt := s.mono }
  else s

/-- A new cell set takes effect at the start of a PWM period (R370, R650). -/
def takeCells (s : State) (n : Nat) : State :=
  match s.cal.cells.get none n with
  | none => s
  | some m =>
    let a := 16 * n
    let s := ((s.setReg (Reg.CAL_DAC_MAP_LO + a) (m.extractLsb' 0 32)).setReg (Reg.CAL_DAC_MAP_MID + a) (m.extractLsb' 32 32)).setReg
      (Reg.CAL_DAC_MAP_HI + a) (BitVec.ofNat 32 (bits m 71 64))
    let s := s.setFld (strReg Reg.STR_SPARE n) 7 0 (bits m 71 64)
    { s with cal := { s.cal with cells := s.cal.cells.put none n none } }

/-- Start a period of a channel: fade, state, derating, DAC code and on-time (R374, R375, R380, R385). -/
def strPeriod (s : State) (n : Nat) : State :=
  let s := s.takeCells n
  let s := match (s.strCh n).fade with
    | some e => s.fadeEval e s.phase
    | none => s
  let s := s.strFollow n
  let v := s.strLevel n
  let bound := (s.strBound n).isSome
  let p := s.fld (strReg Reg.STR_PWM n) 19 0
  let k := s.fld (strReg Reg.STR_KNEE n) 15 0
  let df := s.strDf n
  let dead := s.strsOff || !s.strEn n
  let on := if dead || s.strHeld n then 0 else onTime v k p bound
  let code := if dead then 0 else dacCode (analog v k bound) df
  let c := s.strCh n
  let s := s.setReg (strReg Reg.STR_LEVEL n) (BitVec.ofNat 32 (v + c.fade.getD 0 * 2 ^ 16 + b2n c.fade.isSome * 2 ^ 26))
  let s := (s.setReg (strReg Reg.STR_DAC n) (BitVec.ofNat 32 (code + df * 2 ^ 12))).setReg (strReg Reg.STR_ON n) (BitVec.ofNat 32 on)
  let (tv, t) := (s.strTemp n).getD (true, 0)
  let s := (s.setReg (strReg Reg.STR_TEMP n) (BitVec.ofNat 32 (unsigned 16 t))).setBit (strReg Reg.STR_STATUS n) 5 tv
  let s := s.setBit (strReg Reg.STR_STATUS n) 4 (decide (2000 ≤ on))
  let s := (s.noteDf n df).updStr n fun v => { v with periodAt := s.mono, period := p, probing := false }
  s.placeProbe n on p

/-- Every channel restarts its period: a change of UNDER (R664). -/
def strsRestart (s : State) : State := (List.range 32).foldl (fun s n => if s.strEn n then s.strPeriod n else s) s

/-! ### Conversions (R383, R388, R389, R392) -/

/-- Class of a sense voltage: 0 GOOD, 1 OPEN, 2 REG, 3 SHORT (R388). -/
def senseClass (s : State) (mv : Nat) : Nat :=
  if mv < s.fld Reg.STR_THR0 15 0 then 1 else if mv < s.fld Reg.STR_THR0 31 16 then 2 else if s.fld Reg.STR_THR1 15 0 < mv then 3 else 0

/-- A bad conversion of a class (R388, R389, R392). -/
def senseBad (s : State) (n cls : Nat) : State :=
  let a := strReg Reg.STR_STATUS n
  let c := s.strCh n
  let run := if c.runClass = cls then c.badRun + 1 else 1
  let s := (s.setFld a 11 8 (min 15 run)).updStr n fun v => { v with runClass := cls, badRun := run, goodRun := 0 }
  let st := s.strState n
  if 1 ≤ st ∧ st ≤ 3 ∧ s.faultN ≤ run then
    ((s.setStrState n (3 + cls)).inc (strReg Reg.STR_FAULT_CNT n)).raise
      (if cls = 1 then Code.STRING_STR_OPEN else if cls = 2 then Code.STRING_STR_REGFAIL else Code.STRING_STR_SHORT) n
  else if c.probing ∧ st = 3 then s.updStr n fun v => { v with probeDue := true }
  else s

/-- A GOOD conversion (R388, R389). -/
def senseGood (s : State) (n : Nat) : State :=
  let s := s.setReg64 (strReg Reg.STR_LASTGOOD_LO n) (BitVec.ofNat 64 s.mono)
  let s := (s.setFld (strReg Reg.STR_STATUS n) 11 8 0).updStr n fun v => { v with runClass := 0, badRun := 0, goodRun := v.goodRun + 1 }
  let st := s.strState n
  if st = 1 ∨ st = 3 then s.setStrState n 2
  else if 4 ≤ st ∧ st ≤ 6 ∧ s.bit (strReg Reg.STR_CFG n) 4 = false ∧ s.faultN ≤ (s.strCh n).goodRun then s.setStrState n 2
  else s

/-- A channel is converted in a measurable period, or in a probe (R372, R391). -/
def strMeasured (s : State) (n : Nat) : Bool := s.bit (strReg Reg.STR_STATUS n) 4 || (s.strCh n).probing

def senseConvert (s : State) (n mv : Nat) : State :=
  let cls := s.senseClass mv
  let s := (s.inc (strReg Reg.STR_MEAS_CNT n)).setReg (strReg Reg.STR_SENS n) (BitVec.ofNat 32 (mv + cls * 2 ^ 16))
  let s := if cls = 0 then s.senseGood n else s.senseBad n cls
  s.updStr n fun v => { v with probing := false, convAt := some s.mono, convClass := cls }

/-- One temperature sample of a channel (R382). -/
def strSample (s : State) (n : Nat) (t : Int) : State :=
  let trip := sext 16 (s.fld Reg.STR_THERM 15 0)
  let hys := sext 16 (s.fld Reg.STR_THERM 31 16)
  let s := s.updStr n fun v => { v with
    hot := if trip < t then v.hot + 1 else 0, cool := if t ≤ trip - hys then v.cool + 1 else 0 }
  if s.strState n = 7 ∧ 8 ≤ (s.strCh n).cool then s.setStrState n (if s.strLevel n = 0 then 0 else 1) else s

/-- A sample of a temperature source reaches the channels that use it. -/
def strSamples (s : State) (use : Nat → Bool) (t : Int) : State :=
  ((List.range 32).filter use).foldl (fun s n => s.strSample n t) s

/-! ### NTC inputs (R383) -/

end State

/-- ln of num / den in units of 10^-18, by the series of artanh. -/
def lnSeries (z z2 : Int) : Nat → Nat → Int
  | 0, _ => 0
  | f + 1, i => z / ((2 * i + 1 : Nat) : Int) + lnSeries (z * z2 / 10 ^ 18) z2 f (i + 1)

def lnFix (num den : Nat) : Int :=
  let a := num.log2
  let b := den.log2
  -- num / den = m × 2^(a − b) with m between 1/2 and 2
  let m : Int := ((num * 2 ^ b * 10 ^ 18 / (den * 2 ^ a) : Nat) : Int)
  let z := (m - 10 ^ 18) * 10 ^ 18 / (m + 10 ^ 18)
  2 * lnSeries z (z * z / 10 ^ 18) 30 0 + ((a : Int) - b) * 693147180559945309

/-- Temperature of an NTC in 1/16 °C to nearest, from the ratio r / 2^16; none where the formula gives no number (R383). -/
def ntcTemp (r rnom rbias beta : Nat) : Option Int :=
  if r = 0 ∨ 65536 ≤ r ∨ rnom = 0 ∨ rbias = 0 ∨ beta = 0 then none
  else
    let l := lnFix (rbias * r) (rnom * (65536 - r))
    let d : Int := 100 * 10 ^ 18 * (beta : Int) + 29815 * l
    if d ≤ 0 then none else some (roundDiv (160 * 29815 * 10 ^ 18 * (beta : Int) - 43704 * d) (10 * d.toNat))

namespace State

/-- A conversion of NTC input i. Where the formula has no value, T is a free value (log entry 2). -/
def ntcConvert (s : State) (i r : Nat) : State :=
  let a := Reg.NTC_TEMP + 0x10 * i
  let (t, s) : Nat × State := match ntcTemp r (s.fld (Reg.NTC_CFG + 0x10 * i) 31 16) (s.fld (Reg.NTC_BIAS + 0x10 * i) 15 0) (s.fld (Reg.NTC_CFG + 0x10 * i) 15 0) with
    | some t => (unsigned 16 t, s)
    | none => ((s.free 16).toNat, s.drawn)
  let s := s.setFld a 15 0 t
  let out := decide (98 * 65536 < 100 * r) || decide (100 * r < 2 * 65536)
  let v := s.ntcs.get {} i
  let v : NtcSt := if out then ⟨v.bad + 1, 0⟩ else ⟨0, v.good + 1⟩
  let s : State := { s with ntcs := s.ntcs.put {} i v }
  let s := if v.bad = 4 then (s.setBit a 16 false).raise Code.STRING_NTC_FAULT i
    else if 4 ≤ v.good then s.setBit a 16 true else s
  if s.bit a 16 then s.strSamples (fun n => s.fld (strReg Reg.STR_CFG n) 9 6 == i) (sext 16 t) else s

/-! ### Register writes -/

/-- Another channel is bound to the port (R379). -/
def bindTaken (s : State) (n b : Nat) : Bool :=
  (List.range 32).any fun m => m != n && (s.fld (strReg Reg.STR_CFG m) 3 1 == b || s.strBind.get 0 m == b)

/-- A write of STRn_CFG (R375, R379, R389). BIND 5 to 7 name no port and are refused as a second bind. -/
def strCfgEffect (s : State) (ag : Agent) (n : Nat) (v : Word) : State :=
  let b := wfld v 3 1
  if b ≠ 0 ∧ b ≠ s.fld (strReg Reg.STR_CFG n) 3 1 ∧ (4 < b ∨ s.bindTaken n b = true) then s.raise Code.STRING_CFG_ERR n
  else
    let was := s.strEn n
    let s := s.plainWrite ag (strReg Reg.STR_CFG n) v
    if was != s.strEn n then s.strPeriod n else s

/-- A write of STRn_PWM (R377). -/
def strPwmEffect (s : State) (ag : Agent) (n : Nat) (v : Word) : State :=
  let p := wfld v 19 0
  if p < 4000 ∨ 1000000 < p then s.raise Code.STRING_CFG_ERR n else s.plainWrite ag (strReg Reg.STR_PWM n) v

/-- A write of STRn_KNEE. -/
def strKneeEffect (s : State) (ag : Agent) (n : Nat) (v : Word) : State :=
  if wfld v 15 0 < 0x100 then s.raise Code.STRING_CFG_ERR n else s.plainWrite ag (strReg Reg.STR_KNEE n) v

/-- The fade table lies in plate memory, or in tile memory outside the scratch slices, 64-byte aligned (R387). -/
def fadeTblOk (a : Nat) : Bool := a % 64 == 0 && (inPlate a 2048 || tileBelowScratch a 2048)

/-- A write of STR_FADE_CTRL (R387). -/
def fadeCtrlEffect (s : State) (ag : Agent) (v : Word) : State :=
  if wfld v 0 0 = 1 ∧ fadeTblOk (s.regAddr Reg.STR_FADE_TBL_LO) = false then s.raise Code.STRING_CFG_ERR 0
  else s.plainWrite ag Reg.STR_FADE_CTRL v

/-- Setting STRn_CMD.CLEAR (R389); a conversion of the same moment is the first of a new run in the new state (R390). -/
def strClearEffect (s : State) (n : Nat) : State :=
  if 4 ≤ s.strState n ∧ s.strState n ≤ 6 then
    let c := s.strCh n
    let s := s.setStrState n (if s.strLevel n = 0 then 0 else 1)
    if c.convAt ≠ some s.mono then s else if c.convClass = 0 then s.senseGood n else s.senseBad n c.convClass
  else s

/-- The value of every engine is written at a whole-frame phase (R387). -/
def fadeTable (s : State) : State :=
  if !s.bit Reg.STR_FADE_CTRL 0 then s
  else s.store 0x3FFF (s.regAddr Reg.STR_FADE_TBL_LO) ((List.range 1024).flatMap fun e => leBytes 2 (s.fadeE e).value)

end State

/-! ### The commands -/

/-- PWM_PERIOD_START: the period in progress has ended (R374). -/
def execPwmPeriodStart (n : StrId) (s : State) : Host.Outcome State Fault Refusal :=
  if s.strEn n.val && decide ((s.strCh n.val).periodAt + (s.strCh n.val).period ≤ s.mono) then .next (s.strPeriod n.val) else .next s

/-- SENSE_CONVERSION: a conversion of a lit channel ends, at `mv` mV (R388). -/
def execSenseConversion (n : StrId) (mv : BitVec 16) (s : State) : Host.Outcome State Fault Refusal :=
  if s.strEn n.val && s.strMeasured n.val then .next (s.senseConvert n.val mv.toNat) else .next s

/-- NTC_CONVERSION: every 1 ms; `r` is the ratio V_ntc / VDDA_ANA in 2^-16 (R383). -/
def execNtcConversion (i : Fin 8) (r : Fin 65537) (s : State) : Host.Outcome State Fault Refusal := .next (s.ntcConvert i.val r.val)

/-- STR_THERMAL: 8 samples in a row above TTRIP (R382). -/
def execStrThermal (n : StrId) (s : State) : Host.Outcome State Fault Refusal :=
  if 8 ≤ (s.strCh n.val).hot ∧ s.strState n.val ≠ 7 then
    .next (((s.setStrState n.val 7).setReg (State.strReg Reg.STR_ON n.val) 0).raise Code.STRING_STR_THERM n.val)
  else .next s

/-- STR_SET: the first issued STR_SET action reaches its channel (R376, R378, R379). -/
def execStrSet (s : State) : Host.Outcome State Fault Refusal :=
  match s.takeIssued 5 with
  | none => .next s
  | some (a, s) =>
    let n := actTarget a.act
    if 32 ≤ n then .next s
    else if (s.strBound n).isSome then .next (s.raiseFrame Code.STRING_BIND_IGNORED n)
    else
      let s := (s.fadeStopCh n).updStr n fun v => { v with level := wfld a.a0 15 0 }
      .next (s.strPeriod n)

/-- FADE_START: the first issued FADE_START action starts an engine (R384). -/
def execFadeStart (s : State) : Host.Outcome State Fault Refusal :=
  match s.takeIssued 6 with
  | none => .next s
  | some (a, s) => .next (s.fadeStart a)

/-- FADE_FRAME_EVAL: every engine is evaluated at a whole-frame phase (R385, R387). -/
def execFadeFrameEval (s : State) : Host.Outcome State Fault Refusal :=
  if s.stopped || s.fadeFrame == some s.frame then .next s
  else
    let ph : DWord := BitVec.ofNat 64 (s.frame * 2 ^ 32)
    let s : State := { s with fadeFrame := some s.frame }
    .next (((List.range 1024).foldl (fun s e => s.fadeEval e ph) s).fadeTable)

/-- STRING_UNVERIFIED: PROBE_AFTER without a GOOD conversion (R389). -/
def execStringUnverified (n : StrId) (s : State) : Host.Outcome State Fault Refusal :=
  let st := s.strState n.val
  let from' := if st = 1 then (s.strCh n.val).since else (s.reg64 (State.strReg Reg.STR_LASTGOOD_LO n.val)).toNat
  if (st = 1 ∨ st = 2) ∧ from' + s.probeAfter ≤ s.mono then .next (s.setStrState n.val 3) else .next s

/-- PROBE_DUE: PROBE_PERIOD since the last probe (R391). -/
def execProbeDue (n : StrId) (s : State) : Host.Outcome State Fault Refusal :=
  if s.strState n.val = 3 ∧ (s.strCh n.val).probeAt + s.probePeriod ≤ s.mono then .next (s.updStr n.val fun v => { v with probeDue := true })
  else .next s

/-- STR_UNVERIFIED: PROBE_PERIOD in UNVERIFIED (R393). -/
def execStrUnverified (n : StrId) (s : State) : Host.Outcome State Fault Refusal :=
  if s.strState n.val = 3 ∧ (s.strCh n.val).unverAt + s.probePeriod ≤ s.mono then
    .next ((s.updStr n.val fun v => { v with unverAt := s.mono }).raise Code.STRING_STR_UNVERIFIED n.val)
  else .next s

/-- STR_CLEAR: setting STRn_CMD.CLEAR. -/
def execStrClear (ag : Agent) (n : StrId) (s : State) : Host.Outcome State Fault Refusal :=
  .next (s.writeBy ag (State.strReg Reg.STR_CMD n.val) fun s => s.strClearEffect n.val)

/-- STR_CFG_WRITE. -/
def execStrCfgWrite (ag : Agent) (n : StrId) (v : Word) (s : State) : Host.Outcome State Fault Refusal :=
  .next (s.writeBy ag (State.strReg Reg.STR_CFG n.val) fun s => s.strCfgEffect ag n.val v)

end Sys2Proof.Machine
end

