-- ==== Sys2Proof/Machine/Thermal.lean ====
section
/-!
DEFINITION. The Seeing monitor: sensors, cross-check, limits, throttling and compensation (16_thermal_calibration.md R627 to R640).
-/
namespace Sys2Proof.Machine

open Sys2Proof

/-- Floor of a quotient with a divisor of either sign. -/
def sdiv (a b : Int) : Int := if b < 0 then (-a) / (-b) else a / b

/-- Insert into an ascending list. -/
def insInt (x : Int) : List Int → List Int
  | [] => [x]
  | y :: r => if x ≤ y then x :: y :: r else y :: insInt x r

/-- The median, of an even number the floor of the mean of the middle two; none of an empty list (R629). -/
def median (l : List Int) : Option Int :=
  let m := l.foldr insInt []
  let n := m.length
  if n = 0 then none
  else if n % 2 = 1 then m[n / 2]?
  else some ((m.getD (n / 2 - 1) 0 + m.getD (n / 2) 0) / 2)

/-- Neighbours of sensor n on the grid (R627, R629). -/
def sensorNear (n : Nat) : List Nat :=
  (if n % 8 = 0 then [] else [n - 1]) ++ (if n % 8 = 7 then [] else [n + 1]) ++ (if n < 8 then [] else [n - 8])
    ++ (if 56 ≤ n then [] else [n + 8])

/-- Kind of a calibration target: 0 none, 1 TRIM, 2 SELECT, 3 MEASURE (R642). -/
def calKind (id : Nat) : Nat :=
  if id < 2 then 1
  else if 0x10 ≤ id ∧ id < 0x30 then 2
  else if 0x40 ≤ id ∧ id < 0x80 then 2
  else if 0x80 ≤ id ∧ id < 0x88 then 1
  else if id = 0xA0 then 3
  else if 0x100 ≤ id ∧ id < 0x144 then 2
  else if 0x180 ≤ id ∧ id < 0x184 then 1
  else 0

/-- KIND of a user record of a target: 0 ADD, 1 GAIN; none where it has no trim (R623, R642). -/
def trimKind (id : Nat) : Option Nat :=
  if calKind id = 0 ∨ id = 0xA0 then none
  else if id = 1 ∨ (0x10 ≤ id ∧ id < 0x30) then some 1
  else some 0

/-- Compensation table of a target (R640, R748). -/
def compTable (id : Nat) : Option Nat :=
  if id < 2 then some id else if 0x180 ≤ id ∧ id < 0x184 then some (id - 0x180 + 2) else if id = 0xA0 then some 6 else none

/-- The targets of R640, and RC_OSC (R641). -/
def compTargets : List Nat := [0, 1, 0x180, 0x181, 0x182, 0x183, 0xA0]

namespace State

/-- An OTP word; an uncorrectable one reads as 0xFFFF_FFFF (R701, R748). -/
def otpRead (s : State) (off : Nat) : Word :=
  if s.ue.get false (ctrlBase + 0xA00000 + off) then 0xFFFFFFFF#32 else s.otp.get 0 off

def broken (s : State) (n : Nat) : Bool := s.bit (Reg.THERM_BROKEN_LO + 4 * (n / 32)) (n % 32)

/-- Value in use of sensor n. -/
def sensorT (s : State) (n : Nat) : Int := sext 16 (s.fld (Reg.THERM_S + 4 * n) 15 0)

def thermLim (s : State) (k : Nat) : Int := sext 16 (s.fld (Reg.THERM_LIM0 + 4 * k) 15 0)
def thermHyst (s : State) (k : Nat) : Int := s.fld (Reg.THERM_LIM0 + 4 * k) 23 16
def thermDwell (s : State) (k : Nat) : Nat := max 1 (s.fld (Reg.THERM_LIM0 + 4 * k) 31 24)

/-- User value of a target in force, as signed. -/
def calUserI (s : State) (id : Nat) : Int := ((s.cal.user.get none id).getD 0).toInt

/-- The raw reading of sensor n, in 1/16 °C; a factory K of 0 leaves it open (R627). -/
def sensorRaw (s : State) (n : Nat) (c : Word) : Int × State :=
  let w := s.otpRead (0x100 + 4 * n)
  let k := sext 16 (wfld w 31 16)
  if k = 0 then (sext 16 (s.free 16).toNat, s.drawn)
  else (clampI (-32768) 32767 (400 + sdiv (8192 * ((c.toNat : Int) - wfld w 15 0) + k) (2 * k) + s.calUserI (0x40 + n)), s)

/-- Raw readings of all sensors. -/
def sensorRaws (s : State) (counts : List Word) : List Int × State :=
  (List.range 64).foldl (fun p n =>
    let (v, s) := p.2.sensorRaw n (counts.getD n 0)
    (p.1 ++ [v], s)) ([], s)

/-- Median of the raw readings of the unbroken neighbours (R629). -/
def nearMedian (s : State) (raw : List Int) (n : Nat) : Option Int :=
  median (((sensorNear n).filter fun m => !s.broken m).map fun m => raw.getD m 0)

/-- THERM_Ss of one sensor (R629, R630). -/
def sensorStore (s : State) (all : Option Int) (raw : List Int) (n : Nat) : State :=
  let a := Reg.THERM_S + 4 * n
  let run := s.fld a 31 24
  let near := s.nearMedian raw n
  if s.broken n then
    match near.or all with
    | some v => s.setFld a 15 0 (unsigned 16 v)
    | none => (s.setFld a 15 0 (s.free 16).toNat).drawn
  else
    let v := raw.getD n 0
    let run' := match near with
      | none => run
      | some m => if (s.fld Reg.THERM_CTRL 31 24 : Int) < (v - m).natAbs then min 255 (run + 1) else 0
    (s.setFld a 15 0 (unsigned 16 v)).setFld a 31 24 run'

/-- T_max and the lowest sensor that gives it (R630). -/
def hottest (s : State) : Int × Nat :=
  (List.range 64).foldl (fun p n => if p.1 < s.sensorT n then (s.sensorT n, n) else p) (s.sensorT 0, 0)

/-- Correction point P[i] of a compensation table (R640, R748). -/
def compPoint (s : State) (j i : Nat) : Int :=
  sext 16 (wfld (s.otpRead (0x200 + 32 * j + 4 + 4 * (i / 2))) (16 * (i % 2) + 15) (16 * (i % 2)))

/-- COMP at a temperature (R640). -/
def compAt (s : State) (j : Nat) (t : Int) : Int :=
  let tc := clampI (-640) 2160 t
  let i := min ((tc + 640) / 400).toNat 6
  let f := tc + 640 - 400 * i
  s.compPoint j i + fdiv (2 * (s.compPoint j (i + 1) - s.compPoint j i) * f + 400) 800

/-- COMP of every compensated target at its sensor's value (R640). -/
def compAll (s : State) : State :=
  let m := compTargets.foldl (fun (m : SMap Int) id => match compTable id with
    | some j => m.put 0 id (s.compAt j (s.sensorT (wfld (s.otpRead (0x200 + 32 * j)) 5 0)))
    | none => m) s.cal.comp
  { s with cal := { s.cal with comp := m } }

/-- In DORMANT the low-power clock's period follows its temperature (R641). -/
def rcPeriod (s : State) : State :=
  s.setReg Reg.CAL_RC_PERIOD (BitVec.ofInt 32 (s.cal.pMeas + s.cal.comp.get 0 0xA0 - s.cal.compMeas))

/-- FAST of a sample (R628). -/
def fastSample (s : State) (t : Int) : State :=
  let near := (List.range 4).any fun k => decide ((t - s.thermLim k).natAbs ≤ s.fld Reg.THERM_CTRL 7 0)
  if near then ({ s with therm := { s.therm with quiet := 0 } }).setBit Reg.THERM_STATUS 3 true
  else
    let s : State := { s with therm := { s.therm with quiet := min 16 (s.therm.quiet + 1) } }
    if 16 ≤ s.therm.quiet then s.setBit Reg.THERM_STATUS 3 false else s

/-- Dwell counts and crossings of a sample (R631, R632). -/
def limitSample (s : State) (t : Int) : State :=
  let s := (List.range 4).foldl (fun s k =>
    match s.therm.last with
    | some u => if (s.thermLim k ≤ t) ≠ (s.thermLim k ≤ u) then s.inc (Reg.THERM_CROSS_CNT + 4 * k) else s
    | none => s) s
  let up (k : Nat) : Bool := decide (s.thermLim k ≤ t)
  let dn (k : Nat) : Bool := decide (t < s.thermLim k - s.thermHyst k)
  { s with therm := { s.therm with
      last := some t
      hot := (List.range 4).map fun k => if up k then s.therm.hot.getD k 0 + 1 else 0
      cool := (List.range 4).map fun k => if dn k && !up k then s.therm.cool.getD k 0 + 1 else 0 } }

/-- Interval of the samples (R628). -/
def samplePeriod (s : State) : Nat :=
  if s.mode = 0xA then 100000000 else if s.bit Reg.THERM_STATUS 3 then 62500 else 1000000

/-- A sample (R628 to R632, R640). -/
def thermSample (s : State) (counts : List Word) : State :=
  let (raw, s) := s.sensorRaws counts
  let all := median (((List.range 64).filter fun n => !s.broken n).map fun n => raw.getD n 0)
  let s := (List.range 64).foldl (fun s n => s.sensorStore all raw n) s
  let (t, n) := s.hottest
  let s := s.setReg Reg.THERM_TMAX (BitVec.ofNat 32 (unsigned 16 t + n * 2 ^ 16))
  let s := if sext 16 (s.fld Reg.THERM_PEAK 15 0) < t then s.setFld Reg.THERM_PEAK 15 0 (unsigned 16 t) else s
  let s := (((s.inc Reg.THERM_SAMPLE_CNT).limitSample t).fastSample t).compAll
  let s : State := { s with therm := { s.therm with sampleAt := s.mono } }
  if s.mode = 0xA then s.rcPeriod else s

/-! ### Limits -/

/-- Limit k counts as active (R630, R631). -/
def limActive (s : State) (k : Nat) : Bool := s.therm.act / 2 ^ k % 2 == 1 || (k == 1 && s.therm.failing)

/-- The highest active limit, as THERM_STATUS.STATE (R633). -/
def thermLevel (s : State) : Nat := (List.range 4).foldl (fun m k => if s.limActive k then k + 1 else m) 0

/-- What TRIP holds in hardware (R639). -/
def tripDark (s : State) : State :=
  (List.range 4).foldl (fun s p => if s.bit (Reg.PLATE_CTRL + p * 0x4000) 0 then s.setBit (Reg.PLATE_CTRL + p * 0x4000) 12 true else s) s

/-- A limit becomes active: its fault, and the hold of TRIP (R633, R639). -/
def limEnter (s : State) (k : Nat) : State :=
  match k with
  | 0 => s.raise Code.THERM_THERM_WARN 0 [0]
  | 1 => s.raise Code.THERM_THERM_THROTTLE 0 [1]
  | 2 => s.raise Code.THERM_THERM_CRIT 0 [2]
  | _ => s.tripDark.raise Code.THERM_THERM_TRIP 0 [3]

/-- The throttle step, SHED and CONSTRAIN (R636, R637). -/
def setThrottle (s : State) (step : Nat) (shed : Bool) : State :=
  let s := if shed && !s.bit Reg.THERM_STATUS 8 then { s with therm := { s.therm with shedAt := s.mono } } else s
  let cons := decide (0 < step) || shed
  let s : State := if s.bit Reg.THERM_STATUS 9 && !cons then { s with therm := { s.therm with consAt := some s.mono } } else s
  let s := if step = s.fld Reg.THERM_STATUS 7 4 then s else { s with therm := { s.therm with changeAt := s.mono } }
  ((s.setFld Reg.THERM_STATUS 9 4 (step + b2n shed * 16 + b2n cons * 32)).setBit Reg.TILE_SHED_STATUS 0 shed)

/-- The rule of R636 at a sample. -/
def throttle (s : State) : State :=
  let step := s.fld Reg.THERM_STATUS 7 4
  let shed := s.bit Reg.THERM_STATUS 8
  let floor := s.fld Reg.THERM_STEP 23 20
  let ms (n : Nat) : Nat := n * 1000000
  let ago (t n : Nat) : Bool := decide (t + ms n ≤ s.mono)
  let t := s.therm.last.getD 0
  if s.limActive 3 || s.limActive 2 then s.setThrottle 15 true
  else if s.limActive 1 then
    let shedAt := if shed then s.therm.shedAt else s.mono
    let rise := ago shedAt (s.fld Reg.THERM_STEP 31 24) && decide (s.thermLim 1 ≤ t)
      && ago s.therm.changeAt (max 1 (s.fld Reg.THERM_STEP 7 0))
    let mx := s.fld Reg.THERM_STEP 19 16
    s.setThrottle (max floor (if rise && decide (step < mx) then step + 1 else step)) true
  else
    let fall := decide (floor < step) && ago (max s.therm.changeAt s.therm.inactiveAt) (max 1 (s.fld Reg.THERM_STEP 15 8))
    let step := if fall then step - 1 else step
    s.setThrottle (max step floor) (shed && decide (floor < step))

/-- The limits that have dwelt long enough change together, the highest first; then the throttle rule (R630, R631, R633, R636). -/
def limitsApply (s : State) : State :=
  let was := s.limActive
  let on (k : Nat) : Bool :=
    if s.thermDwell k ≤ s.therm.hot.getD k 0 then true
    else if s.thermDwell k ≤ s.therm.cool.getD k 0 then false
    else s.therm.act / 2 ^ k % 2 == 1
  let count := s.fld Reg.THERM_STATUS 22 16
  let fail := decide (s.fld Reg.THERM_CTRL 15 8 < count)
  let s := if fail && !s.therm.failing then s.raise Code.THERM_SENSOR_FAIL 0 [BitVec.ofNat 32 count] else s
  let s : State := { s with therm := { s.therm with
    act := (List.range 4).foldl (fun n k => n + b2n (on k) * 2 ^ k) 0
    failing := fail } }
  let lost (k : Nat) : Bool := was k && !s.limActive k
  let s : State := if lost 1 || lost 2 then { s with therm := { s.therm with inactiveAt := s.mono } } else s
  let old := s.fld Reg.THERM_STATUS 2 0
  let s := s.setFld Reg.THERM_STATUS 2 0 s.thermLevel
  let s := [3, 2, 1, 0].foldl (fun s k => if s.limActive k && !was k then s.limEnter k else s) s
  let s := if old ≠ 0 ∧ s.thermLevel = 0 then s.raise Code.THERM_THERM_CLEAR 0 else s
  s.throttle

/-- Mark a sensor broken (R629). -/
def markBroken (s : State) (n : Nat) : State :=
  if s.broken n then s
  else
    let s := (s.setBit (Reg.THERM_BROKEN_LO + 4 * (n / 32)) (n % 32) true).setBit (Reg.THERM_S + 4 * n) 16 true
    let s := s.setFld Reg.THERM_STATUS 22 16 (s.fld Reg.THERM_STATUS 22 16 + 1)
    s.raise Code.THERM_SENSOR_BROKEN n

/-- Clear every broken mark and cross-check count (R630). -/
def sensorClear (s : State) : State :=
  let s := (List.range 64).foldl (fun s n => s.setFld (Reg.THERM_S + 4 * n) 31 16 0) s
  (((s.setReg Reg.THERM_BROKEN_LO 0).setReg Reg.THERM_BROKEN_HI 0).setFld Reg.THERM_STATUS 22 16 0)

/-- A write to THERM_LIMk (R634). -/
def limWrite (s : State) (k : Nat) (v : Word) : State :=
  if s.bit Reg.THERM_LOCK 0 then s
  else
    let new (j : Nat) : Int := if j = k then sext 16 (wfld v 15 0) else s.thermLim j
    if new 0 < new 1 ∧ new 1 < new 2 ∧ new 2 < new 3 ∧ new 3 ≤ 2000 then
      let s := s.setReg (Reg.THERM_LIM0 + 4 * k) v
      { s with therm := { s.therm with hot := s.therm.hot.set k 0, cool := s.therm.cool.set k 0 } }
    else s.raise Code.THERM_CFG_ERR 0 [BitVec.ofNat 32 k]

/-! ### Trims (R623, R640, R643) -/

/-- Factory value of a target. -/
def calFactory (s : State) (id : Nat) : Word := if id < 0x200 then s.otpRead (0x400 + 4 * id) else 0

/-- The effective value of a trim (R623, R643). -/
def calEffective (s : State) (id : Nat) : Int :=
  let f := s.calFactory id
  let c := if id = 0xA0 then 0 else s.cal.comp.get 0 id
  if trimKind id = some 1 then
    let u := match s.cal.user.get none id with
      | some v => (2 * f.toNat * v.toNat + 65536) / 131072
      | none => f.toNat
    clampI 0 4294967295 (u + c)
  else clampI (-2147483648) 2147483647 (clampI (-2147483648) 2147483647 (f.toInt + s.calUserI id) + c)

/-- Applied trims move one code toward the effective value (R640). -/
def compStep (s : State) : State :=
  let m := [0, 1, 0x180, 0x181, 0x182, 0x183].foldl (fun (m : SMap Int) id =>
    let a := m.get 0 id
    let e := s.calEffective id
    m.put 0 id (if a < e then a + 1 else if e < a then a - 1 else a)) s.cal.applied
  { s with cal := { s.cal with applied := m, stepAt := s.mono } }

end State

/-- THERM_SAMPLE: a sample is due (R628). -/
def execThermSample (counts : List Word) (s : State) : Host.Outcome State Fault Refusal :=
  .next (if s.mode ≠ 0 ∧ s.therm.sampleAt + s.samplePeriod ≤ s.mono then s.thermSample counts else s)

/-- SENSOR_BROKEN: XCHK_N deviating samples in a row (R629). -/
def execSensorBroken (n : Fin 64) (s : State) : Host.Outcome State Fault Refusal :=
  .next (if max 1 (s.fld Reg.THERM_CTRL 23 16) ≤ s.fld (Reg.THERM_S + 4 * n.val) 31 24 then s.markBroken n.val else s)

/-- THERM_LIMIT_CHANGE (R630, R631, R633). -/
def execThermLimitChange (s : State) : Host.Outcome State Fault Refusal := .next s.limitsApply

/-- THROTTLE_STEP_CHANGE (R636). -/
def execThrottleStepChange (s : State) : Host.Outcome State Fault Refusal := .next s.throttle

/-- THERM_LIM_WRITE (R634). -/
def execThermLimWrite (ag : Agent) (k : Fin 4) (v : Word) (s : State) : Host.Outcome State Fault Refusal :=
  .next (s.writeBy ag (Reg.THERM_LIM0 + 4 * k.val) fun s => s.limWrite k.val v)

/-- SENSOR_CLR (R630). -/
def execSensorClr (ag : Agent) (s : State) : Host.Outcome State Fault Refusal :=
  .next (s.writeBy ag Reg.THERM_CMD fun s => s.sensorClear)

/-- PEAK_CLR (R630). -/
def execPeakClr (ag : Agent) (s : State) : Host.Outcome State Fault Refusal :=
  .next (s.writeBy ag Reg.THERM_CMD fun s => s.setFld Reg.THERM_PEAK 15 0 (s.fld Reg.THERM_TMAX 15 0))

/-- COMP_STEP: every 1 ms (R640). -/
def execCompStep (s : State) : Host.Outcome State Fault Refusal :=
  .next (if s.cal.stepAt + 1000000 ≤ s.mono then s.compStep else s)

end Sys2Proof.Machine
end

