-- ==== Sys2Proof/Machine/Collimator.lean ====
section
/-!
DEFINITION. The Collimator: calibration runs by repeat and agree (16_thermal_calibration.md R642 to R650).
-/
namespace Sys2Proof.Machine

open Sys2Proof

/-- What one run of a target gives: a result, unless the run is a disagreement by itself; spare cells out of band; the cells outside the
band; a termination out of range (R646 to R649). -/
structure CalRes where
  res : Option Nat := none
  spares : Bool := false
  outside : Nat := 0
  range : Bool := false
  deriving DecidableEq, Repr

/-- Insert an index by its distance, the lower index first on ties. -/
def insDist (x : Nat × Nat) : List (Nat × Nat) → List (Nat × Nat)
  | [] => [x]
  | y :: r => if x.1 ≤ y.1 then x :: y :: r else y :: insDist x r

/-- Indices of a list by their distance. -/
def byDist (l : List Nat) : List (Nat × Nat) := (l.zip (List.range l.length)).foldr insDist []

/-- A STR_DACn run on 72 cell currents (R646). -/
def dacRun (l : List Int) : CalRes :=
  if l.length ≠ 72 then {}
  else
    let sum := l.foldl (· + ·) 0
    let d := l.map fun x => (72 * x - sum).natAbs
    let out := (d.filter fun x => decide (sum.natAbs < 100 * x)).length
    let set := ((byDist d).take 64).foldl (fun n p => n + 2 ^ p.2) 0
    { res := some set, spares := decide (8 < out), outside := out }

/-- A TSENS_s run on the reading of each configuration and the 64 current readings (R647). -/
def tsensRun (l : List Int) : CalRes :=
  match median (l.drop 5) with
  | none => {}
  | some m =>
    match byDist ((l.take 5).map fun x => (x - m).natAbs) with
    | (d, c) :: _ => if 32 < d then {} else { res := some c }
    | [] => {}

/-- An SD_TERMl run on the resistance at each code, in mΩ (R648). -/
def termRun (l : List Int) : CalRes :=
  if l.length ≠ 32 then {}
  else match byDist (l.map fun x => (x - 50000).natAbs) with
    | (d, c) :: _ => if 5000 < d then { range := true } else { res := some c }
    | [] => {}

/-- A run of a target. -/
def calRunRes (id : Nat) (l : List Int) : CalRes :=
  if id < 0x30 then dacRun l
  else if id < 0x80 then tsensRun l
  else if id = 0xA0 then { res := l.head?.map fun x => x.toNat }
  else termRun l

/-- Two runs agree (R642, R644). -/
def calAgree (id : Nat) (a b : CalRes) : Bool :=
  match a.res, b.res with
  | some x, some y => if id = 0xA0 then decide (((x : Int) - y).natAbs * 2000 ≤ x) else x == y
  | _, _ => false

/-- Insert a target into an ascending queue without repeats. -/
def insTarget (x : Nat) : List Nat → List Nat
  | [] => [x]
  | y :: r => if x < y then x :: y :: r else if x = y then y :: r else y :: insTarget x r

/-- The targets of a span. -/
def spanOf (a n : Nat) : List Nat := (List.range n).map (a + ·)

/-- SELECT targets (R642). -/
def selectTargets : List Nat := spanOf 0x10 32 ++ spanOf 0x40 64 ++ spanOf 0x100 68

namespace State

/-- SerDes lane n's link or port is in a state in which SD_TERM may run (R642, R747). -/
def laneIdle (s : State) (n : Nat) : Bool :=
  if n < 16 then decide (s.fld (Reg.TRANSIT_STATUS + 0x1000 * n) 1 0 ≤ 1)
  else if n < 52 then !s.macUp (n - 16)
  else
    let st := s.fld (Reg.PLATE_LINK_STATUS + 0x4000 * ((n - 52) / 4)) 3 0
    st == 0 || st == 1 || st == 3

/-- The target is in the condition its "Runs when" column states (R642, R646, R647, R649). -/
def calCan (s : State) (id : Nat) : Bool :=
  if id < 0x30 then s.strsOff || !s.strEn (id - 0x10) || s.strLevel (id - 0x10) == 0
  else if id < 0x80 then s.mode == 1 && (List.range 256).all fun c => (s.core c).run == .idle
  else if id = 0xA0 then false
  else s.laneIdle (id - 0x100)

/-- Start the next run: the lowest queued target, or a deferred one whose condition holds now (R645). -/
def calNext (s : State) : State :=
  if s.cal.running.isSome then s
  else
    let back := s.cal.deferred.filter s.calCan
    let q := back.foldl (fun q x => insTarget x q) s.cal.queue
    { s with cal := { s.cal with
        running := q.head?
        queue := q.drop 1
        deferred := s.cal.deferred.filter fun x => !back.contains x } }

/-- Queue targets; a run in progress is not queued again (R645). -/
def calQueue (s : State) (l : List Nat) : State :=
  let q := l.foldl (fun q x => if s.cal.running = some x then q else insTarget x q) s.cal.queue
  ({ s with cal := { s.cal with queue := q } }).calNext

/-- CAL_CMD.RUN of a target (R645). -/
def calRunTarget (s : State) (id : Nat) : State :=
  if calKind id < 2 then { s with cal := { s.cal with tstat := s.cal.tstat.put 0 id 5 } } else s.calQueue [id]

/-- Apply an agreed result (R644, R646 to R650). -/
def calApply (s : State) (id : Nat) (a b : CalRes) : State :=
  let x := b.res.getD 0
  if id < 0x30 then
    let n := id - 0x10
    let s := s.setFld (strReg Reg.STR_SPARE n) 15 8 b.outside
    let s := { s with cal := { s.cal with
      cells := s.cal.cells.put none n (some (BitVec.ofNat 72 x))
      sel := s.cal.sel.put 0 id ((List.range 8).foldl (fun k i => k + x / 2 ^ (64 + i) % 2) 0) } }
    if b.spares then s.raise Code.CAL_SPARES_OUT id else s
  else if id = 0xA0 then
    let p := ((a.res.getD 0) + x + 1) / 2
    { s with cal := { s.cal with pMeas := p, compMeas := s.cal.comp.get 0 0xA0 } }.setReg Reg.CAL_RC_PERIOD (BitVec.ofNat 32 p)
  else
    let s : State := { s with cal := { s.cal with sel := s.cal.sel.put 0 id x } }
    if 0x100 ≤ id then s.setFld (Reg.SERDES_TERM + 0x800 * (id - 0x100)) 4 0 x else s

/-- The attempts of R644. -/
def calAttempt (s : State) (id : Nat) (runs : List (List Int)) (n : Nat) : Nat → State
  | 0 =>
    let s : State := { s with cal := { s.cal with tstat := s.cal.tstat.put 0 id (3 + 3 * 16) } }
    let s := (s.inc Reg.CAL_FAULT_CNT).raise Code.CAL_CAL_FAULT id
    if 0x40 ≤ id ∧ id < 0x80 then s.markBroken (id - 0x40) else s
  | f + 1 =>
    let a := calRunRes id (runs.getD 0 [])
    let b := calRunRes id (runs.getD 1 [])
    let s := s.incBy Reg.CAL_RUN_CNT 2
    let s := if a.range then s.raise Code.CAL_TERM_RANGE id else s
    let s := if b.range then s.raise Code.CAL_TERM_RANGE id else s
    if calAgree id a b then
      let s := s.calApply id a b
      { s with cal := { s.cal with
          tstat := s.cal.tstat.put 0 id (1 + n * 16)
          count := s.cal.count.put 0 id (s.cal.count.get 0 id + 1)
          last := s.cal.last.put 0 id (BitVec.ofNat 48 s.ptp.sec) } }
    else s.calAttempt id (runs.drop 2) (n + 1) f

/-- A run that cannot take its measurement is deferred (R645). -/
def calDefer (s : State) (id : Nat) : State :=
  let s : State := { s with cal := { s.cal with
    tstat := s.cal.tstat.put 0 id 2
    deferred := insTarget id s.cal.deferred } }
  let s := s.inc Reg.CAL_DEFER_CNT
  let key := Code.CAL_CAL_DEFER + 65536 * id
  if s.onceOk key 3600000000000 then (s.onceMark key).raise Code.CAL_CAL_DEFER id else s

/-- The run in progress ends (R644, R645). -/
def calDone (s : State) (runs : List (List Int)) : State :=
  let s := s.calNext
  match s.cal.running with
  | none => s
  | some id =>
    let s : State := { s with cal := { s.cal with running := none } }
    (if s.calCan id then s.calAttempt id runs 1 3 else s.calDefer id).calNext

end State

/-- CAL_RUN: the target its agent has selected (R645). -/
def execCalRun (ag : Agent) (s : State) : Host.Outcome State Fault Refusal :=
  .next (s.writeBy ag Reg.CAL_CMD fun s => s.calRunTarget (s.afld (agIdx ag) Reg.CAL_SEL 15 0))

/-- CAL_ALL (R645). -/
def execCalAll (ag : Agent) (s : State) : Host.Outcome State Fault Refusal :=
  .next (s.writeBy ag Reg.CAL_CMD fun s => s.calQueue (0xA0 :: selectTargets))

/-- CAL_RUN_DONE (R644, R645). -/
def execCalRunDone (runs : List (List Int)) (s : State) : Host.Outcome State Fault Refusal := .next (s.calDone runs)

/-- CAL_AUTO_TICK: every PERIOD_MIN minutes (R645). -/
def execCalAutoTick (s : State) : Host.Outcome State Fault Refusal :=
  .next (if s.bit Reg.CAL_CTRL 0 && decide (s.cal.autoAt + max 1 (s.fld Reg.CAL_CTRL 31 16) * 60000000000 ≤ s.mono) then
    ({ s with cal := { s.cal with autoAt := s.mono } }).calQueue (spanOf 0x10 32 ++ spanOf 0x100 68)
  else s)

end Sys2Proof.Machine
end

