-- ==== Sys2Proof/Machine/Panel.lean ====
section
/-!
DEFINITION. Panel inputs, EMERG_L and DARK_L (13_local_io.md R569 to R573).
-/
namespace Sys2Proof.Machine

open Sys2Proof

namespace State

def pnl (s : State) (i : Nat) : PanelIn := s.panel.get {} i
def setPnl (s : State) (i : Nat) (v : PanelIn) : State := { s with panel := s.panel.put {} i v }

/-- State of input i (R570). -/
def pnlState (s : State) (i : Nat) : Nat := s.fld (Reg.PANEL_STATE + 4 * (i / 8)) (4 * (i % 8) + 2) (4 * (i % 8))
def setPnlState (s : State) (i st : Nat) : State := s.setFld (Reg.PANEL_STATE + 4 * (i / 8)) (4 * (i % 8) + 2) (4 * (i % 8)) st

def debNs (s : State) : Nat := max 1 (s.fld Reg.PANEL_CTRL 15 8) * 1000000
def stuckNs (s : State) : Nat := max 1 (s.fld Reg.PANEL_STUCK 15 0) * 100000000
def chatEdges (s : State) : Nat := max 1 (s.fld Reg.PANEL_CHAT 7 0)
def chatNs (s : State) : Nat := max 1 (s.fld Reg.PANEL_CHAT 23 8) * 1000000

/-- Edges within the last window. -/
def edgesNow (s : State) (l : List Nat) : List Nat := l.filter fun t => decide (s.sampleAt < t + s.chatNs)

/-- Every sample over DEB_MS has shown the present level (R570). -/
def pnlStable (s : State) (i : Nat) : Bool := decide ((s.pnl i).runAt + s.debNs ≤ s.sampleAt)

/-- A state change posts an event (R571). -/
def pnlEvent (s : State) (i st : Nat) (level : Bool) (res : Nat) : State :=
  if !s.bit Reg.PANEL_CTRL 6 then s
  else
    let mono := BitVec.ofNat 64 s.sampleAt
    (s.ringUnit (s.fld Reg.PANEL_CTRL 5 0) [entryOne 0x72 [BitVec.ofNat 32 (i + st * 2 ^ 8 + b2n level * 2 ^ 16), s.phase.extractLsb' 0 32,
      s.phase.extractLsb' 32 32, mono.extractLsb' 0 32, mono.extractLsb' 32 32, BitVec.ofNat 32 res]]).2

/-- Post a template; its result, 0 when nothing is posted (R572). -/
def pnlPost (s : State) (i base : Nat) : Nat × State :=
  let w (k : Nat) : Word := s.reg (base + 0x40 * i + 4 * k)
  if actCode (w 2) = 0 then (0, s)
  else
    let ph : DWord := w 1 ++ w 0
    let nom : DWord := if actNow (w 2) then ph
      else if s.bit Reg.PANEL_QUANT i then BitVec.ofNat 64 ((s.frame + 1) % 2 ^ 32 * 2 ^ 32 + (w 0).toNat)
      else s.phase + ph
    let (res, s) := s.ephSubmit [nom.extractLsb' 0 32, nom.extractLsb' 32 32, w 2, w 3, w 4, w 5, w 6, w 7]
    if res = 0 then (0, s.inc Reg.PANEL_POST_CNT)
    else (res, (s.inc Reg.PANEL_REFUSE_CNT).raiseSecAll Code.PANEL_POST_REFUSED i)

/-- An input enters a state, with its event and the result of a template's post. -/
def pnlEnter (s : State) (i st res : Nat) : State :=
  let s := s.setPnlState i st
  let s := if st = 2 then s.setPnl i { s.pnl i with activeAt := s.sampleAt } else s
  s.pnlEvent i st (s.bit Reg.PANEL_LEVEL i) res

/-- Too many edges in a window put the input in CHATTER (PANEL_CHATTER, R570). -/
def pnlChatter (s : State) (i : Nat) : State :=
  let st := s.pnlState i
  if 1 ≤ st ∧ st ≤ 4 ∧ s.chatEdges < (s.edgesNow (s.pnl i).edges).length then
    let s := s.setPnl i { s.pnl i with chatAt := s.sampleAt }
    (s.pnlEnter i 5 0).raise Code.PANEL_PANEL_CHATTER i
  else s

/-- A stable change of an input (R570). -/
def pnlChange (s : State) (i : Nat) (active : Bool) : State :=
  let st := s.pnlState i
  let auto := s.bit Reg.PANEL_CTRL 16
  let s := if st = 5 then s else s.setBit Reg.PANEL_LEVEL i active
  match st with
  | 0 => s.pnlEnter i (if active then 2 else 1) 0
  | 1 => if active then
      let (r, s) := s.pnlPost i Reg.PANEL_ACT_ON
      s.pnlEnter i 2 r
    else s
  | 2 => if active then s else
      let (r, s) := s.pnlPost i Reg.PANEL_ACT_OFF
      s.pnlEnter i 1 r
  | 3 => if active then s else s.pnlEnter i (if auto then 1 else 4) 0
  | _ => s

/-- A whole window with at most one edge ends CHATTER (R570). -/
def pnlCalm (s : State) (i : Nat) (active : Bool) : State :=
  let v := s.pnl i
  if s.pnlState i = 5 ∧ v.chatAt + s.chatNs ≤ s.sampleAt ∧ (s.edgesNow v.edges).length ≤ 1 then
    if !s.bit Reg.PANEL_CTRL 16 then (if s.pnlStable i then s.setBit Reg.PANEL_LEVEL i active else s).pnlEnter i 4 0
    else if s.pnlStable i then (s.setBit Reg.PANEL_LEVEL i active).pnlEnter i (if active then 2 else 1) 0
    else s
  else s

/-- One sample of a generic input (R569, R570). -/
def pnlSample (s : State) (i : Nat) (active : Bool) : State :=
  let edge := s.bit Reg.PANEL_RAW i != active
  let v := s.pnl i
  let on := s.bit Reg.PANEL_EN i
  let s := if edge then s.inc Reg.PANEL_EDGE_CNT else s
  let s := s.setPnl i { v with
    runAt := if edge || !on then s.sampleAt else v.runAt
    edges := if on then s.edgesNow v.edges ++ (if edge then [s.sampleAt] else []) else [] }
  let s := s.setBit Reg.PANEL_RAW i active
  if !on then (if s.pnlState i = 0 then s else s.setPnlState i 0)
  else
    let st := s.pnlState i
    let s := s.pnlChatter i
    if s.pnlState i = 5 ∧ st ≠ 5 then s
    else if st = 5 then s.pnlCalm i active
    else if s.pnlStable i then s.pnlChange i active else s

/-! ### EMERG_L and DARK_L (R573) -/

def safeIn (s : State) (k : Nat) : SafeIn := s.safe.get {} k
def setSafe (s : State) (k : Nat) (v : SafeIn) : State := { s with safe := s.safe.put {} k v }
/-- 0 released, 1 asserted, 2 CHATTER. -/
def safeState (s : State) (k : Nat) : Nat := s.fld Reg.PANEL_SAFE (2 * k + 1) (2 * k)
def setSafeState (s : State) (k st : Nat) : State :=
  let s := s.setFld Reg.PANEL_SAFE (2 * k + 1) (2 * k) st
  s.pnlEvent (32 + k) st (s.safeIn k).low 0

/-- The input comes to count as asserted. -/
def safeOn (s : State) (k : Nat) : State :=
  (s.setSafe k { s.safeIn k with assertAt := s.sampleAt, long := false }).raise (if k = 0 then Code.PANEL_EMERG_ASSERT else Code.PANEL_DARK_ASSERT) (32 + k)

/-- One sample of a safety input. -/
def safeSample (s : State) (k : Nat) (low : Bool) : State :=
  let v := s.safeIn k
  let edge := v.low != low
  let s := if edge then s.inc Reg.PANEL_EDGE_CNT else s
  let s := s.setSafe k { v with
    low := low
    runAt := if edge then s.sampleAt else v.runAt
    edges := s.edgesNow v.edges ++ (if edge then [s.sampleAt] else []) }
  let v := s.safeIn k
  let st := s.safeState k
  if st ≠ 2 ∧ s.chatEdges < v.edges.length then
    let s := s.setSafe k { v with chatAt := s.sampleAt }
    let s := s.setSafeState k 2
    let s := if st = 0 then s.safeOn k else s
    s.raise Code.PANEL_SAFE_CHATTER (32 + k)
  else if st = 2 ∧ v.chatAt + s.chatNs ≤ s.sampleAt ∧ v.edges.length ≤ 1 then s.setSafeState k 1
  else s

/-- 1 ms of low samples (R573). -/
def safeAssert (s : State) (k : Nat) : State :=
  let v := s.safeIn k
  if s.safeState k = 0 ∧ v.low ∧ v.runAt + 1000000 ≤ s.sampleAt then (s.setSafeState k 1).safeOn k else s

/-- REL_MS of high samples (R573). -/
def safeRelease (s : State) (k : Nat) : State :=
  let v := s.safeIn k
  if s.safeState k = 1 ∧ v.low = false ∧ v.runAt + s.fld Reg.PANEL_SAFE 31 16 * 1000000 ≤ s.sampleAt then s.setSafeState k 0 else s

/-- A write of PANEL_REARM (R570). -/
def rearmEffect (s : State) (v : Word) : State :=
  (List.range 32).foldl (fun s i =>
    let s := s.pnlChatter i
    if v.getLsbD i && s.pnlState i == 4 && s.pnlStable i && !s.bit Reg.PANEL_RAW i then s.pnlEnter i 1 0 else s) s

/-- A write of PANEL_EN: an input whose bit is cleared goes OFF (R570). -/
def panelEnEffect (s : State) (ag : Agent) (v : Word) : State :=
  let s := s.plainWrite ag Reg.PANEL_EN v
  (List.range 32).foldl (fun s i => if s.bit Reg.PANEL_EN i || s.pnlState i == 0 then s else s.pnlEnter i 0 0) s

/-- A write of PANEL_CHAT: inputs with too many edges enter CHATTER (R570). -/
def panelChatEffect (s : State) (ag : Agent) (v : Word) : State :=
  let s := s.plainWrite ag Reg.PANEL_CHAT v
  (List.range 32).foldl (fun s i => s.pnlChatter i) s

/-- A write of PANEL_SAFE: REL_MS of 100 or more. -/
def panelSafeEffect (s : State) (ag : Agent) (v : Word) : State :=
  if wfld v 31 16 < 100 then s.raise Code.PANEL_CFG_ERR 0 else s.plainWrite ag Reg.PANEL_SAFE v

end State

/-! ### Commands -/

/-- PANEL_SAMPLE: every 100 µs (R569). -/
def execPanelSample (pins : Word) (emergL darkL : Bool) (s : State) : Host.Outcome State Fault Refusal :=
  let s : State := { s with sampleAt := s.mono }
  let s := (List.range 32).foldl (fun s i => s.pnlSample i (pins.getLsbD i == s.bit Reg.PANEL_POL i)) s
  .next ((s.safeSample 0 (!emergL)).safeSample 1 (!darkL))

/-- PANEL_STUCK: active for STUCK_TIME (R570). -/
def execPanelStuck (i : Fin 32) (s : State) : Host.Outcome State Fault Refusal :=
  let s := s.pnlChatter i.val
  if s.pnlState i.val = 2 ∧ s.bit Reg.PANEL_MAINT i.val = false ∧ (s.pnl i.val).activeAt + s.stuckNs ≤ s.sampleAt
      ∧ ¬(s.pnlStable i.val ∧ s.bit Reg.PANEL_RAW i.val = false) then
    .next ((s.pnlEnter i.val 3 0).raise Code.PANEL_PANEL_STUCK i.val)
  else .next s

/-- PANEL_REARM. -/
def execPanelRearm (ag : Agent) (v : Word) (s : State) : Host.Outcome State Fault Refusal :=
  .next (s.writeBy ag Reg.PANEL_REARM fun s => s.rearmEffect v)

/-- EMERG_ASSERT. -/
def execEmergAssert (s : State) : Host.Outcome State Fault Refusal := .next (s.safeAssert 0)
/-- EMERG_RELEASE. -/
def execEmergRelease (s : State) : Host.Outcome State Fault Refusal := .next (s.safeRelease 0)
/-- DARK_ASSERT. -/
def execDarkAssert (s : State) : Host.Outcome State Fault Refusal := .next (s.safeAssert 1)
/-- DARK_RELEASE. -/
def execDarkRelease (s : State) : Host.Outcome State Fault Refusal := .next (s.safeRelease 1)

/-- SAFE_LONG: asserted without a break for STUCK_TIME, once for each assertion (R573). -/
def execSafeLong (i : Fin 2) (s : State) : Host.Outcome State Fault Refusal :=
  let v := s.safeIn i.val
  if s.safeState i.val ≠ 0 ∧ v.long = false ∧ v.assertAt + s.stuckNs ≤ s.sampleAt then
    .next ((s.setSafe i.val { v with long := true }).raise Code.PANEL_SAFE_LONG (32 + i.val))
  else .next s

end Sys2Proof.Machine
end

