-- ==== Sys2Proof/Machine/Twin.lean ====
section
/-!
DEFINITION. The commands of the twin unit: heartbeat, pins, gate, judgement, health and handback (14_twin_redundancy.md R576 to R600).
-/
namespace Sys2Proof.Machine

open Sys2Proof

namespace State

/-- Heartbeat periods that passed whole without one, up to now (TWIN_HB_MISS_CNT). -/
def hbMissed (s : State) : Nat :=
  if s.hbPeriod = 0 then 0 else (s.mono - max s.twin.hbAt s.twin.since - 1) / s.hbPeriod

/-- A heartbeat of the peer; BLOCKED is not left for STANDBY while R578 holds (R578, R593, R599). -/
def hbReceive (s : State) : State :=
  let st := s.twState
  let s := if st = 3 then s.incBy Reg.TWIN_HB_MISS_CNT s.hbMissed else s
  let s := s.updTwin fun t => { t with hbAt := s.mono }
  if st = 1 ∨ (st = 4 ∧ s.twHeld = false) then (s.setFld Reg.TWIN_STATUS 2 0 3).updTwin fun t => { t with since := s.mono } else s

/-- HB lost: what START, STANDBY and BLOCKED make of it (R593). -/
def hbLoss (s : State) : State :=
  let peer := s.bit Reg.TWIN_STATUS 4
  match s.twState with
  | 1 =>
    let claim := if s.bit Reg.TWIN_CTRL 1 then s.fld Reg.TWIN_HB 31 24 * 1000000 else 0
    if !s.hbLost || peer || s.mono < s.twin.since + s.missN * s.hbPeriod + claim then s else s.twinOwner false
  | 3 =>
    if !s.hbLost || s.twHeld || (!s.bit Reg.TWIN_CTRL 7 && !s.bit Reg.TWIN_HEALTH 0) then s
    else
      let s := s.incBy Reg.TWIN_HB_MISS_CNT s.missN
      if peer then
        ((s.setFld Reg.TWIN_STATUS 2 0 4).updTwin fun t => { t with since := s.mono, hbAt := s.mono - s.missN * s.hbPeriod }).raise
          Code.TWIN_PEER_STUCK s.peerNode
      else (s.raise Code.TWIN_HB_LOST s.peerNode).twinOwner true
  | 4 => if peer || s.mono < s.twin.hbAt + s.missN * s.hbPeriod then s else s.twinOwner true
  | _ => s

/-- TWIN_PEER_L is sampled asserted: the gate closes, and owners contend (R580, R597). -/
def peerAssert (s : State) : State :=
  let owner := s.twState == 2
  let s := s.setBit Reg.TWIN_STATUS 4 true
  let s := if s.twEn then s.gateShut else s
  if !owner then s
  else
    let s := s.raise Code.TWIN_CONTEND s.peerNode
    if s.bit Reg.TWIN_CTRL 1 && s.twState == 2 then s.twinToStandby else s

/-- TWIN_PEER_L is sampled negated: a waiting device takes ownership (R593). -/
def peerNegate (s : State) : State :=
  let s := (s.setBit Reg.TWIN_STATUS 4 false).updTwin fun t => { t with peerAt := s.mono }
  match s.twState, s.twin.take with
  | 3, some judged => s.twinTake judged
  | 4, _ => if s.twin.hbAt + s.missN * s.hbPeriod ≤ s.mono then s.twinOwner true else s
  | _, _ => s

/-- A self-test kind passes on every element tested last (R591). -/
def testOk (s : State) (kind : Nat) : Bool := s.twin.failed.all fun x => x / 65536 != kind

/-- The health word (R592, R578). -/
def healthWord (s : State) : Word :=
  let first := s.reg Reg.FAULT_FIRST_CODE
  let fault := s.twHeld || (wfld first 31 31 == 1 && decide (2 ≤ faultClass (wfld first 15 0)))
  let link := s.twinLinkUp
  let sync := s.twSync
  let feed := !s.twin.feedBad
  let ready := link && sync && feed && s.testOk 0 && s.testOk 1 && s.testOk 2 && !fault && !s.twin.faulty
  BitVec.ofNat 32 (b2n ready + b2n link * 2 + b2n sync * 4 + b2n feed * 8 + b2n (s.testOk 0) * 16 + b2n (s.testOk 1) * 32
    + b2n (s.testOk 2) * 64 + b2n fault * 128 + s.twState * 256 + s.twin.tests % 65536 * 65536)

/-- Publish the health word and send it (R592). -/
def healthPublish (s : State) : State :=
  let s := s.setReg Reg.TWIN_HEALTH s.healthWord
  let s := s.updTwin fun t => { t with pubFrame := some s.frame }
  s.twinSend 10 [s.reg Reg.TWIN_HEALTH, BitVec.ofNat 32 s.frame, s.reg Reg.TWIN_STATUS, 0]

/-- The sub-frame that TYIELD names: the one in progress on the first gated port, or the next one (R600). -/
def yieldName (s : State) : Nat × Nat :=
  match s.gatedPorts with
  | [] => (s.frame, 0)
  | p :: _ => match s.sfCur p with
    | some x => (x.n, x.s)
    | none => s.sfOf p (s.nextLatch p (s.port p).lastPh)

/-- Setting YIELD (R600). -/
def yieldEffect (s : State) : State :=
  if !s.yieldOk then s.raise Code.TWIN_CFG_ERR 0
  else
    let (n, sf) := s.yieldName
    let s := s.twinSend 12 [BitVec.ofNat 32 n, BitVec.ofNat 32 sf]
    let s := (s.setFld Reg.TWIN_STATUS 2 0 5).updTwin fun t => { t with since := s.mono, yield := some (n, sf) }
    s.raise Code.TWIN_HANDBACK s.peerNode

/-- The LE of the sub-frame named has left on a port; a port that does not stream has none (R593, R600). -/
def yieldLeft (s : State) (p n sf : Nat) : Bool :=
  let l : DWord := BitVec.ofNat 64 (n * 2 ^ 32 + sf * s.sfStep p) + s.plateOfs
  s.isLastLe p n sf || !s.streaming p || (!phaseBefore s.phase l && !((s.port p).sfs.any fun x => x.stream && x.le.isNone))

/-- The twin unit leaves SOLO for START with its gate closed (R580, R593). -/
def twinStart (s : State) : State :=
  let s := ((s.setFld Reg.TWIN_STATUS 2 0 1).setBit Reg.TWIN_STATUS 3 false).gateShut
  s.updTwin fun t => { t with since := s.mono, take := none, yield := none, judge := none, early := none, items := [], linkSeen := s.twinLinkUp }

/-- A write of TWIN_CTRL: setting EN enters START, clearing it SOLO (R580, R593). -/
def twinCtrlEffect (s : State) (ag : Agent) (v : Word) : State :=
  let was := s.twEn
  let s := s.plainWrite ag Reg.TWIN_CTRL v
  if !was && s.twEn then s.twinStart
  else if was && !s.twEn then
    let s := ((s.setBit Reg.TWIN_STATUS 3 false).setFld Reg.TWIN_STATUS 2 0 0).setBit Reg.TWIN_STATUS 5 true
    (s.setBit Reg.TWIN_STATUS 8 false).updTwin fun t => { t with take := none, yield := none, judge := none, early := none, items := [], hbOut := none }
  else s

/-- One TJUDGE of the peer (R595, R596). -/
def tjudge (s : State) (p sf : Nat) (n : Word) (agree : Bool) : State :=
  match s.twin.judge with
  | some j => if j.port = p ∧ j.s = sf ∧ j.n = n then s.judgeOutcome p j.own agree else s
  | none => s.updTwin fun t => { t with early := some (p, sf, n, agree) }

end State

/-! ### The commands -/

/-- HEARTBEAT_TICK: an owner drives TWIN_HB low for 1 µs once in every period (R579). -/
def execHeartbeatTick (s : State) : Host.Outcome State Fault Refusal :=
  let due := match s.twin.hbOut with
    | none => true
    | some t => decide (t + s.hbPeriod ≤ s.mono)
  if s.twOwns && due then .next (s.updTwin fun t => { t with hbOut := some s.mono }) else .next s

/-- HEARTBEAT_RECEIVED: a falling edge on TWIN_HB that this device did not drive (R579). -/
def execHeartbeatReceived (s : State) : Host.Outcome State Fault Refusal := if s.twEn then .next s.hbReceive else .next s

/-- HEARTBEAT_LOSS (R593). -/
def execHeartbeatLoss (s : State) : Host.Outcome State Fault Refusal := .next s.hbLoss

/-- PEER_ASSERT (R597). -/
def execPeerAssert (s : State) : Host.Outcome State Fault Refusal := if s.bit Reg.TWIN_STATUS 4 then .next s else .next s.peerAssert

/-- PEER_NEGATE (R593). -/
def execPeerNegate (s : State) : Host.Outcome State Fault Refusal := if s.bit Reg.TWIN_STATUS 4 then .next s.peerNegate else .next s

/-- GATE_OPEN: TWIN_OWN_L asserted and TWIN_PEER_L negated for 1 µs (R580). -/
def execGateOpen (s : State) : Host.Outcome State Fault Refusal :=
  if s.twOwns && !s.bit Reg.TWIN_STATUS 4 && decide (max s.twin.ownAt s.twin.peerAt + 1000 ≤ s.mono) then
    .next (s.setBit Reg.TWIN_STATUS 5 true)
  else .next s

/-- TCRC_RECEIVE: the entries of a TCRC message (R584, R589). -/
def execTcrcReceive (es : List TcrcEntry) (s : State) : Host.Outcome State Fault Refusal :=
  if !(s.twEn && s.twinLinkUp) then .next s
  else .next (es.foldl (fun s e => s.twinPut
    { kind := e.kind.toNat, port := e.port.toNat, s := e.s.val, a := e.a, b := e.b, at' := s.mono, peer := some e.crc }) s)

/-- TCRC_TIMEOUT: items whose peer CRC has not come within CMP_US of the own are not compared (R584). -/
def execTcrcTimeout (s : State) : Host.Outcome State Fault Refusal :=
  let old (x : TItem) : Bool := decide (x.at' + s.cmpNs ≤ s.mono)
  let n := (s.twin.items.filter fun x => old x && x.own.isSome).length
  .next ((s.incBy Reg.TWIN_MISS_CNT n).updTwin fun t => { t with items := t.items.filter fun x => !old x })

/-- TJUDGE_RECEIVE: the peer's verdict on a sub-frame (R589, R596). -/
def execTjudgeReceive (p : PortId) (sf : Fin 8) (n : Word) (disagree : Bool) (re crc : Word) (s : State) : Host.Outcome State Fault Refusal :=
  -- the two CRCs are reported only
  let _ := (re, crc)
  if s.twEn && s.twinLinkUp then .next (s.tjudge p.val sf.val n (!disagree)) else .next s

/-- JUDGE_TIMEOUT: a TJUDGE is missing 100 µs after the comparison (R596). -/
def execJudgeTimeout (s : State) : Host.Outcome State Fault Refusal :=
  match s.twin.judge with
  | some j => if j.at' + 100000 ≤ s.mono then .next (s.judgeUndecided j.port) else .next s
  | none => .next s

/-- TCUT_RECEIVE: what the owner applied at its cut (R587, R589). -/
def execTcutReceive (p : PortId) (sf : Fin 8) (n count : Word) (seqs : List (Word × Word)) (s : State) : Host.Outcome State Fault Refusal :=
  if s.twEn && s.twinLinkUp then .next (s.updOcc p.val fun o => { o with tcut := some ⟨n.toNat, sf.val, count.toNat, seqs⟩ }) else .next s

/-- THEALTH_RECEIVE (R592). -/
def execThealthReceive (health frame status : Word) (s : State) : Host.Outcome State Fault Refusal :=
  -- the peer's frame number and TWIN_STATUS are reported only
  let _ := (frame, status)
  if s.twEn && s.twinLinkUp then
    .next ((s.setReg Reg.TWIN_PEER_HEALTH health).updTwin fun t => { t with peerFrame := some s.frame }).noteReady
  else .next s

/-- HEALTH_PUBLISH: at frame + 0.5, once a show frame (R592). -/
def execHealthPublish (s : State) : Host.Outcome State Fault Refusal :=
  if s.stopped || bits s.phase 31 31 == 0 || s.twin.pubFrame == some s.frame then .next s else .next s.healthPublish

/-- STANDBY_LOST: no THEALTH for 3 show frames (R592). -/
def execStandbyLost (s : State) : Host.Outcome State Fault Refusal :=
  match s.twin.peerFrame with
  | some f =>
    if s.twOwns && decide (3 ≤ (BitVec.ofNat 32 s.frame - BitVec.ofNat 32 f).toInt) then
      let s := (s.setReg Reg.TWIN_PEER_HEALTH 0).updTwin fun t => { t with peerFrame := none }
      .next ((s.raise Code.TWIN_STANDBY_LOST s.peerNode).noteReady)
    else .next s
  | none => .next s

/-- TYIELD_RECEIVE: the owner hands over (R593, R600). -/
def execTyieldReceive (frame : Word) (sf : Fin 8) (s : State) : Host.Outcome State Fault Refusal :=
  -- the sub-frame named is the owner's last
  let _ := (frame, sf)
  if s.twEn && s.twinLinkUp && s.twState == 3 then .next ((s.raise Code.TWIN_HANDBACK s.peerNode).twinTake false) else .next s

/-- TWIN_YIELD: setting TWIN_CMD.YIELD (R600). -/
def execTwinYield (ag : Agent) (s : State) : Host.Outcome State Fault Refusal :=
  .next (s.writeBy ag Reg.TWIN_CMD fun s => s.yieldEffect)

/-- YIELD_DONE: the LE of the sub-frame named has left on every gated port (R593). -/
def execYieldDone (s : State) : Host.Outcome State Fault Refusal :=
  match s.twin.yield with
  | some (n, sf) => if s.twState = 5 ∧ s.gatedPorts.all (fun p => s.yieldLeft p n sf) then .next s.twinToStandby else .next s
  | none => .next s

/-- AUTO_RETURN: the system image writes YIELD after the peer has been ready for 10 s (R600). -/
def execAutoReturn (s : State) : Host.Outcome State Fault Refusal :=
  match s.twin.readyAt with
  | some t => if s.bit Reg.TWIN_CTRL 6 && s.twin.byFault && s.yieldOk && decide (t + 10000000000 ≤ s.mono) then .next s.yieldEffect else .next s
  | none => .next s

/-- TWIN_UNDEC_CLR: setting TWIN_CMD.UNDEC_CLR (R596). -/
def execTwinUndecClr (ag : Agent) (s : State) : Host.Outcome State Fault Refusal :=
  .next (s.writeBy ag Reg.TWIN_CMD fun s => s.undecClear)

/-- TWIN_ENABLE: a write of TWIN_CTRL (R593). -/
def execTwinEnable (ag : Agent) (v : Word) (s : State) : Host.Outcome State Fault Refusal :=
  .next (s.writeBy ag Reg.TWIN_CTRL fun s => s.twinCtrlEffect ag v)

/-- SELFTEST_STEP: in STANDBY a step of BIST (0), the spare-lane loop (1) or the core cross-check (2) ends on one element (R591). -/
def execSelftestStep (test : Fin 3) (element : Fin 65536) (pass : Bool) (s : State) : Host.Outcome State Fault Refusal :=
  if s.twState ≠ 3 then .next s
  else
    let k := test.val * 65536 + element.val
    let rest := s.twin.failed.filter fun x => x != k
    if pass then .next (s.updTwin fun t => { t with failed := rest, tests := t.tests + 1 })
    else .next ((s.updTwin fun t => { t with failed := rest ++ [k] }).raise Code.TWIN_SELFTEST_FAIL 0)

/-- TWIN_LINK_DOWN: the twin link is lost (R590). -/
def execTwinLinkDown (s : State) : Host.Outcome State Fault Refusal :=
  if s.twEn && s.twin.linkSeen && !s.twinLinkUp then
    .next ((s.updTwin fun t => { t with linkSeen := false, items := [] }).raise Code.TWIN_TWIN_LINK_DOWN s.peerNode)
  else .next s

/-- TIME_CLOCK_UNLOCK: FATAL TCLK_UNLOCK, which moves an owner to STANDBY (R577, R578). -/
def execTimeClockUnlock (s : State) : Host.Outcome State Fault Refusal :=
  if !s.tclkOk then .next s else .next ({ s with tclkOk := false }.raise Code.CLK_TCLK_UNLOCK 0)

/-- TIME_CLOCK_RELOCK (R578). -/
def execTimeClockRelock (s : State) : Host.Outcome State Fault Refusal := .next { s with tclkOk := true }

end Sys2Proof.Machine
end

