-- ==== Sys2Proof/Machine/Modes.lean ====
section
/-!
DEFINITION. Operating modes: requests, resolution, isolation, the failsafe image check and DORMANT (17_modes_boot.md R653 to R666, R678, R680, R681).
-/
namespace Sys2Proof.Machine

open Sys2Proof

namespace State

def modeReq (s : State) : Nat := s.fld Reg.SYS_MODE_REQ 3 0
def isoNs (s : State) : Nat := max 1 (s.fld Reg.SYS_ISO 15 0) * 1000000
def updSys (s : State) (f : SysSt → SysSt) : State := { s with sys := f s.sys }
def fsValid (s : State) : Bool := s.bit Reg.SYS_FS_STAT 0

/-! ### Resolution (R655 to R659) -/

/-- CONSTRAIN holds, or fell within the last CONS_MS (R655). -/
def constrained (s : State) : Bool :=
  s.bit Reg.THERM_STATUS 9 || match s.therm.consAt with
    | some t => decide (s.mono ≤ t + s.fld Reg.SYS_ISO 31 16 * 1000000)
    | none => false

/-- The isolated condition ends once a FABRIC link has been UP for ISO_MS (R658). -/
def isoEnd (s : State) : State :=
  let up := s.fabricLinks.any fun l => match (s.link l).upAt with
    | some t => decide (t + s.isoNs ≤ s.mono)
    | none => false
  if s.bit Reg.SYS_MODE 11 && up then s.setBit Reg.SYS_MODE 11 false else s

/-- UNDER, from the request and the overriding conditions; a DORMANT request that is being carried out keeps the mode before it. -/
def resolveUnder (s : State) : Nat :=
  let u := if s.modeReq = 0xA then s.sys.dormUnder else s.modeReq
  let u := if u = 3 ∧ s.constrained then 9 else u
  let u := if (u = 3 ∨ u = 9 ∨ u = 4) ∧ s.bit Reg.SYS_CTRL 0 ∧ s.bit Reg.SYS_MODE 11 then 0xB else u
  let u := if s.safeState 1 ≠ 0 then 2 else u
  if s.safeState 0 ≠ 0 ∨ s.bit Reg.SYS_MODE 10 then 6 else u

/-- MODE of an underlying mode: STANDBY while the twin unit is in START, STANDBY or BLOCKED (R593, R655). -/
def resolveMode (s : State) (u : Nat) : Nat :=
  let t := s.fld Reg.TWIN_STATUS 2 0
  if s.bit Reg.TWIN_CTRL 0 ∧ (t = 1 ∨ t = 3 ∨ t = 4) then 5 else u

/-- Enter a pair of UNDER and MODE: what entry raises, the count, and the outputs that change at once (R659, R662, R664). -/
def enterMode (s : State) (u m : Nat) : State :=
  let u0 := s.under
  let m0 := s.mode
  if u = u0 ∧ m = m0 then s
  else
    let s := s.setFld Reg.SYS_MODE 7 0 (m + 16 * u)
    let s := if u ≠ u0 ∧ u = 6 then s.raise Code.SYS_FAILSAFE_ENTER 0 else s
    let s := if u ≠ u0 ∧ u = 0xB then s.raise Code.SYS_ISOLATED_ENTER 0 else s
    let s := if u ≠ u0 ∧ (u = 6 ∨ u = 0xB) ∧ !s.fsValid then s.raise Code.SYS_FS_NOLOOK 0 else s
    let s := (s.inc Reg.SYS_MODE_CNT).raise Code.SYS_MODE_CHANGE 0
    if u ≠ u0 then s.strsRestart else s

/-- One resolution (R655). -/
def resolve (s : State) : State :=
  let s := s.isoEnd
  let s := (s.setBit Reg.SYS_MODE 8 (decide (s.safeState 0 ≠ 0))).setBit Reg.SYS_MODE 9 (decide (s.safeState 1 ≠ 0))
  let s := s.setBit Reg.SYS_MODE 12 (decide (s.modeReq = 3) && s.constrained)
  let u := s.resolveUnder
  s.enterMode u (s.resolveMode u)

/-! ### Requests (R654, R680) -/

/-- Request a mode: true when it is accepted. -/
def requestMode (s : State) (q : Nat) : Bool × State :=
  let t := s.fld Reg.TWIN_STATUS 2 0
  if q = 2 ∨ q = 3 ∨ q = 4 ∨ q = 6 ∨ q = 7 ∨ q = 8 then (true, s.setFld Reg.SYS_MODE_REQ 3 0 q)
  else if q = 0xA ∧ (s.under = 2 ∨ s.under = 8) ∧ (t = 0 ∨ t = 3) then
    (true, (s.setFld Reg.SYS_MODE_REQ 3 0 q).updSys fun x => { x with dormUnder := s.under })
  else (false, s.raise Code.SYS_CFG_ERR 0)

/-- The mode mailbox is polled (R678). -/
def modePoll (s : State) : State :=
  let a := s.regAddr Reg.SYS_PMBOX_LO
  let w := s.memWord a
  if wfld w 1 0 ≠ 1 then s
  else
    let (ok, s) := s.requestMode (wfld w 7 4)
    s.store 0x100 a (leBytes 4 (wset (wset w 11 8 (b2n (!ok))) 1 0 3).toNat)

/-! ### The failsafe image (R665, R666) -/

/-- Every slot count and universe of an image lies in range. -/
def fsRange (s : State) (a : Nat) : Bool :=
  ((List.range 16).all fun d => decide (s.memNat (a + 0x70 + 2 * d) 2 ≤ 512))
    && (List.range (s.memNat (a + 6) 2)).all fun u =>
      let w := s.memWord (a + 0x90 + 4 * u)
      let n := wfld w 15 0
      let k := wfld w 25 16
      decide (1 ≤ n) && decide (n ≤ 63999) && decide (1 ≤ k) && decide (k ≤ 512)

/-- SYS_CMD.FS_LOAD (R666). -/
def fsLoad (s : State) : State :=
  let a := s.regAddr Reg.SYS_FS_BASE_LO
  let inside := inPlate a 0xA200
  let bad := inside && s.hasUe a 0xA200
  let s := if bad then s.noteUe 0x3FFF a 0xA200 else s
  let ok := inside && !bad && s.memNat a 4 == 0x4B4C5346 && s.memNat (a + 4) 2 == 1 && decide (s.memNat (a + 6) 2 ≤ 64) && s.fsRange a
  let s := s.setBit Reg.SYS_FS_STAT 0 ok
  if ok then s else s.raise Code.SYS_FS_NOLOOK 0

/-! ### DORMANT (R680, R681) -/

/-- A plate link enters DEEP when its engine acknowledges; otherwise it stays where it is, with ENG_NORESP from READY (R316, R317). -/
def linkDeep (s : State) (acks : List PortId) (p : PortId) : State :=
  if s.lState p.val = 5 then
    if acks.contains p then (s.setLState p.val 8).setFld (pReg Reg.PLATE_LINK_STATUS p.val) 14 13 2
    else s.raise Code.PLATE_ENG_NORESP p.val
  else s

/-- The time clock stops: the counter is STOPPED and its phase is held (R61). -/
def sidHalt (s : State) : State := if s.sidState = 0 then s else s.sidDisarm.sidEnter 0

/-- The counter leaves STOPPED as RUN and REF say (R58, R61). -/
def sidResume (s : State) : State :=
  if !s.bit Reg.SID_CTRL 7 ∨ s.sidState ≠ 0 then s
  else if s.sidRef = 0 then ({ s with sid := { s.sid with fT := s.incNom, pT := 0 } } : State).sidEnter 1
  else s.sidAcquire true

/-- An accepted DORMANT request is carried out. -/
def dormantEnter (s : State) (acks : List PortId) (runs : List (Fin 65 × List (List Int))) : State :=
  let s := [0, 1, 2, 3].foldl (fun s p => s.linkDeep acks p) s
  let s := runs.foldl (fun s r => s.calAttempt (if r.1.val = 64 then 0xA0 else 0x40 + r.1.val) r.2 1 3) s
  (s.sidHalt).enterMode 0xA 0xA

/-- A wake source can wake the device: set in SYS_WAKE, with its time reached, its mask not empty or an input enabled; EMERG_L where it
is asserted (R681). -/
def wakeDue (s : State) (src : Nat) : Bool :=
  if src = 5 then decide (s.safeState 0 ≠ 0)
  else s.bit Reg.SYS_WAKE src && match src with
    | 0 => decide ((s.reg64 Reg.SYS_WAKE_TIME_LO).toNat ≤ s.mono)
    | 2 => decide (s.reg Reg.SYS_WAKE_FIX ≠ 0)
    | 3 => decide (s.reg Reg.PANEL_EN ≠ 0)
    | 4 => decide (s.fld Reg.SYS_WAKE 31 16 ≠ 0)
    | _ => true

/-- The device wakes by a source (R681). -/
def dormantWake (s : State) (src : Nat) : State :=
  let s := (s.setReg Reg.SYS_WAKE_CAUSE (BitVec.ofNat 32 (2 ^ src))).raise Code.SYS_WAKE 0 [BitVec.ofNat 32 src]
  let s := (s.setFld Reg.SYS_MODE_REQ 3 0 2).sidResume
  let s := (List.range 4).foldl (fun s p => s.powerService p) s
  let s := { s with therm := { s.therm with sampleAt := s.mono } }
  s.resolve

end State

/-- MODE_RESOLVE: outside COLD, BOOT and DORMANT (R655). -/
def execModeResolve (s : State) : Host.Outcome State Fault Refusal := .next (if s.running then s.resolve else s)

/-- SYS_MODE_REQ_WRITE (R654, R680). -/
def execSysModeReqWrite (ag : Agent) (v : Word) (s : State) : Host.Outcome State Fault Refusal :=
  .next (s.writeBy ag Reg.SYS_MODE_REQ fun s => (s.requestMode (wfld v 3 0)).2)

/-- ISOLATION_TIMEOUT (R658). -/
def execIsolationTimeout (s : State) : Host.Outcome State Fault Refusal :=
  .next (match s.transit.downAt with
    | some t => if s.bit Reg.SYS_CTRL 0 && s.transit.everUp && decide (t + s.isoNs ≤ s.mono) then s.setBit Reg.SYS_MODE 11 true else s
    | none => s)

/-- FS_CLR (R657). -/
def execFsClr (ag : Agent) (s : State) : Host.Outcome State Fault Refusal :=
  .next (s.writeBy ag Reg.SYS_CMD fun s => s.setBit Reg.SYS_MODE 10 false)

/-- FS_LOAD (R666). -/
def execFsLoad (ag : Agent) (s : State) : Host.Outcome State Fault Refusal := .next (s.writeBy ag Reg.SYS_CMD fun s => s.fsLoad)

/-- MODE_MAILBOX_POLL: every 1 ms (R678). -/
def execModeMailboxPoll (s : State) : Host.Outcome State Fault Refusal :=
  .next (if s.mono < s.sys.pollAt + 1000000 ∨ regionOf (s.regAddr Reg.SYS_PMBOX_LO) ≠ .supUser ∨ s.mode = 0 ∨ s.mode = 0xA then s
    else (s.updSys fun x => { x with pollAt := s.mono }).modePoll)

/-- DORMANT_ENTER: a DORMANT request has been accepted (R680). -/
def execDormantEnter (acks : List PortId) (runs : List (Fin 65 × List (List Int))) (s : State) : Host.Outcome State Fault Refusal :=
  .next (if s.running ∧ s.modeReq = 0xA ∧ (s.under = 2 ∨ s.under = 8) then s.dormantEnter acks runs else s)

/-- DORMANT_WAKE: a source set in SYS_WAKE, or EMERG_L (R681). -/
def execDormantWake (src : Fin 6) (s : State) : Host.Outcome State Fault Refusal :=
  .next (if s.mode = 0xA ∧ s.wakeDue src.val then s.dormantWake src.val else s)

end Sys2Proof.Machine
end

