-- ==== Sys2Proof/Machine/BootImage.lean ====
section
/-!
DEFINITION. What boot loads: signed images, UCAL records, user photometric maps, the failsafe look, and programs (17_modes_boot.md R666,
R671 to R677; 15_almanac_store.md R623, R624; 03_selmir_machine.md R165 to R169).
-/
namespace Sys2Proof.Machine

open Sys2Proof

/-- A little-endian field of n bytes at offset o. -/
def fieldAt (l : List Byte) (o n : Nat) : Nat := leNat ((l.drop o).take n)

/-- A section of a Ryund object (R166). -/
structure RySect where
  type : Nat
  place : Nat
  align : Nat
  size : Nat
  file : Nat
  rel : Nat
  relN : Nat
  deriving DecidableEq, Repr

/-- The section table of an object. -/
def rySects (b : List Byte) : List RySect :=
  (List.range (fieldAt b 0xC 2)).map fun i =>
    let e := b.drop (fieldAt b 8 4 + 32 * i)
    ⟨fieldAt e 4 1, fieldAt e 5 1, fieldAt e 6 1, fieldAt e 8 8, fieldAt e 0x10 4, fieldAt e 0x14 4, fieldAt e 0x18 4⟩

/-- MAGIC, VERSION, PROFILE 2 and CRC of an object (R165). -/
def ryOk (b : List Byte) : Bool :=
  decide (32 ≤ b.length) && fieldAt b 0 4 == 0x004F5952 && fieldAt b 4 2 == 1 && fieldAt b 6 2 == 2
    && fieldAt b 0x1C 4 == (crc32 (b.drop 0x20)).toNat

/-- A section lies where its PLACE allows, at its alignment (R166, R168, R677). -/
def rySectOk (x : RySect) (a : Nat) : Bool :=
  a % 2 ^ x.align == 0 && (x.type != 5 || decide (5 ≤ x.align)) &&
    ((x.place == 0 && inDram a x.size) || (x.place == 3 && decide (0x1300300000 ≤ a) && decide (a + x.size ≤ 0x1300400000)))

/-- Placed address of symbol i; none where it is undefined (R167). -/
def rySym (b : List Byte) (addrs : List Nat) (i : Nat) : Option Nat :=
  let e := b.drop (fieldAt b 0x10 4 + 16 * i)
  if fieldAt b 0x14 4 ≤ i then none else (addrs[fieldAt e 4 2]?).map fun a => a + fieldAt e 8 8

namespace State

/-! ### Signed images (R672, R673) -/

/-- Key hash slot k of a kind: 1 vendor, 2 owner (R673, R748). -/
def keySlot (s : State) (kind k : Nat) : List Byte :=
  (List.range 12).flatMap fun i => leBytes 4 (s.otpRead ((if kind = 1 then 0xC00 else 0xCC0) + 48 * k + 4 * i)).toNat

/-- A slot of the kind that is not empty holds this hash. -/
def keyKnown (s : State) (kind : Nat) (key : List Byte) : Bool :=
  let h := sha384 key
  (List.range 4).any fun k => (s.keySlot kind k).any (fun b => b != 0#8) && s.keySlot kind k == h

/-- Every owner slot is empty (R677). -/
def ownerEmpty (s : State) : Bool := (List.range 4).all fun k => (s.keySlot 2 k).all fun b => b == 0#8

/-- The first failing check of an image, 0 when it passes: 1 format, 2 key, 3 signature, 4 hash, 5 SVN (R673). -/
def imageErr (s : State) (kind : Nat) (h body : List Byte) (skipKey : Bool) : Nat :=
  let key := (h.drop 0x50).take 97
  let load := fieldAt h 0x10 8
  let loadOk := kind != 1 || (decide (body.length ≤ 0x300000) && decide (0x1300000000 ≤ load) && decide (load + body.length ≤ 0x1300300000))
  if h.length ≠ 288 ∨ fieldAt h 0 4 ≠ 0x49424E51 ∨ fieldAt h 4 2 ≠ 1 ∨ fieldAt h 6 2 ≠ kind ∨ fieldAt h 0xC 4 ≠ body.length ∨ loadOk = false then 1
  else if !skipKey && !s.keyKnown kind key then 2
  else if !skipKey && !ecdsaOk key (h.take 0xC0) ((h.drop 0xC0).take 96) then 3
  else if sha384 body ≠ (h.drop 0x20).take 48 then 4
  else if fieldAt h 8 4 < (s.otpRead 0xC).toNat then 5
  else 0

/-- A supervisor core starts at an address (R164, R675). -/
def supStartAt (s : State) (n : Nat) (pc : DWord) : State :=
  s.updCore (256 + n) fun k => { k with pc := pc, run := .run, wait := .none, fence := .none }

/-- Cores 0 and 1 start on the ROM image alone; its entry is a free value. -/
def romStart (s : State) (slot : Nat) : State :=
  let pc := s.free 64
  ((s.setFld Reg.SYS_BOOT 4 3 slot).drawn.supStartAt 0 pc).supStartAt 1 pc

/-- Try the slots in order (R671, R674). -/
def bootSlots (s : State) (unread : List (Fin 2)) : List (Fin 2) → State
  | [] => s.romStart 3
  | i :: r =>
    let a := i.val * 0x800000
    let h := s.flashBytes a 288
    let len := fieldAt h 0xC 4
    let err := if unread.contains i then 6 else if 0x300000 < len then 1 else s.imageErr 1 h (s.flashBytes (a + 288) len) false
    if err ≠ 0 then ((s.setFld Reg.SYS_BOOT 11 8 err).raise Code.SYS_BOOT_SLOT_BAD i.val [BitVec.ofNat 32 err]).bootSlots unread r
    else
      let s := s.store 0x3FFF (fieldAt h 0x10 8) (s.flashBytes (a + 288) len)
      let s := (s.setFld Reg.SYS_BOOT 4 3 i.val).setFld Reg.SYS_BOOT 31 16 (fieldAt h 8 4)
      let pc : DWord := BitVec.ofNat 64 (fieldAt h 0x18 8)
      (s.supStartAt 0 pc).supStartAt 1 pc

/-- The boot sequence up to the Almanac: the patch, the start of cores 0 and 1, and the Collimator's runs (R671, R674, R675, R645). -/
def bootSequence (s : State) (unread : List (Fin 2)) : State :=
  let sel := s.fld Reg.SYS_BOOT 2 0
  if sel = 5 then s
  else
    let s := if sel = 0 then s.bootSlots unread [0]
      else if sel = 1 then s.bootSlots unread [1]
      else if sel = 3 then s.bootSlots unread []
      else if sel = 4 then s.romStart 2
      else s.bootSlots unread [0, 1]
    if s.bit Reg.CAL_CTRL 1 then s.calQueue selectTargets else s

/-! ### Almanac records (R623, R624, R666) -/

/-- Load the user value of a target; a KIND that does not match is ignored (R623). -/
def ucalLoad (s : State) (id : Nat) : State :=
  match s.almLive (BitVec.ofNat 32 (0x05000000 + id)) with
  | none => s
  | some l =>
    if l.length = 8 ∧ trimKind id = some (fieldAt l 4 1) then
      { s with cal := { s.cal with user := s.cal.user.put none id (some (BitVec.ofNat 32 (fieldAt l 0 4))) } }
    else s.raise Code.ALM_CFG_ERR 0 [BitVec.ofNat 32 (0x05000000 + id)]

/-- The data of a header record and its chunks, each with the header's MAP_ID; none where a chunk is missing or of another map (R624). -/
def chunkData (s : State) (key : Nat) (h : List Byte) : Option (List Byte) :=
  (List.range (fieldAt h 12 2)).foldl (fun acc k => match acc, s.almLive (BitVec.ofNat 32 (key + k + 1)) with
    | some d, some c => if c.take 4 = h.take 4 then some (d ++ c.drop 4) else none
    | _, _ => none) (some [])

/-- Load and commit the user photometric map of a plate port (R624). -/
def umapLoad (s : State) (p : Nat) : State :=
  let key := 0x05100000 + p * 0x10000
  match s.almLive (BitVec.ofNat 32 key) with
  | none => s
  | some h =>
    let addr := fieldAt h 16 5
    let e := if fieldAt h 4 1 = 0 then 2 else 4
    let total := fieldAt h 6 2 * fieldAt h 8 2 * fieldAt h 10 1 * e
    let bad := s.raise Code.ALM_CFG_ERR 0 [BitVec.ofNat 32 key]
    if h.length ≠ 24 then bad
    else match s.chunkData key h with
      | none => bad
      | some d =>
        if d.length ≠ total ∨ !(inPlate addr total || inTile addr total) then bad
        else
          let s := (s.store 0x3FFF addr d).setReg64 (pReg Reg.PLATE_UMAP_LO p) (BitVec.ofNat 64 addr)
          let s := (s.setBit (pReg Reg.PLATE_MAPCTL p) 1 true).setBit (pReg Reg.PLATE_MAPCTL p) 3 (fieldAt h 4 1 == 1)
          s.commitSet p

/-- Load the Reticle instances of a port (R666). -/
def failsafeRet (s : State) (p : Nat) : State :=
  match s.almLive (BitVec.ofNat 32 (0x04000100 + p)) with
  | none => s
  | some l =>
    if l.length ≠ 5120 then s
    else (List.range 256).foldl (fun s k =>
      let ws := (List.range 5).map fun i => BitVec.ofNat 32 (fieldAt l (20 * k + 4 * i) 4)
      let a := Reg.OCC_RET_W0 + pOfs p + 0x20 * k
      let s := ((List.range 5).zip ws).foldl (fun s x => s.setReg (a + 4 * x.1) x.2) s
      s.occChange p (.inst k ws)) s

/-- Load the glyph store of the failsafe look into store 0 and commit it (R666). -/
def failsafeGlyphs (s : State) : State :=
  match s.almLive 0x04000200#32 with
  | none => s
  | some h =>
    match (if h.length = 24 then s.chunkData 0x04000200 h else none) with
    | none => s.raise Code.ALM_CFG_ERR 0 [0x04000200]
    | some d =>
      let addr := fieldAt h 16 5
      if !inPlate addr d.length then s.raise Code.ALM_CFG_ERR 0 [0x04000200]
      else
        let s := (s.store 0x3FFF addr d).setReg64 Reg.OCC_GLYPH_BASE_LO (BitVec.ofNat 64 addr)
        (s.setReg Reg.OCC_GLYPH_SIZE (BitVec.ofNat 32 d.length)).glyphCommitEffect 0

/-- Load the failsafe look (R666). -/
def failsafeLoad (s : State) : State :=
  let a := s.regAddr Reg.SYS_FS_BASE_LO
  let s := match s.almLive 0x04000000#32 with
    | some l => if inPlate a l.length then s.store 0x3FFF a l else s
    | none => s
  (([0, 1, 2, 3].foldl (fun s p => s.failsafeRet p) s.fsLoad)).failsafeGlyphs

/-! ### Program images (R165 to R169, R677) -/

/-- One relocation of a section placed at `at'`: none where its symbol is undefined or a branch does not fit (R169). -/
def relocate (s : State) (b : List Byte) (addrs : List Nat) (at' : Nat) (e : List Byte) : Option State :=
  let place := at' + fieldAt e 0 4
  (rySym b addrs (fieldAt e 6 2)).bind fun sy =>
    let v : DWord := BitVec.ofInt 64 ((sy : Int) + sext 64 (fieldAt e 8 8))
    let w := s.memWord place
    let put (n x : Nat) : Option State := some (s.store 0x3FFF place (leBytes n x))
    match fieldAt e 4 2 with
    | 1 => put 8 v.toNat
    | 2 => put 8 (v.toNat % 2 ^ 40 + s.memNat place 8 / 2 ^ 40 * 2 ^ 40)
    | 3 =>
      let d := v.toInt - place
      if d % 4 = 0 ∧ -(2 ^ 27) ≤ d ∧ d < 2 ^ 27 then put 4 (wset w 25 0 (unsigned 26 (d / 4))).toNat else none
    | 4 => put 4 (wset w 15 0 (bits v 15 0)).toNat
    | 5 => put 4 (wset w 15 0 (bits v 31 16)).toNat
    | 6 => put 4 (wset w 7 0 (bits v 39 32)).toNat
    | _ => none

/-- Place the sections of an object and apply its relocations; none where the loader refuses it. -/
def ryLoad (s : State) (b : List Byte) (addrs : List Nat) : Option State :=
  let xs := (rySects b).zip addrs
  if !ryOk b ∨ (rySects b).length ≠ addrs.length ∨ !xs.all (fun x => rySectOk x.1 x.2) then none
  else
    let s := xs.foldl (fun s x => s.store 0x3FFF x.2
      (if x.1.type = 4 then List.replicate x.1.size 0#8 else (b.drop x.1.file).take x.1.size)) s
    xs.foldl (fun o x => (List.range x.1.relN).foldl (fun o i => o.bind fun s => s.relocate b addrs x.2 (b.drop (x.1.rel + 16 * i))) o) (some s)

/-- Check, place and start the program image of core n = 2 or 3 (R677). -/
def progLoad (s : State) (places : List ProgPlace) (n : Nat) : State :=
  let key := 0x07000000 + n * 0x10000
  match s.almLive (BitVec.ofNat 32 key) with
  | none => s
  | some h =>
    let free := s.ownerEmpty
    let s := if free then s.setBit Reg.SYS_BOOT 5 true else s
    let bad := s.raise Code.SYS_PROG_REJECT n
    let body := (List.range (fieldAt h 288 4)).foldl (fun acc k => match acc, s.almLive (BitVec.ofNat 32 (key + k + 1)) with
      | some d, some c => some (d ++ c)
      | _, _ => none) (some [])
    match body, places.find? fun x => x.core.val + 2 == n with
    | some b, some pl =>
      if s.imageErr 2 (h.take 288) b free ≠ 0 then bad
      else match s.ryLoad b pl.addrs with
        | none => bad
        | some s =>
          let s := s.setReg64 (Reg.SUP_ENTRY_LO + n * 0x100) pl.entry
          if s.bit Reg.SYS_CTRL 1 then s.supStartAt n pl.entry else s
    | _, _ => bad

/-- What the system image does once the Almanac has replayed during boot (R675). -/
def bootLoad (s : State) (places : List ProgPlace) : State :=
  let ids := [0, 1, 0xA0] ++ spanOf 0x10 32 ++ spanOf 0x40 64 ++ spanOf 0x80 8 ++ spanOf 0x100 68 ++ spanOf 0x180 4
  let s := ids.foldl (fun s id => s.ucalLoad id) s
  let s := [0, 1, 2, 3].foldl (fun s p => s.umapLoad p) s
  ([2, 3].foldl (fun s n => s.progLoad places n) s.failsafeLoad)

end State

/-- REPLAY_DONE: the walk ends; during boot the system image then loads what R675 lists (R615, R675). -/
def execReplayDone (fails : List FlashFail) (places : List ProgPlace) (s : State) : Host.Outcome State Fault Refusal :=
  .next (if s.almState ≠ 1 then s
    else
      let s := s.replayEnd fails
      if s.mode = 1 then s.bootLoad places else s)

end Sys2Proof.Machine
end

