-- ==== Sys2Proof/Machine/Boot.lean ====
section
/-!
DEFINITION. Resets, boot, the watchdog and debug unlock (17_modes_boot.md R667 to R679; 19_package_electrical.md R719 to R722; R749).
-/
namespace Sys2Proof.Machine

open Sys2Proof

namespace State

/-! ### Resets -/

/-- A cold reset: every register at its reset value, the device in COLD. A power-on reset loses all memory contents; a system reset
keeps DRAM. OTP and flash stay (R667, R722). -/
def coldReset (s : State) (cause : Nat) (power : Bool) : State :=
  let dram (a : Nat) : Bool := !power && decide (a < 0x0700000000)
  let first := s.mode == 0 && s.mono == 0
  let cause := if first then min cause (s.fld Reg.SYS_RESET_CAUSE 2 0) else cause
  let t : State := { State.reset with
    pending := s.pending
    freeCtr := s.freeCtr
    mem := s.mem.filter fun e => dram e.1
    ue := ⟨s.ue.entries.filter fun e => dram e.1⟩
    otp := s.otp
    flash := s.flash }
  (t.setReg Reg.SYS_MODE 0).setReg Reg.SYS_RESET_CAUSE (BitVec.ofNat 32 cause)

/-- What a register holds after a warm reset: the CLK block, RWS fields, LOCK bits, and RWL fields under a set LOCK are kept; so are
the UID loaded from OTP and what the boot and reference registers report (R668). -/
def warmReg (s : State) (a : Nat) (w : Word) : Word :=
  if (0x10000 ≤ a ∧ a < 0x20000) ∨ a = Reg.SYS_BOOT ∨ a = Reg.SYS_RESET_CAUSE ∨ a = Reg.SERDES_REF_STAT ∨ a = Reg.TRANSIT_UID_LO ∨ a = Reg.TRANSIT_UID_LO + 4 then w
  else match regRow a with
    | none => resetWord a
    | some r =>
      let own := match r.lock with
        | some (la, b) => if la + r.outer a * (if r.nx = 1 then 0 else r.sx) = a then 2 ^ b else 0
        | none => 0
      let m : Word := BitVec.ofNat 32 r.rws ||| BitVec.ofNat 32 own ||| (if s.locked r a then BitVec.ofNat 32 r.rwl else 0)
      (w &&& m) ||| (resetWord a &&& ~~~m)

/-- A warm reset (R92, R668). The twin unit comes back in SOLO with TWIN_OWN_L released. -/
def warmReset (s : State) (cause : Nat) (unread : List (Fin 2)) : State :=
  let n := min 255 (s.fld Reg.SYS_RESET_CAUSE 15 8 + 1)
  let pf := s.almPf
  let t : State := { State.reset with
    pending := s.pending
    freeCtr := s.freeCtr
    regs := s.regs.entries.foldl (fun (m : SMap Word) e => m.put (resetWord e.1) e.1 (s.warmReg e.1 e.2)) {}
    mem := s.mem
    ue := s.ue
    otp := s.otp
    flash := s.flash
    mono := s.mono
    monoFrac := s.monoFrac
    acc := s.acc
    sid := s.sid
    ptp := s.ptp
    eph := s.eph
    ephSpan := s.ephSpan
    ephSpanCnt := s.ephSpanCnt
    ephLast := s.ephLast
    warmW := some s.phase
    tclkOk := s.tclkOk }
  let t := t.setReg Reg.SYS_RESET_CAUSE (BitVec.ofNat 32 (cause + 256 * n))
  let t := (t.setFld Reg.SYS_BOOT 5 3 0).setFld Reg.SYS_BOOT 11 8 0
  let t := t.setBit Reg.ALM_STATUS 3 pf
  let t : State := { t with
    sys := { wdogAt := s.mono, nonce := s.sys.nonce, authFails := s.sys.authFails, pollAt := s.mono }
    therm := { sampleAt := s.mono }
    cal := { stepAt := s.mono, autoAt := s.mono }
    alm := { pollAt := s.mono, pfAt := s.alm.pfAt } }
  t.bootSequence unread

/-- The trims start at the effective value of the factory fields. -/
def trimsInit (s : State) : State :=
  { s with cal := { s.cal with
      applied := [0, 1, 0x180, 0x181, 0x182, 0x183].foldl (fun (m : SMap Int) id => m.put 0 id (s.calEffective id)) {} } }

/-- Count and report the uncorrectable OTP words that are read at the end of a cold reset (R701, R749). -/
def otpReport (s : State) (o : Nat) : State :=
  let used := o == 0 || o == 4 || o == 8 || o == 0xC || (decide (0xC00 ≤ o) && decide (o < 0xD80))
  if !used then s
  else
    let s := s.inc (Reg.ECC_UE_CNT + 16 * 5)
    let s := s.setReg64 (Reg.ECC_LAST_LO + 16 * 5) (BitVec.ofNat 64 (o + 2 ^ 63))
    s.raiseSec Code.OTP_OTP_UE 5 [BitVec.ofNat 32 o, BitVec.ofNat 32 (0x3FFF * 65536)]

/-- COLD is left for BOOT (R667, R671, R675, R749). -/
def coldExit (s : State) (sel : Nat) (unread : List (Fin 2)) (otpBad : List (Fin 2048)) : State :=
  let s := (s.setReg Reg.SYS_MODE 0x11).setReg Reg.SYS_BOOT (BitVec.ofNat 32 sel)
  let s : State := { s with ue := otpBad.foldl (fun (m : SMap Bool) (i : Fin 2048) => m.put false (ctrlBase + 0xA00000 + 4 * i.val) true) s.ue }
  let s := otpBad.foldl (fun s i => s.otpReport (4 * i.val)) s
  let s := (s.setReg Reg.TRANSIT_UID_LO (s.otpRead 0)).setReg (Reg.TRANSIT_UID_LO + 4) (s.otpRead 4)
  (s.trimsInit).bootSequence unread

/-- BOOT_DONE (R92, R432, R668, R676). -/
def bootDone (s : State) : State :=
  let s := match s.warmW with
    | some w => ({ s with warmW := none } : State).ephStep w s.phase
    | none => s
  let s := (s.setFld Reg.SYS_MODE_REQ 3 0 2).updTransit fun t => { t with everUp := false, downAt := none }
  let s := s.idClaim s.idStart
  let s := if s.bit Reg.TWIN_CTRL 0 ∧ s.fld Reg.TWIN_STATUS 2 0 = 0 then s.twinStart else s
  s.resolve

/-! ### Debug (R679) -/

/-- A token's checks: UID and NONCE, the key, the signature. -/
def tokenOk (s : State) (t : List Byte) : Bool :=
  let key := (t.drop 0x20).take 97
  t.length == 240 && fieldAt t 8 4 == (s.otpRead 0).toNat && fieldAt t 12 4 == (s.otpRead 4).toNat
    && s.sys.nonce == some (BitVec.ofNat 128 (fieldAt t 0x10 16))
    && (s.keyKnown 1 key || s.keyKnown 2 key) && ecdsaOk key (t.take 0x90) ((t.drop 0x90).take 96)

def authToken (s : State) (t : List Byte) : State :=
  if 3 ≤ s.sys.authFails then s
  else
    let ok := s.tokenOk t
    let s := s.updSys fun x => { x with nonce := none, authFails := if ok then x.authFails else x.authFails + 1 }
    if ok then (s.setBit Reg.SYS_BOOT 6 true).raise Code.SYS_DEBUG_UNLOCK 0 else s.raise Code.SYS_DEBUG_DENY 0

end State

/-- PORST_ASSERT (R667). -/
def execPorstAssert (s : State) : Host.Outcome State Fault Refusal := .next (s.coldReset 1 true)

/-- SYSRST_ASSERT (R667). -/
def execSysrstAssert (s : State) : Host.Outcome State Fault Refusal := .next (s.coldReset 2 false)

/-- SUPPLY_UNDERVOLTAGE: a power-on reset whose cause reads power-up (R720). -/
def execSupplyUndervoltage (s : State) : Host.Outcome State Fault Refusal := .next (s.coldReset 0 true)

/-- SYS_RESET_SYSTEM (R667, R670). -/
def execSysResetSystem (ag : Agent) (s : State) : Host.Outcome State Fault Refusal :=
  .next (s.writeBy ag Reg.SYS_RESET fun s => s.coldReset 3 false)

/-- SYS_RESET_WARM (R668, R670). -/
def execSysResetWarm (ag : Agent) (unread : List (Fin 2)) (s : State) : Host.Outcome State Fault Refusal :=
  .next (s.writeBy ag Reg.SYS_RESET fun s => s.warmReset 4 unread)

/-- WDOG_KICK (R669). -/
def execWdogKick (ag : Agent) (s : State) : Host.Outcome State Fault Refusal :=
  .next (s.writeBy ag Reg.SYS_WDOG_KICK fun s => s.updSys fun x => { x with wdogAt := s.mono })

/-- WDOG_EXPIRE: TIMEOUT_MS without a kick (R669). -/
def execWdogExpire (unread : List (Fin 2)) (s : State) : Host.Outcome State Fault Refusal :=
  .next (
    let due := decide (s.sys.wdogAt + max 1 (s.fld Reg.SYS_WDOG 15 0) * 1000000 ≤ s.mono)
    if s.bit Reg.SYS_WDOG 16 && due && s.mode != 0 && s.mode != 0xA then (s.warmReset 5 unread).raise Code.SYS_WDOG_RESET 0 else s)

/-- COLD_EXIT (R667, R719). -/
def execColdExit (sel : Fin 8) (unread : List (Fin 2)) (otpBad : List (Fin 2048)) (s : State) : Host.Outcome State Fault Refusal :=
  .next (if s.mode = 0 then s.coldExit sel.val unread otpBad else s)

/-- BOOT_DONE: ignored outside BOOT (R676). -/
def execBootDone (ag : Agent) (s : State) : Host.Outcome State Fault Refusal :=
  .next (s.writeBy ag Reg.SYS_CMD fun s => if s.mode = 1 then s.bootDone else s)

/-- DBG_AUTH_READ: a fresh nonce (R679). -/
def execDbgAuthRead (s : State) : Host.Outcome State Fault Refusal :=
  .next (if s.mode = 0 ∨ s.mode = 0xA then s else (s.updSys fun x => { x with nonce := some (s.free 128) }).drawn)

/-- DBG_AUTH_TOKEN (R679). -/
def execDbgAuthToken (token : List Byte) (s : State) : Host.Outcome State Fault Refusal :=
  .next (if s.mode = 0 ∨ s.mode = 0xA then s else s.authToken token)

end Sys2Proof.Machine
end

