-- ==== Sys2Proof/Machine/MacRx.lean ====
section
/-!
DEFINITION. Reception: filters and steering, receive buffers, sACN receive and ST 2110 ingest (11_network_ports.md R502 to R507,
R518 to R525).
-/
namespace Sys2Proof.Machine

open Sys2Proof

/-! ### Frame fields -/

/-- n bytes from offset o as a big-endian number. -/
def beAt (l : List Byte) (o n : Nat) : Nat := beNat ((l.drop o).take n)

/-- Offset of the EtherType: after an IEEE 802.1Q tag. -/
def etOff (l : List Byte) : Nat := if beAt l 12 2 = 0x8100 then 16 else 12

/-- An unfragmented IPv4 UDP datagram: source, destination, destination port, and payload. -/
def udpOf (l : List Byte) : Option (Nat × Nat × Nat × List Byte) :=
  let o := etOff l + 2
  let h := beAt l o 1
  let ihl := h % 16 * 4
  if beAt l (o - 2) 2 ≠ 0x0800 ∨ h / 16 ≠ 4 ∨ ihl < 20 ∨ beAt l (o + 9) 1 ≠ 17 ∨ beAt l (o + 6) 2 % 2 ^ 14 ≠ 0 then none
  else
    let u := o + ihl
    some (beAt l (o + 12) 4, beAt l (o + 16) 4, beAt l (u + 2) 2, (l.drop (u + 8)).take (beAt l (u + 4) 2 - 8))

/-- An E1.31 packet's identifier and root vector (ANSI E1.31). -/
def acnVector (d : List Byte) : Option Nat :=
  if d.take 16 = [0x00, 0x10, 0x00, 0x00, 0x41, 0x53, 0x43, 0x2D, 0x45, 0x31, 0x2E, 0x31, 0x37, 0x00, 0x00, 0x00] then some (beAt d 18 4) else none

namespace State

/-- The receive entry of a universe; 0 for none (R518). -/
def sacnEntry (s : State) (u : Nat) : Nat :=
  if u < 64000 then s.memNat (s.regAddr Reg.MAC_SACN_MAP_LO + 2 * u) 2 else 0

def sacnRow (s : State) (n : Nat) : Nat := s.regAddr Reg.MAC_SACN_RXTBL_LO + 32 * (n - 1)

/-- The destination address passes the port's filter (R502). -/
def macFilter (s : State) (p : Nat) (l : List Byte) : Bool :=
  let da := l.take 6
  let h := (crc32 da).toNat % 64
  s.mbit p Reg.MAC_CTRL 6 || da == s.macAddr p || da == List.replicate 6 0xFF#8
    || (((da.headD 0).getLsbD 0) && (s.mbit p Reg.MAC_CTRL 7 || (s.reg64 (macA p Reg.MAC_MCHASH_LO)).getLsbD h))

/-- Register offset of stream entry k of uplink u (k counts over the device as 16 u + s). -/
def stA (a k : Nat) : Nat := a + 0x800 * (k / 16) + 0x80 * (k % 16)

/-- The enabled stream entry of an uplink that a datagram matches (R504). -/
def stMatch (s : State) (u src dst port : Nat) : Option Nat :=
  ((List.range 16).map fun k => 16 * u + k).find? fun k =>
    s.bit (stA Reg.ST_CFG k) 0 && (s.reg (stA Reg.ST_DST k)).toNat == dst && s.fld (stA Reg.ST_PORT k) 15 0 == port
      && (!s.bit (stA Reg.ST_CFG k) 4 || (s.reg (stA Reg.ST_SRC k)).toNat == src)

/-- Where an accepted frame goes (R504): the PTP ring (0), the feed (1), stream entry k (2 + k), sACN receive (100), or the receive
ring (101). -/
def macDest (s : State) (p : Nat) (l : List Byte) : Nat :=
  if beAt l (etOff l) 2 = 0x88F7 then 0
  else match udpOf l with
    | none => 101
    | some (src, dst, port, d) =>
      if port = 319 ∨ port = 320 then 0
      else if s.bit Reg.OCC_FEED_CTRL 16 && port == s.fld Reg.OCC_FEED_CTRL 15 0 then 1
      else match (if 32 ≤ p ∧ p < 36 then s.stMatch (p - 32) src dst port else none) with
        | some k => 2 + k
        | none =>
          if port == 5568 && s.bit Reg.MAC_SACN_CTRL 0 then
            match acnVector d with
            | some 4 => if s.sacnEntry (beAt d 113 2) = 0 then 101 else 100
            | some 8 => 100
            | _ => 101
          else 101

/-- A frame in the receive FIFO; one that the FIFO cannot hold is discarded (R506). -/
def rxFifo (s : State) (p : Nat) (f : RxFrame) : State :=
  if 65536 < s.fifoBytes p + f.data.length then (s.minc p Reg.MAC_RX_OVF_CNT).raiseSec Code.MAC_RX_OVF p
  else s.setMport p { s.mport p with fifo := (s.mport p).fifo ++ [f] }

/-- A received frame (R502 to R504). -/
def rxFrame (s : State) (p : Nat) (l : List Byte) (stamp : Nat) : State :=
  let n := l.length
  let jab := decide (16383 ≤ n)
  if n < 64 then s.minc p Reg.MAC_RX_DROP_CNT
  else if !jab && leNat (l.drop (n - 4)) != (crc32 (l.take (n - 4))).toNat then s.minc p Reg.MAC_RX_FCS_CNT
  else if !s.macFilter p l then s.minc p Reg.MAC_RX_DROP_CNT
  else if beAt l 12 2 = 0x8808 then s
  else
    let s := s.minc p Reg.MAC_RX_CNT
    let mx := s.maxFrame p
    let data := l.take (min mx 16383)
    let f : RxFrame := ⟨data, min n 16383, jab, false, stamp⟩
    if jab || decide (mx < n) then (s.minc p Reg.MAC_RX_TRUNC_CNT).rxFifo p f
    else
      match s.macDest p l with
      | 0 => s.rxFifo p { f with ptp := true }
      | 1 => s
      | 101 => s.rxFifo p f
      | d =>
        let pay := (udpOf l).map fun x => x.2.2.2
        { s with mac := { s.mac with inbox := s.mac.inbox ++ [⟨p, if d = 100 then none else some (d - 2), pay.getD [], stamp⟩] } }

/-- The receive entry of a stored frame (R507). -/
def rxEntry (p : Nat) (f : RxFrame) (trunc : Bool) (len : Nat) (cookie : Word) : Entry :=
  let tag := beAt f.data 12 2 == 0x8100
  let da := f.data.take 6
  let bc := da == List.replicate 6 0xFF#8
  let mc := (da.headD 0).getLsbD 0 && !bc
  let w1 := p + b2n trunc * 2 ^ 8 + b2n f.jabber * 2 ^ 9 + b2n tag * 2 ^ 10 + (if tag then beAt f.data 14 1 / 32 * 2 ^ 11 else 0)
    + b2n mc * 2 ^ 14 + b2n bc * 2 ^ 15 + len * 2 ^ 16
  let ns := f.stamp / 65536
  entryOfWords [entryHead 0x63 true true trunc true, BitVec.ofNat 32 w1, BitVec.ofNat 32 f.orig, cookie, BitVec.ofNat 32 (ns % 1000000000),
    BitVec.ofNat 32 (ns / 1000000000), BitVec.ofNat 32 (ns / 1000000000 / 2 ^ 32 % 65536 + f.stamp % 65536 * 65536), 0]

/-! ### sACN receive (R518 to R521) -/

def sacnBad (s : State) : State := s.inc Reg.MAC_SACN_BAD_CNT

/-- A data packet that matches E1.31 data and may be applied: layers, preview, start code (R519). -/
def sacnGood (d : List Byte) : Bool :=
  let n := beAt d 123 2
  acnVector d == some 4 && beAt d 16 2 / 4096 == 7 && beAt d 38 2 / 4096 == 7 && beAt d 40 4 == 2 && beAt d 115 2 / 4096 == 7
    && beAt d 117 1 == 2 && beAt d 118 1 == 0xA1 && beAt d 119 2 == 0 && beAt d 121 2 == 1 && decide (1 ≤ n) && decide (n ≤ 513)
    && decide (125 + n ≤ d.length) && beAt d 112 1 / 128 == 0 && beAt d 125 1 == 0

/-- The PTP count of a stamp (R51). -/
def stampCount (t : Nat) : Nat := t / 65536 % 2 ^ 64

/-- A live write: slots and count, the stamp, then UPDATES (R520). -/
def sacnLive (s : State) (dest : Nat) (slots : List Byte) (stamp : Nat) : State :=
  let s := s.store 0x3FFF dest slots
  let s := s.store 0x3FFF (dest + 0x200) (leBytes 2 slots.length)
  let s := s.store 0x3FFF (dest + 0x208) (leBytes 8 (stampCount stamp))
  s.store 0x3FFF (dest + 0x204) (leBytes 4 (s.memNat (dest + 0x204) 4 + 1))

/-- Write word 0 of a receive entry with some bits set and some cleared. -/
def sacnWord0 (s : State) (row : Nat) (f : Word → Word) : State := s.store 0x3FFF row (leBytes 4 (f (s.memWord row)).toNat)

/-- The held source of an entry is released (R519). -/
def sacnRelease (s : State) (n : Nat) : State :=
  let s := s.sacnWord0 (s.sacnRow n) fun w => wset (wset w 1 1 0) 2 2 1
  let s : State := { s with mac := { s.mac with sacnAt := s.mac.sacnAt.put none n none } }
  s.raise Code.MAC_SACN_LOSS 0 [BitVec.ofNat 32 n]

/-- A data packet for receive entry n (R519, R520). -/
def sacnData (s : State) (n : Nat) (d : List Byte) (stamp : Nat) : State :=
  if !sacnGood d then s.sacnBad
  else
    let row := s.sacnRow n
    let w := s.memWord row
    if wfld w 0 0 = 0 then s
    else
      let cid := (d.drop 22).take 16
      let held := wfld w 1 1 == 1
      let same := held && s.bytes (row + 16) 16 == cid
      let seq := beAt d 111 1
      let prio := beAt d 108 1
      let diff := sext 8 (seq + 256 - wfld w 15 8)
      if same && beAt d 112 1 / 64 % 2 == 1 then s.sacnRelease n
      else if (if same then decide (0 < diff) || decide (diff ≤ -20) else !held || decide (wfld w 23 16 < prio)) then
        let slots := (d.drop 126).take (beAt d 123 2 - 1)
        let dest := s.memNat (row + 8) 5
        let sync := beAt d 109 2
        let s := s.inc Reg.MAC_SACN_RX_CNT
        let s : State := { s with mac := { s.mac with sacnAt := s.mac.sacnAt.put none n (some s.mono) } }
        let s := s.sacnWord0 row fun w =>
          let w := wset (wset (wset (wset w 1 1 1) 2 2 0) 15 8 seq) 23 16 prio
          if sync = 0 then w else wset w 3 3 1
        let s := s.store 0x3FFF (row + 6) (leBytes 2 sync)
        let s := s.store 0x3FFF (row + 16) cid
        if sync = 0 then s.sacnLive dest slots stamp
        else (s.store 0x3FFF (dest + 0x400) slots).store 0x3FFF (dest + 0x600) (leBytes 2 slots.length)
      else s

/-- A synchronization packet copies shadow to live (R521). -/
def sacnSync (s : State) (addr stamp : Nat) : State :=
  (List.range 1024).foldl (fun s i =>
    let row := s.sacnRow (i + 1)
    let w := s.memWord row
    if wfld w 0 0 = 1 ∧ wfld w 3 3 = 1 ∧ s.memNat (row + 6) 2 = addr then
      let dest := s.memNat (row + 8) 5
      let n := min 512 (s.memNat (dest + 0x600) 2)
      (s.sacnLive dest (s.bytes (dest + 0x400) n) stamp).sacnWord0 row fun w => wset w 3 3 0
    else s) s

/-! ### ST 2110 ingest (R522 to R525) -/

def stSt (s : State) (k : Nat) : StSt := s.mac.streams.get {} k
def setStSt (s : State) (k : Nat) (v : StSt) : State := { s with mac := { s.mac with streams := s.mac.streams.put {} k v } }

end State

/-- Sample i of w bits in a list of bytes, most significant bit first. -/
def sampleAt (l : List Byte) (w i : Nat) : Nat :=
  let o := w * i
  beAt l (o / 8) 3 / 2 ^ (24 - o % 8 - w) % 2 ^ w

/-- A sample as a level (R524). -/
def sampleLevel (w v : Nat) : Nat := if w = 8 then v * 257 else v * 64 + v / 16

/-- The whole pixels of a sample row, as channel triples (SMPTE ST 2110-20 pixel groups, R524). -/
def stPixels (fmt : Nat) (l : List Byte) : List (Nat × Nat × Nat) :=
  let w := if fmt % 2 = 0 then 8 else 10
  let lv (i : Nat) : Nat := sampleLevel w (sampleAt l w i)
  if fmt < 2 then
    (List.range (l.length / (if fmt = 0 then 4 else 5))).flatMap fun g =>
      [(lv (4 * g + 1), lv (4 * g), lv (4 * g + 2)), (lv (4 * g + 3), lv (4 * g), lv (4 * g + 2))]
  else
    (List.range (if fmt = 2 then l.length / 3 else l.length / 15 * 4)).map fun x => (lv (3 * x), lv (3 * x + 1), lv (3 * x + 2))

/-- Sample row headers of a packet, four at most: length, field bit, row, offset; and the bytes after them. -/
def stRows : Nat → List Byte → List (Nat × Bool × Nat × Nat) × List Byte
  | 0, l => ([], l)
  | n + 1, l =>
    let f := beAt l 2 2
    let o := beAt l 4 2
    let h := (beAt l 0 2, decide (32768 ≤ f), f % 32768, o % 32768)
    if o < 32768 then ([h], l.drop 6)
    else let (hs, r) := stRows n (l.drop 6); (h :: hs, r)

namespace State

/-- Write the sample rows of a packet (R524). -/
def stWrite (s : State) (k base : Nat) : List (Nat × Bool × Nat × Nat) → List Byte → State
  | [], _ => s
  | (len, _, y, x) :: r, l =>
    let w := s.fld (stA Reg.ST_SIZE k) 11 0
    let h := s.fld (stA Reg.ST_SIZE k) 27 16
    let st := s.fld (stA Reg.ST_STRIDE k) 19 0
    let ps := (stPixels (s.fld (stA Reg.ST_CFG k) 3 2) (l.take len)).take (w - x)
    let bs := ps.flatMap fun c => leBytes 2 c.1 ++ leBytes 2 c.2.1 ++ leBytes 2 c.2.2
    let s := if y < h then s.store 0x3FFF (base + y * st + 6 * x) bs else s
    stWrite s k base r (l.drop len)

/-- The frame ends: GEN is sealed and rises by 1 (R525). -/
def stEnd (s : State) (k : Nat) : State :=
  let v := s.stSt k
  if v.ts.isNone then s
  else
    let s := s.setStSt k { v with ts := none }
    if v.dropped then s
    else
      let (_, s) := s.bufSeal (s.fld (stA Reg.ST_BUF k) 11 0) (s.reg (stA Reg.ST_GEN k))
      (s.inc (stA Reg.ST_GEN k)).inc (stA Reg.ST_FRAME_CNT k)

/-- A frame begins (R525). -/
def stBegin (s : State) (k : Nat) (ts : Word) : State :=
  let b := s.buf (s.fld (stA Reg.ST_BUF k) 11 0)
  let ok := b.holds (s.reg (stA Reg.ST_GEN k)) [1]
    && decide (s.fld (stA Reg.ST_SIZE k) 27 16 * s.fld (stA Reg.ST_STRIDE k) 19 0 ≤ b.slotSize)
  let s := s.setStSt k { s.stSt k with ts := some ts, dropped := !ok }
  if ok then s else (s.inc (stA Reg.ST_DROP_CNT k)).raiseSecAll Code.MAC_ST_DROP (32 + k / 16) [BitVec.ofNat 32 (k % 16)]

def stLoss (s : State) (k : Nat) : State :=
  (s.inc (stA Reg.ST_LOSS_CNT k)).raiseSecAll Code.MAC_ST_LOSS (32 + k / 16) [BitVec.ofNat 32 (k % 16)]

/-- A video packet (R522, R525); an AUDIO entry uses its time stamp only. -/
def stPacket (s : State) (k : Nat) (d : List Byte) : State :=
  let ts := BitVec.ofNat 32 (beAt d 4 4)
  let s := s.setReg (stA Reg.ST_RTP k) ts
  if !s.bit (stA Reg.ST_CFG k) 1 then s
  else
    let o := 12 + 4 * (beAt d 0 1 % 16)
    let seq := BitVec.ofNat 32 (beAt d o 2 * 65536 + beAt d 2 2)
    let (rows, body) := stRows 4 (d.drop (o + 2))
    let gap := match (s.stSt k).seq with
      | some q => q + 1 != seq
      | none => false
    let s := s.setStSt k { s.stSt k with seq := some seq }
    let s := if gap then s.stLoss k else s
    if rows.any fun r => r.2.1 then s.stLoss k
    else
      let s := if (s.stSt k).ts = some ts then s else (s.stEnd k).stBegin k ts
      let b := s.buf (s.fld (stA Reg.ST_BUF k) 11 0)
      let base := b.base + b.slotOf (s.reg (stA Reg.ST_GEN k)) * b.slotSize
      let s := if (s.stSt k).dropped then s else s.stWrite k base rows body
      if 128 ≤ beAt d 1 1 then s.stEnd k else s

/-- Enabling a VIDEO entry is refused (R523). -/
def stCfgRefused (s : State) (k : Nat) (v : Word) : Bool :=
  let on := (List.range 64).filter fun i => i != k && s.bit (stA Reg.ST_CFG i) 0 && s.bit (stA Reg.ST_CFG i) 1
  let wh (i : Nat) : Nat := s.fld (stA Reg.ST_SIZE i) 11 0 * s.fld (stA Reg.ST_SIZE i) 27 16
  let w := s.fld (stA Reg.ST_SIZE k) 11 0
  let h := s.fld (stA Reg.ST_SIZE k) 27 16
  let st := s.fld (stA Reg.ST_STRIDE k) 19 0
  decide (8 ≤ on.length) || decide (16588800 < on.foldl (fun n i => n + wh i) (wh k)) || w == 0 || decide (3840 < w) || h == 0 || decide (2160 < h)
    || (wfld v 3 3 == 0 && w % 2 == 1) || decide (st < 6 * w) || st % 16 != 0

/-- A write of a stream entry's CFG (R523): while EN = 1 only EN = 0 is taken. -/
def stCfgEffect (s : State) (ag : Agent) (k : Nat) (v : Word) : State :=
  let a := stA Reg.ST_CFG k
  if s.bit a 0 then
    if wfld v 0 0 = 1 then s else ((s.plainWrite ag a v).setStSt k {})
  else if wfld v 0 0 = 1 ∧ wfld v 1 1 = 1 ∧ s.stCfgRefused k v then
    (s.plainWrite ag a (wset v 0 0 0)).raise Code.MAC_CFG_ERR (32 + k / 16) [BitVec.ofNat 32 (k % 16)]
  else s.plainWrite ag a v

/-- Take the first datagram for sACN receive of a root vector, or for a stream. -/
def takeMac (s : State) (f : MacIn → Bool) : Option (MacIn × State) :=
  match s.mac.inbox.find? f with
  | none => none
  | some x => some (x, { s with mac := { s.mac with inbox := s.mac.inbox.erase x } })

end State

/-! ### Commands -/

/-- RX_FRAME. -/
def execRxFrame (p : MacId) (frame : List Byte) (agoNs : Nat) (s : State) : Host.Outcome State Fault Refusal :=
  if !s.macUp p.val then .next s else .next (s.rxFrame p.val frame (s.ptp16 - agoNs * 65536))

/-- RX_FRAME_STORE: the first frame of the FIFO into the first free buffer; it waits for room in its ring (R505 to R507, R540). -/
def execRxFrameStore (p : MacId) (s : State) : Host.Outcome State Fault Refusal :=
  match (s.mport p.val).fifo, s.mac.free with
  | f :: r, (a, blen, cookie) :: bs =>
    let trunc := f.jabber || decide (f.data.length < f.orig) || decide (blen < f.data.length)
    let d := f.data.take blen
    let i := s.mfld p.val Reg.MAC_CTRL 10 9
    let ring := if f.ptp && !trunc then s.fld Reg.MAC_PTPRING 5 0 else s.fld Reg.MAC_RINGS2 (8 * i + 5) (8 * i)
    if s.ringEn ring && !s.ringRoom ring 1 then .next s else
    let s : State := { s.setMport p.val { s.mport p.val with fifo := r } with mac := { s.mac with free := bs } }
    let s := if blen < f.data.length ∧ f.data.length = f.orig then s.minc p.val Reg.MAC_RX_TRUNC_CNT else s
    let s := s.store 0x3FFF a d
    .next (s.ringUnit ring [State.rxEntry p.val f trunc d.length cookie]).2
  | _, _ => .next s

/-- RX_FREE_BUFFER: an entry of ring RXFREE (R505). -/
def execRxFreeBuffer (s : State) : Host.Outcome State Fault Refusal :=
  let r := s.fld Reg.MAC_RINGS 29 24
  if !s.ringBusy r then .next s
  else
    let (e, s) := s.ringPop r
    let n := wfld (entryWord e 1) 15 0
    let a := bits e 103 64
    if entryType e ≠ 0x62 ∨ n % 64 ≠ 0 ∨ n < 64 ∨ 16384 < n ∨ a % 64 ≠ 0 ∨ macSpan a n = false then .next (s.raiseSecAll Code.MAC_DESC_BAD 0)
    else .next { s with mac := { s.mac with free := s.mac.free ++ [(a, n, entryWord e 7)] } }

/-- SACN_DATA_RECEIVE. -/
def execSacnDataReceive (s : State) : Host.Outcome State Fault Refusal :=
  match s.takeMac fun x => x.st.isNone && acnVector x.data == some 4 with
  | none => .next s
  | some (x, s) => .next (s.sacnData (s.sacnEntry (beAt x.data 113 2)) x.data x.stamp)

/-- SACN_SYNC_RECEIVE. -/
def execSacnSyncReceive (s : State) : Host.Outcome State Fault Refusal :=
  match s.takeMac fun x => x.st.isNone && acnVector x.data == some 8 with
  | none => .next s
  | some (x, s) => .next (if beAt x.data 40 4 = 1 then s.sacnSync (beAt x.data 45 2) x.stamp else s.sacnBad)

/-- SACN_SOURCE_TIMEOUT: nothing accepted for 2,500 ms (R519). -/
def execSacnSourceTimeout (n : Fin 1024) (s : State) : Host.Outcome State Fault Refusal :=
  match s.mac.sacnAt.get none (n.val + 1) with
  | none => .next s
  | some t => .next (if t + 2500000000 ≤ s.mono then s.sacnRelease (n.val + 1) else s)

/-- ST2110_PACKET. -/
def execSt2110Packet (s : State) : Host.Outcome State Fault Refusal :=
  match s.takeMac fun x => x.st.isSome with
  | none => .next s
  | some (x, s) => .next (s.stPacket (x.st.getD 0) x.data)

/-- ST_CFG_WRITE. -/
def execStCfgWrite (ag : Agent) (u : Fin 4) (k : Fin 16) (v : Word) (s : State) : Host.Outcome State Fault Refusal :=
  .next (s.writeBy ag (State.stA Reg.ST_CFG (16 * u.val + k.val)) fun s => s.stCfgEffect ag (16 * u.val + k.val) v)

end Sys2Proof.Machine
end

