-- ==== Sys2Proof/Machine/MacTx.lean ====
section
/-!
DEFINITION. Transmission: descriptors, frame selection, the output composer and LPI (11_network_ports.md R484 to R493, R499 to R501,
R508 to R517; 14_twin_redundancy.md R583).
-/
namespace Sys2Proof.Machine

open Sys2Proof

/-! ### Frames of the composer (R509 to R517) -/

/-- Ones-complement sum of 16-bit words, as the IPv4 header checksum. -/
def ipSum (l : List Byte) : Nat :=
  let s := (List.range (l.length / 2)).foldl (fun n i => n + beNat ((l.drop (2 * i)).take 2)) 0
  let s := s % 65536 + s / 65536
  let s := s % 65536 + s / 65536
  65535 - s

/-- An IPv4 UDP frame without FCS. -/
def udpFrame (dm sm : List Byte) (tag : Option Nat) (tos ttl ident : Nat) (sip dip : Word) (sp dp : Nat) (pay : List Byte) : List Byte :=
  let vl := match tag with
    | some t => [0x81#8, 0x00] ++ beBytes 2 t
    | none => []
  let hd (ck : Nat) : List Byte := [0x45, BitVec.ofNat 8 tos] ++ beBytes 2 (28 + pay.length) ++ beBytes 2 ident ++ [0, 0, BitVec.ofNat 8 ttl, 17]
    ++ beBytes 2 ck ++ beBytes 4 sip.toNat ++ beBytes 4 dip.toNat
  dm ++ sm ++ vl ++ [0x08, 0x00] ++ hd (ipSum (hd 0)) ++ beBytes 2 sp ++ beBytes 2 dp ++ beBytes 2 (8 + pay.length) ++ [0, 0] ++ pay

/-- Bytes per pixel of a format; 0 for a reserved one (R511). -/
def pixBytes : Nat → Nat
  | 0 => 1
  | 1 => 2
  | 2 => 3
  | 3 => 4
  | 4 => 6
  | _ => 0

def Job.pixFrames (j : Job) : Nat := (j.count + j.per - 1) / j.per
/-- Frames of a job: with the synchronization packet for SACN (R511, R516, R517). -/
def Job.frames (j : Job) : Nat := if j.sacn then j.count + (if j.sync = 0 then 0 else 1) else j.pixFrames
/-- The next frame is the synchronization packet. -/
def Job.atSync (j : Job) : Bool := j.sacn && j.sync != 0 && j.next == j.count

/-- The head of an E1.31 packet: preamble, identifier, root layer (ANSI E1.31). -/
def acnRoot (len vector : Nat) (cid : List Byte) : List Byte :=
  [0x00, 0x10, 0x00, 0x00, 0x41, 0x53, 0x43, 0x2D, 0x45, 0x31, 0x2E, 0x31, 0x37, 0x00, 0x00, 0x00]
    ++ beBytes 2 (0x7000 + (len - 16)) ++ beBytes 4 vector ++ cid

/-- Bytes with those of every word that holds an uncorrectable error as 0 (R512). -/
def State.goodBytes (s : State) (a n : Nat) : List Byte :=
  (List.range n).map fun i => if s.ue.get false ((a + i) / 8 * 8) then 0#8 else s.byte (a + i)

/-- The UDP payload of a job's next frame, with `ns` for LATCH_NS (R514, R516, R517). -/
def State.jobPayload (s : State) (j : Job) (ns : DWord) : List Byte :=
  let data (a n : Nat) : List Byte := if j.dark then List.replicate n 0 else s.goodBytes a n
  if j.sacn then
    let id := s.regAddr Reg.MAC_SACN_ID_LO
    let cid := s.bytes id 16
    let seq (e : Nat) : List Byte := [BitVec.ofNat 8 (s.mac.seqTab.get 0 e)]
    if j.atSync then acnRoot 49 8 cid ++ beBytes 2 (0x7000 + 11) ++ beBytes 4 1 ++ seq j.syncSeq ++ beBytes 2 j.sync ++ [0, 0]
    else
      let n := 126 + j.per
      acnRoot n 4 cid ++ beBytes 2 (0x7000 + (n - 38)) ++ beBytes 4 2 ++ s.bytes (id + 16) 64 ++ [BitVec.ofNat 8 j.prio] ++ beBytes 2 j.sync
        ++ seq (j.seqBase + j.next) ++ [0] ++ beBytes 2 (j.univ + j.next) ++ beBytes 2 (0x7000 + (n - 115)) ++ [0x02, 0xA1, 0, 0, 0, 1]
        ++ beBytes 2 (j.per + 1) ++ [0] ++ data (j.src + 512 * j.next) j.per
  else
    let n := if j.next + 1 = j.pixFrames then j.count - j.per * (j.pixFrames - 1) else j.per
    let b := pixBytes j.fmt
    [0x4C, 0x54, 0x01, BitVec.ofNat 8 j.fmt] ++ leBytes 4 j.stream.toNat ++ leBytes 2 j.next ++ leBytes 2 j.pixFrames ++ leBytes 8 j.latch.toNat
      ++ leBytes 8 ns.toNat ++ leBytes 4 (j.per * j.next) ++ leBytes 2 n ++ [0, 0] ++ leBytes 4 j.count
      ++ data (j.src + j.per * j.next * b) (n * b)

/-- The job's data span of the next frame. -/
def jobSpan (j : Job) : Nat × Nat :=
  if j.sacn then (if j.atSync then (j.src, 0) else (j.src + 512 * j.next, j.per))
  else
    let n := if j.next + 1 = j.pixFrames then j.count - j.per * (j.pixFrames - 1) else j.per
    (j.src + j.per * j.next * pixBytes j.fmt, n * pixBytes j.fmt)

/-- The job's next frame on port p, without FCS (R509, R516). -/
def State.jobFrame (s : State) (p : Nat) (j : Job) : List Byte :=
  let u := if j.atSync then j.sync else j.univ + j.next
  let mc := j.sacn && j.mcast
  let dip := if mc then BitVec.ofNat 32 (239 * 2 ^ 24 + 255 * 2 ^ 16 + u) else j.dstIp
  let dm := if mc then [0x01, 0x00, 0x5E, 0x7F] ++ beBytes 2 u else j.dstMac
  udpFrame dm (s.macAddr p) (if j.vlan then some j.tci else none) j.tos j.ttl (s.mport p).ident.toNat (s.reg (macA p Reg.MAC_MAC_IP)) dip
    j.srcUdp j.dstUdp (s.jobPayload j j.latchNs)

/-- The next frame of a job has been formed: sequence table, CRC of R583, frame index, IPv4 identification. -/
def State.jobFormed (s : State) (p : Nat) (j : Job) : Job × State :=
  let crc := (s.jobPayload j 0).foldl crcByte j.crc
  let (a, n) := jobSpan j
  let s := if !j.dark && s.hasUe a n then (s.noteUe 0x3FFF a n).raise Code.MAC_TX_ECC p else s
  let bump (e : Nat) : State := { s with mac := { s.mac with seqTab := s.mac.seqTab.put 0 e ((s.mac.seqTab.get 0 e + 1) % 256) } }
  let s := if j.sacn then bump (if j.atSync then j.syncSeq else j.seqBase + j.next) else s
  let v := s.mport p
  ({ j with next := j.next + 1, crc := crc }, s.setMport p { v with ident := v.ident + 1 })

/-- The end of a job: its CRC goes to the twin comparison (R583, R584). -/
def State.jobEnd (s : State) (p : Nat) (j : Job) : State :=
  if j.fs then s else s.twinOwn { kind := 2, port := p, s := 0, a := j.latch.extractLsb' 32 32, b := j.latch.extractLsb' 0 32, at' := s.mono } (~~~j.crc)

/-- Every frame a job has left is formed and discarded (R513, R583). -/
def State.jobDrop (s : State) (p : Nat) (j : Job) : Nat → State
  | 0 => s.jobEnd p j
  | n + 1 => let (j, s) := s.jobFormed p j; jobDrop s p j n

/-! ### Descriptors (R484 to R486) -/

namespace State

/-- A fixture output is gated and the queue does not pass (R580). -/
def fixGated (s : State) (p q : Nat) : Bool :=
  decide (p < 32) && s.bit Reg.TWIN_GATE 4 && !s.gateOpen && !s.bit Reg.TWIN_GATE (8 + q)

/-- The frame its entries describe. -/
def descItem (es : List Entry) : MItem :=
  let e := es.headD 0
  let w := entryWord e 1
  { lmode := wfld w 11 10, lateDrop := wfld w 12 12 == 1, wb := wfld w 9 9 == 1, ts := bits e 11 11 == 1, cookie := entryWord e 7,
    ltime := entryWord e 5 ++ entryWord e 4,
    parts := es.map fun x => (bits x 103 64, wfld (entryWord x 1) 29 16) }

/-- The frame is refused (R485). -/
def descBad (s : State) (es : List Entry) : Bool :=
  let w := entryWord (es.headD 0) 1
  let p := wfld w 5 0
  let i := descItem es
  let n := i.parts.foldl (fun n x => n + x.2) 0
  decide (36 < p) || (p == 36 && decide (1 < wfld w 8 6)) || decide (4 < es.length) || (es.drop 1).any entrySop
    || decide (s.maxFrame p - 4 < n) || i.parts.any fun x => x.2 == 0 || decide (9216 < x.2) || !macSpan x.1 x.2

/-- A complete descriptor: refused, completed at once on a port that is down or gated, or queued (R481, R485, R580). -/
def descTake (s : State) (es : List Entry) : State :=
  let w := entryWord (es.headD 0) 1
  let p := wfld w 5 0
  let q := wfld w 8 6
  let i := descItem es
  if s.descBad es then (s.raiseSecAll Code.MAC_DESC_BAD p).txComplete p q i stRefused 0 none 0
  else if !s.macUp p || s.fixGated p q then s.txComplete p q i stLinkDropped 0 none 0
  else
    let s := s.credits p
    let v := s.mport p
    s.setMport p ((v.setQueue q (v.queue q ++ [i])))

/-- The head entry of a transmit ring can be popped: its queue has room (R486). -/
def descReady (s : State) (t r : Nat) : Bool :=
  match (s.ring r).head ++ (s.ring r).spill ++ (s.ring r).tail with
  | [] => false
  | e :: _ =>
    let f := (s.mac.asm.get [] t).headD e
    let w := entryWord f 1
    let p := wfld w 5 0
    decide (36 < p) || decide ((((s.mport p).queue (wfld w 8 6)).filter fun i => i.job.isNone).length < 64)

/-- Pop one entry of transmit ring t. -/
def descPop (s : State) (t r : Nat) : State :=
  let (e, s) := s.ringPop r
  let es := s.mac.asm.get [] t
  let setAsm (s : State) (l : List Entry) : State := { s with mac := { s.mac with asm := s.mac.asm.put [] t l } }
  if entryType e ≠ 0x60 ∨ (es.isEmpty ∧ entrySop e = false) then s.raiseSecAll Code.MAC_DESC_BAD 0
  else
    let es := es ++ [e]
    if entryEop e then (setAsm s []).descTake es else setAsm s es

def txRing (s : State) (t : Nat) : Nat := if t = 0 then s.fld Reg.MAC_RINGS 5 0 else s.fld Reg.MAC_RINGS 13 8

/-! ### Selection (R487 to R492, R513) -/

/-- A launch time has been reached, as ns since, for PHASE and PTP; none when not reached (R487). -/
def sinceLaunch (s : State) (lmode : Nat) (t : DWord) : Option Nat :=
  if lmode = 1 then (if phaseBefore s.phase t then none else some (s.phaseNs (phaseDiff s.phase t)))
  else
    let d := (BitVec.ofNat 64 s.ptpNs - t).toInt
    if d < 0 then none else some d.toNat

/-- Time to a launch time not yet reached, in ns. -/
def toLaunch (s : State) (lmode : Nat) (t : DWord) : Nat :=
  if lmode = 1 then s.phaseNs (phaseDiff t s.phase) else (t - BitVec.ofNat 64 s.ptpNs).toNat

/-- The launch mode and time that hold the head of a queue: a descriptor's, or the synchronization packet's (R517). -/
def headLaunch (i : MItem) : Option (Nat × DWord) :=
  match i.job with
  | some j => if j.atSync then some (1, j.latch) else none
  | none => if i.lmode = 1 ∨ i.lmode = 2 then some (i.lmode, i.ltime) else none

/-- The head's own time allows it to start, and how late it is; none when it must wait (R487, R499). -/
def headTime (s : State) (i : MItem) : Option Nat :=
  match headLaunch i with
  | some (m, t) => s.sinceLaunch m t
  | none =>
    if i.job.isNone ∧ i.lmode = 3 then i.released.map fun f => if phaseBefore s.phase f then 0 else s.phaseNs (phaseDiff s.phase f)
    else some 0

/-- Bytes of the head's frame with FCS. -/
def headLen (s : State) (p : Nat) (i : MItem) : Nat :=
  let n := match i.job with
    | some j => (s.jobFrame p j).length
    | none => i.parts.foldl (fun n x => n + x.2) 0
  max 60 n + 4

/-- A guarded queue forbids a frame of queue q (R489). -/
def guarded (s : State) (p q len : Nat) : Bool :=
  (List.range 8).any fun g => g != q && s.mbit p Reg.MAC_LAUNCH (16 + g) && match ((s.mport p).queue g).head? with
    | some i => match headLaunch i with
      | some (m, t) => (s.sinceLaunch m t).isNone && decide (s.toLaunch m t ≤ s.wireNs p len)
      | none => false
    | none => false

/-- The eligible head of the highest queue (R487). -/
def selectQueue (s : State) (p : Nat) : Option (Nat × MItem × Nat) :=
  [7, 6, 5, 4, 3, 2, 1, 0].findSome? fun q =>
    match ((s.mport p).queue q).head? with
    | none => none
    | some i =>
      match s.headTime i with
      | none => none
      | some ns => if ((i.wb || i.ts) && !(s.mport p).wbWait.isEmpty) || s.macPaused p q || !(s.creditOk p q || i.job.any fun j => j.fs) || s.guarded p q (s.headLen p i) then none else some (q, i, ns)

/-- Late faults and counts of a frame (R490). -/
def noteLate (s : State) (p n : Nat) (drop : Bool) : State :=
  if drop then (s.incBy (macA p Reg.MAC_TX_LDROP_CNT) n).raiseFrame Code.MAC_TX_LATE_DROP p
  else (s.minc p Reg.MAC_TX_LATE_CNT).raiseFrame Code.MAC_TX_LATE p

/-- The port starts a frame: its bytes, and what completes it. -/
def txStart (s : State) (p q : Nat) (item : Option MItem) (b : List Byte) (status late : Nat) : State :=
  let v := s.mport p
  s.setMport p { v with sent := b, cur := some ⟨q, b.length, item, status, late, s.ptpNs, s.ptpSub⟩ }

/-- The rest of a queue after its head. -/
def popHead (s : State) (p q : Nat) : State :=
  let v := s.mport p
  s.setMport p (v.setQueue q ((v.queue q).drop 1))

/-- The head is a job: its next frame starts, is formed without being sent while gated, or the job is dropped (R512, R513, R580). -/
def selectJob (s : State) (p q : Nat) (i : MItem) (j : Job) (ns : Nat) : Bool × State :=
  let late := if j.atSync then decide (s.mfld p Reg.MAC_LAUNCH 15 0 < ns) else !j.fs && !phaseBefore s.phase j.latch
  if late && j.lateDrop then
    let n := j.frames - j.next
    (false, ((s.popHead p q).noteLate p n true).jobDrop p j n)
  else
    let gated := j.mute || (decide (p < 32) && s.bit Reg.TWIN_GATE 4 && !s.gateOpen)
    let b := withFcs (s.jobFrame p j) false
    let (k, s) := s.jobFormed p j
    let v := s.mport p
    let s := if k.next = k.frames then (s.popHead p q).jobEnd p k
      else s.setMport p (v.setQueue q ({ i with job := some k } :: (v.queue q).drop 1))
    let s := if late && !gated then s.noteLate p 1 false else s
    if gated then (false, s) else (true, s.txStart p q none b stSent 0)

/-- The head is a descriptor's frame (R490, R492). -/
def selectDesc (s : State) (p q : Nat) (i : MItem) (ns : Nat) : Bool × State :=
  let s := s.popHead p q
  let timed := i.lmode != 0
  let late := timed && decide (s.mfld p Reg.MAC_LAUNCH 15 0 < ns)
  if s.fixGated p q then (false, s.txComplete p q i stLinkDropped 0 none 0)
  else if late && i.lateDrop then (false, (s.noteLate p 1 true).txComplete p q i stLateDropped 0 none ns)
  else
    let bad := i.parts.any fun x => s.hasUe x.1 x.2
    let b := withFcs (i.parts.flatMap fun x => s.bytes x.1 x.2) bad
    let s := if bad then (i.parts.foldl (fun s x => s.noteUe 0x3FFF x.1 x.2) s).raise Code.MAC_TX_ECC p else s
    let s := if late then s.noteLate p 1 false else s
    (true, s.txStart p q (some i) b (if bad then stEcc else if late then stLateSent else stSent) (if late then ns else 0))

/-- Consider head frames until one starts or none is eligible. -/
def selectGo (s : State) (p : Nat) : Nat → State
  | 0 => s
  | f + 1 =>
    match s.selectQueue p with
    | none => s
    | some (q, i, ns) =>
      let (go, s) := match i.job with
        | some j => s.selectJob p q i j ns
        | none => s.selectDesc p q i ns
      if go then s else selectGo s p f

/-- A queued frame that lets LPI begin: its launch time is further off than TW + LPI_IDLE (R501). -/
def lpiFar (s : State) (p : Nat) (i : MItem) : Bool :=
  match headLaunch i with
  | some (m, t) => i.job.isNone && (s.sinceLaunch m t).isNone
      && decide (s.mfld p Reg.MAC_EEE 31 16 + s.mfld p Reg.MAC_EEE 15 8 * 1000 < s.toLaunch m t)
  | none => false

/-- Nothing queued for the port keeps it from LPI (R501). -/
def lpiQuiet (s : State) (p : Nat) : Bool := (List.range 8).all fun q => ((s.mport p).queue q).all (s.lpiFar p)

/-- The transmitter can start a frame: the mode lets ports run, it is not in LPI, and awake for TW (R501, R660). -/
def txAwake (s : State) (p : Nat) : Bool :=
  let v := s.mport p
  s.running && (v.lpi == 0 || (v.lpi == 2 && decide (v.lpiAt + s.mfld p Reg.MAC_EEE 31 16 ≤ s.mono)))

/-- Heads that can be considered at one boundary: every queued frame once, and every frame of a gated job. -/
def selectFuel (s : State) (p : Nat) : Nat :=
  (List.range 8).foldl (fun n q => ((s.mport p).queue q).foldl (fun n i => n + 1 + match i.job with
    | some j => j.frames
    | none => 0) n) 1

/-! ### Composer jobs (R508 to R510, R515) -/

/-- What the underlying mode does to a job accepted now: DARK and SERVICE zero it; FAILSAFE and ISOLATED, and PREVIEW on fixture
ports, form it without sending (R660, R664). -/
def jobMode (s : State) (p : Nat) : Bool × Bool :=
  let u := s.under
  (u == 2 || u == 8, u == 6 || u == 0xB || (u == 7 && decide (p < 32)))

/-- The job a descriptor in memory names. -/
def jobOf (s : State) (a : Nat) (latch ns : DWord) : Job :=
  let w (i : Nat) : Word := s.memWord (a + 4 * i)
  let f (i h l : Nat) : Nat := wfld (w i) h l
  let sacn := f 0 19 16 == 2
  { sacn := sacn, fmt := f 0 23 20, lateDrop := f 0 24 24 == 1, vlan := f 0 28 28 == 1, mcast := f 0 29 29 == 1, count := f 1 31 0,
    src := f 2 31 0 + f 3 7 0 * 2 ^ 32, per := if sacn then f 4 9 0 else f 4 10 0, seqBase := f 4 27 16, stream := w 5, univ := f 5 15 0,
    sync := f 5 31 16, dstIp := w 6, dstUdp := if sacn then 5568 else f 7 15 0, srcUdp := if sacn then 5568 else f 7 31 16,
    dstMac := leBytes 4 (f 8 31 0) ++ leBytes 2 (f 9 15 0), tci := f 9 31 16, tos := f 10 7 0, ttl := f 10 15 8, prio := f 10 23 16,
    syncSeq := f 11 11 0, latch := latch, latchNs := ns }

/-- The job is refused (R510). -/
def jobBad (s : State) (p a : Nat) (j : Job) : Bool :=
  let w0 := s.memWord a
  let tag := if j.vlan then 4 else 0
  a % 64 != 0 || !macSpan a 64 || s.hasUe a 64 || wfld w0 15 0 != 0x4A43 || !(wfld w0 19 16 == 1 || wfld w0 19 16 == 2)
    || (if j.sacn then
          j.count == 0 || decide (4096 < j.count) || j.per == 0 || decide (512 < j.per) || j.univ == 0 || decide (63999 < j.univ + j.count - 1)
            || decide (4096 < j.seqBase + j.count) || decide (63999 < j.sync) || decide (200 < j.prio)
            || !macSpan j.src (512 * (j.count - 1) + j.per) || decide (s.maxFrame p < 14 + tag + 28 + 126 + j.per + 4)
        else
          let b := pixBytes j.fmt
          b == 0 || j.count == 0 || decide (4194304 < j.count) || j.per == 0 || decide (1400 < j.per) || decide (8400 < j.per * b)
            || decide (65535 < j.pixFrames) || !macSpan j.src (j.count * b)
            || decide (s.maxFrame p < 14 + tag + 28 + 40 + min j.per j.count * b + 4))

/-- LATCH_NS: the PTP count now plus the time to the latch phase at the increment in use; free when the increment is not positive (R515). -/
def latchNs (s : State) (latch : DWord) : DWord × State :=
  let inc := s.sidInc
  if inc ≤ 0 then (s.free 64, s.drawn)
  else (BitVec.ofInt 64 ((s.ptpNs : Int) + roundDiv (phaseDiff latch s.phase * 4294967296) inc.toNat), s)

/-- A NET_LAUNCH's job (R508, R510, R481). -/
def jobStart (s : State) (p : Nat) (a : Act) : State :=
  let addr := a.a0.toNat + wfld a.a1 7 0 * 2 ^ 32
  let latch := a.fire + BitVec.ofNat 64 (a.a2.toNat + wfld a.a3 15 0 * 2 ^ 32)
  if !s.macUp p then s.minc p Reg.MAC_JOB_CNT
  else
    let (ns, s) := s.latchNs latch
    let m := s.jobMode p
    let j : Job := { s.jobOf addr latch ns with dark := m.1, mute := m.2 }
    if s.jobBad p addr j then
      let s := if s.hasUe addr 64 then s.noteUe 0x3FFF addr 64 else s
      (s.inc Reg.MAC_JOBBAD_CNT).raise Code.MAC_JOB_BAD p
    else if 16 ≤ (s.mport p).jobs then (s.inc Reg.MAC_JOBOVF_CNT).raise Code.MAC_JOB_OVF p
    else
      let s := s.credits p
      let v := s.mport p
      let q := wfld (s.memWord addr) 27 25
      (s.setMport p (v.setQueue q (v.queue q ++ [{ job := some j }]))).minc p Reg.MAC_JOB_CNT

/-- HOLD frames of a queue are released (HOLD_RELEASE, R499). -/
def holdRelease (s : State) (p q : Nat) (fire : DWord) : State :=
  let v := s.mport p
  s.setMport p (v.setQueue q ((v.queue q).map fun i =>
    if i.job.isNone && i.lmode == 3 && i.released.isNone then { i with released := some fire } else i))

end State

/-! ### Commands -/

/-- TX_DESCRIPTOR: one entry of the transmit rings, served alternately (R486). -/
def execTxDescriptor (s : State) : Host.Outcome State Fault Refusal :=
  let go (t : Nat) : State := ({ s with mac := { s.mac with turn := t == 0 } } : State).descPop t (s.txRing t)
  let first := if s.mac.turn then 1 else 0
  if s.descReady first (s.txRing first) then .next (go first)
  else if s.descReady (1 - first) (s.txRing (1 - first)) then .next (go (1 - first))
  else .next s

/-- FRAME_SELECT. -/
def execFrameSelect (p : MacId) (s : State) : Host.Outcome State Fault Refusal :=
  if !s.macUp p.val || (s.mport p.val).cur.isSome || !s.txAwake p.val then .next s
  else
    let s := s.credits p.val
    let s := s.setMport p.val { s.mport p.val with lpi := 0 }
    let s := if s.lpiQuiet p.val then s else s.setMport p.val { s.mport p.val with idleAt := s.mono }
    .next (((s.setBit (macA p.val Reg.MAC_STATUS) 3 false).selectGo p.val (s.selectFuel p.val)).macRefresh p.val)

/-- TX_FRAME_DONE: the last bit has left (R493); a PFC frame that waited goes first at the boundary (R498). -/
def execTxFrameDone (p : MacId) (s : State) : Host.Outcome State Fault Refusal :=
  match (s.mport p.val).cur with
  | none => .next s
  | some c =>
    let s := s.credits p.val
    let s := (s.setMport p.val { s.mport p.val with cur := none, idleAt := s.mono }).minc p.val Reg.MAC_TX_CNT
    let s := match c.item with
      | some i => s.txComplete p.val c.q i c.status c.len (some (c.ns * 65536 + c.sub)) c.lateNs
      | none => s
    .next (match (s.mport p.val).pfcDue with
      | some n => s.sendPfc p.val n
      | none => s)

/-- NET_LAUNCH (R508). -/
def execNetLaunch (s : State) : Host.Outcome State Fault Refusal :=
  match s.takeIssued 3 with
  | none => .next s
  | some (a, s) =>
    let p := actTarget a.act
    let s := if wfld a.a1 8 8 = 1 then s.holdRelease p (wfld a.a1 11 9) a.fire else s
    let s := if wfld a.a1 12 12 = 1 then s else s.jobStart p a
    .next (s.macRefresh p)

/-- LPI_ENTER (R501). -/
def execLpiEnter (p : MacId) (s : State) : Host.Outcome State Fault Refusal :=
  let v := s.mport p.val
  let idle := s.mfld p.val Reg.MAC_EEE 15 8 * 1000
  if p.val < 32 ∧ s.macUp p.val ∧ s.mbit p.val Reg.MAC_EEE 0 ∧ v.lpi = 0 ∧ v.cur.isNone ∧ v.idleAt + idle ≤ s.mono
      ∧ s.lpiQuiet p.val then
    .next (((s.setMport p.val { v with lpi := 1 }).setBit (macA p.val Reg.MAC_STATUS) 3 true).minc p.val Reg.MAC_LPI_CNT)
  else .next s

/-- LPI_WAKE (R501). -/
def execLpiWake (p : MacId) (s : State) : Host.Outcome State Fault Refusal :=
  let v := s.mport p.val
  let tw := s.mfld p.val Reg.MAC_EEE 31 16
  let near (i : MItem) : Bool := match State.headLaunch i with
    | some (m, t) => i.job.isSome || (s.sinceLaunch m t).isSome || decide (s.toLaunch m t ≤ tw)
    | none => true
  if v.lpi = 1 ∧ (List.range 8).any (fun q => (v.queue q).any near) then .next (s.setMport p.val { v with lpi := 2, lpiAt := s.mono })
  else .next s

end Sys2Proof.Machine
end

