-- ==== Sys2Proof/Machine/Dmx.lean ====
section
/-!
DEFINITION. The legacy bridge: DMX packets, RDM transactions, tunnel records and discovery (13_local_io.md R547 to R568;
17_modes_boot.md R665; 18_faults_telemetry.md R697).
-/
namespace Sys2Proof.Machine

open Sys2Proof

/-! ### RDM messages (R557, ANSI E1.20) -/

def byteSum (l : List Byte) : Nat := l.foldl (fun n b => n + b.toNat) 0 % 65536

/-- A request with its start code and checksum. -/
def rdmMessage (duid suid : Nat) (tn : Byte) (port subdev cc pid : Nat) (pd : List Byte) : List Byte :=
  let b := [0xCC#8, 0x01, BitVec.ofNat 8 (24 + pd.length)] ++ beBytes 6 duid ++ beBytes 6 suid ++ [tn, BitVec.ofNat 8 port, 0] ++ beBytes 2 subdev
    ++ [BitVec.ofNat 8 cc] ++ beBytes 2 pid ++ [BitVec.ofNat 8 pd.length] ++ pd
  b ++ beBytes 2 (byteSum b)

/-- A response whose length and checksum are correct: its bytes without the checksum. -/
def rdmGood (l : List Byte) : Bool :=
  let n := beAt l 2 1
  beAt l 0 2 == 0xCC01 && decide (24 ≤ n) && l.length == n + 2 && beAt l 23 1 == n - 24 && beAt l n 2 == byteSum (l.take n)

/-- The UID of a discovery response whose encoding and checksum are correct (ANSI E1.20). -/
def discUid (l : List Byte) : Option Nat :=
  let pre := (l.takeWhile fun b => b == 0xFE#8).length
  let e := l.drop (pre + 1)
  let pair (i : Nat) : Nat := (e.getD (2 * i) 0 &&& e.getD (2 * i + 1) 0).toNat
  if pre ≤ 7 ∧ l.getD pre 0 = 0xAA ∧ e.length = 16
      ∧ (List.range 8).all (fun i => (e.getD (2 * i) 0 &&& 0xAA#8) == 0xAA#8 && (e.getD (2 * i + 1) 0 &&& 0x55#8) == 0x55#8)
      ∧ byteSum (e.take 12) = pair 6 * 256 + pair 7 then
    some ((List.range 6).foldl (fun n i => n * 256 + pair i) 0)
  else none

/-- A broadcast UID: of every manufacturer, or of one (ANSI E1.20). -/
def uidBroadcast (u : Nat) : Bool := u % 2 ^ 32 == 0xFFFFFFFF

namespace State

def dA (d a : Nat) : Nat := a + 0x400 * d
def dport (s : State) (d : Nat) : DPort := s.dmx.get {} d

/-- DMXd_STATUS follows the port; ACT reads OFF while EN = 0. -/
def dRefresh (s : State) (d : Nat) : State :=
  let v := s.dport d
  let act := if !s.bit (dA d Reg.DMX_CFG) 0 && v.act == 1 then 0 else v.act
  s.setReg (dA d Reg.DMX_STATUS) (BitVec.ofNat 32 (act + b2n v.disc.isSome * 4 + min v.queue.length 32 * 2 ^ 8))

def setDport (s : State) (d : Nat) (v : DPort) : State := ({ s with dmx := s.dmx.put {} d v } : State).dRefresh d
def updDport (s : State) (d : Nat) (f : DPort → DPort) : State := s.setDport d (f (s.dport d))
def dinc (s : State) (d a : Nat) : State := s.inc (dA d a)

/-- The port may drive its line: the mode lets it run and the twin gate does not hold it (R580, R660). -/
def dOpen (s : State) : Bool := s.running && !(s.bit Reg.TWIN_GATE 5 && !s.gateOpen)
def dRdmOn (s : State) (d : Nat) : Bool := s.bit (dA d Reg.DMX_CFG) 0 && s.bit (dA d Reg.DMX_CFG) 11
def failsafeMode (s : State) : Bool := s.under == 6 || s.under == 0xB

/-- Time of a packet of n slots after the start code, or of an RDM message of n slots, in ns (R554, R555). -/
def packetNs (s : State) (d n : Nat) : Nat :=
  let t := dA d Reg.DMX_TIME
  (s.fld t 9 0 + s.fld t 19 10 + n * (44 + s.fld t 27 20)) * 1000

/-! ### Level packets (R549 to R554) -/

/-- A packet starts: the line carries the start code and the slots. -/
def packetStart (s : State) (d : Nat) (start : Byte) (slots : List Byte) : State :=
  (s.updDport d fun v => { v with
    act := 2, endAt := s.mono + s.packetNs d (slots.length + 1), buf := slots, sentOne := true, de := true, sent := start :: slots }).dinc d Reg.DMX_PKT_CNT

/-- A level packet of n slots (R550, R551, R660). -/
def levelStart (s : State) (d n : Nat) : State :=
  let src := s.regAddr (dA d Reg.DMX_SRC_LO) / 512 * 512
  let depth := max 1 (s.fld (dA d Reg.DMX_SRC_CFG) 2 0)
  let pub := s.memWord src
  let a := src + 0x200 * (1 + pub.toNat % depth)
  let v := s.dport d
  let start := BitVec.ofNat 8 (s.fld (dA d Reg.DMX_CFG) 23 16)
  let bad := s.hasUe src 4 || s.hasUe a n
  let dark := s.under == 2 || s.under == 8 || s.under == 7
  if bad then
    let s := ((s.noteUe 0x3FFF src 4).noteUe 0x3FFF a n).raise Code.BRIDGE_DMX_ECC d
    s.packetStart d start (if dark then List.replicate n 0 else v.buf.take n ++ List.replicate (n - v.buf.length) 0)
  else
    let s := if v.sentOne && s.reg (dA d Reg.DMX_LAST_PUB) == pub then s.dinc d Reg.DMX_STALE_CNT else s
    let s := s.setReg (dA d Reg.DMX_LAST_PUB) pub
    s.packetStart d start (if dark then List.replicate n 0 else s.bytes a n)

/-- The failsafe packet of a port (R665); 512 slots of 0 without a valid image. -/
def fsSlots (s : State) (d : Nat) : List Byte :=
  let b := s.fld Reg.SYS_FS_BASE_HI 7 0 * 2 ^ 32 + s.fld Reg.SYS_FS_BASE_LO 31 12 * 4096
  let n := s.memNat (b + 0x70 + 2 * d) 2
  if !s.bit Reg.SYS_FS_STAT 0 ∨ n = 0 then List.replicate 512 0 else s.bytes (b + 0x200 + 512 * d) (min n 512)

/-- The port's line is free: breaks and failsafe packets that waited for it (R553, R665). -/
def lineFree (s : State) (d : Nat) : State :=
  let v := s.dport d
  if v.act != 1 || !s.dOpen then s
  else if v.fsWait then (s.updDport d fun v => { v with fsWait := false, waiting := [] }).packetStart d 0 (s.fsSlots d)
  else match v.waiting with
    | [] => s
    | n :: r =>
      let s := (s.updDport d fun v => { v with waiting := [] }).levelStart d n
      let s := (s.dinc d Reg.DMX_LATE_CNT).raiseSec Code.BRIDGE_DMX_LATE d
      r.foldl (fun s _ => (s.dinc d Reg.DMX_PBUSY_CNT).raiseSec Code.BRIDGE_DMX_BUSY d) s

/-- A DMX_BREAK action at its port (R552, R553). -/
def dmxBreak (s : State) (d : Nat) (a0 : Word) : State :=
  let v := s.dport d
  let n := min 512 (if wfld a0 9 0 = 0 then s.fld (dA d Reg.DMX_CFG) 10 1 else wfld a0 9 0)
  if !s.bit (dA d Reg.DMX_CFG) 0 || !s.dOpen || s.failsafeMode then s
  else if wfld a0 16 16 = 1 then (if v.act = 2 then s else s.updDport d fun v => { v with lastEnd := some s.mono })
  else if v.act = 2 then (s.dinc d Reg.DMX_PBUSY_CNT).raiseSec Code.BRIDGE_DMX_BUSY d
  else if v.act = 3 then s.updDport d fun v => { v with waiting := v.waiting ++ [n] }
  else s.levelStart d n

/-! ### Replies and late errors (R559, R561, R565, R697) -/

/-- Deliver entries to a ring of a node: false when a local ring is full (R561). -/
def dDeliver (s : State) (node ring : Nat) (es : List Entry) : Bool × State :=
  if node = s.ownId then s.ringUnit ring es
  else (true, s.sendPosted { dst := BitVec.ofNat 13 node, src := 0, type := 5, tag := 0x1FF, addr := BitVec.ofNat 40 ring, len := BitVec.ofNat 9 (32 * es.length), payload := es.flatMap entryBytes })

/-- A reply entry chain: header words, then the parameter data; bytes 0 to 3 of a data entry give way to its word 0 (log entry 30). -/
def replyEntries (w1 w2 w3 : Word) (pd : List Byte) : List Entry :=
  let at' (o n : Nat) : Word := BitVec.ofNat 32 (leNat ((pd.drop o).take n))
  let more := (pd.length - 16 + 31) / 32
  entryOfWords [entryHead 0x71 true (more == 0) false false, w1, w2, w3, at' 0 4, at' 4 4, at' 8 4, at' 12 4]
    :: (List.range more).map fun k => entryOfWords (entryHead 0x71 false (k + 1 == more) false false
      :: (List.range 7).map fun j => at' (16 + 32 * k + 4 + 4 * j) 4)

/-- A reply with a status and no data. -/
def dReply (s : State) (port status tag node ring : Nat) : Bool × State :=
  s.dDeliver node ring (replyEntries (BitVec.ofNat 32 (port + status * 2 ^ 4 + tag * 2 ^ 16)) 0 0 [])

/-- A late error of a SET (R565, R697, R698). -/
def dLate (s : State) (d cause nack : Nat) (q : DReq) : State :=
  let mono := BitVec.ofNat 64 s.mono
  let e := entryOne 0x14 [BitVec.ofNat 32 (d + cause * 2 ^ 4 + nack * 2 ^ 16), BitVec.ofNat 32 s.ownId, BitVec.ofNat 32 q.duid,
    BitVec.ofNat 32 (q.duid / 2 ^ 32 + q.subdev * 2 ^ 16), BitVec.ofNat 32 q.pid, mono.extractLsb' 0 32, mono.extractLsb' 32 32]
  let s := s.inc Reg.DMX_LATEERR_CNT
  if q.node = s.ownId then s.pushLate q.lring e else (s.dDeliver q.node q.lring [e]).2

/-! ### Discovery (R566 to R568) -/

def uidTbl (s : State) (d : Nat) : Nat := s.regAddr (dA d Reg.DMX_UIDTBL_LO) / 64 * 64
def uidCount (s : State) (d : Nat) : Nat := s.fld (dA d Reg.DMX_UIDCNT) 8 0
def knownUids (s : State) (d : Nat) : List Nat := (List.range (s.uidCount d)).map fun i => s.memNat (s.uidTbl d + 8 * i) 6

def discEvent (s : State) (d uid : Nat) (gone : Bool) : State :=
  (s.ringUnit (s.fld Reg.DMX_RINGS 13 8) [entryOne 0x73 [BitVec.ofNat 32 (d + b2n gone * 2 ^ 8), BitVec.ofNat 32 uid,
    BitVec.ofNat 32 (uid / 2 ^ 32)]]).2

/-- A UID found: it enters the table when new (R567, R568). -/
def uidFound (s : State) (d uid : Nat) : State :=
  if (s.knownUids d).contains uid then s
  else
    let n := s.uidCount d
    if 256 ≤ n then (s.setBit (dA d Reg.DMX_UIDCNT) 9 true).raise Code.BRIDGE_UID_OVF d
    else
      let s := (s.store 0x3FFF (s.uidTbl d + 8 * n) (leBytes 8 uid)).setFld (dA d Reg.DMX_UIDCNT) 8 0 (n + 1)
      (s.raise Code.BRIDGE_RDM_NEW d [BitVec.ofNat 32 uid, BitVec.ofNat 32 (uid / 2 ^ 32)]).discEvent d uid false

/-- A known UID is removed: the last entry moves into the gap (R567, R568). -/
def uidGone (s : State) (d uid : Nat) : State :=
  match (s.knownUids d).findIdx? fun u => u == uid with
  | none => s
  | some i =>
    let n := s.uidCount d
    let s := s.store 0x3FFF (s.uidTbl d + 8 * i) (s.bytes (s.uidTbl d + 8 * (n - 1)) 8)
    let s := s.setFld (dA d Reg.DMX_UIDCNT) 8 0 (n - 1)
    (s.raise Code.BRIDGE_RDM_GONE d [BitVec.ofNat 32 uid, BitVec.ofNat 32 (uid / 2 ^ 32)]).discEvent d uid true

/-- The next step of the discovery joins the queue, or the discovery ends. -/
def discNext (s : State) (d : Nat) : State :=
  let v := s.dport d
  match v.disc with
  | none => s
  | some x =>
    match x.stack, x.mutes with
    | (lo, hi) :: _, _ => s.setDport d { v with queue := v.queue ++ [{ kind := 3, lo := lo, hi := hi, duid := 2 ^ 48 - 1 }] }
    | [], u :: _ => s.setDport d { v with queue := v.queue ++ [{ kind := 4, duid := u }] }
    | [], [] =>
      let s := s.setDport d { v with disc := none }
      if x.full then s.setBit (dA d Reg.DMX_CMD) 0 false else s

def updDisc (s : State) (d : Nat) (f : Disc → Disc) : State := s.updDport d fun v => { v with disc := v.disc.map f }

/-- The whole UID space of a search (ANSI E1.20). -/
def allUids : Nat × Nat := (0, 2 ^ 48 - 2)

/-- A branch of a search has ended: empty, one responder, or a collision to divide (R566). -/
def branchEnd (s : State) (d : Nat) (q : DReq) (data : Option (List Byte)) : State :=
  match data with
  | none => (s.updDisc d fun x => { x with stack := x.stack.drop 1 }).discNext d
  | some l => match discUid l with
    | some u =>
      let s := (s.uidFound d u).updDisc d fun x => { x with stack := x.stack.drop 1 }
      s.updDport d fun v => { v with queue := v.queue ++ [{ kind := 4, duid := u, tries := 0, lo := 1 }] }
    | none =>
      let m := (q.lo + q.hi) / 2
      let s := s.dinc d Reg.DMX_COLL_CNT
      (s.updDisc d fun x => { x with
        stack := (if q.lo < q.hi then [(q.lo, m), (m + 1, q.hi)] else []) ++ x.stack.drop 1 }).discNext d

/-- A DISC_MUTE has ended; one to a known UID counts its sweeps without answer (R567). -/
def muteEnd (s : State) (d : Nat) (q : DReq) (ok : Bool) : State :=
  if q.lo = 1 then s.discNext d
  else
    let s := s.updDisc d fun x => { x with mutes := x.mutes.drop 1 }
    let n := if ok then 0 else (s.dport d).misses.get 0 q.duid + 1
    let s := s.updDport d fun v => { v with misses := v.misses.put 0 q.duid (if 3 ≤ n then 0 else n) }
    (if 3 ≤ n then s.uidGone d q.duid else s).discNext d

/-! ### Transactions (R555 to R557) -/

def setDpend (s : State) (i : Nat) (p : DPend) : State :=
  let s : State := { s with dpend := s.dpend.put {} i p }
  s.setFld Reg.DMX_PEND 6 0 ((List.range 64).filter fun i => (s.dpend.get {} i).used).length

/-- The outcome of a pending GET. -/
def getEnd (s : State) (i outcome : Nat) (resp : List Byte) : State :=
  let p := s.dpend.get {} i
  s.setDpend i { p with outcome := outcome, resp := resp, endAt := s.mono }

/-- The parameter and data of a queued request on the line (R566). -/
def reqWords (q : DReq) : Nat × Nat × List Byte :=
  match q.kind with
  | 2 => (0x10, 0x0003, [])
  | 3 => (0x10, 0x0001, beBytes 6 q.lo ++ beBytes 6 q.hi)
  | 4 => (0x10, 0x0002, [])
  | _ => (q.cc, q.pid, q.pd)

def reqUid (q : DReq) : Nat := if q.kind = 2 then 2 ^ 48 - 1 else q.duid

def reqMessage (s : State) (d : Nat) (q : DReq) (tn : Byte) : List Byte :=
  let (cc, pid, pd) := reqWords q
  rdmMessage (reqUid q) ((s.reg64 Reg.DMX_UID_LO).toNat % 2 ^ 48) tn (d + 1) q.subdev cc pid pd

/-- No response is awaited. -/
def reqSilent (q : DReq) : Bool := q.kind == 2 || (q.kind == 1 && uidBroadcast q.duid)

/-- How long a response may take to start: 5.8 ms for a branch (R556, R566). -/
def reqTmo (s : State) (d : Nat) (q : DReq) : Nat :=
  if reqSilent q then 0 else if q.kind = 3 then 5800000 else s.fld (dA d Reg.DMX_RDM) 15 0 * 1000

/-- A transaction may start now (R555). -/
def rdmMay (s : State) (d : Nat) (q : DReq) : Bool :=
  let v := s.dport d
  let win := s.fld (dA d Reg.DMX_RDMWIN) 15 0 * 1000
  let req := s.packetNs d (26 + (reqWords q).2.2.length)
  v.act == 1 && s.dRdmOn d && s.dOpen && (match v.lastEnd with
    | none => true
    | some t => decide (t + 176000 ≤ s.mono)
        && (win == 0 || decide (s.mono + req + s.fld (dA d Reg.DMX_RDM) 15 0 * 1000 ≤ t + win)))

/-- The transaction in progress ends and the line is free. -/
def rdmIdle (s : State) (d : Nat) : State := s.updDport d fun v => { v with act := 1, cur := none, de := true }

/-- A request has failed with TIMEOUT (R556). -/
def rdmFailed (s : State) (d : Nat) (q : DReq) : State :=
  let s := (s.dinc d Reg.DMX_RDM_TMO_CNT).raiseSec Code.BRIDGE_RDM_TIMEOUT d
  match q.kind with
  | 0 => s.getEnd q.entry 2 []
  | 1 => s.dLate d 2 0 q
  | _ => s.muteEnd d q false

/-- A transaction without a valid response: sent again, or failed (R556). -/
def rdmNone (s : State) (d : Nat) (q : DReq) : State :=
  if q.kind = 3 then s.branchEnd d q none
  else if q.tries < s.fld (dA d Reg.DMX_RDM) 19 16 then
    s.updDport d fun v => { v with queue := { q with tries := q.tries + 1 } :: v.queue }
  else s.rdmFailed d q

/-- A valid response ends the request (R563, R565). -/
def rdmDone (s : State) (d : Nat) (q : DReq) (l : List Byte) : State :=
  match q.kind with
  | 0 => s.getEnd q.entry 1 l
  | 1 =>
    let rt := beAt l 16 1
    if beAt l 20 1 ≠ 0x31 then s.dLate d 4 0 q
    else if rt = 0 then s
    else if rt = 2 then s.dLate d 1 (beAt l 24 2) q
    else if rt = 1 then s.dLate d 6 0 q
    else s.dLate d 4 0 q
  | _ => s.muteEnd d q true

/-- The response answers the request in progress (R557). -/
def rdmMatches (d : DPort) (q : DReq) (l : List Byte) : Bool :=
  rdmGood l && beAt l 9 6 == reqUid q && l.getD 15 0 == d.tn

/-! ### Tunnel requests (R558 to R565) -/

/-- The request at the head of ring REQ: its entries up to EOP, or a malformed run; none while it is incomplete. -/
def tunnelHead (s : State) : Option (List Entry × Bool) :=
  let r := s.ring (s.fld Reg.DMX_RINGS 5 0)
  match r.head ++ r.spill ++ r.tail with
  | [] => none
  | e :: l =>
    if entryType e ≠ 0x70 ∨ entrySop e = false then some ([e], false)
    else if entryEop e then some ([e], true)
    else
      let body := l.takeWhile fun x => !entrySop x && !entryEop x
      match l.drop body.length with
      | [] => if 8 < body.length + 1 then some (e :: body, false) else none
      | x :: _ => if entrySop x then some (e :: body, false) else some (e :: body ++ [x], decide (body.length + 2 ≤ 8))

/-- A request's fields; the first four bytes of each data entry are free (log entry 30). -/
def tunnelReq (es : List Entry) (fr : List Byte) : DReq × List Byte :=
  let e := es.headD 0
  let f (i h l : Nat) : Nat := wfld (entryWord e i) h l
  let pdl := f 5 31 24
  let word (x : Entry) (i : Nat) : List Byte := leBytes 4 (entryWord x i).toNat
  let pd := word e 6 ++ word e 7 ++ (es.drop 1).flatMap fun x => fr ++ (List.range 7).flatMap fun j => word x (j + 1)
  ({ kind := f 1 4 4, node := f 2 12 0, lring := f 2 29 24, duid := f 4 31 0 + f 3 31 16 * 2 ^ 32, subdev := f 3 15 0, cc := f 5 7 0, pid := f 5 23 8,
     pd := pd.take pdl }, pd)

/-- The request is malformed (R560). -/
def tunnelBad (es : List Entry) (whole : Bool) : Bool :=
  let e := es.headD 0
  let op := wfld (entryWord e 1) 4 4
  let tag := wfld (entryWord e 1) 31 16
  let pdl := wfld (entryWord e 5) 31 24
  let cc := wfld (entryWord e 5) 7 0
  !whole || (tag != 0 && (op == 1 || es.length != 1))
    || (tag == 0 && (decide (231 < pdl) || es.length != 1 + (pdl - 8 + 31) / 32 || cc != (if op = 0 then 0x20 else 0x30)))

/-- Take the request at the head when `f` says so of its OP and TAG. -/
def takeTunnel (s : State) (f : Nat → Nat → Bool) : Option (List Entry × Bool × State) :=
  if !s.bit Reg.DMX_RINGS 16 then none
  else match s.tunnelHead with
    | none => none
    | some (es, ok) =>
      let w := entryWord (es.headD 0) 1
      if f (wfld w 4 4) (wfld w 31 16) then
        let (_, t) := s.popMany (s.fld Reg.DMX_RINGS 5 0) es.length
        some (es, ok, t)
      else none

/-- A malformed request's reply (R560); an entry that is no request is discarded. -/
def tunnelRefuse (s : State) (es : List Entry) : State :=
  let e := es.headD 0
  let s := s.raiseSecAll Code.BRIDGE_TUN_BAD (wfld (entryWord e 1) 3 0)
  if entryType e ≠ 0x70 ∨ entrySop e = false then s
  else (s.dReply (wfld (entryWord e 1) 3 0) 4 0 (wfld (entryWord e 2) 12 0) (wfld (entryWord e 2) 21 16)).2

/-- The port takes tunnelled requests (R560, R580). -/
def tunnelPort (s : State) (d : Nat) : Bool := s.dRdmOn d && !(s.bit Reg.TWIN_GATE 5 && !s.gateOpen)

/-- Requests in a port's queue, discovery steps apart. -/
def queued (s : State) (d : Nat) : Nat := ((s.dport d).queue.filter fun q => decide (q.kind < 2)).length

/-- DISC_FULL (R566). -/
def discFullEffect (s : State) (d : Nat) : State :=
  if (s.dport d).disc.isSome && s.bit (dA d Reg.DMX_CMD) 0 then s
  else
    (s.setBit (dA d Reg.DMX_CMD) 0 true).updDport d fun v => { v with
      disc := some ⟨true, [allUids], []⟩
      cur := v.cur.map fun q => if 2 ≤ q.kind then { q with old := true } else q
      queue := (v.queue.filter fun q => decide (q.kind < 2)) ++ [{ kind := 2 }] }

/-! ### Register writes -/

/-- A write of DMXd_CFG: SLOTS 1 to 512, no START 0xCC, and DEPTH 2 to 4 to enable. -/
def dmxCfgEffect (s : State) (ag : Agent) (d : Nat) (v : Word) : State :=
  let depth := s.fld (dA d Reg.DMX_SRC_CFG) 2 0
  let n := wfld v 10 1
  if n = 0 ∨ 512 < n ∨ wfld v 23 16 = 0xCC then s.raise Code.BRIDGE_CFG_ERR d
  else if wfld v 0 0 = 1 ∧ s.bit (dA d Reg.DMX_CFG) 0 = false ∧ (depth < 2 ∨ 4 < depth) then
    ((s.plainWrite ag (dA d Reg.DMX_CFG) (wset v 0 0 0)).raise Code.BRIDGE_CFG_ERR d).dRefresh d
  else (s.plainWrite ag (dA d Reg.DMX_CFG) v).dRefresh d

def dmxTimeEffect (s : State) (ag : Agent) (d : Nat) (v : Word) : State :=
  let ok (x lo : Nat) : Bool := decide (lo ≤ x) && decide (x ≤ 1000)
  if ok (wfld v 9 0) 92 && ok (wfld v 19 10) 12 then s.plainWrite ag (dA d Reg.DMX_TIME) v else s.raise Code.BRIDGE_CFG_ERR d

def dmxRdmEffect (s : State) (ag : Agent) (d : Nat) (v : Word) : State :=
  if 1000 ≤ wfld v 15 0 ∧ wfld v 15 0 ≤ 10000 then s.plainWrite ag (dA d Reg.DMX_RDM) v else s.raise Code.BRIDGE_CFG_ERR d

end State

/-! ### Commands -/

/-- DMX_BREAK. -/
def execDmxBreak (s : State) : Host.Outcome State Fault Refusal :=
  match s.takeIssued 4 with
  | none => .next s
  | some (a, s) => .next (s.dmxBreak (actTarget a.act % 16) a.a0)

/-- DMX_PACKET_END (R554). -/
def execDmxPacketEnd (d : DmxId) (s : State) : Host.Outcome State Fault Refusal :=
  let v := s.dport d.val
  if v.act ≠ 2 ∨ s.mono < v.endAt then .next s
  else .next ((s.setDport d.val { v with act := 1, lastEnd := some s.mono }).lineFree d.val)

/-- RDM_TRANSACTION_START (R555 to R557). -/
def execRdmTransactionStart (d : DmxId) (s : State) : Host.Outcome State Fault Refusal :=
  let v := s.dport d.val
  match v.queue with
  | [] => .next s
  | q :: r =>
    if !s.rdmMay d.val q then .next s
    else
      let tn := v.tn + 1
      let m := s.reqMessage d.val q tn
      let s := s.setDport d.val { v with act := 3, cur := some q, queue := r, tn := tn, reqEnd := s.mono + s.packetNs d.val m.length, sent := m, de := true }
      .next (s.dinc d.val Reg.DMX_RDM_TX_CNT)

/-- RDM_RESPONSE: the last slot of a response, or the silence after it (R556). -/
def execRdmResponse (d : DmxId) (data : List Byte) (s : State) : Host.Outcome State Fault Refusal :=
  let v := s.dport d.val
  match v.cur with
  | none => .next s
  | some q =>
    if v.act ≠ 3 ∨ State.reqSilent q ∨ s.mono < v.reqEnd then .next s
    else
      let s := s.rdmIdle d.val
      let s :=
        if q.old then s
        else if q.kind = 3 then s.branchEnd d.val q (some data)
        else if State.rdmMatches v q data then s.rdmDone d.val q data
        else ((s.dinc d.val Reg.DMX_RDM_BAD_CNT).raiseSec Code.BRIDGE_RDM_BAD d.val).rdmNone d.val q
      .next (s.lineFree d.val)

/-- RDM_RESPONSE_TIMEOUT: no response has started in time; a broadcast is complete when its last slot has left (R556, R565). -/
def execRdmResponseTimeout (d : DmxId) (s : State) : Host.Outcome State Fault Refusal :=
  let v := s.dport d.val
  match v.cur with
  | none => .next s
  | some q =>
    if v.act ≠ 3 ∨ s.mono < v.reqEnd + s.reqTmo d.val q then .next s
    else
      let s := s.rdmIdle d.val
      let s := if q.old then s else if q.kind = 2 then s.discNext d.val else if State.reqSilent q then s else s.rdmNone d.val q
      .next (s.lineFree d.val)

/-- TUNNEL_GET (R558, R560, R562). -/
def execTunnelGet (s : State) : Host.Outcome State Fault Refusal :=
  match s.takeTunnel fun op tag => op == 0 && tag == 0 with
  | none => .next s
  | some (es, ok, s) =>
    if State.tunnelBad es ok then .next (s.tunnelRefuse es)
    else
      let w := entryWord (es.headD 0) 1
      let d := wfld w 3 0
      let node := wfld (entryWord (es.headD 0) 2) 12 0
      let ring := wfld (entryWord (es.headD 0) 2) 21 16
      if !s.tunnelPort d then .next (s.dReply d 6 0 node ring).2
      else
        match (List.range 64).find? fun i => !(s.dpend.get {} i).used with
        | none => .next ((s.inc Reg.DMX_BUSY_CNT).dReply d 2 0 node ring).2
        | some i =>
          if 32 ≤ s.queued d then .next ((s.inc Reg.DMX_BUSY_CNT).dReply d 2 0 node ring).2
          else
            let (q, _) := State.tunnelReq es (leBytes 4 (s.free 32).toNat)
            let s := if es.length = 1 then s else s.drawn
            let gen := if (s.dpend.get {} i).gen = 1023 then 1 else (s.dpend.get {} i).gen + 1
            let s := s.setDpend i { gen := gen, used := true, port := d, outcome := 0, resp := [], endAt := 0 }
            let s := s.updDport d fun v => { v with queue := v.queue ++ [{ q with entry := i }] }
            .next ((s.inc Reg.DMX_GET_CNT).dReply d 1 (gen * 64 + i) node ring).2

/-- TUNNEL_COLLECT (R563). -/
def execTunnelCollect (s : State) : Host.Outcome State Fault Refusal :=
  match s.takeTunnel fun op tag => op == 0 && tag != 0 with
  | none => .next s
  | some (es, ok, s) =>
    if State.tunnelBad es ok then .next (s.tunnelRefuse es)
    else
      let w := entryWord (es.headD 0) 1
      let d := wfld w 3 0
      let tag := wfld w 31 16
      let node := wfld (entryWord (es.headD 0) 2) 12 0
      let ring := wfld (entryWord (es.headD 0) 2) 21 16
      let i := tag % 64
      let p := s.dpend.get {} i
      if !p.used || p.gen != tag / 64 || p.port != d then .next (s.dReply d 3 tag node ring).2
      else if p.outcome = 0 then .next (s.dReply d 1 tag node ring).2
      else
        let l := p.resp
        let (sent, s) := if p.outcome = 2 then s.dReply d 5 tag node ring
          else
            let w1 := BitVec.ofNat 32 (d + tag * 2 ^ 16)
            let w2 := BitVec.ofNat 32 (beAt l 16 1 + beAt l 17 1 * 2 ^ 8 + beAt l 21 2 * 2 ^ 16)
            let w3 := BitVec.ofNat 32 (beAt l 23 1 + beAt l 20 1 * 2 ^ 8)
            s.dDeliver node ring (State.replyEntries w1 w2 w3 ((l.drop 24).take (beAt l 23 1)))
        .next (if sent then s.setDpend i { p with used := false, resp := [], outcome := 0 } else s)

/-- TUNNEL_SET (R560, R565). -/
def execTunnelSet (s : State) : Host.Outcome State Fault Refusal :=
  match s.takeTunnel fun op _ => op == 1 with
  | none => .next s
  | some (es, ok, s) =>
    if State.tunnelBad es ok then .next (s.tunnelRefuse es)
    else
      let d := wfld (entryWord (es.headD 0) 1) 3 0
      let (q, _) := State.tunnelReq es (leBytes 4 (s.free 32).toNat)
      let s := if es.length = 1 then s else s.drawn
      if !s.tunnelPort d then .next (s.dLate d 5 0 q)
      else if 32 ≤ s.queued d then .next (s.dLate d 3 0 q)
      else .next ((s.updDport d fun v => { v with queue := v.queue ++ [q] }).inc Reg.DMX_SET_CNT)

/-- PENDING_DISCARD (R564). -/
def execPendingDiscard (i : Fin 64) (s : State) : Host.Outcome State Fault Refusal :=
  let p := s.dpend.get {} i.val
  if p.used && p.outcome != 0 && decide (p.endAt + max 1 (s.fld Reg.DMX_BRIDGE 15 0) * 1000000 ≤ s.mono) then
    .next (((s.setDpend i.val { p with used := false, resp := [], outcome := 0 }).inc Reg.DMX_DISCARD_CNT).raise Code.BRIDGE_RSP_DISCARD p.port)
  else .next s

/-- DISC_FULL. -/
def execDiscFull (ag : Agent) (d : DmxId) (s : State) : Host.Outcome State Fault Refusal :=
  .next (s.writeBy ag (State.dA d.val Reg.DMX_CMD) fun s => s.discFullEffect d.val)

/-- DISCOVERY_SWEEP: every DISC_PERIOD seconds (R567). -/
def execDiscoverySweep (d : DmxId) (s : State) : Host.Outcome State Fault Refusal :=
  let v := s.dport d.val
  let per := max 1 (s.fld (State.dA d.val Reg.DMX_RDM) 31 24) * 1000000000
  if !s.dRdmOn d.val || !s.bit (State.dA d.val Reg.DMX_CFG) 12 || v.disc.isSome || decide (s.mono < v.sweepAt + per) then .next s
  else .next ((s.setDport d.val { v with sweepAt := s.mono, disc := some ⟨false, [State.allUids], s.knownUids d.val⟩ }).discNext d.val)

/-- FAILSAFE_DMX_TICK: every 25 ms of the local monotonic counter (R665). -/
def execFailsafeDmxTick (d : DmxId) (s : State) : Host.Outcome State Fault Refusal :=
  let v := s.dport d.val
  if !s.failsafeMode || s.mono / 25000000 == v.fsAt || !s.dOpen then .next s
  else .next ((s.setDport d.val { v with fsAt := s.mono / 25000000, fsWait := true }).lineFree d.val)

/-- FAILSAFE_SACN_TICK: every 100 ms each FIXMASK port sends the failsafe universes through the composer (R665); TOS and TTL are
free, since no rule states them (log entry 2). -/
def execFailsafeSacnTick (p : Fin 32) (s : State) : Host.Outcome State Fault Refusal :=
  let b := s.fld Reg.SYS_FS_BASE_HI 7 0 * 2 ^ 32 + s.fld Reg.SYS_FS_BASE_LO 31 12 * 4096
  let key := 2 ^ 48 + p.val
  if !s.failsafeMode || !s.bit Reg.SYS_FS_STAT 0 || !(s.memWord (b + 8)).getLsbD p.val || !s.macUp p.val
      || s.once.get none key == some (s.mono / 100000000) then .next s
  else
    let s : State := { s with once := s.once.put none key (some (s.mono / 100000000)) }
    let s := s.credits p.val
    let fr := s.free 16
    let s := s.drawn
    let js := (List.range (min 64 (s.memNat (b + 6) 2))).map fun u =>
      let w := s.memWord (b + 0x90 + 4 * u)
      let j : Job := { sacn := true, fmt := 0, lateDrop := false, vlan := false, mcast := true, count := 1, src := b + 0x2200 + 512 * u, per := min 512 (wfld w 25 16), seqBase := 4032 + u, stream := 0, univ := wfld w 15 0, sync := 0, dstIp := 0, dstUdp := 5568, srcUdp := 5568, dstMac := [], tci := 0, tos := bits fr 7 0, ttl := bits fr 15 8, prio := 100, syncSeq := 0, latch := 0, latchNs := 0, fs := true }
      ({ job := some j } : MItem)
    let v := s.mport p.val
    .next ((s.setMport p.val (v.setQueue 7 (v.queue 7 ++ js))).macRefresh p.val)

end Sys2Proof.Machine
end

