-- ==== Sys2Proof/Machine/Faults.lean ====
section
/-!
DEFINITION. The fault ring, captures, scrubbers and the background budget (18_faults_telemetry.md R686 to R704).
-/
namespace Sys2Proof.Machine

open Sys2Proof

/-- The entries of a fault record (R686): a second one carries ARG2 to ARG8. -/
def faultEntries (f : FaultRec) : List Entry :=
  let mono : DWord := BitVec.ofNat 64 f.mono
  let two := decide (2 < f.args.length)
  let first := entryOfWords [entryHead 0x10 true (!two) false false, BitVec.ofNat 32 (f.code + f.inst * 65536), mono.extractLsb' 0 32,
    mono.extractLsb' 32 32, f.phase.extractLsb' 0 32, f.phase.extractLsb' 32 32, f.args.getD 0 0, f.args.getD 1 0]
  if two then [first, entryOfWords (entryHead 0x10 false true false false :: (List.range 7).map fun i => f.args.getD (i + 2) 0)] else [first]

/-- The summary of dropped records (R688). -/
def lostEntry (l : LostRec) : Entry :=
  let mono : DWord := BitVec.ofNat 64 l.mono
  entryOne 0x11 [BitVec.ofNat 32 l.code, BitVec.ofNat 32 l.count, mono.extractLsb' 0 32, mono.extractLsb' 32 32]

namespace State

/-- The front of the queue goes to the fault ring when it has room: the summary of dropped records before any newer record (R687, R688). -/
def faultPush (s : State) : State :=
  let r := s.faultRing
  let lost := s.faultLost.filter fun l => l.before == 0
  match lost, s.faultQ with
  | some l, _ => if s.ringRoom r 1 then { s.ringAccept r (lostEntry l) with faultLost := none } else s
  | none, [] => s
  | none, f :: q =>
    let es := faultEntries f
    if !s.ringRoom r es.length then s
    else
      let s := es.foldl (fun s e => s.ringAccept r e) s
      let s : State := { s with
        faultQ := q
        faultLost := s.faultLost.map fun l => { l with before := l.before - 1 } }
      s.setFld Reg.FAULT_STATUS 24 16 q.length

/-- RELEASE clears both captures and the second count (R691). -/
def faultRelease (s : State) : State :=
  let s := (List.range 16).foldl (fun s i => s.setReg (Reg.FAULT_FIRST_CODE + 4 * i) 0) s
  s.setFld Reg.FAULT_STATUS 5 4 0

/-- SAFE_CLR withdraws the fault unit's minimum-mode source (R695). -/
def safeClear (s : State) : State :=
  let s := (List.range 4).foldl (fun s p => if s.bit Reg.FAULT_STATUS (8 + p) then s.minSrcClear p 1 else s) s
  s.setFld Reg.FAULT_STATUS 11 8 0

/-- Period of a scrubber, in ns (R702). -/
def scrubNs (s : State) (dram : Bool) : Nat :=
  if dram then max 1 (s.reg Reg.SCRUB_DRAM_S).toNat * 1000000000 else max 1000 (s.reg Reg.SCRUB_SRAM_MS).toNat * 1000000

def scrubAt (s : State) (dram : Bool) : Nat := if dram then s.flt.dramAt else s.flt.sramAt
def scrubOn (s : State) (dram : Bool) : Bool := s.bit Reg.SCRUB_CTRL (if dram then 0 else 1)
def setScrub (s : State) (dram : Bool) (at' : Nat) (late : Bool) : State :=
  { s with flt := if dram then { s.flt with dramAt := at', dramLate := late } else { s.flt with sramAt := at', sramLate := late } }

/-- Time from the start of the pass in progress; 0 before a pass that waits for its period (R702, R703). -/
def scrubTime (s : State) (dram : Bool) : Nat := s.mono - s.scrubAt dram

/-- Progress of the pass in 1/65,536, evenly over 7/8 of the period (R702). -/
def scrubPos (s : State) (dram : Bool) : Nat :=
  if s.scrubOn dram then min 65535 (s.scrubTime dram * 8 * 65536 / (7 * s.scrubNs dram)) else 0

/-- A scrubber completes a pass: it corrects, reports, and starts the next one at the end of its period, or at once when it is late
(R700 to R703). -/
def scrubDone (s : State) (dram : Bool) (ce ue : List Nat) : State :=
  let mine (a : Nat) : Bool := (eccMem a == 4) == dram
  let s := (ce.filter mine).foldl (fun s a => s.reportCe a 0x3FFE) s
  let s := (ue.filter mine).foldl (fun s a => (s.setUe a true).reportUe a 0x3FFE) s
  let s := s.inc (if dram then Reg.SCRUB_DRAM_PASS_CNT else Reg.SCRUB_SRAM_PASS_CNT)
  s.setScrub dram (max s.mono (s.scrubAt dram + s.scrubNs dram)) false

/-- A write of SCRUB_CTRL: a scrubber that is switched on starts a pass. -/
def scrubStart (s : State) (was : Word) : State :=
  [true, false].foldl (fun s d => if s.scrubOn d && wfld was (b2n (!d)) (b2n (!d)) == 0 then s.setScrub d s.mono false else s) s

end State

/-- FAULT_RECORD_PUSH (R686 to R688). -/
def execFaultRecordPush (s : State) : Host.Outcome State Fault Refusal := .next s.faultPush

/-- FAULT_RELEASE (R691, R693). -/
def execFaultRelease (ag : Agent) (s : State) : Host.Outcome State Fault Refusal :=
  .next (s.writeBy ag Reg.FAULT_CMD fun s => s.faultRelease)

/-- SAFE_CLR (R695). -/
def execSafeClr (ag : Agent) (s : State) : Host.Outcome State Fault Refusal :=
  .next (s.writeBy ag Reg.FAULT_CMD fun s => s.safeClear)

/-- SCRUB_PASS_COMPLETE: not before 7/8 of the period (R702, R703). -/
def execScrubPassComplete (dram : Bool) (ce ue : List Nat) (s : State) : Host.Outcome State Fault Refusal :=
  .next (if s.scrubOn dram ∧ 7 * s.scrubNs dram ≤ 8 * s.scrubTime dram ∧ s.scrubAt dram ≤ s.mono then s.scrubDone dram ce ue else s)

/-- SCRUB_LATE: the pass has not completed when its period ends, once for that pass (R703). -/
def execScrubLate (dram : Bool) (s : State) : Host.Outcome State Fault Refusal :=
  .next (
    let done := if dram then s.flt.dramLate else s.flt.sramLate
    if s.scrubOn dram && !done && decide (s.scrubAt dram + s.scrubNs dram ≤ s.mono) then
      ((s.setScrub dram (s.scrubAt dram) true).inc Reg.SCRUB_LATE_CNT).raise Code.SYS_SCRUB_LATE (if dram then 4 else 0)
    else s)

/-- BG_WINDOW: a window of WINDOW_MS ends (R704). -/
def execBgWindow (used : Fin 10001) (deferred : Nat) (s : State) : Host.Outcome State Fault Refusal :=
  .next (
    if s.mono < s.flt.bgAt + max 1 (s.fld Reg.BG_CTRL 15 8) * 1000000 then s
    else
      let s : State := { s with flt := { s.flt with bgAt := s.mono } }
      (s.setFld Reg.BG_USED 15 0 (min used.val (100 * s.fld Reg.BG_CTRL 7 0))).incBy Reg.BG_DEFER_CNT deferred)

end Sys2Proof.Machine
end

