-- ==== Sys2Proof/Machine/OrreryBase.lean ====
section
/-!
DEFINITION. The placement engine: items, capacity, the placement table and rounds (10_orrery_placement.md R450 to R465, R477).
-/
namespace Sys2Proof.Machine

open Sys2Proof

/-- Frame f is not before frame c (R42). -/
def frameFrom (c f : Nat) : Bool := decide ((f + 2 ^ 32 - c % 2 ^ 32) % 2 ^ 32 < 2 ^ 31)

/-- The put an ITEM_PUT entry carries (R451). -/
def putOf (node : Nat) (e : Entry) : OPut :=
  let f (i h l : Nat) : Nat := wfld (entryWord e i) h l
  { kind := f 1 17 16, lclass := f 1 19 18, pin := f 1 20 20 == 1, twin := f 1 21 21 == 1, mkind := f 1 23 22, reply := f 1 29 24,
    carry := f 1 30 30 == 1, pinNode := f 2 12 0, consumer := f 2 29 16, cu := f 3 31 0, cores := f 4 8 0, mask := f 4 23 16,
    mem := f 5 31 0, kdesc := f 6 31 0 + f 7 7 0 * 2 ^ 32, lfrac := f 7 31 16, sender := node }

end Sys2Proof.Machine

namespace Sys2Proof

open Sys2Proof.Machine

/-- A launch is made of the item (R450). -/
def OPut.launches (p : OPut) : Bool := p.kind == 1 || (p.kind == 3 && p.kdesc != 0)

/-- The item's entry as bytes (R460); PARTNER and NPARTNER only for TWIN. -/
def OItem.tableBytes (i : OItem) : List Byte :=
  let tw (p : Option Nat) : Nat := if i.put.twin then p.getD 0 else 0
  let w0 := i.put.kind + i.state * 2 ^ 4 + i.put.lclass * 2 ^ 8 + b2n i.put.pin * 2 ^ 10 + b2n i.put.twin * 2 ^ 11 + b2n i.put.carry * 2 ^ 12
  if i.state = 0 then leBytes 32 0
  else leBytes 4 w0 ++ leBytes 4 (i.owner + tw i.partner * 2 ^ 16) ++ leBytes 8 i.addr ++ leBytes 8 i.naddr
    ++ leBytes 4 (i.next + tw i.npartner * 2 ^ 16) ++ leBytes 4 i.cframe

/-- Placed, or on its way to be: PLACED, PREPARE or COMMIT. -/
def OItem.placed (i : OItem) : Bool := i.state == 2 || i.state == 3 || i.state == 4

/-- Nodes that are charged with the item in a round: NEXT and its partner while it moves, else OWNER and its partner. -/
def OItem.charged (i : OItem) (n : Nat) : Bool :=
  if i.state = 2 then i.owner == n || i.partner == some n
  else if i.state = 3 ∨ i.state = 4 then i.next == n || i.npartner == some n
  else false

/-- The node owns the item: it is OWNER or OWNER's partner. -/
def OItem.ownedBy (i : OItem) (n : Nat) : Bool := i.placed && (i.owner == n || i.partner == some n)

/-- Movable (R474). -/
def OItem.movable (i : OItem) : Bool := i.state == 2 && !i.put.pin && i.put.kind != 3

/-- Per cent of the frame a node offers, times its cores (R456). -/
def Inv.weight (v : Inv) : Nat :=
  let b := wfld v.cap 22 16
  wfld v.cap 8 0 * (if 1 ≤ b ∧ b ≤ 100 then b else 100)

/-- The capacity a node offers to new items: none while EN = 0 or DRAIN = 1 (R456). -/
def Inv.offer (v : Inv) : Nat := if wfld v.ctrl 0 0 = 1 ∧ wfld v.ctrl 2 2 = 0 then v.weight else 0

end Sys2Proof

namespace Sys2Proof.Machine

open Sys2Proof

namespace State

def updOrr (s : State) (f : Orrery → Orrery) : State := { s with orr := f s.orr }
def oSend (s : State) (m : OMsg) : State := s.updOrr fun o => { o with out := o.out ++ [m] }
/-- A placement command starts with no message sent. -/
def oBegin (s : State) : State := s.updOrr fun o => { o with out := [] }
def oItem (s : State) (id : Nat) : OItem := s.orr.items.get {} id
/-- IDs of the items that are not FREE. -/
def oIds (s : State) : List Nat := s.orr.items.entries.map fun x => x.1
def isCoord (s : State) : Bool := s.bit Reg.ORRERY_STATUS 16

/-! ### Own registers -/

/-- CU_cap × 2^0 in core-µs (R456). -/
def capCu (s : State) (v : Inv) : Nat := v.weight * 2 ^ 64 / (s.incNom * 100000)

/-- The own inventory record; SERVICE makes the node ineligible as DRAIN does (R458, R658). -/
def ownInv (s : State) : Inv :=
  let pool (k : Nat) : Nat × Nat := (s.regAddr (Reg.ORRERY_POOL_BASE_LO + 16 * k), s.fld (Reg.ORRERY_POOL_SIZE + 16 * k) 19 0)
  { uid := s.ownUid, id := BitVec.ofNat 13 s.ownId,
    ctrl := if s.under = 8 then s.reg Reg.ORRERY_CTRL ||| 4#32 else s.reg Reg.ORRERY_CTRL
    cap := s.reg Reg.ORRERY_CAP, pools := [pool 0, pool 1, pool 2],
    partner := if s.twEn && s.twinLinkUp then some s.peerNode else none
    epoch := s.reg Reg.ORRERY_EPOCH, seq := s.orr.seq }

/-- Inventory records held: the own one, and those renewed within 4 s (R434, R458). -/
def invs (s : State) : List Inv :=
  s.ownInv :: ((s.orr.invs.filter fun x => decide (s.mono < x.2 + 4000000000) && x.1.uid != s.ownUid).map fun x => x.1)

/-- ORRERY_LOAD, CAPCU, ITEMS and DRAINED follow the items (R456, R475). -/
def oRefresh (s : State) : State :=
  let own := (s.orr.items.entries.map fun x => x.2).filter fun i => i.ownedBy s.ownId
  let waits := (s.orr.items.entries.filter fun x => x.2.state == 1 || x.2.state == 5).length
  let s := s.setReg Reg.ORRERY_LOAD (BitVec.ofNat 32 (own.foldl (fun n i => n + i.put.cu) 0))
  let s := s.setReg Reg.ORRERY_CAPCU (BitVec.ofNat 32 (s.capCu s.ownInv))
  let s := (s.setFld Reg.ORRERY_ITEMS 14 0 own.length).setFld Reg.ORRERY_ITEMS 30 16 (if s.isCoord then waits else 0)
  let drained := s.bit Reg.ORRERY_CTRL 2 && !(own.any fun i => i.movable || i.state == 3)
  let was := s.bit Reg.ORRERY_STATUS 18
  let s := s.setBit Reg.ORRERY_STATUS 18 drained
  if drained && !was then s.raise Code.ORRERY_DRAINED s.ownId else s

/-! ### The table and its events -/

/-- Write the entry to the replica: bytes 16 to 31 first, when they change (R460, R461). -/
def oWrite (s : State) (id : Nat) (i : OItem) : State :=
  let a := s.regAddr Reg.ORRERY_TBL_LO / 4096 * 4096 + 32 * id
  let b := i.tableBytes
  let keep := i.state == 2 && frameFrom i.cframe s.frame
  let s := if keep || s.bytes (a + 16) 16 == b.drop 16 then s else s.store 0x3FFF (a + 16) (b.drop 16)
  let s := s.store 0x3FFF a (b.take 16)
  s.updOrr fun o => { o with items := o.items.put {} id i }

/-- The node at which the item's consumer lives. -/
def consumerNode (s : State) (p : OPut) : Option Nat :=
  if p.consumer = 0x3FFF then none
  else let c := s.oItem p.consumer
    if c.placed then some c.owner else none

/-- A placement event (R477). -/
def oEvent (s : State) (id : Nat) (i : OItem) : State :=
  let me := s.ownId
  if (i.state = 4 ∨ i.state = 5) ∧ i.del.isNone ∧ (i.owner = me ∨ i.next = me ∨ s.consumerNode i.put = some me ∨ i.put.sender = me) then
    (s.ringUnit (s.fld Reg.ORRERY_RINGS 13 8) [entryOne 0x53 [BitVec.ofNat 32 (id + i.state * 2 ^ 16),
      BitVec.ofNat 32 (i.owner + i.next * 2 ^ 16), BitVec.ofNat 32 i.cframe, s.reg Reg.ORRERY_EPOCH]]).2
  else s

/-! ### The local part: memory and launches (R454, R466, R467) -/

/-- TAG of an item's launches (R454). -/
def oTag (id : Nat) : Word := BitVec.ofNat 32 (0x4F500000 + id)

/-- Cores of the block that holds the item's launches and the block itself, over the items of this node. -/
def blockSum (s : State) (start n id : Nat) : Nat :=
  s.orr.blocks.entries.foldl (fun t x => match x.2 with
    | some b =>
      let i := s.oItem x.1
      if x.1 ≠ id ∧ b < start + n ∧ start < b + i.put.cores then t + i.put.cu else t
    | none => t) 0

/-- The block of cores for an item: the aligned block with the least CU, the lowest on ties (R454). -/
def chooseBlock (s : State) (id n : Nat) : Nat :=
  let starts := ((List.range (s.fld Reg.ORRERY_CAP 8 0 / n)).map fun i => i * n)
  starts.foldl (fun b x => if s.blockSum x n id < s.blockSum b n id then x else b) 0

/-- The period register that holds one frame, else the first (R454 names no register). -/
def framePer (s : State) : Nat :=
  match (List.range 8).find? fun n => s.ephPer n == 0x100000000#64 with
  | some n => n
  | none => 0

/-- Post the item's REPEAT LAUNCH from a frame on (R454). -/
def oPost (s : State) (id : Nat) (i : OItem) (frame : Nat) : State :=
  let p := i.put
  let b := match s.orr.blocks.get none id with
    | some b => b
    | none => s.chooseBlock id (max 1 p.cores)
  let s := s.updOrr fun o => { o with blocks := o.blocks.put none id (some b) }
  let a0 := if p.cores ≤ 16 then 2 ^ (b / 16) + (2 ^ p.cores - 1) * 2 ^ (b % 16) * 2 ^ 16
    else (2 ^ (p.cores / 16) - 1) * 2 ^ (b / 16) + 0xFFFF * 2 ^ 16
  (s.ephSubmit [BitVec.ofNat 32 (p.lfrac * 2 ^ 16), BitVec.ofNat 32 frame, BitVec.ofNat 32 (1 + 2 ^ 16 + s.framePer * 2 ^ 17),
    BitVec.ofNat 32 a0, BitVec.ofNat 32 p.kdesc, BitVec.ofNat 32 (p.kdesc / 2 ^ 32), BitVec.ofNat 32 id, oTag id]).2

/-- Cancel the item's launches and free its block. -/
def oCancel (s : State) (id : Nat) : State :=
  { s with eph := s.eph.filter fun e => e.tag != oTag id
           orr := { s.orr with blocks := s.orr.blocks.put none id none
                               heldFire := s.orr.heldFire.filter fun e => e.tag != oTag id } }

/-- Copy pages to an address of a node: with RPUT to another node, in place to this one (R466). -/
def oCopy (s : State) (src node dst pages : Nat) : State :=
  if node = s.ownId then s.store 0x3FFF dst (s.bytes src (pages * 4096))
  else (List.range (pages * 16)).foldl (fun s k =>
    let d := s.bytes (src + 256 * k) 256
    s.sendPosted { dst := BitVec.ofNat 13 node, src := 0, type := 0, tag := 256, addr := BitVec.ofNat 40 (dst + 256 * k), len := 256, payload := d }) s

/-! ### Nodes (R456, R457) -/

/-- Hop distance between two nodes over the links of R436. -/
def oHops (s : State) (a b : Nat) : Option Nat :=
  if a = b then some 0 else
  let g := routeGraph (s.transit.lsas.map fun x => x.1)
  match g.find? (fun v => v.id.toNat == a), g.find? (fun v => v.id.toNat == b) with
  | some x, some y => distOf (relaxAll g (fun _ _ => true) [(y.uid, 0)] g.length) x.uid
  | _, _ => none

/-- The node is ASSIGNED and reachable from this one (R432, R436). -/
def oPresent (s : State) (n : Nat) : Bool :=
  if n = s.ownId then s.idAssigned else (s.oHops n s.ownId).isSome

def oInv (s : State) (n : Nat) : Option Inv := s.invs.find? fun v => v.id.toNat == n

/-- CU charged to a node, an item apart. -/
def oLoad (s : State) (n id : Nat) : Nat :=
  s.orr.items.entries.foldl (fun t x =>
    let on : Bool := match s.orr.moves.find? fun m => m.1 == x.1 with
      | some (_, a, b) => a == n || b == some n
      | none => x.2.charged n
    if x.1 != id && on then t + x.2.put.cu else t) 0

/-- Spans of a node's pool that are taken: memory at ADDR, at NADDR, and memory still held. -/
def oUsed (s : State) (n k : Nat) : List (Nat × Nat) :=
  (s.orr.items.entries.flatMap fun x =>
    let i := x.2
    (if i.ownedBy n && i.pool == k && i.pages != 0 then [(i.addr, i.pages)] else [])
      ++ (if (i.state == 3 || i.state == 4) && (i.next == n || i.npartner == some n) && i.put.mkind == k && i.put.mem != 0
          then [(i.naddr, i.put.mem)] else []))
    ++ ((s.orr.held.filter fun h => h.node == n && h.pool == k).map fun h => (h.addr, h.pages))

/-- First fit of a run of pages in a pool, over the spans taken (R465). -/
def firstFit (base size : Nat) (used : List (Nat × Nat)) (pages : Nat) : Option Nat :=
  let ok (c : Nat) : Bool := decide (base ≤ c) && decide (c + pages * 4096 ≤ base + size * 4096)
    && used.all fun u => decide (u.1 + u.2 * 4096 ≤ c) || decide (c + pages * 4096 ≤ u.1)
  ((base :: used.map fun u => u.1 + u.2 * 4096).filter ok).foldl (fun b c => match b with
    | some x => some (min x c)
    | none => some c) none

/-- Memory for an item on a node, or at one address on both members of a pair; `some 0` for none (R456, R465). -/
def oAlloc (s : State) (p : OPut) (n : Nat) (m : Option Nat) : Option Nat :=
  if p.mem = 0 then some 0
  else match s.oInv n with
    | none => none
    | some v =>
      let (b, z) := v.pools.getD p.mkind (0, 0)
      let used := s.oUsed n p.mkind ++ (match m with
        | some m => s.oUsed m p.mkind
        | none => [])
      firstFit b z used p.mem

/-- The conditions of R456 on one node, memory and latency class apart. -/
def oNodeOk (s : State) (p : OPut) (id : Nat) (usePin : Bool) (v : Inv) : Bool :=
  let n := v.id.toNat
  s.oPresent n && wfld v.ctrl 0 0 == 1 && wfld v.ctrl 2 2 == 0
    && (p.mask == 0 || p.mask &&& wfld v.ctrl 23 16 != 0)
    && (!usePin || !p.pin || p.pinNode == n)
    && decide (p.cores ≤ wfld v.cap 8 0)
    && decide ((s.oLoad n id + p.cu) * (s.incNom * 100000) ≤ v.weight * 2 ^ 64)

/-- The latency class (R457). -/
def oNear (s : State) (p : OPut) (n : Nat) : Bool :=
  match s.consumerNode p with
  | none => true
  | some c =>
    let within (k : Nat) : Bool := (s.oHops n c).any fun d => decide (d ≤ k)
    match p.lclass with
    | 0 => n == c || ((s.oInv c).bind fun v => v.partner) == some n
    | 1 => within 1
    | 2 => within 4
    | _ => true

/-- An eligible placement of an item on a node: the partner that takes it too, and the address (R456). -/
def oEligible (s : State) (p : OPut) (id : Nat) (v : Inv) : Option (Option Nat × Nat) :=
  let n := v.id.toNat
  let pair := p.twin || (p.kind == 3 && p.pin && v.partner.isSome)
  if !s.oNodeOk p id true v || !s.oNear p n then none
  else if !pair then (s.oAlloc p n none).map fun a => (none, a)
  else match v.partner.bind s.oInv with
    | none => none
    | some w =>
      if !s.oNodeOk p id false w || w.pools != v.pools || !s.oNear p w.id.toNat then none
      else (s.oAlloc p n (some w.id.toNat)).map fun a => (some w.id.toNat, a)

/-- Load of a node after an item is added, as a fraction without the common factor (R465). -/
def oScore (s : State) (p : OPut) (id n : Nat) : Nat × Nat :=
  match s.oInv n with
  | some v => (s.oLoad n id + p.cu, v.weight)
  | none => (0, 0)

end State

/-- Compare fractions of loads; a node with no capacity counts as load 0. -/
def loadLt (a b : Nat × Nat) : Bool :=
  if b.2 = 0 then false else if a.2 = 0 then decide (0 < b.1) else decide (a.1 * b.2 < b.1 * a.2)
def loadMax (a b : Nat × Nat) : Nat × Nat := if loadLt a b then b else a

namespace State

/-- The best eligible placement of an item: lowest score, then fewer hops to the consumer, then lower ID (R465). -/
def oBest (s : State) (p : OPut) (id : Nat) (skip : Nat → Bool) : Option (Nat × Option Nat × Nat × (Nat × Nat)) :=
  let c := s.consumerNode p
  let hops (n : Nat) : Nat := match c with
    | some c => (s.oHops n c).getD (2 ^ 32)
    | none => 0
  s.invs.foldl (fun b v =>
    let n := v.id.toNat
    if skip n then b else match s.oEligible p id v with
    | none => b
    | some (m, a) =>
      let sc := match m with
        | some m => loadMax (s.oScore p id n) (s.oScore p id m)
        | none => s.oScore p id n
      match b with
      | none => some (n, m, a, sc)
      | some (bn, bm, ba, bs) =>
        if loadLt sc bs then some (n, m, a, sc)
        else if loadLt bs sc then some (bn, bm, ba, bs)
        else if hops n < hops bn ∨ (hops n = hops bn ∧ n < bn) then some (n, m, a, sc)
        else some (bn, bm, ba, bs)) none

/-! ### Entering COMMIT and HOLD on this node -/

/-- What COMMIT does on every node: the entry, the event, NEXT's launch, and a wait for the final copy (R461, R463, R466, R467). -/
def oCommit (s : State) (id : Nat) (i : OItem) : State :=
  let s := s.oWrite id i
  let s := s.oEvent id i
  let me := s.ownId
  if i.del.isSome || !(i.next == me || i.npartner == some me) then s
  else
    let moved := i.owner != me && i.partner != some me
    let s := if i.lost.isSome && i.put.carry && i.put.mem != 0 then s.store 0x3FFF i.naddr (List.replicate (i.put.mem * 4096) 0) else s
    let s := if i.put.carry && i.put.mem != 0 && i.owner != i.next then
        s.updOrr fun o => { o with copyWait := id :: o.copyWait.filter fun x => x != id } else s
    if i.put.launches && (moved || i.owner == i.next) then s.oPost id i i.cframe else s

/-- A plan: its items enter the table here, and it goes to the other nodes with the next plan number (R465, R477). -/
def oPlan (s : State) (l : List (Nat × OItem)) : State :=
  if l.isEmpty then s
  else
    let s := s.inc Reg.ORRERY_EPOCH
    let s := l.foldl (fun s x => if x.2.state = 4 then s.oCommit x.1 x.2 else (s.oWrite x.1 x.2).oEvent x.1 x.2) s
    s.oSend (.plan l (s.reg Reg.ORRERY_EPOCH))

/-! ### A round (PLACEMENT_ROUND, R465) -/

/-- Item x comes before item y in a round. -/
def roundBefore (s : State) (x y : Nat) : Bool :=
  let p := (s.oItem x).put
  let q := (s.oItem y).put
  let out (r : OPut) : Bool := r.kind == 3
  let fed (r : OPut) : Bool := (s.consumerNode r).isSome
  if out p != out q then out p
  else if fed p != fed q then fed p
  else if p.cu != q.cu then decide (q.cu < p.cu) else decide (x < y)

def roundNext (s : State) : List Nat → Option Nat
  | [] => none
  | x :: r => match roundNext s r with
    | none => some x
    | some y => if s.roundBefore x y then some x else some y

/-- Place the items one after another; the entries changed, and whether one found no node. -/
def roundGo (s : State) (cf : Nat) : Nat → List Nat → State × List Nat × Bool
  | 0, _ => (s, [], false)
  | f + 1, l =>
    match s.roundNext l with
    | none => (s, [], false)
    | some id =>
      let i := s.oItem id
      let p := i.put
      match s.oBest p id fun _ => false with
      | some (n, m, a, _) =>
        let j : OItem := { i with
          state := 4, owner := n, partner := m, next := n, npartner := m, addr := a, naddr := a, cframe := cf, pool := p.mkind, pages := p.mem }
        let s := s.updOrr fun o => { o with items := o.items.put {} id j }
        let (s, ids, none') := roundGo s cf f (l.filter fun x => x != id)
        (s, id :: ids, none')
      | none =>
        let stay := i.state == 5 && p.pin && !s.oPresent p.pinNode
        let j : OItem := if stay then i else { i with state := 1 }
        let s := s.updOrr fun o => { o with items := o.items.put {} id j }
        let (s, ids, none') := roundGo s cf f (l.filter fun x => x != id)
        (s, id :: ids, none' || (!stay && i.state != 1))

/-- Item-frames lost before CFRAME (R471). -/
def lostFrames (i : OItem) : Nat :=
  match i.lost with
  | some (_, h) =>
    if !i.put.launches then 0
    else
      let f := h.toNat / 2 ^ 32
      let first := if h.toNat % 2 ^ 32 < i.put.lfrac * 2 ^ 16 then f else f + 1
      let n := (i.cframe + 2 ^ 32 - first % 2 ^ 32) % 2 ^ 32
      if n < 2 ^ 31 then n else 0
  | none => 0

/-- A round over a list of items, with CFRAME counted from phase `d` (R465, R466, R469). -/
def oRound (s : State) (d : DWord) (l : List Nat) : State :=
  let cf := (d.toNat / 2 ^ 32 + 3 + (l.length - 1) / 1024) % 2 ^ 32
  let (s, ids, none') := s.roundGo cf l.length l
  let js := ids.map fun id => (id, s.oItem id)
  let s := s.oPlan js
  let s := js.foldl (fun s x =>
    if x.2.state = 4 then
      let s := s.incBy Reg.ORRERY_LOSTFR_CNT (lostFrames x.2)
      if x.2.lost.isSome && x.2.put.carry && x.2.put.mem != 0 then s.raise Code.ORRERY_CARRY_LOST x.1 else s
    else s) s
  (if none' then s.raise Code.ORRERY_ITEM_UNPLACED (match js.find? fun x => x.2.state == 1 with
    | some x => x.1
    | none => 0) else s).oRefresh

/-- The items that wait for a node: UNPLACED or HOLD. -/
def oWaiting (s : State) : List Nat := (s.orr.items.entries.filter fun x => (x.2.state == 1 || x.2.state == 5) && x.2.del.isNone).map fun x => x.1

/-! ### Moves (R464, R466, R474, R475) -/

/-- Moves with memory a node takes part in as OWNER (R467). -/
def memMoves (s : State) (n : Nat) : Nat :=
  (s.orr.items.entries.filter fun x => (x.2.state == 3 || (x.2.state == 4 && x.2.next != n)) && x.2.owner == n && x.2.pages != 0).length
    + (s.orr.held.filter fun h => h.node == n && h.pages != 0).length
    + (s.orr.moves.filter fun x => (s.oItem x.1).owner == n && (s.oItem x.1).pages != 0).length

def mayMove (s : State) (i : OItem) : Bool := i.pages == 0 || decide (s.memMoves i.owner < 4)

/-- A move is chosen; its PREPARE is to be sent. -/
def chooseMove (s : State) (id n : Nat) (m : Option Nat) : State :=
  s.updOrr fun o => { o with moves := (o.moves.filter fun x => x.1 != id) ++ [(id, n, m)] }

/-- No move of a rebalance or drain round is in PREPARE or COMMIT. -/
def movesIdle (s : State) : Bool :=
  s.orr.moves.isEmpty && !(s.orr.items.entries.any fun x => x.2.state == 3 || (x.2.state == 4 && x.2.owner != x.2.next))

def maxMoves (s : State) : Nat := max 1 (s.fld Reg.ORRERY_REBAL 15 8)

/-- A migration in PREPARE is cancelled: the item stays PLACED on OWNER and NADDR is freed (MIGRATE_CANCEL, R464). -/
def oCancelMove (s : State) (id : Nat) : State :=
  let j : OItem := { s.oItem id with state := 2, naddr := 0, next := 0, npartner := none, repO := false, repN := false }
  let s := s.updOrr fun o => { o with commits := o.commits.filter fun x => x != id, copyWait := o.copyWait.filter fun x => x != id }
  let s := if j.owner != s.ownId && j.partner != some s.ownId then s.oCancel id else s
  ((s.oPlan [(id, j)]).inc Reg.ORRERY_CANCEL_CNT).raise Code.ORRERY_MIGRATE_CANCEL id

/-- The movable items of a node, by descending CU, then ascending ID. -/
def movables (s : State) (n : Nat) : List Nat :=
  let l := (s.orr.items.entries.filter fun x => x.2.movable && x.2.owner == n && x.2.del.isNone && !(s.orr.moves.any fun m => m.1 == x.1))
  let bef (x y : Nat × OItem) : Bool := if x.2.put.cu != y.2.put.cu then decide (y.2.put.cu < x.2.put.cu) else decide (x.1 < y.1)
  (l.foldl (fun out x => (out.filter fun y => bef y x) ++ [x] ++ (out.filter fun y => !bef y x)) []).map fun x => x.1

/-- The drain rule: up to MAX_MOVES items leave each draining node (R475). -/
def oDrain (s : State) : State :=
  if !s.isCoord || !s.movesIdle then s
  else
    (s.invs.filter fun v => wfld v.ctrl 2 2 == 1).foldl (fun s v =>
      ((s.movables v.id.toNat).take s.maxMoves).foldl (fun s id =>
        let i := s.oItem id
        if !s.mayMove i then s
        else match s.oBest i.put id (fun n => n == i.owner) with
          | some (n, m, _, _) => s.chooseMove id n m
          | none => s) s) s

end State

end Sys2Proof.Machine
end

