-- ==== Sys2Proof/Machine/Orrery.lean ====
section
/-!
DEFINITION. The commands of the placement engine (10_orrery_placement.md R451 to R476).
-/
namespace Sys2Proof.Machine

open Sys2Proof

namespace State

/-! ### Puts (R451, R452, R463) -/

/-- Deliver an entry to a ring of a node. -/
def oAnswer (s : State) (node ring : Nat) (e : Entry) : State :=
  if node = s.ownId then (s.ringUnit ring [e]).2 else s.oSend (.answer node ring e)

def oResult (s : State) (node ring id res : Nat) : State :=
  s.oAnswer node ring (entryOne 0x51 [BitVec.ofNat 32 (id + res * 2 ^ 16), s.reg Reg.ORRERY_EPOCH])

/-- A CONSUMER chain that starts at c returns to item id. -/
def chainBack (s : State) (id : Nat) : Nat → Nat → Bool
  | 0, _ => false
  | f + 1, c =>
    if c = 0x3FFF then false
    else if c = id then true
    else if (s.oItem c).state = 0 then false else chainBack s id f (s.oItem c).put.consumer

/-- The put is refused with BADITEM (R452). -/
def putBad (s : State) (id : Nat) (p : OPut) : Bool :=
  p.kind != 0 && (p.mkind == 3 || (p.kind == 3 && !p.pin) || (p.kind == 1 && (p.kdesc == 0 || p.kdesc % 32 != 0))
    || (p.launches && !([1, 2, 4, 8, 16, 32, 64, 128, 256].contains p.cores)) || s.chainBack id 16384 p.consumer)

/-- The frame floor(p) + 3 of R463. -/
def frame3 (s : State) : Nat := (s.frame + 3) % 2 ^ 32

/-- A put for an item that is PLACED: in effect after three frames, or by a move (R463). -/
def putPlaced (s : State) (id : Nat) (p : OPut) : State :=
  let i := s.oItem id
  let same := p.mem == i.pages && (p.mem == 0 || p.mkind == i.pool)
  let q := if same then { p with mem := 0 } else p
  let stays := match s.oInv i.owner with
    | some v => (s.oEligible q id v).isSome
    | none => false
  let move (n : Nat) (m : Option Nat) : State :=
    (s.updOrr fun o => { o with items := o.items.put {} id { i with put := p } }).chooseMove id n m
  if stays && !same then move i.owner i.partner
  else match (if stays then none else s.oBest p id fun n => n == i.owner) with
    | some (n, m, _, _) => move n m
    | none => s.oPlan [(id, { i with later := some (p, s.frame3) })]

/-- An accepted put (R463, R464). -/
def putApply (s : State) (id : Nat) (p : OPut) : State :=
  let i := s.oItem id
  let s := s.updOrr fun o => { o with moves := o.moves.filter fun m => m.1 != id }
  if p.kind = 0 then
    if i.state = 0 then s
    else
      let s := if i.state = 3 then s.oCancelMove id else s
      s.oPlan [(id, { s.oItem id with del := some s.frame3 })]
  else match i.state with
    | 2 => s.putPlaced id p
    | 3 => (s.oCancelMove id).putPlaced id p
    | 4 => s.updOrr fun o => { o with items := o.items.put {} id { i with later := some (p, i.cframe) } }
    | _ =>
      let s := s.updOrr fun o => { o with items := o.items.put {} id { i with put := p, state := if i.state = 5 then 5 else 1, del := none } }
      -- a new item leaves FREE in this round: it counts as newly UNPLACED where no node is eligible
      let s := if i.state = 0 then s.updOrr fun o => { o with items := o.items.put {} id { i with put := p, state := 6 } } else s
      s.oRound s.phase (s.oWaiting ++ (if i.state = 0 then [id] else []))

/-- The coordinator records a put and answers it. -/
def coordPut (s : State) (node : Nat) (e : Entry) : State :=
  let p := putOf node e
  let id := wfld (entryWord e 1) 13 0
  if s.putBad id p then (s.oResult node p.reply id 1).raise Code.ORRERY_CFG_ERR id
  else ((s.oResult node p.reply id 0).putApply id p).oRefresh

/-- The own inventory record is flooded (R458). -/
def invOriginate (s : State) : State :=
  let s := s.updOrr fun o => { o with seq := o.seq + 1, invAt := s.mono }
  s.oSend (.inv s.ownInv)

/-! ### The coordinator (R458, R459) -/

/-- Candidates, and the best of them: lower PRIO, then lower UID. -/
def coordCands (s : State) : List Inv := s.invs.filter fun v => wfld v.ctrl 1 1 == 1 && s.oPresent v.id.toNat

def coordBest (s : State) : Option Inv :=
  s.coordCands.foldl (fun b v => match b with
    | none => some v
    | some w =>
      let p (x : Inv) : Nat := wfld x.ctrl 15 8
      if p v < p w ∨ (p v = p w ∧ v.uid.toNat < w.uid.toNat) then some v else some w) none

/-- The coordinator in force, while it is in the database. -/
def coordNow (s : State) : Option Inv :=
  if s.bit Reg.ORRERY_STATUS 17 then s.coordCands.find? fun v => v.id.toNat == s.fld Reg.ORRERY_STATUS 12 0 else none

/-- Since when a better candidate has ranked better. -/
def coordRank (s : State) : State :=
  match s.coordNow, s.coordBest with
  | some c, some b =>
    if c.uid = b.uid then s.updOrr fun o => { o with better := none }
    else s.updOrr fun o => { o with better := some (match o.better with
      | some (u, t) => if u = b.uid then (u, t) else (b.uid, s.mono)
      | none => (b.uid, s.mono)) }
  | _, _ => s.updOrr fun o => { o with better := none }

/-- A coordinator takes office; the new one adopts the newest replica, ends what was in PREPARE and runs a full round (R459). -/
def setCoord (s : State) (v : Option Inv) (replica : List (Nat × OItem)) : State :=
  let mine := (v.map fun x => x.uid) == some s.ownUid
  let id := (v.map fun x => x.id.toNat).getD 0
  let s := s.setReg Reg.ORRERY_STATUS ((s.reg Reg.ORRERY_STATUS &&& 0x40000#32) ||| BitVec.ofNat 32 (id + b2n mine * 2 ^ 16 + b2n v.isSome * 2 ^ 17))
  let s := s.updOrr fun o => { o with better := none, moves := [], commits := [] }
  let s := s.raise Code.ORRERY_COORD_CHANGE id
  if !mine then s.oRefresh
  else
    let ep := s.invs.foldl (fun (m : Word) v => if 0 < (v.epoch - m).toInt then v.epoch else m) (s.reg Reg.ORRERY_EPOCH)
    let s := if ep = s.reg Reg.ORRERY_EPOCH then s
      else replica.foldl (fun s x => s.oWrite x.1 x.2) (s.setReg Reg.ORRERY_EPOCH ep)
    let s := (s.oIds.filter fun id => (s.oItem id).state == 3).foldl (fun s id => s.oCancelMove id) s
    let w := s.oWaiting
    if w.isEmpty then s.oRefresh else s.oRound s.phase w

/-! ### Rebalancing (R474) -/

/-- Nodes that can take an item: present, EN = 1 and DRAIN = 0. -/
def takers (s : State) : List Inv := s.invs.filter fun v => s.oPresent v.id.toNat && wfld v.ctrl 0 0 == 1 && wfld v.ctrl 2 2 == 0

def nodeLoad (s : State) (v : Inv) : Nat × Nat := (s.oLoad v.id.toNat 0x4000, v.weight)

/-- The node with the highest load, the lowest ID on ties. -/
def highest (s : State) : Option Inv :=
  (s.invs.filter fun v => s.oPresent v.id.toNat).foldl (fun b v => match b with
    | none => some v
    | some w => if loadLt (s.nodeLoad w) (s.nodeLoad v) then some v
      else if loadLt (s.nodeLoad v) (s.nodeLoad w) then some w
      else if v.id.toNat < w.id.toNat then some v else some w) none

/-- load(H) − Lmin exceeds THR percentage points. -/
def imbalance (s : State) (h : Inv) : Bool :=
  let a := s.nodeLoad h
  match s.takers.foldl (fun (b : Option (Nat × Nat)) v => match b with
      | none => some (s.nodeLoad v)
      | some x => if loadLt (s.nodeLoad v) x then some (s.nodeLoad v) else some x) none with
  | none => false
  | some b =>
    let kb := if b.2 = 0 then 1 else b.2
    let sb := if b.2 = 0 then 0 else b.1
    a.2 != 0 && decide (s.fld Reg.ORRERY_REBAL 7 0 * 2 ^ 64 * a.2 * kb + sb * a.2 * s.incNom * 10000000 < a.1 * kb * s.incNom * 10000000)

def rebalanceGo (s : State) (h : Inv) : Nat → List Nat → State × Nat
  | _, [] => (s, 0)
  | 0, _ => (s, 0)
  | f + 1, id :: r =>
    if !s.imbalance h then (s, 0)
    else
      let i := s.oItem id
      let go := if !s.mayMove i then none else s.oBest i.put id fun n => n == i.owner
      match go with
      | some (n, m, _, sc) =>
        if loadLt sc (s.nodeLoad h) then
          let (s, k) := rebalanceGo (s.chooseMove id n m) h f r
          (s, k + 1)
        else rebalanceGo s h (f + 1) r
      | none => rebalanceGo s h (f + 1) r

/-- A rebalance round of the coordinator. -/
def oRebalance (s : State) : State :=
  if !s.isCoord || !s.movesIdle then s
  else match s.highest with
    | none => s
    | some h =>
      let (s, k) := s.rebalanceGo h s.maxMoves (s.movables h.id.toNat)
      if k = 0 then s else s.raise Code.ORRERY_REBALANCE h.id.toNat

/-! ### Migration (R466, R467) -/

/-- PREPARE at a node: the entry, and OWNER's copy to NADDR. -/
def oPrepare (s : State) (id : Nat) (j : OItem) : State :=
  let s := s.oWrite id j
  if j.owner != s.ownId || j.pages == 0 then s
  else
    let n := min j.pages j.put.mem
    let s := s.oCopy j.addr j.next j.naddr n
    match j.npartner with
    | some m => s.oCopy j.addr m j.naddr n
    | none => s

/-- An entry of a plan on a node that is not the coordinator. -/
def oApply (s : State) (id : Nat) (j : OItem) : State :=
  let s := if j.state = 4 then s.oCommit id j else (s.oWrite id j).oEvent id j
  if j.state = 4 || j.ownedBy s.ownId then s
  else (s.updOrr fun o => { o with copyWait := o.copyWait.filter fun x => x != id }).oCancel id

/-- A free RETRY window of this node (R423, R467). -/
def freeWindow (s : State) : Option Nat := (List.range 4).find? fun w => !s.bit (Reg.TRANSIT_RLOCK_BASE_LO + 0x10 * w) 0

def retireFrames (s : State) : Nat := max 1 (s.fld Reg.ORRERY_REBAL 23 16)

/-- Old memory of an item stays allocated for RETIRE frames; OWNER arms a RETRY window over it (R467). -/
def oRetire (s : State) (i : OItem) (frame : Nat) : State :=
  if i.pages = 0 then s
  else
    let until' := (frame + s.retireFrames) % 2 ^ 32
    let win := if i.owner = s.ownId then s.freeWindow else none
    let s := match win with
      | some w =>
        let a := Reg.TRANSIT_RLOCK_BASE_LO + 0x10 * w
        (s.setReg64 a (BitVec.ofNat 64 (i.addr + 1))).setFld (Reg.TRANSIT_RLOCK_SIZE + 0x10 * w) 19 0 i.pages
      | none => s
    let one (n : Nat) (w : Option Nat) : OHeld := ⟨n, i.pool, i.addr, i.pages, until', w⟩
    s.updOrr fun o => { o with held := o.held ++ [one i.owner win] ++ (match i.partner with
      | some m => [one m none]
      | none => []) }

/-- Frame CFRAME of an item in COMMIT: NEXT takes it (R463, R466). -/
def oTake (s : State) (id : Nat) : State :=
  let i := s.oItem id
  let moved := i.owner != i.next || i.addr != i.naddr
  let s := if moved then s.oRetire i i.cframe else s
  let mineNow := i.next == s.ownId || i.npartner == some s.ownId
  let s := if i.ownedBy s.ownId && !mineNow then s.oCancel id else s
  let s := if mineNow && i.lost.isSome && !i.put.launches then s.raise Code.ORRERY_REPLACED id else s
  let j : OItem := { i with
    state := 2, owner := i.next, partner := i.npartner, addr := i.naddr, pool := i.put.mkind, pages := i.put.mem, repO := false, repN := false
    later := none, lost := if i.put.launches then i.lost else none }
  let s := s.oWrite id j
  let s := s.updOrr fun o => { o with copied := o.copied.filter fun x => x != id }
  match i.later with
  | some (p, _) => if s.isCoord then s.putApply id p else s
  | none => s

/-- A put takes effect without a move (R463). -/
def oLater (s : State) (id : Nat) (p : OPut) (f : Nat) : State :=
  let i := s.oItem id
  let j : OItem := { i with put := p, later := none }
  let s := s.oWrite id j
  if !i.ownedBy s.ownId then s
  else
    let s := s.oCancel id
    if p.launches then s.oPost id j f else s

/-- A DELETE takes effect (R463). -/
def oFree (s : State) (id f : Nat) : State :=
  let i := s.oItem id
  let s := if i.placed then s.oRetire i f else s
  let s := s.oCancel id
  let s := s.oWrite id {}
  s.updOrr fun o => { o with moves := o.moves.filter fun m => m.1 != id, commits := o.commits.filter fun x => x != id }

/-- What has fallen due for an item at the present frame. -/
def oDue (s : State) (id : Nat) : State :=
  let i := s.oItem id
  let s := if i.state == 4 && frameFrom i.cframe s.frame then s.oTake id
    else match i.later with
      | some (p, f) => if i.state == 2 && frameFrom f s.frame then s.oLater id p f else s
      | none => s
  match i.del with
  | some f => if frameFrom f s.frame then s.oFree id f else s
  | none => s

/-- A kernel of the item runs on this node (R467). -/
def itemRuns (s : State) (id : Nat) (i : OItem) : Bool :=
  s.groups.any fun g => g.karg == BitVec.ofNat 32 id && g.kdesc == BitVec.ofNat 64 i.put.kdesc && !g.alive.isEmpty

/-- OWNER may make the final copy: its last kernel has ended, or for a buffer phase CFRAME − 0.125 is reached (R467). -/
def copyReady (s : State) (id : Nat) (i : OItem) : Bool :=
  let cf : DWord := BitVec.ofNat 64 (i.cframe * 2 ^ 32)
  if i.put.launches then
    !phaseBefore s.phase (cf - BitVec.ofNat 64 (2 ^ 32) + BitVec.ofNat 64 (i.put.lfrac * 2 ^ 16)) && !s.itemRuns id i
  else !phaseBefore s.phase (cf - BitVec.ofNat 64 (2 ^ 29))

/-! ### Node loss (R469) -/

/-- What the loss of node n does to an item at phase d: unchanged, cancelled, or in HOLD (R463, R464, R473). -/
def lossOf (s : State) (n : Nat) (i : OItem) : Nat :=
  let alive (m : Option Nat) : Bool := match m with
    | some m => m != n && s.oPresent m
    | none => false
  let ownerLost := (i.owner == n && !alive i.partner) || (i.partner == some n && !s.oPresent i.owner)
  let nextLost := (i.next == n && !alive i.npartner) || (i.npartner == some n && !s.oPresent i.next)
  if i.state = 2 ∧ ownerLost then 2
  else if i.state = 3 ∧ ownerLost then 2
  else if i.state = 3 ∧ nextLost then 1
  else if i.state = 4 ∧ nextLost then
    if i.owner = i.next ∨ ownerLost then 2
    else if 2 ^ 32 ≤ phaseDiff (BitVec.ofNat 64 (i.cframe * 2 ^ 32)) s.phase then 1 else 2
  else 0

def oLoss (s : State) (n : Nat) (hello : DWord) : State :=
  let s := s.inc Reg.ORRERY_LOSS_CNT
  let s := s.updOrr fun o => { o with moves := o.moves.filter fun m => m.2.1 != n && m.2.2 != some n && (s.oItem m.1).owner != n }
  let ids := s.oIds
  let cancel := ids.filter fun id => s.lossOf n (s.oItem id) == 1
  let hold := ids.filter fun id => s.lossOf n (s.oItem id) == 2
  let s := cancel.foldl (fun s id => s.oCancelMove id) s
  if hold.isEmpty then s.oRefresh
  else
    let d := s.phase
    let s := s.oPlan (hold.map fun id => (id, { s.oItem id with state := 5, lost := some (d, hello), later := none, repO := false, repN := false }))
    let s := s.raise Code.ORRERY_ITEM_HOLD n
    s.oRound d (hold.filter fun id => (s.oItem id).del.isNone)

end State

/-! ### Commands -/

/-- ITEM_PUT. -/
def execItemPut (src : OSrc) (s : State) : Host.Outcome State Fault Refusal :=
  let s := s.oBegin
  match src with
  | .own =>
    let r := s.fld Reg.ORRERY_RINGS 5 0
    if !s.ringBusy r then .next s
    else
      let (e, t) := s.ringPop r
      if entryType e = 0x52 then .next s
      else if entryType e ≠ 0x50 ∨ entrySop e = false ∨ entryEop e = false then .next t
      else if t.isCoord then .next (t.coordPut t.ownId e)
      else if t.bit Reg.ORRERY_STATUS 17 then .next (t.oSend (.put t.ownId e))
      else
        let id := wfld (entryWord e 1) 13 0
        .next ((t.oResult t.ownId (wfld (entryWord e 1) 29 24) id 2).raise Code.ORRERY_CFG_ERR id)
  | .forwarded node e => .next (if s.isCoord then s.coordPut node.toNat e else s)
  | .answered r e => .next (s.ringUnit r.val [e]).2

/-- NODE_SET (R455). -/
def execNodeSet (s : State) : Host.Outcome State Fault Refusal :=
  let s := s.oBegin
  let r := s.fld Reg.ORRERY_RINGS 5 0
  let (e, t) := s.ringPop r
  if !s.ringBusy r || entryType e != 0x52 then .next s
  else
    let w := entryWord e 1
    let v := BitVec.ofNat 32 (wfld w 18 18 + wfld w 16 16 * 2 + wfld w 17 17 * 4 + wfld w 15 8 * 2 ^ 8 + wfld w 7 0 * 2 ^ 16)
    let t := t.setReg Reg.ORRERY_CTRL v
    let t := (t.ringUnit (wfld (entryWord e 2) 5 0) [entryOne 0x54 [v]]).2
    let added := decide (s.ownInv.offer < t.ownInv.offer)
    let t := t.invOriginate.coordRank.oDrain
    .next (if added then t.oRebalance else t).oRefresh

/-- INVENTORY_RECEIVE (R458, R474). -/
def execInventoryReceive (l : LinkId) (i : Inv) (s : State) : Host.Outcome State Fault Refusal :=
  let old := s.orr.invs.find? fun x => x.1.uid == i.uid
  let new := match old with
    | some x => decide (0 < (i.seq - x.1.seq).toInt)
    | none => true
  if !s.fabricUp l.val || !new || i.uid == s.ownUid then .next s
  else
    let added := decide ((match old with
      | some x => x.1.offer
      | none => 0) < i.offer)
    let s := s.oBegin.updOrr fun o => { o with invs := (o.invs.filter fun x => x.1.uid != i.uid) ++ [(i, s.mono)] }
    let s := (s.oSend (.inv i)).coordRank.oDrain
    .next (if added then s.oRebalance else s)

/-- COORD_CHANGE: a better candidate after 1 s, or at once when the coordinator has left the database (R458). -/
def execCoordChange (replica : List (Nat × OItem)) (s : State) : Host.Outcome State Fault Refusal :=
  let s := s.oBegin
  match s.coordBest, s.coordNow with
  | none, _ => .next (if s.bit Reg.ORRERY_STATUS 17 then s.setCoord none [] else s)
  | some b, none => .next (s.setCoord (some b) replica)
  | some b, some _ =>
    match s.orr.better with
    | some (u, t) => if u = b.uid ∧ t + 1000000000 ≤ s.mono then .next (s.setCoord (some b) replica) else .next s.coordRank
    | none => .next s.coordRank

/-- REBALANCE_TICK: every 1 s; the own inventory is renewed with it (R434, R474, R475). -/
def execRebalanceTick (s : State) : Host.Outcome State Fault Refusal :=
  if s.mono < s.orr.roundAt + 1000000000 then .next s
  else
    let s := (s.oBegin.updOrr fun o => { o with roundAt := s.mono }).invOriginate
    if !s.isCoord then .next s.oRefresh
    else
      let w := s.oWaiting
      let s := if w.isEmpty then s else s.oRound s.phase w
      .next s.oDrain.oRebalance.oRefresh

/-- MIGRATE_PREPARE: the coordinator sends PREPARE for the first chosen move, or it arrives at another node (R466). -/
def execMigratePrepare (msg : Option (Nat × OItem)) (s : State) : Host.Outcome State Fault Refusal :=
  let s := s.oBegin
  match msg with
  | some (id, j) => if s.isCoord || j.state != 3 then .next s else .next (s.oPrepare id j).oRefresh
  | none =>
    match s.orr.moves with
    | [] => .next s
    | (id, n, m) :: r =>
      let i := s.oItem id
      if !s.isCoord || !frameFrom ((i.cframe + s.retireFrames) % 2 ^ 32) s.frame then .next s
      else
        let s := s.updOrr fun o => { o with moves := r }
        match (if i.state = 2 then s.oAlloc i.put n m else none) with
        | none => .next s
        | some a =>
          let j : OItem := { i with state := 3, next := n, npartner := m, naddr := a, repO := false, repN := false }
          .next ((s.oPrepare id j).oSend (.prepare id j)).oRefresh

/-- PREPARE_DONE: a report; with both, the coordinator sends COMMIT with CFRAME = floor(p) + 3 (R466). -/
def execPrepareDone (node : BitVec 13) (id : BitVec 14) (s : State) : Host.Outcome State Fault Refusal :=
  let s := s.oBegin
  let i := s.oItem id.toNat
  let n := node.toNat
  if i.state ≠ 3 ∨ (n ≠ i.owner ∧ n ≠ i.next) then .next s
  else if !s.isCoord then .next (if n = s.ownId then s.oSend (.report n id.toNat i.naddr) else s)
  else
    let j : OItem := { i with repO := i.repO || i.owner == n, repN := i.repN || i.next == n }
    if j.repO && j.repN && !s.orr.commits.contains id.toNat then
      let j : OItem := { j with cframe := s.frame3 }
      let s := s.inc Reg.ORRERY_EPOCH
      let s := s.updOrr fun o => { o with items := o.items.put {} id.toNat j, commits := o.commits ++ [id.toNat] }
      .next (s.oSend (.plan [(id.toNat, { j with state := 4 })] (s.reg Reg.ORRERY_EPOCH)))
    else .next (s.updOrr fun o => { o with items := o.items.put {} id.toNat j })

/-- MIGRATE_COMMIT: the entry enters COMMIT on this node; on another node than the coordinator by its message (R463, R466, R477). -/
def execMigrateCommit (msg : Option (List (Nat × OItem) × Word)) (s : State) : Host.Outcome State Fault Refusal :=
  let s := s.oBegin
  match msg with
  | some (l, ep) =>
    if s.isCoord then .next s
    else .next (l.foldl (fun s x => s.oApply x.1 x.2) (s.setReg Reg.ORRERY_EPOCH ep)).oRefresh
  | none =>
    match s.orr.commits with
    | [] => .next s
    | id :: r =>
      let s := s.updOrr fun o => { o with commits := r }
      let i := s.oItem id
      if i.state ≠ 3 then .next s
      else .next ((s.oCommit id { i with state := 4 }).inc Reg.ORRERY_MOVE_CNT).oRefresh

/-- CFRAME_REACHED: every item whose CFRAME, put or DELETE falls due at this frame (R463, R466, R475). -/
def execCframeReached (s : State) : Host.Outcome State Fault Refusal :=
  let s := s.oBegin
  .next ((s.oIds.foldl (fun s id => s.oDue id) s).oDrain).oRefresh

/-- FINAL_COPY: OWNER repeats the copy after its last frame's writes; `ended`: it has completed at NEXT (R467). -/
def execFinalCopy (id : BitVec 14) (ended : Bool) (s : State) : Host.Outcome State Fault Refusal :=
  let s := s.oBegin
  let n := id.toNat
  let i := s.oItem n
  if ended then
    if !s.orr.copyWait.contains n then .next s
    else
      let mine := s.orr.heldFire.filter fun e => e.tag == State.oTag n
      let s : State := { s with
        eph := s.eph ++ mine.map fun e => { e with late := true }
        orr := { s.orr with
          copyWait := s.orr.copyWait.filter fun x => x != n
          heldFire := s.orr.heldFire.filter fun e => e.tag != State.oTag n } }
      .next (if mine.isEmpty then s else (s.inc Reg.EPH_LATE_CNT).raiseFrame Code.CLK_EPH_LATE 0)
  else if i.state ≠ 4 ∨ i.put.carry = false ∨ i.pages = 0 ∨ i.owner ≠ s.ownId ∨ (i.next = i.owner ∧ i.addr = i.naddr)
      ∨ s.orr.copied.contains n ∨ s.copyReady n i = false then .next s
  else
    let s := s.updOrr fun o => { o with copied := n :: o.copied }
    let k := min i.pages i.put.mem
    let s := s.oCopy i.addr i.next i.naddr k
    let s := match i.npartner with
      | some m => s.oCopy i.addr m i.naddr k
      | none => s
    .next (s.oSend (.copied i.next n))

/-- RETIRE_EXPIRE: RETIRE frames after CFRAME the window is disarmed and the memory freed (R467). -/
def execRetireExpire (s : State) : Host.Outcome State Fault Refusal :=
  let due := s.orr.held.filter fun h => frameFrom h.until' s.frame
  let s := s.updOrr fun o => { o with held := o.held.filter fun h => !frameFrom h.until' s.frame }
  .next (due.foldl (fun s h => match h.win with
    | some w => s.setBit (Reg.TRANSIT_RLOCK_BASE_LO + 0x10 * w) 0 false
    | none => s) s)

/-- NODE_LOSS (R469 to R473). -/
def execNodeLoss (n : BitVec 13) (hello : DWord) (s : State) : Host.Outcome State Fault Refusal :=
  if !(s.orr.invs.any fun x => x.1.id == n) || s.oPresent n.toNat then .next s
  else
    let s := s.oBegin.updOrr fun o => { o with invs := o.invs.filter fun x => x.1.id != n }
    -- no final copy comes from a lost OWNER
    let ids := s.orr.copyWait.filter fun id => (s.oItem id).owner == n.toNat
    let s := ids.foldl (fun (s : State) id =>
      let mine := s.orr.heldFire.filter fun e => e.tag == State.oTag id
      { s with
        eph := s.eph ++ mine.map fun e => { e with late := true }
        orr := { s.orr with
          copyWait := s.orr.copyWait.filter fun x => x != id
          heldFire := s.orr.heldFire.filter fun e => e.tag != State.oTag id } }) s
    .next (if s.isCoord then s.oLoss n.toNat hello else s.oRefresh)

end Sys2Proof.Machine
end

