-- ==== Sys2Proof/Machine/Package.lean ====
section
/-!
DEFINITION. Reference clocks, SerDes lanes and the SMBus masters (19_package_electrical.md R731, R739, R740; R747).
-/
namespace Sys2Proof.Machine

open Sys2Proof

namespace State

/-- A lane is in use while its owning enable is 1 (R739). -/
def laneUsed (s : State) (n : Nat) : Bool :=
  if n < 16 then s.bit (Reg.TRANSIT_CFG + 0x1000 * n) 0
  else if n < 52 then s.mbit (n - 16) Reg.MAC_CTRL 0
  else s.bit (Reg.PLATE_LINK_CTRL + 0x4000 * ((n - 52) / 4)) 0

/-- A lane's PLL is locked while it is in use and its reference is present (R731). -/
def lanePll (s : State) (n : Nat) : Bool := s.laneUsed n && s.refOk n

/-- The link or port of a lane that has lost PLL lock reacts as for its own loss of lock (R309, R429, R481, R731). -/
def laneUnlocked (s : State) (n : Nat) : State :=
  if n < 16 then s.transitLockLost n
  else if n < 52 then s.macLinkLost (n - 16)
  else if n % 4 = 0 then s.rxLockLost ((n - 52) / 4)
  else s

/-- A reference pair stops: its lanes in use lose PLL lock, and their links and ports react (R731, R741). -/
def refLost (s : State) (k : Nat) : State :=
  let lanes := (List.range 68).filter fun n => laneRef n == k && s.lanePll n
  let s := (s.setBit Reg.SERDES_REF_STAT k false).raise Code.SERDES_REF_LOST (96 + k)
  let s := lanes.foldl (fun s n => (s.inc (Reg.SERDES_UNLOCK_CNT + 0x800 * n)).raise Code.SERDES_PLL_UNLOCK n) s
  lanes.foldl laneUnlocked s

/-- A write to SERDESn_CTRL (R739). -/
def serdesWrite (s : State) (ag : Agent) (n : Nat) (v : Word) : State :=
  let a := Reg.SERDES_CTRL + 0x800 * n
  if 24 < wfld v 7 4 + wfld v 12 8 ∨ (s.laneUsed n ∧ wfld v 1 0 ≠ s.fld a 1 0) then s.raise Code.SERDES_CFG_ERR n
  else s.plainWrite ag a v

/-- Setting SMBm_GO.START (R740). -/
def smbStart (s : State) (m : Nat) : State :=
  if s.bit (Reg.SMB_STATUS + 0x100 * m) 0 then s.raise Code.SERDES_CFG_ERR (128 + m)
  else (s.setBit (Reg.SMB_STATUS + 0x100 * m) 0 true).setBit (Reg.SMB_GO + 0x100 * m) 0 true

/-- Bytes read overwrite the data buffer from byte 0 (R740). -/
def smbData (s : State) (m : Nat) (data : List Byte) : State :=
  let n := min (s.fld (Reg.SMB_XFER + 0x100 * m) 29 24) data.length
  ((List.range n).zip data).foldl (fun s x => s.setFld (Reg.SMB_DATA + 0x100 * m + 4 * (x.1 / 4)) (8 * (x.1 % 4) + 7) (8 * (x.1 % 4)) x.2.toNat) s

/-- The transaction ends (R740). -/
def smbDone (s : State) (m result count : Nat) (data : List Byte) : State :=
  if !s.bit (Reg.SMB_STATUS + 0x100 * m) 0 then s
  else
    let s := (s.smbData m data).setReg (Reg.SMB_STATUS + 0x100 * m) (BitVec.ofNat 32 (result * 2 + count * 256))
    let s := s.setBit (Reg.SMB_GO + 0x100 * m) 0 false
    if result = 0 then s else s.raiseSec Code.SERDES_SMB_FAIL (128 + m)

end State

/-- SMB_START (R740). -/
def execSmbStart (ag : Agent) (m : Fin 2) (s : State) : Host.Outcome State Fault Refusal :=
  .next (s.writeBy ag (Reg.SMB_GO + 0x100 * m.val) fun s => s.smbStart m.val)

/-- SMB_DONE (R740). -/
def execSmbDone (m : Fin 2) (result : Fin 6) (count : Fin 64) (data : List Byte) (s : State) : Host.Outcome State Fault Refusal :=
  .next (s.smbDone m.val result.val count.val data)

/-- REF_CLOCK_LOSS (R731). -/
def execRefClockLoss (k : Fin 4) (s : State) : Host.Outcome State Fault Refusal :=
  .next (if s.bit Reg.SERDES_REF_STAT k.val then s.refLost k.val else s)

/-- REF_CLOCK_RETURN (R731). -/
def execRefClockReturn (k : Fin 4) (s : State) : Host.Outcome State Fault Refusal := .next (s.setBit Reg.SERDES_REF_STAT k.val true)

/-- SERDES_CTRL_WRITE (R739). -/
def execSerdesCtrlWrite (ag : Agent) (lane : Fin 68) (v : Word) (s : State) : Host.Outcome State Fault Refusal :=
  .next (s.writeBy ag (Reg.SERDES_CTRL + 0x800 * lane.val) fun s => s.serdesWrite ag lane.val v)

end Sys2Proof.Machine
end

