-- ==== Sys2Proof/Machine/Rings.lean ====
section
/-!
DEFINITION. Hardware rings: the ring window, refill, reset and enable (12_rings.md R527 to R546).
-/
namespace Sys2Proof.Machine

open Sys2Proof

namespace State

/-- One agent's copy of a ring's window (R543). -/
def win (s : State) (ag : Agent) (r : Nat) : RingWin := s.ringWins.get {} (agIdx ag * 64 + r)
def setWin (s : State) (ag : Agent) (r : Nat) (w : RingWin) : State := { s with ringWins := s.ringWins.put {} (agIdx ag * 64 + r) w }

/-- Staging of word i of an entry (R542). -/
def winStage (s : State) (ag : Agent) (r i : Nat) (v : Word) : State :=
  let w := s.win ag r
  let m : Entry := BitVec.ofNat 256 ((2 ^ 32 - 1) * 2 ^ (32 * i))
  s.setWin ag r { w with stage := (w.stage &&& ~~~m) ||| BitVec.ofNat 256 (v.toNat * 2 ^ (32 * i)) }

/-- The entry of the staged words and word 7 is pushed; PUSH_RES tells the outcome (R542). -/
def winPush (s : State) (ag : Agent) (r : Nat) (v : Word) : State :=
  let s := s.winStage ag r 7 v
  let (ok, s) := s.ringPush1 r (s.win ag r).stage
  s.setWin ag r { s.win ag r with res := if ok then 0 else 1 }

/-- The head entry, or the IDLE item, enters the agent's pop latch (R536, R542). -/
def winPop (s : State) (ag : Agent) (r : Nat) : State :=
  let (e, s) := s.ringPop r
  s.setWin ag r { s.win ag r with popped := e }

/-- The window of an agent's ring: an access of an agent that is live. -/
def byWindow (s : State) (ag : Agent) (f : State → State) : State := if s.agentLive ag then f s else s

/-- A read of PEEK_W0 returns this (R542). -/
def ringPeek (s : State) (r : Nat) : Word :=
  let v := s.ring r
  match v.head ++ v.spill ++ v.tail with
  | e :: _ => entryWord e 0
  | [] => BitVec.ofNat 32 (v.popSeq * 65536)

/-- The spill settings of R531 are in order. -/
def spillOk (s : State) (r : Nat) : Bool :=
  let z := s.fld (Reg.RING_SPILL_SIZE + 0x100 * r) 4 0
  let b := s.regAddr (Reg.RING_SPILL_LO + 0x100 * r) / 4096 * 4096
  z == 0 || (decide (4 ≤ z) && decide (z ≤ 20) && inDram b (32 * 2 ^ z))

/-- A write of RINGr_CTRL (R531, R537, R538). -/
def ringCtrlEffect (s : State) (ag : Agent) (r : Nat) (v : Word) : State :=
  let a := Reg.RING_CTRL + 0x100 * r
  let was := s.ringEn r
  let t := s.plainWrite ag a v
  if !was && t.ringEn r && !s.spillOk r then (t.setBit a 0 false).raise Code.RING_CFG_ERR r
  else if was && !t.ringEn r then t.ringFlush r
  else t

/-- A write of a spill register: ignored while EN = 1 (R531). -/
def ringSpillEffect (s : State) (ag : Agent) (r a : Nat) (v : Word) : State :=
  if s.ringEn r then s.raise Code.RING_CFG_ERR r else s.plainWrite ag a v

/-- Setting RESET: every entry is discarded and HWM cleared; ignored while LOCK = 1 (R539). -/
def ringResetEffect (s : State) (r : Nat) : State :=
  if s.bit (Reg.RING_CTRL + 0x100 * r) 31 then s
  else
    let s := s.ringFlush r
    s.setRing r { s.ring r with hwm := 0 }

/-- RINGr_STATUS and RINGr_SEQ as they read (R528, R541). -/
def ringStatus (s : State) (r : Nat) : Word :=
  let v := s.ring r
  BitVec.ofNat 32 (v.count + b2n (v.count == s.ringCap r) * 2 ^ 21 + b2n v.dropping * 2 ^ 22
    + b2n (s.bit (Reg.RING_STATUS + 0x100 * r) 24) * 2 ^ 24)
def ringSeq (s : State) (r : Nat) : Word := BitVec.ofNat 32 ((s.ring r).pushSeq + (s.ring r).popSeq * 65536)

/-- Post the write-backs of a port that wait, oldest first, while there is room (R540). -/
def wbGo (s : State) (p : Nat) : Nat → State
  | 0 => s
  | f + 1 =>
    match (s.mport p).wbWait with
    | [] => s
    | e :: l =>
      if s.ringEn s.txDoneRing && !s.ringRoom s.txDoneRing 1 then s
      else wbGo ((s.setMport p { s.mport p with wbWait := l }).ringUnit s.txDoneRing [e]).2 p f

end State

/-! ### Commands -/

/-- RING_PUSH_STAGE. -/
def execRingPushStage (ag : Agent) (r : RingId) (i : Fin 7) (v : Word) (s : State) : Host.Outcome State Fault Refusal :=
  .next (s.byWindow ag fun s => s.winStage ag r.val i.val v)

/-- RING_WINDOW_PUSH: a write of PUSH_W7. -/
def execRingWindowPush (ag : Agent) (r : RingId) (v : Word) (s : State) : Host.Outcome State Fault Refusal :=
  .next (s.byWindow ag fun s => s.winPush ag r.val v)

/-- RING_WINDOW_POP: a read of POP_W0. -/
def execRingWindowPop (ag : Agent) (r : RingId) (s : State) : Host.Outcome State Fault Refusal :=
  .next (s.byWindow ag fun s => s.winPop ag r.val)

/-- RING_WINDOW_PEEK: the read returns State.ringPeek and changes nothing. -/
def execRingWindowPeek (_ag : Agent) (_r : RingId) (s : State) : Host.Outcome State Fault Refusal := .next s

/-- RING_WINDOW_DROP (R538). -/
def execRingWindowDrop (ag : Agent) (r : RingId) (s : State) : Host.Outcome State Fault Refusal :=
  .next (s.byWindow ag fun s => (s.ringDrop r.val).2)

/-- UNIT_RING_PUSH (R535, R540, R541). -/
def execUnitRingPush (w : UPush) (s : State) : Host.Outcome State Fault Refusal :=
  match w with
  | .writeBack p => .next (s.wbGo p.val (s.mport p.val).wbWait.length)
  | .packet r es full =>
    if s.ringEn r.val && full != 0 && !s.ringRoom r.val es.length then .next s
    else .next (s.ringUnit r.val es).2

/-- RING_REFILL: while the head holds 8 entries or fewer, spilled entries move into it; a lost one is replaced (R532, R533). -/
def execRingRefill (r : RingId) (lost : BitVec 16) (s : State) : Host.Outcome State Fault Refusal :=
  let v := s.ring r.val
  if 8 < v.head.length ∨ v.spill = [] then .next s
  else
    let n := 16 - v.head.length
    let es := (v.spill.take n).zipIdx.map fun x =>
      if lost.getLsbD x.2 then BitVec.ofNat 256 (1 + 2 ^ 10 + bits x.1 31 16 * 2 ^ 16) else x.1
    let bad := (List.range es.length).any fun i => lost.getLsbD i
    let s := s.setRing r.val (({ v with head := v.head ++ es, spill := v.spill.drop n } : RingSt).settle (s.ringSpillSize r.val))
    .next (if bad then s.raise Code.RING_RING_ECC r.val else s)

/-- RING_RESET. -/
def execRingReset (ag : Agent) (r : RingId) (s : State) : Host.Outcome State Fault Refusal :=
  .next (s.writeBy ag (Reg.RING_CMD + 0x100 * r.val) fun s => s.ringResetEffect r.val)

/-- RING_CTRL_WRITE. -/
def execRingCtrlWrite (ag : Agent) (r : RingId) (v : Word) (s : State) : Host.Outcome State Fault Refusal :=
  .next (s.writeBy ag (Reg.RING_CTRL + 0x100 * r.val) fun s => s.ringCtrlEffect ag r.val v)

end Sys2Proof.Machine
end

