-- ==== Sys2Proof/Machine/StrDiag.lean ====
section
/-!
DEFINITION. Engine temperatures, the fault map and the diagnostic map (08_string_channels_diagnostics.md R381, R394 to R400).
-/
namespace Sys2Proof.Machine

open Sys2Proof

namespace State

abbrev dgReg (a p : Nat) : Nat := a + 0x80 * p
def diag (s : State) (p : Nat) : DiagSt := s.diags.get {} p
def updDiag (s : State) (p : Nat) (f : DiagSt → DiagSt) : State := { s with diags := s.diags.put {} p (f (s.diag p)) }

/-- Sub-emitters of a port by its active geometry. -/
def subEmitters (s : State) (p : Nat) : Nat := (s.active p).w * (s.active p).h * (s.active p).ch

/-! ### Engine temperatures (R286, R380 to R382) -/

def trReceive (s : State) (p : Nat) (ts : List (BitVec 16)) : State :=
  let s := (List.range 8).foldl (fun s i =>
    s.setReg (pReg Reg.PLATE_ENG_TEMP p + 4 * i) ((ts.getD (2 * i + 1) 0) ++ (ts.getD (2 * i) 0))) s
  let m := (ts.drop 1).foldl (fun m t => max m t.toInt) ((ts.headD 0).toInt)
  let s := s.setReg (dgReg Reg.STRDIAG_TEMP p) (BitVec.ofNat 32 (unsigned 16 m + 2 ^ 16))
  let s := s.updDiag p fun d => { d with trAt := some s.mono }
  s.strSamples (fun n => s.fld (strReg Reg.STR_CFG n) 9 6 == 8 && s.strBound n == some p) m

/-! ### Map entries (R396, R398) -/

def entRep (e : Nat) : Nat := e % 16
def entState (e : Nat) : Nat := e / 16 % 8
def entNm (e : Nat) : Nat := e / 256 % 256
def entMake (rep st nm : Nat) : Nat := rep + st * 16 + nm * 256

/-- The entry after a report (R398). -/
def entReport (e rep np pp : Nat) : Nat :=
  match rep with
  | 0 => entMake 0 1 0
  | 2 => entMake 2 3 0
  | 3 => entMake 3 4 0
  | 4 => entMake 4 5 0
  | 5 => entMake 5 6 0
  | r =>
    let nm := entNm e
    if nm + 1 < np then entMake r (entState e) (nm + 1)
    else entMake r 2 (if nm < np ∧ nm + 1 ≤ np then nm + 1 else np + (nm + 1 - np) % pp)

/-- NP and PP in force; 0 before the first pass end acts as 1 (R397). -/
def npOf (s : State) (p : Nat) : Nat := max 1 (s.fld (dgReg Reg.STRDIAG_PASS p) 23 16)
def ppOf (s : State) (p : Nat) : Nat := max 1 (s.fld (dgReg Reg.STRDIAG_PASS p) 31 24)

/-! ### Stuck-on pixels (R352, R353, R400) -/

/-- The list of a port, with its count. -/
def setStuck (s : State) (p : Nat) (l : List (Nat × Nat)) : State :=
  ({ s with stuckOn := s.stuckOn.put [] p l } : State).setFld (pReg Reg.OCC_STUCK p) 8 0 l.length

/-- A pixel enters the list, or overflows it. -/
def stuckAdd (s : State) (p : Nat) (q : Nat × Nat) : State :=
  let l := s.stuckOn.get [] p
  if l.contains q then s
  else if l.length < 256 then s.setStuck p (l ++ [q])
  else if s.bit (pReg Reg.OCC_STUCK p) 9 then s
  else (s.setBit (pReg Reg.OCC_STUCK p) 9 true).raise Code.OCC_STUCK_OVF p

/-- Some sub-emitter of the pixel last reported STUCK. -/
def pixStuck (s : State) (p : Nat) (q : Nat × Nat) : Bool :=
  let r := s.active p
  (List.range r.ch).any fun c => entRep (s.memNat (s.diagAt p ((q.2 * r.w + q.1) * r.ch + c)) 2) == 5

/-- STUCK_CLR: pixels that no longer report STUCK leave the list; OVF clears once no pixel of the map that last reported STUCK is
left unlisted (R400). -/
def stuckClear (s : State) (p : Nat) : State :=
  let r := s.active p
  let l := (s.stuckOn.get [] p).filter (s.pixStuck p)
  let s := s.setStuck p l
  let more := (List.range r.h).any fun y => (List.range r.w).any fun x => s.pixStuck p (x, y) && !l.contains (x, y)
  if more then s else s.setBit (pReg Reg.OCC_STUCK p) 9 false

/-! ### Chunks (R394, R395, R397, R399) -/

/-- One report reaches its map entry. -/
def report (s : State) (p m code : Nat) : State :=
  let d := s.diag p
  let rep := if 6 ≤ code then 0xF else code
  let s := if 6 ≤ code ∧ code < 0xF ∧ d.badRaised = false then
      (s.updDiag p fun d => { d with badRaised := true }).raise Code.STRING_FM_ERROR p else s
  if !s.bit (dgReg Reg.STRDIAG_CTRL p) 0 then s
  else
    let a := s.diagAt p m
    let e := s.memNat a 2
    let e' := entReport e rep (s.npOf p) (s.ppOf p)
    let s := s.store 0x3FFF a (leBytes 2 e')
    let st := entState e'
    let s := if st ≠ entState e ∧ (st = 2 ∨ 4 ≤ st) ∧ !(s.diag p).first.any (fun x => x.1 == st) then
        s.updDiag p fun d => { d with first := d.first ++ [(st, m)] } else s
    let r := s.active p
    if rep = 5 then s.stuckAdd p (m / r.ch % r.w, m / r.ch / r.w) else s

/-- The bytes of a chunk from an offset of the pass. -/
def reports (s : State) (p : Nat) : Nat → List Byte → State
  | _, [] => s
  | o, b :: l =>
    let n := s.subEmitters p
    let s := if 2 * o < n then s.report p (2 * o) (b.toNat % 16) else s
    let s := if 2 * o + 1 < n then s.report p (2 * o + 1) (b.toNat / 16) else s
    reports s p (o + 1) l

/-- A count of the map at a pass end, with its fault when it has risen (R399). -/
def passCount (s : State) (p st a code : Nat) : State :=
  let n := ((List.range (s.subEmitters p)).filter fun m => entState (s.memNat (s.diagAt p m) 2) == st).length
  let was := (s.reg (dgReg a p)).toNat
  let s := s.setReg (dgReg a p) (BitVec.ofNat 32 n)
  let m := match (s.diag p).first.find? fun x => x.1 == st with
    | some x => x.2
    | none => 0
  if was < n then s.raise code p [BitVec.ofNat 32 m] else s

/-- The end of a pass: its time, NP, PP and the counts (R397, R399). -/
def passEnd (s : State) (p seq : Nat) : State :=
  let t := s.mono - (s.diag p).passAt
  let lim (top ns : Nat) : Nat := if t = 0 then top else min top (max 1 (ceilDiv ns t))
  let np := lim 128 s.probeAfter
  let pp := lim 127 s.probePeriod
  let s := (s.setReg (dgReg Reg.STRDIAG_PASS p) (BitVec.ofNat 32 (seq + np * 2 ^ 16 + pp * 2 ^ 24))).setReg (dgReg Reg.STRDIAG_PASS_US p)
    (BitVec.ofNat 32 (t / 1000))
  if !s.bit (dgReg Reg.STRDIAG_CTRL p) 0 then s
  else
    let s := s.passCount p 4 Reg.STRDIAG_OPEN_CNT Code.STRING_PIX_OPEN
    let s := s.passCount p 5 Reg.STRDIAG_SHORT_CNT Code.STRING_PIX_SHORT
    let s := s.passCount p 6 Reg.STRDIAG_STUCK_CNT Code.STRING_PIX_STUCK
    s.passCount p 2 Reg.STRDIAG_UNVER_CNT Code.STRING_PIX_UNVERIFIED

/-- The chunk leaves a gap: counted and discarded, and the pass restarts (R395). -/
def fmGap (s : State) (p : Nat) : State :=
  let s := (s.inc (dgReg Reg.STRDIAG_FMERR_CNT p)).raise Code.STRING_FM_ERROR p
  (s.updDiag p fun d => { d with next := none }).sqOnly p 5

/-- FM_FMT and FM_BYTES of the engine's last IDENT (R286). -/
def fmIdent (s : State) (p : Nat) : Nat × Nat :=
  match (s.port p).ident with
  | some d => (bits (d.getD 3 0) 15 8, bits (d.getD 3 0) 47 16)
  | none => (0, 0)

def fmChunk (s : State) (p seq offset : Nat) (data : List Byte) : State :=
  let (fmt, total) := s.fmIdent p
  if fmt ≠ 1 then
    let s := s.inc (dgReg Reg.STRDIAG_FMERR_CNT p)
    if (s.diag p).fmtRaised then s else (s.updDiag p fun d => { d with fmtRaised := true }).raise Code.STRING_FM_ERROR p
  else
    let d := s.diag p
    let start := offset == 0 && (match d.seq with
      | none => true
      | some q => seq == (q + 1) % 65536)
    let cont := d.next == some offset && d.seq == some seq && offset != 0
    let s := s.updDiag p fun d => { d with seq := some seq }
    if s.bit (dgReg Reg.STRDIAG_CMD p) 0 || !(start || cont) then s.fmGap p
    else
      let s := if start then s.updDiag p fun d => { d with passAt := s.mono, badRaised := false, first := [] } else s
      let s := s.reports p offset data
      let fin := offset + data.length
      if total ≤ fin then (s.updDiag p fun d => { d with next := none }).passEnd p seq
      else s.updDiag p fun d => { d with next := some fin }

/-! ### Register writes (R396) -/

/-- The map of a port fits in plate memory. -/
def mapFits (s : State) (p : Nat) : Bool :=
  s.diagAt p 0 % 64 == 0 && inPlate (s.diagAt p 0) (2 * s.subEmitters p)

/-- A write of STRDIAGp_CTRL: a map that does not fit is refused at EN. -/
def diagCtrlEffect (s : State) (ag : Agent) (p : Nat) (v : Word) : State :=
  if wfld v 0 0 = 1 ∧ s.bit (dgReg Reg.STRDIAG_CTRL p) 0 = false ∧ s.mapFits p = false then s.raise Code.STRING_CFG_ERR p
  else s.plainWrite ag (dgReg Reg.STRDIAG_CTRL p) v

/-- INIT has set every entry to PENDING. -/
def diagInitDone (s : State) (p : Nat) : State :=
  let n := s.subEmitters p
  let s := if s.mapFits p then s.store 0x3FFF (s.diagAt p 0) (List.replicate (2 * n) 0) else s
  s.setBit (dgReg Reg.STRDIAG_CMD p) 0 false

end State

/-! ### The commands -/

/-- FM_CHUNK: a chunk of the fault map (R395). -/
def execFmChunk (p : PortId) (good : Bool) (mapseq : BitVec 16) (offset : Word) (data : List Byte) (s : State) : Host.Outcome State Fault Refusal :=
  .next (s.upPacket p.val good fun s => s.fmChunk p.val mapseq.toNat offset.toNat data)

/-- TR_RECEIVED: the sensors of a TR (R286, R381). -/
def execTrReceived (p : PortId) (good : Bool) (temps : List (BitVec 16)) (s : State) : Host.Outcome State Fault Refusal :=
  .next (s.upPacket p.val good fun s => s.trReceive p.val temps)

/-- ENG_TEMP_LOST: no TR for 100 ms (R381). -/
def execEngTempLost (p : PortId) (s : State) : Host.Outcome State Fault Refusal :=
  match (s.diag p.val).trAt with
  | some t =>
    if t + 100000000 ≤ s.mono ∧ s.bit (State.dgReg Reg.STRDIAG_TEMP p.val) 16 = true then
      .next ((s.setBit (State.dgReg Reg.STRDIAG_TEMP p.val) 16 false).raise Code.STRING_ENG_TEMP_LOST p.val)
    else .next s
  | none => .next s

/-- STRDIAG_INIT: setting INIT (R396). -/
def execStrdiagInit (ag : Agent) (p : PortId) (s : State) : Host.Outcome State Fault Refusal :=
  .next (s.writeBy ag (State.dgReg Reg.STRDIAG_CMD p.val) fun s => s.setBit (State.dgReg Reg.STRDIAG_CMD p.val) 0 true)

/-- STRDIAG_INIT_DONE (R396). -/
def execStrdiagInitDone (p : PortId) (s : State) : Host.Outcome State Fault Refusal :=
  if s.bit (State.dgReg Reg.STRDIAG_CMD p.val) 0 then .next (s.diagInitDone p.val) else .next s

/-- STUCK_CLR: setting STUCK_CLR (R400). -/
def execStuckClr (ag : Agent) (p : PortId) (s : State) : Host.Outcome State Fault Refusal :=
  .next (s.writeBy ag (State.dgReg Reg.STRDIAG_CMD p.val) fun s => s.stuckClear p.val)

end Sys2Proof.Machine
end

