-- ==== Sys2Proof/Machine/Telemetry.lean ====
section
/-!
DEFINITION. Telemetry snapshots (18_faults_telemetry.md R705 to R709; 20_register_index.md R746).
-/
namespace Sys2Proof.Machine

open Sys2Proof

/-- The counter registers in ascending address order: stride and number of copies, and the offsets of the first copy (R705, R746). -/
def telemGroups : List (Nat × Nat × List Nat) :=
  [(0x0, 1, [0x70, 0x74]),
   (0x0, 1, [0x10088, 0x1043C, 0x10848, 0x1084C]),
   (0x0, 1, [0x20040, 0x20044, 0x20048, 0x2004C, 0x20050]),
   (0x0, 1, [0x30050, 0x30054, 0x30058]),
   (0x0, 1, [0x4004C, 0x40060, 0x40064, 0x40068, 0x4006C, 0x40070, 0x40100, 0x40104, 0x40110, 0x40114, 0x40120, 0x40124, 0x40130, 0x40134, 0x40140, 0x40144, 0x40150, 0x40154, 0x40214, 0x40218, 0x4021C, 0x40288]),
   (0x0, 1, [0x50020, 0x50024]),
   (0x0, 1, [0x60080, 0x60084, 0x60088, 0x6008C, 0x60090, 0x60094]),
   (0x0, 1, [0x70040, 0x70044, 0x70048, 0x7004C, 0x70050, 0x70054, 0x70058, 0x7005C, 0x70060]),
   (0x100, 64, [0x80020, 0x80024, 0x80028, 0x8002C, 0x80030]),
   (0x1000, 16, [0x100020, 0x100024, 0x100028, 0x10002C, 0x100030]),
   (0x0, 1, [0x110004]),
   (0x4000, 4, [0x200060, 0x200070, 0x200074, 0x200078, 0x20007C, 0x200080, 0x2002A0, 0x2002A4, 0x2002A8, 0x2002AC, 0x2002B0, 0x2002B4, 0x2002B8, 0x2002BC, 0x2002C0, 0x2002C4, 0x2002C8, 0x2002CC]),
   (0x0, 1, [0x210040]),
   (0x4000, 4, [0x300040, 0x300044, 0x300048, 0x30004C, 0x300050, 0x300054, 0x300058]),
   (0x0, 1, [0x310014, 0x310018, 0x31001C]),
   (0x40, 32, [0x400034, 0x400038, 0x40003C]),
   (0x80, 4, [0x400C20, 0x400C24, 0x400C28, 0x400C2C, 0x400C30, 0x400C34]),
   (0x1000, 16, [0x500020, 0x500024, 0x500028, 0x50002C, 0x500030, 0x500034]),
   (0x0, 1, [0x5100A0, 0x5100A4, 0x5100A8, 0x5100AC, 0x5100B0, 0x5100B4, 0x5100B8, 0x5100BC]),
   (0x1000, 32, [0x600080, 0x600084, 0x600088, 0x60008C, 0x600090, 0x600094, 0x600098, 0x60009C, 0x6000A0, 0x6000A4, 0x6000A8, 0x6000AC]),
   (0x0, 1, [0x640040, 0x640044, 0x640048, 0x64004C]),
   (0x1000, 4, [0x680080, 0x680084, 0x680088, 0x68008C, 0x680090, 0x680094, 0x680098, 0x68009C, 0x6800A0, 0x6800A4, 0x6800A8, 0x6800AC]),
   (0x800, 4, [0x688020, 0x688024, 0x688028, 0x6880A0, 0x6880A4, 0x6880A8, 0x688120, 0x688124, 0x688128, 0x6881A0, 0x6881A4, 0x6881A8, 0x688220, 0x688224, 0x688228, 0x6882A0, 0x6882A4, 0x6882A8, 0x688320, 0x688324, 0x688328, 0x6883A0, 0x6883A4, 0x6883A8, 0x688420, 0x688424, 0x688428, 0x6884A0, 0x6884A4, 0x6884A8, 0x688520, 0x688524, 0x688528, 0x6885A0, 0x6885A4, 0x6885A8, 0x688620, 0x688624, 0x688628, 0x6886A0, 0x6886A4, 0x6886A8, 0x688720, 0x688724, 0x688728, 0x6887A0, 0x6887A4, 0x6887A8]),
   (0x0, 1, [0x6C0080, 0x6C0084, 0x6C0088, 0x6C008C, 0x6C0090, 0x6C0094, 0x6C0098, 0x6C009C, 0x6C00A0, 0x6C00A4, 0x6C00A8, 0x6C00AC]),
   (0x400, 16, [0x700040, 0x700044, 0x700048, 0x70004C, 0x700050, 0x700054, 0x700058, 0x70005C]),
   (0x0, 1, [0x704020, 0x704024, 0x704028, 0x70402C, 0x704030]),
   (0x0, 1, [0x740040, 0x740044, 0x740048]),
   (0x800, 68, [0x80000C]),
   (0x0, 1, [0x900070, 0x900074, 0x900078, 0x90007C, 0x900080])]

def telemOffs : List Nat :=
  telemGroups.flatMap fun g => (List.range g.2.1).flatMap fun k => g.2.2.map fun o => o + g.1 * k

namespace State

/-- The counters at the strobe: those of the register index, and free words up to NCOUNT (R705, log entry 2). -/
def telemCounts (s : State) : List Word :=
  let l := telemOffs.map s.reg
  l ++ (List.range (2416 - l.length)).map fun i => (Config.freeValue (s.freeCtr + i)).setWidth 32

/-- The image of R707 for snapshot q. -/
def telemImage (s : State) (id : Word) (q : Nat) (action : Bool) : List Word :=
  let w (n : Nat) : Word := BitVec.ofNat 32 n
  let m : DWord := BitVec.ofNat 64 s.mono
  [0x4E534C54#32, id, w q, w 2416, s.phase.extractLsb' 0 32, s.phase.extractLsb' 32 32, m.extractLsb' 0 32, m.extractLsb' 32 32,
    w s.ptp.ns, w s.ptp.sec, w (s.ptp.sec / 2 ^ 32 % 65536 + s.ptpSub * 65536), w (b2n action), 0, 0, 0, 0] ++ s.telemCounts

/-- A SNAP_DONE entry for a bank (R708). -/
def snapDone (s : State) (bank : Nat) (copied : Bool) : State :=
  if !s.bit Reg.TELEM_CTRL 1 then s
  else
    let b := s.flt.banks.get [] bank
    let w (i : Nat) : Word := b.getD i 0
    (s.ringUnit s.telemRing [entryOne 0x18 [w 1, w 2, BitVec.ofNat 32 (bank + b2n copied * 2), w 4, w 5, w 6, w 7]]).2

/-- A snapshot strobe (R706 to R708). -/
def snapStrobe (s : State) (id : Word) (action : Bool) : State :=
  let q := (s.reg Reg.TELEM_SNAP_CNT + 1).toNat
  let b := q % 2
  if s.flt.copying.contains b then (s.inc Reg.TELEM_SKIP_CNT).raiseSec Code.SYS_TELEM_SKIP 0
  else
    let img := s.telemImage id q action
    let s : State := { s with
      freeCtr := s.freeCtr + (2416 - telemOffs.length)
      flt := { s.flt with banks := s.flt.banks.put [] b img } }
    let s := (s.setReg Reg.TELEM_SNAP_CNT (BitVec.ofNat 32 q)).setBit Reg.TELEM_STATUS 0 (b == 1)
    if s.bit Reg.TELEM_CTRL 0 then
      { s with flt := { s.flt with copying := s.flt.copying ++ [b] } }.setBit Reg.TELEM_STATUS 1 true
    else s.snapDone b false

/-- The oldest copy-out is complete in memory (R708). -/
def copyDone (s : State) : State :=
  match s.flt.copying with
  | [] => s
  | b :: r =>
    let a := s.regAddr Reg.TELEM_DEST_LO + b * 0x4000
    let bytes := (s.flt.banks.get [] b).flatMap fun w => leBytes 4 w.toNat
    let s := if inDram a bytes.length then s.store 0x3FFF a bytes else s
    let s : State := { s with flt := { s.flt with copying := r } }
    (s.setBit Reg.TELEM_STATUS 1 (!r.isEmpty)).snapDone b true

/-- Word of the window at a byte offset, of the bank the agent has selected (R709). -/
def telemWin (s : State) (ag o : Nat) : Word := (s.flt.banks.get [] (s.afld ag Reg.TELEM_RSEL 0 0)).getD (o / 4) 0

end State

/-- TELEM_SNAP: the first issued TELEM_SNAP action (R706). -/
def execTelemSnap (s : State) : Host.Outcome State Fault Refusal :=
  .next (match s.takeIssued 7 with
    | none => s
    | some (a, s) => s.snapStrobe a.a0 true)

/-- TELEM_CMD_SNAP: setting TELEM_CMD.SNAP (R706). -/
def execTelemCmdSnap (ag : Agent) (s : State) : Host.Outcome State Fault Refusal :=
  .next (s.writeBy ag Reg.TELEM_CMD fun s => s.snapStrobe (s.reg Reg.TELEM_SNAP_ID) false)

/-- TELEM_COPY_DONE (R708). -/
def execTelemCopyDone (s : State) : Host.Outcome State Fault Refusal := .next s.copyDone

end Sys2Proof.Machine
end

