-- ==== Sys2Proof/Machine/Bus.lean ====
section
/-!
DEFINITION. The control register region: what every register reads as, what a write to it does, and 64-bit pairs
(00_scope.md R8 to R17; 01_architecture.md R34 to R37; the register tables of the chapters).
-/
namespace Sys2Proof.Machine

open Sys2Proof

namespace State

/-! ### Reads -/

/-- TILEt_Cc_STATE (R123). -/
def tileCState (s : State) (c : Nat) : Word :=
  let k := s.core c
  let st : Nat := match k.run with
    | .idle => 0
    | .run => 1
    | .wait => 2
    | .held => 3
    | .off => 4
  BitVec.ofNat 32 (st + b2n k.pend.isSome * 8 + k.pins.length * 256)

/-- SUPn_STATE. -/
def supState (s : State) (n : Nat) : Word :=
  let k := s.core (256 + n)
  let st : Nat := match k.run with
    | .run => 1
    | .wait => 2
    | _ => 0
  BitVec.ofNat 32 (st + min k.edepth 3 * 4)

/-- Half of a 64-bit value. -/
def half (v : DWord) (hi : Bool) : Word := if hi then v.extractLsb' 32 32 else v.extractLsb' 0 32

/-- A register of block TILE at an offset from its base. -/
def tileNow (s : State) (o : Nat) : Option Word :=
  if o < 0x10000 then
    let x := o % 0x1000
    if x < 0x100 ∨ 0x300 ≤ x then none
    else
      let c := o / 0x1000 * 16 + (x - 0x100) / 0x20
      let kd : DWord := match (s.core c).kernel with
        | some k => k.kdesc
        | none => 0
      match x % 0x20 with
      | 0x0 => some (s.tileCState c)
      | 0x4 => some (half (s.core c).pc false)
      | 0x8 => some (half (s.core c).pc true)
      | 0xC => some (half kd false)
      | 0x10 => some (half kd true)
      | _ => none
  else if 0x10100 ≤ o ∧ o < 0x10500 ∧ o % 0x100 = 4 then some (s.supState ((o - 0x10100) / 0x100))
  else none

/-- A register of block CLK (R46, R49, R70, R81). -/
def clkNow (s : State) (ag a : Nat) : Option Word :=
  let latched (v : Nat) : Word := (s.latch.get none (ag * 2 ^ 24 + a)).getD (BitVec.ofNat 32 v)
  let inc : DWord := BitVec.ofInt 64 s.sidInc
  if a = Reg.SID_PHASE_LO then some (half s.phase false)
  else if a = Reg.SID_PHASE_HI then some (half s.phase true)
  else if a = Reg.SID_INC_LO then some (half inc false)
  else if a = Reg.SID_INC_HI then some (half inc true)
  else if a = Reg.SID_RATE_ERR then some (BitVec.ofInt 32 (if s.sidState = 0 then 0 else roundDiv ((s.sidInc - s.incNom) * 1000000000) s.incNom))
  else if a = Reg.PTP_TIME_NS then some (BitVec.ofNat 32 s.ptp.ns)
  else if a = Reg.PTP_TIME_SUBNS then some (latched s.ptpSub)
  else if a = Reg.PTP_TIME_SEC_LO then some (latched s.ptp.sec)
  else if a = Reg.PTP_TIME_SEC_HI then some (latched (s.ptp.sec / 2 ^ 32))
  else if a = Reg.MONO_LO then some (half (BitVec.ofNat 64 s.mono) false)
  else if a = Reg.MONO_HI then some (half (BitVec.ofNat 64 s.mono) true)
  else if a = Reg.MAINS_PHASE then some (BitVec.ofNat 32 s.mainsPhase)
  else if a = Reg.EPH_STATUS then some (BitVec.ofNat 32 (s.eph.length + b2n (decide (4096 ≤ s.eph.length)) * 65536))
  else if a = Reg.EPH_NEXT_LO then some (half s.ephNext false)
  else if a = Reg.EPH_NEXT_HI then some (half s.ephNext true)
  else if Reg.EPH_POST ≤ a ∧ a < Reg.EPH_POST + 32 then some 0
  else none

/-- A CAL register of the target an agent has selected (R36, R642 to R645). -/
def calNow (s : State) (ag a : Nat) : Option Word :=
  let id := s.afld ag Reg.CAL_SEL 15 0
  let last := s.cal.last.get 0 id
  if a = Reg.CAL_TSTAT then some (BitVec.ofNat 32 (if s.cal.running = some id then s.cal.tstat.get 0 id / 16 * 16 + 4 else s.cal.tstat.get 0 id))
  else if a = Reg.CAL_COUNT then some (s.cal.count.get 0 id)
  else if a = Reg.CAL_LAST_LO then some (last.extractLsb' 0 32)
  else if a = Reg.CAL_LAST_HI then some (BitVec.ofNat 32 (last.toNat / 2 ^ 32))
  else if a = Reg.CAL_FACTORY then some (s.calFactory id)
  else if a = Reg.CAL_USER then some ((s.cal.user.get none id).getD 0)
  else if a = Reg.CAL_COMP then some (BitVec.ofInt 32 (s.cal.comp.get 0 id))
  else if a = Reg.CAL_VALUE then some (BitVec.ofInt 32 (s.calEffective id))
  else if a = Reg.CAL_SELECT then
    some (if 0x100 ≤ id ∧ id < 0x144 then s.reg (Reg.SERDES_TERM + 0x800 * (id - 0x100)) else BitVec.ofNat 32 (s.cal.sel.get 0 id))
  else none

/-- A register of a plate port, or of the buffer an agent has selected (R222, R236, R294). -/
def plateNow (s : State) (ag a : Nat) : Option Word :=
  let o := a - Reg.PLATE_CTRL
  if o < 0x10000 then
    let p := o / 0x4000
    match o % 0x4000 with
    | 0x204 => some ((wset (s.reg a) 5 5 (b2n (decide (3 ≤ s.fld a 3 0) && s.portGate p))))
    | _ => none
  else
    let b := s.buf (s.afld ag Reg.PLATE_BUF_SEL 11 0)
    let base : DWord := if b.valid then BitVec.ofNat 64 b.base else s.areg64 ag Reg.PLATE_BUF_BASE_LO
    if a = Reg.PLATE_BUF_BASE_LO then some (half base false)
    else if a = Reg.PLATE_BUF_BASE_HI then some (half base true)
    else if a = Reg.PLATE_BUF_CFG then some (wset (s.areg ag a) 4 4 (b2n b.valid))
    else if Reg.PLATE_BUF_S_STAT ≤ a ∧ a < Reg.PLATE_BUF_S_STAT + 32 then
      let x := s.bufStat ag ((a - Reg.PLATE_BUF_S_STAT) / 8)
      some (if (a - Reg.PLATE_BUF_S_STAT) % 8 = 0 then x.1 else x.2)
    else none

/-- A register of a ring (R528, R541). -/
def ringNow (s : State) (o : Nat) : Option Word :=
  if 0x4000 ≤ o then none
  else match o % 0x100 with
    | 0x4 => some (s.ringStatus (o / 0x100))
    | 0x14 => some (s.ringSeq (o / 0x100))
    | 0x1C => some (BitVec.ofNat 32 (s.ring (o / 0x100)).hwm)
    | _ => none

/-- Registers whose value is made at the read; none for one that the register itself holds. -/
def madeNow (s : State) (ag a : Nat) : Option Word :=
  if a < 0x10000 then
    if a = Reg.SYS_GPIO_IN then
      let oe := s.reg Reg.SYS_GPIO_OE
      some (((s.reg Reg.SYS_GPIO_OUT &&& oe) ||| (s.free 32 &&& ~~~oe)) &&& 0xFFFF#32)
    else none
  else if a < 0x20000 then s.clkNow ag a
  else if a < 0x30000 then none
  else if a < 0x40000 then s.calNow ag a
  else if a = Reg.SCRUB_DRAM_POS then some (BitVec.ofNat 32 (s.scrubPos true))
  else if a = Reg.SCRUB_SRAM_POS then some (BitVec.ofNat 32 (s.scrubPos false))
  else if 0x60000 ≤ a ∧ a < 0x62600 ∧ (regRow a).isNone then some (s.telemWin ag (a - 0x60000))
  else if a = Reg.TWIN_STATUS then
    some (wset (wset (s.reg a) 6 6 (b2n (decide (s.mono ≤ s.twin.hbAt + s.fld Reg.TWIN_HB 9 0 * 1000) && s.twin.hbAt != 0)))
      7 7 (b2n s.twinLinkUp))
  else if a = Reg.TWIN_PEER_NODE then some (BitVec.ofNat 32 s.peerNode)
  else if 0x80000 ≤ a ∧ a < 0x100000 then s.ringNow (a - 0x80000)
  else if 0x100000 ≤ a ∧ a < 0x200000 then s.tileNow (a - 0x100000)
  else if 0x200000 ≤ a ∧ a < 0x300000 then s.plateNow ag a
  else if a = Reg.OCC_RGN_STAT then some (s.rgnStat ag)
  else if a = Reg.TRANSIT_TGT_STAT then some (s.tgtStat ag)
  else if a = Reg.TRANSIT_PHASE_STAT then some s.phaseStat
  else if a = Reg.MAC_SACN_SEQ then some (BitVec.ofNat 32 (s.mac.seqTab.get 0 (s.afld ag Reg.MAC_SACN_SEQ_SEL 11 0)))
  else if 0x800000 ≤ a ∧ a < 0x822000 ∧ a % 0x800 = 4 then some (wset (s.reg a) 0 0 (b2n (s.lanePll ((a - 0x800000) / 0x800))))
  else if inOtp a then some (s.otpRead (a - 0xA00000))
  else none

/-- What the register at an offset reads as now for an agent, without the latch of a pair (R9, R14, R36). -/
def regNow (s : State) (ag a : Nat) : Word :=
  match s.madeNow ag a with
  | some v => v
  | none => match regRow a with
    | none => 0
    | some r => if r.priv then s.areg ag a else s.reg a

/-- The number of the word of a pair that offset `a` is: 1 low, 2 high, 0 none (R12). -/
def pairOf (a : Nat) : Nat := match regRow a with
  | some r => r.pair
  | none => 0

/-- A read of the low word latches the high word (R12). -/
def pairLowRead (s : State) (ag a : Nat) : State :=
  { s with latch := s.latch.put none (ag * 2 ^ 24 + a + 4) (some (s.regNow ag (a + 4))) }

/-- A read of a register by an agent: its value, and the state with what the read latches or clears (R12, R70). -/
def regRead (s : State) (ag a : Nat) : Word × State :=
  let v := s.regNow ag a
  if a = Reg.PTP_TIME_NS then (v, s.ptpLatch ag)
  else if a = Reg.SYS_GPIO_IN then (v, s.drawn)
  else match pairOf a with
    | 1 => (v, s.pairLowRead ag a)
    | 2 => ((s.latch.get none (ag * 2 ^ 24 + a)).getD v, { s with latch := s.latch.put none (ag * 2 ^ 24 + a) none })
    | _ => (v, s)

/-! ### Writes -/

/-- The action of a bit that is written 1. -/
def onBit (s : State) (v : Word) (i : Nat) (f : State → State) : State := if v.getLsbD i then f s else s

/-- A write of SYS_RESET (R670). -/
def resetWrite (s : State) (v : Word) : State :=
  if wfld v 15 0 ≠ 0xA5C3 then s.raise Code.SYS_CFG_ERR 0
  else if wfld v 17 17 = 1 then s.coldReset 3 false
  else if wfld v 16 16 = 1 then s.warmReset 4 []
  else s

/-- Block SYS (R654, R657, R666, R669, R670, R676). -/
def wSys (s : State) (ag : Agent) (a : Nat) (v : Word) : State :=
  if a = Reg.SYS_MODE_REQ then (s.requestMode (wfld v 3 0)).2
  else if a = Reg.SYS_CMD then
    ((s.onBit v 0 (fun s => if s.mode = 1 then s.bootDone else s)).onBit v 1 (fun s => s.setBit Reg.SYS_MODE 10 false)).onBit v 2 (fun s => s.fsLoad)
  else if a = Reg.SYS_RESET then s.resetWrite v
  else if a = Reg.SYS_WDOG then
    let was := s.bit a 16
    let s := s.plainWrite ag a v
    if !was && s.bit a 16 then s.updSys fun x => { x with wdogAt := s.mono } else s
  else if a = Reg.SYS_WDOG_KICK then s.updSys fun x => { x with wdogAt := s.mono }
  else s.plainWrite ag a v

/-- Block CLK (R51, R54, R63, R69, R74, R82, R89, R90). -/
def wClk (s : State) (ag : Agent) (a : Nat) (v : Word) : State :=
  let i := agIdx ag
  if a = Reg.SID_CTRL then s.sidCtrlEffect v
  else if a = Reg.SID_CMD then (s.onBit v 0 (fun s => s.sidJamEffect)).onBit v 1 (fun s => s.sidApplyEffect)
  else if a = Reg.PTP_CTRL then s.ptpCtrlEffect v
  else if a = Reg.PTP_ADJ then s.ptpAdjEffect v
  else if a = Reg.PTP_CMD then (s.onBit v 0 (fun s => s.ptpSetEffect)).onBit v 1 (fun s => s.ptpStepEffect)
  else if a = Reg.MAINS_CTRL then s.mainsCtrlWrite ag v
  else if a = Reg.EPH_CTRL then (s.plainWrite ag a (v &&& 0x3F#32)).onBit v 8 (fun s => s.ephClearEffect)
  else if a = Reg.EPH_POST + 28 then s.ephPostEffect i v
  else if Reg.EPH_POST ≤ a ∧ a < Reg.EPH_POST + 28 then s.setAreg i a v
  else if a = Reg.EPH_CANCEL then s.ephCancelEffect i v
  else s.plainWrite ag a v

/-- Blocks THERM, CAL, FAULT and TELEM (R634, R638, R645, R691, R695, R702, R704, R706). -/
def wLow (s : State) (ag : Agent) (a : Nat) (v : Word) : State :=
  if Reg.THERM_LIM0 ≤ a ∧ a ≤ Reg.THERM_LIM3 then s.limWrite ((a - Reg.THERM_LIM0) / 4) v
  else if a = Reg.THERM_CMD then
    (s.onBit v 0 (fun s => s.sensorClear)).onBit v 1 (fun s => s.setFld Reg.THERM_PEAK 15 0 (s.fld Reg.THERM_TMAX 15 0))
  else if a = Reg.CAL_CMD then
    (s.onBit v 0 (fun s => s.calRunTarget (s.afld (agIdx ag) Reg.CAL_SEL 15 0))).onBit v 1 (fun s => s.calQueue (0xA0 :: selectTargets))
  else if a = Reg.FAULT_CTRL then
    if wfld v 1 0 = 3 ∧ s.bit a 31 = false then (s.plainWrite ag a (wset v 1 0 (s.fld a 1 0))).raise Code.SYS_CFG_ERR 0
    else s.plainWrite ag a v
  else if a = Reg.FAULT_CMD then (s.onBit v 0 (fun s => s.faultRelease)).onBit v 1 (fun s => s.safeClear)
  else if a = Reg.SCRUB_CTRL then (s.plainWrite ag a v).scrubStart (s.reg a)
  else if a = Reg.BG_CTRL ∧ (wfld v 7 0 = 0 ∨ 10 < wfld v 7 0) then
    (s.plainWrite ag a (wset v 7 0 (s.fld a 7 0))).raise Code.SYS_CFG_ERR 0
  else if a = Reg.TELEM_CMD then s.onBit v 0 (fun s => s.snapStrobe (s.reg Reg.TELEM_SNAP_ID) false)
  else s.plainWrite ag a v

/-- Block ALM (R603, R610, R618, R625). -/
def wAlm (s : State) (ag : Agent) (a : Nat) (v : Word) : State :=
  let on := s.bit Reg.ALM_CTRL 0
  if a = Reg.ALM_CTRL then
    if wfld v 0 0 = 1 ∧ on = false then
      let s := s.setFld a 2 1 (wfld v 2 1)
      if s.almGeomOk then (s.setBit a 0 true).almScan [] [] else s.raise Code.ALM_CFG_ERR 0
    else if wfld v 0 0 = 0 ∧ on = true then s.almOff.plainWrite ag a v
    else s.plainWrite ag a v
  else if Reg.ALM_GEOM ≤ a ∧ a ≤ Reg.ALM_REGION then
    if on then s.raise Code.ALM_CFG_ERR 0
    else if a = Reg.ALM_REGION ∧ (wfld v 23 16 < 50 ∨ 95 < wfld v 23 16) then
      (s.plainWrite ag a (wset v 23 16 (s.fld a 23 16))).raise Code.ALM_CFG_ERR 0
    else s.plainWrite ag a v
  else if a = Reg.ALM_CMD then s.almCmd ag (wfld v 2 0)
  else s.plainWrite ag a v

/-- Block TWIN (R579 to R581, R596, R600). A GATE bit set while the gate is closed takes its link out of STREAM (R302). -/
def wTwin (s : State) (ag : Agent) (a : Nat) (v : Word) : State :=
  if a = Reg.TWIN_CTRL then s.twinCtrlEffect ag v
  else if a = Reg.TWIN_GATE then
    let s := s.plainWrite ag a v
    if s.gateOpen then s else s.gateShut
  else if a = Reg.TWIN_HB ∧ (wfld v 9 0 < 50 ∨ 1000 < wfld v 9 0) then
    (s.plainWrite ag a (wset v 9 0 (s.fld a 9 0))).raise Code.TWIN_CFG_ERR 0
  else if a = Reg.TWIN_CMD then (s.onBit v 0 (fun s => s.yieldEffect)).onBit v 1 (fun s => s.undecClear)
  else s.plainWrite ag a v

/-- Block RING (R531, R538, R539). -/
def wRing (s : State) (ag : Agent) (a : Nat) (v : Word) : State :=
  let o := a - 0x80000
  let r := o / 0x100
  if 0x4000 ≤ o then s.plainWrite ag a v
  else match o % 0x100 with
    | 0x0 => s.ringCtrlEffect ag r v
    | 0x10 => s.ringSpillEffect ag r a v
    | 0x18 => s.onBit v 0 (fun s => s.ringResetEffect r)
    | _ => s.plainWrite ag a v

/-- Block TILE (R122 to R124, R130, R164). -/
def wTile (s : State) (ag : Agent) (a : Nat) (v : Word) : State :=
  let o := a - 0x100000
  if o < 0x10000 then
    let t := o / 0x1000
    match o % 0x1000 with
    | 0x0 => s.tileCtrlEffect ag t v
    | 0x4 => s.onBit v 0 (fun s => s.icinvEffect t)
    | 0x8 => s.abortEffect t v
    | 0xC => s.releaseEffect t v
    | _ => s.plainWrite ag a v
  else if 0x10100 ≤ o then s.supCtrlEffect ag ((o - 0x10100) / 0x100) v
  else s

/-- Block PLATE (R237, R268, R271, R299, R305, R312, R319). -/
def wPlate (s : State) (ag : Agent) (a : Nat) (v : Word) : State :=
  let o := a - 0x200000
  if o < 0x10000 then
    let p := o / 0x4000
    match o % 0x4000 with
    | 0x0 => s.plateCtrlEffect ag p v
    | 0x4 => s.onBit v 0 (fun s => s.commitSet p)
    | 0x200 => s.linkCtrlEffect ag p v
    | 0x208 => (s.onBit v 0 (fun s => s.retrainEffect p)).onBit v 1 (fun s => s.lcReleaseEffect p)
    | 0x2E0 => s.linkTestEffect ag p v
    | x => if stagedOffs.contains x then (s.plainWrite ag a v).leadShow p else s.plainWrite ag a v
  else if a = Reg.PLATE_BUF_CMD then s.bufCmd ag (wfld v 2 0)
  else if a = Reg.PLATE_PAIR then s.pairEffect ag v
  else s.plainWrite ag a v

/-- The registers of glyph store n are those of the active store. -/
def glyphActive (s : State) (n : Nat) : Bool := s.bit Reg.OCC_GLYPH_RES 5 && s.bit Reg.OCC_GLYPH_RES 4 == (n == 1)

/-- Block OCC (R334, R348, R351, R356, R358, R360, R367). -/
def wOcc (s : State) (ag : Agent) (a : Nat) (v : Word) : State :=
  let o := a - 0x300000
  if o < 0x10000 then
    let p := o / 0x4000
    let x := o % 0x4000
    if x = 0 then s.occCtrlEffect ag p v
    else if x = 4 then s.occCmdEffect p (v &&& 0xF#32)
    else if 0x1000 ≤ x ∧ x < 0x3000 ∧ x % 0x20 = 0 then s.instEffect ag p ((x - 0x1000) / 0x20) v
    else s.plainWrite ag a v
  else if a = Reg.OCC_GLYPH_SIZE ∨ a = Reg.OCC_GLYPH_SIZE + 12 then
    if s.glyphActive ((a - Reg.OCC_GLYPH_SIZE) / 12) then s else s.plainWrite ag a v
  else if a = Reg.OCC_GLYPH_CMD then (s.onBit v 0 (fun s => s.glyphCommitEffect 0)).onBit v 1 (fun s => s.glyphCommitEffect 1)
  else if a = Reg.OCC_RGN_CMD then s.rgnCmd (agIdx ag) (wfld v 2 0)
  else s.plainWrite ag a v

/-- Block STRING (R377, R379, R387, R389, R396, R400). -/
def wString (s : State) (ag : Agent) (a : Nat) (v : Word) : State :=
  let o := a - 0x400000
  if o < 0x800 then
    let n := o / 0x40
    match o % 0x40 with
    | 0x0 => s.strCfgEffect ag n v
    | 0x4 => s.strKneeEffect ag n v
    | 0x8 => s.strPwmEffect ag n v
    | 0x2C => s.onBit v 0 (fun s => s.strClearEffect n)
    | _ => s.plainWrite ag a v
  else if a = Reg.STR_FADE_CTRL then s.fadeCtrlEffect ag v
  else if 0xC00 ≤ o ∧ o < 0xE00 then
    let p := (o - 0xC00) / 0x80
    match o % 0x80 with
    | 0x0 => s.diagCtrlEffect ag p v
    | 0x10 => (s.onBit v 0 (fun s => s.setBit a 0 true)).onBit v 1 (fun s => s.stuckClear p)
    | _ => s.plainWrite ag a v
  else s.plainWrite ag a v

/-- Block TRANSIT (R36, R405, R427, R442). -/
def wTransit (s : State) (ag : Agent) (a : Nat) (v : Word) : State :=
  let o := a - 0x500000
  if o < 0x10000 then
    let l := o / 0x1000
    match o % 0x1000 with
    | 0x0 => s.transitCfgEffect ag l v
    | 0x18 => s.onBit v 0 (fun s => s.transitRetrainEffect l)
    | _ => s.plainWrite ag a v
  else if a = Reg.TRANSIT_TGT_STAT then s.tgtStatEffect (agIdx ag) v
  else if a = Reg.TRANSIT_TGT_CMD then s.onBit v 0 (fun s => s.clrLateEffect (agIdx ag))
  else if a = Reg.TRANSIT_PHASE ∧ (wfld v 31 16 < 100 ∨ 10000 < wfld v 31 16) then
    (s.plainWrite ag a (wset v 31 16 (s.fld a 31 16))).raise Code.TRANSIT_CFG_ERR 0
  else s.plainWrite ag a v

/-- A register of a MAC port at an offset from the port's block (R481, R494, R500). -/
def wMacPort (s : State) (ag : Agent) (p a o : Nat) (v : Word) : State :=
  if o = 0 then s.macCtrlEffect ag p v
  else if o = 0x14 then s.maxFrameEffect ag p v
  else if o = 0x28 then s.eeeEffect ag p v
  else if 0x40 ≤ o ∧ o < 0x60 then s.cbsEffect ag p ((o - 0x40) / 4) v
  else s.plainWrite ag a v

/-- The MAC blocks (R516, R523). -/
def wMac (s : State) (ag : Agent) (a : Nat) (v : Word) : State :=
  if a < 0x620000 then s.wMacPort ag ((a - 0x600000) / 0x1000) a (a % 0x1000) v
  else if a < 0x680000 then
    if a = Reg.MAC_SACN_SEQ then
      { s with mac := { s.mac with seqTab := s.mac.seqTab.put 0 (s.afld (agIdx ag) Reg.MAC_SACN_SEQ_SEL 11 0) (wfld v 7 0) } }
    else s.plainWrite ag a v
  else if a < 0x684000 then s.wMacPort ag (32 + (a - 0x680000) / 0x1000) a (a % 0x1000) v
  else if a < 0x6C0000 then
    let k := (a - 0x688000) / 0x80
    if a % 0x80 = 0 then s.stCfgEffect ag k v
    else if s.bit (stA Reg.ST_CFG k) 0 then s
    else s.plainWrite ag a v
  else s.wMacPort ag 36 a (a % 0x1000) v

/-- Blocks DMX and PANEL (R548, R566, R570, R573). -/
def wLocal (s : State) (ag : Agent) (a : Nat) (v : Word) : State :=
  if a < 0x704000 then
    let d := (a - 0x700000) / 0x400
    match a % 0x400 with
    | 0x0 => s.dmxCfgEffect ag d v
    | 0x4 => s.dmxTimeEffect ag d v
    | 0x14 => s.dmxRdmEffect ag d v
    | 0x1C => s.onBit v 0 (fun s => s.discFullEffect d)
    | _ => (s.plainWrite ag a v).dRefresh d
  else if a = Reg.PANEL_EN then s.panelEnEffect ag v
  else if a = Reg.PANEL_CHAT then s.panelChatEffect ag v
  else if a = Reg.PANEL_SAFE then s.panelSafeEffect ag v
  else if a = Reg.PANEL_REARM then s.rearmEffect v
  else s.plainWrite ag a v

/-- Block SERDES (R739, R740). -/
def wSerdes (s : State) (ag : Agent) (a : Nat) (v : Word) : State :=
  if a < 0x822000 then if a % 0x800 = 0 then s.serdesWrite ag ((a - 0x800000) / 0x800) v else s.plainWrite ag a v
  else if a < 0x840000 then s.plainWrite ag a v
  else
    let m := (a - 0x840000) / 0x100
    match a % 0x100 with
    | 0x4 =>
      let bad (h l : Nat) : Bool := decide (32 < wfld v h l)
      let w := if bad 21 16 then wset v 21 16 (s.fld a 21 16) else v
      let w := if bad 29 24 then wset w 29 24 (s.fld a 29 24) else w
      let s := s.plainWrite ag a w
      if bad 21 16 || bad 29 24 then s.raise Code.SERDES_CFG_ERR (128 + m) else s
    | 0x8 => s.onBit v 0 (fun s => s.smbStart m)
    | _ => s.plainWrite ag a v

/-- A write of a register that is no 64-bit pair, by an agent that may make it. -/
def regEffect (s : State) (ag : Agent) (a : Nat) (v : Word) : State :=
  if a < 0x10000 then s.wSys ag a v
  else if a < 0x20000 then s.wClk ag a v
  else if a < 0x60000 then s.wLow ag a v
  else if a < 0x70000 then s.wAlm ag a v
  else if a < 0x80000 then s.wTwin ag a v
  else if a < 0x100000 then s.wRing ag a v
  else if a < 0x200000 then s.wTile ag a v
  else if a < 0x300000 then s.wPlate ag a v
  else if a < 0x400000 then s.wOcc ag a v
  else if a < 0x500000 then s.wString ag a v
  else if a < 0x600000 then s.wTransit ag a v
  else if a < 0x700000 then s.wMac ag a v
  else if a < 0x800000 then s.wLocal ag a v
  else if a < 0x900000 then s.wSerdes ag a v
  else (s.plainWrite ag a v).oRefresh

/-! ### 64-bit pairs (R12) -/

/-- A write to a word of a pair that its chapter has ignored, with what it raises: spill registers of an enabled ring (R531), the
map base of an enabled diagnosis (R396), the copy-out base while COPYING, the base of the active glyph store (R356), and SUPn_ENTRY
from another agent than supervisor cores 0 and 1 (R164). `lo` is the offset of the low word. -/
def pairIgnored (s : State) (ag : Agent) (lo : Nat) : Option State :=
  let ringNo := (lo - 0x80000) / 0x100
  if 0x80000 ≤ lo ∧ lo < 0x84000 ∧ lo % 0x100 = 8 ∧ s.ringEn ringNo = true then some (s.raise Code.RING_CFG_ERR ringNo)
  else if 0x400C00 ≤ lo ∧ lo < 0x400E00 ∧ lo % 0x80 = 4 ∧ s.bit (lo - 4) 0 = true then some s
  else if lo = Reg.TELEM_DEST_LO ∧ s.bit Reg.TELEM_STATUS 1 = true then some s
  else if (lo = Reg.OCC_GLYPH_BASE_LO ∨ lo = Reg.OCC_GLYPH_BASE_LO + 12) ∧ s.glyphActive ((lo - Reg.OCC_GLYPH_BASE_LO) / 12) = true then some s
  else if 0x110100 ≤ lo ∧ lo < 0x110500 then
    match ag with
    | .sup n => if n.val < 2 then none else some s
    | .jtag => some s
  else none

/-- Both words of a pair are written in one cycle. -/
def pairCommit (s : State) (ag : Agent) (lo : Nat) (l h : Word) : State :=
  let v : DWord := h ++ l
  if lo = Reg.SID_INC_NOM_LO then s.incNomWrite v
  else if Reg.SID_OFS_LO ≤ lo ∧ lo < Reg.SID_OFS_LO + 32 then s.sidOfsEffect lo v
  else
    let s := (s.plainWrite ag lo l).plainWrite ag (lo + 4) h
    if 0x200000 ≤ lo ∧ lo < 0x210000 then s.leadShow ((lo - 0x200000) / 0x4000)
    else if 0x700000 ≤ lo ∧ lo < 0x704000 then s.dRefresh ((lo - 0x700000) / 0x400)
    else if 0x900000 ≤ lo then s.oRefresh
    else s

/-- A write of the low word is staged for the writing agent. -/
def pairLowWrite (s : State) (ag : Agent) (lo : Nat) (v : Word) : State :=
  match s.pairIgnored ag lo with
  | some t => t
  | none => { s with stage := s.stage.put none (agIdx ag * 2 ^ 24 + lo) (some v) }

/-- A write of the high word commits it with the staged low word, or with the low word's current value. -/
def pairHighWrite (s : State) (ag : Agent) (lo : Nat) (v : Word) : State :=
  match s.pairIgnored ag lo with
  | some t => t
  | none =>
    let key := agIdx ag * 2 ^ 24 + lo
    let cur := match regRow lo with
      | some r => if r.priv then s.areg (agIdx ag) lo else s.reg lo
      | none => 0
    let l := (s.stage.get none key).getD cur
    ({ s with stage := s.stage.put none key none } : State).pairCommit ag lo l v

/-- A 32-bit write of an agent that may make it (R9, R12, R14). -/
def regWrite (s : State) (ag : Agent) (a : Nat) (v : Word) : State :=
  if (regRow a).isNone then s
  else match pairOf a with
    | 1 => s.pairLowWrite ag a v
    | 2 => s.pairHighWrite ag (a - 4) v
    | _ => s.regEffect ag a v

/-- A write at an offset that is not word-aligned is a bus error (R8). -/
def busWrite (s : State) (ag : Agent) (a : Nat) (f : State → State) : State :=
  s.writeBy ag a fun s => if a % 4 = 0 then f s else s.busError (agInst ag) (ctrlBase + a) true

/-! ### Ring windows (R542, R543) -/

/-- A 32-bit read at an offset of the ring window region. -/
def winRead (s : State) (ag : Agent) (o : Nat) : Word × State :=
  let r := o / 0x1000
  let x := o % 0x1000
  if x = 0x20 then (BitVec.ofNat 32 (s.win ag r).res, s)
  else if x = 0x40 then
    let t := s.winPop ag r
    (entryWord (t.win ag r).popped 0, t)
  else if 0x40 < x ∧ x < 0x60 then (entryWord (s.win ag r).popped ((x - 0x40) / 4), s)
  else if x = 0x60 then (s.ringPeek r, s)
  else if x = 0x80 then
    let (n, t) := s.ringDrop r
    (BitVec.ofNat 32 n, t)
  else (0, s)

/-- A 32-bit write at an offset of the ring window region. -/
def winWrite (s : State) (ag : Agent) (o : Nat) (v : Word) : State :=
  let r := o / 0x1000
  let x := o % 0x1000
  if x < 0x1C then s.winStage ag r (x / 4) v
  else if x = 0x1C then s.winPush ag r v
  else s

end State

/-! ### The commands -/

/-- REGISTER_WRITE: a 32-bit write of an agent to the register at an offset of the control register region (R8 to R10, R14, R17,
R34 to R38). -/
def execRegisterWrite (ag : Agent) (a : BitVec 24) (v : Word) (s : State) : Host.Outcome State Fault Refusal :=
  .next (s.busWrite ag a.toNat fun s => s.regWrite ag a.toNat v)

/-- PAIR_LOW_READ (R12). -/
def execPairLowRead (ag : Agent) (a : BitVec 24) (s : State) : Host.Outcome State Fault Refusal :=
  .next (if State.pairOf a.toNat = 1 then s.readBy ag a.toNat fun s => s.pairLowRead (agIdx ag) a.toNat else s)

/-- PAIR_LOW_WRITE (R12). -/
def execPairLowWrite (ag : Agent) (a : BitVec 24) (v : Word) (s : State) : Host.Outcome State Fault Refusal :=
  .next (if State.pairOf a.toNat = 1 then s.busWrite ag a.toNat fun s => s.pairLowWrite ag a.toNat v else s)

/-- PAIR_HIGH_WRITE: `a` is the offset of the high word (R12). -/
def execPairHighWrite (ag : Agent) (a : BitVec 24) (v : Word) (s : State) : Host.Outcome State Fault Refusal :=
  .next (if State.pairOf a.toNat = 2 then s.busWrite ag a.toNat fun s => s.pairHighWrite ag (a.toNat - 4) v else s)

end Sys2Proof.Machine
end

