-- ==== Sys2Proof/Machine/OrreryFire.lean ====
section
/-!
DEFINITION. Firing of Ephemeris entries, with what the placement engine does at an item's launches
(02_sidereal_time.md R85 to R92; 10_orrery_placement.md R454, R463, R466, R467, R470).
-/
namespace Sys2Proof.Machine

open Sys2Proof

namespace State

/-- The item whose launch an entry is, by its TAG (R454). -/
def tagItem (tag : Word) : Option Nat :=
  if 0x4F500000 ≤ tag.toNat ∧ tag.toNat ≤ 0x4F503FFF then some (tag.toNat - 0x4F500000) else none

/-- This node makes no launch of the item for frame f: NEXT has it, another put is in effect, or it is deleted (R463, R466). -/
def launchOver (s : State) (id f : Nat) : Bool :=
  let i := s.oItem id
  let mine := i.next == s.ownId || i.npartner == some s.ownId
  (i.state == 4 && !mine && frameFrom i.cframe f)
    || (i.state == 2 && (match i.later with
      | some (_, c) => frameFrom c f
      | none => false))
    || (match i.del with
      | some c => frameFrom c f
      | none => false)

def entryFrame (e : EphEntry) : Nat := bits e.nominal 63 32

/-- The first launch of a re-placed item (R469, R470). -/
def replFirst (s : State) (id : Nat) : State :=
  let i := s.oItem id
  match i.lost with
  | none => s
  | some (d, _) =>
    let n := min (phaseDiff s.phase d / 65536).toNat 0xFFFFFFFF
    let s := if (s.reg Reg.ORRERY_REPL_MAX).toNat < n then s.setReg Reg.ORRERY_REPL_MAX (BitVec.ofNat 32 n) else s
    let s := s.updOrr fun o => { o with items := o.items.put {} id { i with lost := none } }
    let s := if 2 ^ 34 < phaseDiff s.phase d then s.raise Code.ORRERY_REPLACE_SLOW id else s
    s.raise Code.ORRERY_REPLACED id

/-- Fire an entry, or hold or drop an item's launch (R454, R466, R467). -/
def itemFire (s : State) (e : EphEntry) (late : Bool) : State :=
  match tagItem e.tag with
  | none => s.ephFire e late
  | some id =>
    if s.launchOver id (entryFrame e) then { s with eph := ephReplace e none s.eph }
    else if s.orr.copyWait.contains id then
      let s : State := { s with
        eph := ephReplace e none s.eph
        orr := { s.orr with heldFire := s.orr.heldFire ++ [e] } }
      (s.inc Reg.ORRERY_LATECOPY_CNT).raise Code.ORRERY_COPY_LATE id
    else
      let s := (s.ephFire e late).replFirst id
      { s with eph := s.eph.filter fun f => !(f.tag == e.tag && s.launchOver id (entryFrame f)) }

end State

/-- ENTRY_FIRE: the first pending entry whose fire phase is reached fires; within one 8 ns span 64 entries are issued, the rest
one a cycle, late when more than 8 ns after their fire phase (R85 to R88, R91, R92). -/
def execEntryFire (s : State) : Host.Outcome State Fault Refusal :=
  if s.ephHeld then .next s
  else match State.ephFirst s.eph with
    | none => .next s
    | some e =>
      if phaseBefore s.phase e.fire then .next s
      else
        let span := s.mono / 8
        let cnt := if s.ephSpan = span then s.ephSpanCnt else 0
        let full := decide (64 ≤ cnt)
        if full && s.ephLast == s.mono then .next s
        else
          let tardy := full && decide (8 < s.phaseNs (phaseDiff s.phase e.fire))
          let s : State := { s with ephSpan := span, ephSpanCnt := cnt + 1, ephLast := s.mono }
          let s := if tardy && !e.late then (s.inc Reg.EPH_LATE_CNT).raiseFrame Code.CLK_EPH_LATE 0 else s
          .next (s.itemFire e (e.late || tardy))

end Sys2Proof.Machine
end

