-- ==== Sys2Proof/Machine/Plate.lean ====
section
/-!
DEFINITION. The commands of the plate pipeline (05_plate_pipeline.md R216 to R271), and the two commands of the Sidereal counter that
act on running ports (R48, R64, R221).
-/
namespace Sys2Proof.Machine

open Sys2Proof

/-- SUBFRAME_START: the next start phase of a running port is reached (R217, R218, R220). `alter` holds codes that a hardware error
alters between the final plate and the guard: line, code number, code (R346). -/
def execSubframeStart (p : PortId) (alter : List (Nat × Nat × Nat)) (s : State) : Host.Outcome State Fault Refusal :=
  let q := p.val
  if !s.pEn q || s.stopped || !s.running || phaseBefore s.phase (s.startOf q (s.nextLatch q (s.port q).lastPh)) then .next s
  else .next (s.subframeStart q alter)

/-- SUBFRAME_LATCH: the latch phase of a started sub-frame is reached; `done` tells that its last line has left (R223 to R226). With
every sub-frame latched, the next latch phase completes the last one (R224). -/
def execSubframeLatch (p : PortId) (done : Bool) (s : State) : Host.Outcome State Fault Refusal :=
  let q := p.val
  if s.stopped then .next s
  else match (s.port q).sfs.find? fun x => !x.latched with
    | some x => if phaseBefore s.phase x.latch then .next s else .next (s.subframeLatch q x done)
    | none => match (s.port q).sfs.getLast? with
      | some x => if phaseBefore s.phase (s.nextLatchAfter q x) then .next s
          else .next ((s.port q).sfs.foldl (fun s y => s.closeSf q y) s)
      | none => .next s

/-- LATE_LE_SEND: the last line of a late sub-frame has left (R225). -/
def execLateLeSend (p : PortId) (s : State) : Host.Outcome State Fault Refusal :=
  let q := p.val
  match (s.port q).sfs.find? fun x => x.latched && State.owesLe x && x.fs with
  | some x => .next ((s.sendLe q x x.blank).twinSubframe q x)
  | none => .next s

/-- SUBFRAME_ABANDON: the next latch phase finds a sub-frame without LE (R226). -/
def execSubframeAbandon (p : PortId) (s : State) : Host.Outcome State Fault Refusal :=
  let q := p.val
  match (s.port q).sfs.find? fun x => x.latched && State.owesLe x with
  | some x => if s.stopped || phaseBefore s.phase (s.nextLatchAfter q x) then .next s else .next (s.abandonSf q x)
  | none => .next s

/-- PLATE_LATCH: the first issued PLATE_LATCH action arrives (R238, R239). -/
def execPlateLatch (s : State) : Host.Outcome State Fault Refusal :=
  match s.takeIssued 2 with
  | some (a, s) => .next (s.plateLatch a)
  | none => .next s

/-- PLATE_ENABLE: a write of PLATEp_CTRL with EN = 1 (R268). -/
def execPlateEnable (ag : Agent) (p : PortId) (v : Word) (s : State) : Host.Outcome State Fault Refusal :=
  .next (s.writeBy ag (State.pReg Reg.PLATE_CTRL p.val) fun s => s.plateCtrlEffect ag p.val (v ||| 1))

/-- PLATE_DISABLE: a write of PLATEp_CTRL with EN = 0 (R271). -/
def execPlateDisable (ag : Agent) (p : PortId) (v : Word) (s : State) : Host.Outcome State Fault Refusal :=
  .next (s.writeBy ag (State.pReg Reg.PLATE_CTRL p.val) fun s => s.plateCtrlEffect ag p.val (v &&& ~~~1))

/-- PLATE_STOP: the last sub-frame of a stopping port has finished, its LE included (R271). -/
def execPlateStop (p : PortId) (s : State) : Host.Outcome State Fault Refusal :=
  let q := p.val
  if s.pState q ≠ 3 ∨ (s.port q).sfs.any (fun x => !x.latched || State.owesLe x) then .next s else .next (s.plateStop q)

/-- PLATE_COMMIT: setting PLATEp_CMD.COMMIT (R268). -/
def execPlateCommit (ag : Agent) (p : PortId) (s : State) : Host.Outcome State Fault Refusal :=
  .next (s.writeBy ag (State.pReg Reg.PLATE_CMD p.val) fun s => s.commitSet p.val)

/-- SID_INC_NOM_WRITE: a committed write of the pair (R48, R221). -/
def execSidIncNomWrite (ag : Agent) (v : DWord) (s : State) : Host.Outcome State Fault Refusal :=
  .next (s.writeBy ag Reg.SID_INC_NOM_LO fun s => s.incNomWrite v)

/-- SIDEREAL_STEP: an armed step at the first whole-frame phase after arming (R64, R93). -/
def execSiderealStep (s : State) : Host.Outcome State Fault Refusal :=
  match s.sid.armedAt with
  | none => .next s
  | some p =>
    let whole : DWord := (p &&& 0xFFFFFFFF00000000#64) + 0x100000000#64
    if !s.refQualified || s.stopped || phaseBefore s.phase whole then .next s
    else
      let from' := s.phase
      let to' := s.stepTarget
      let back := s.sidState == 5
      let s : State := { s with acc := to' ++ 0#32 }
      let s := s.clearJump.sidDisarm
      let s : State := { s with sid := { s.sid with prevErr := none } }
      let s := (s.sidEnter 4).inc Reg.SID_STEP_CNT
      let s : State := { s with sid := { s.sid with pT := 0 } }
      let s := if back then s.raise Code.CLK_REF_BACK 0 else s
      let s := s.ephStep from' to'
      .next (s.enPorts.foldl (fun s q => s.portStep q from' to') s)

end Sys2Proof.Machine
end

