-- ==== Sys2Proof/Machine/SelmirVec.lean ====
section
/-!
DEFINITION. Vector and light instructions (04_selmir_instructions.md R197 to R201, R204 to R206).
-/
namespace Sys2Proof.Machine

open Sys2Proof

/-- Some lane of the width is active. -/
def anyOn (w : Nat) (p : BitVec 8) : Bool := (List.range (lanesOf w)).any (laneOn w p)

/-- Active lanes of v[d] take f; with no lane active nothing is written (R104). -/
def Core.putLanes (k : Core) (w : Nat) (p : PReg) (d : VReg) (f : Nat → Nat) : Core :=
  if anyOn w (k.pr p) then k.setV d (maskLanes w (k.pr p) (k.vr d) f) else k

/-- The same for lanes that set FPSR flags: the flags of the active lanes (R199). -/
def Core.putFp (k : Core) (p : PReg) (d : VReg) (f : Nat → Nat × Nat) : Core :=
  (k.putLanes 16 p d fun i => (f i).1).fpOr
    ((List.range 8).foldl (fun a i => if laneOn 16 (k.pr p) i then a ||| (f i).2 else a) 0)

/-- A conversion result as an unsigned lane. -/
def natFp (w : Nat) (r : Int × Nat) : Nat × Nat := (unsigned w r.1, r.2)

/-- Output lane of MIX.n: pixel q occupies lanes 4q to 4q + 3; lane 3 passes through in MIX.3 (R204). -/
def mixLane (n : Nat) (a : Vec) (m : BitVec 256) (i : Nat) : Nat :=
  let q := i / 4
  let j := i % 4
  if n ≤ j then lane 16 a i
  else
    let coef (x : Nat) : Int := sext 16 (m.toNat / 2 ^ (16 * x) % 65536)
    let acc : Int := (List.range n).foldl (fun t x => t + coef (n * j + x) * (lane 16 a (4 * q + x) : Int)) 0
    (sat16 (fdiv (2 * acc + 4096) 8192)).toNat

namespace State

/-- VINT: lane by lane on v[a] and v[b] into v[d] (R197). -/
def vint (s : State) (c : CoreId) (iw : Word) (w : Nat) (d a b : VReg) (p : PReg) (f : Nat → Nat → Nat → Nat) : State :=
  s.alu c iw [vKey a, vKey b] [vKey d] fun k =>
    k.putLanes w p d fun i => f w (lane w (k.vr a) i) (lane w (k.vr b) i)

/-- VFP on two operands (R199). -/
def vfp (s : State) (c : CoreId) (iw : Word) (d a b : VReg) (p : PReg) (f : Nat → Nat → Nat → Nat × Nat) : State :=
  s.alu c iw [vKey a, vKey b] [vKey d] fun k =>
    k.putFp p d fun i => f i (lane 16 (k.vr a) i) (lane 16 (k.vr b) i)

/-- VCVT and one-operand VFP (R199, R200). -/
def vcvt (s : State) (c : CoreId) (iw : Word) (d a : VReg) (p : PReg) (f : Nat → Nat × Nat) : State :=
  s.alu c iw [vKey a] [vKey d] fun k => k.putFp p d fun i => f (lane 16 (k.vr a) i)

end State

/-- VADD on 16-bit or 32-bit lanes (R197). -/
def execSVadd (c : CoreId) (d a b : VReg) (p : PReg) (wide : Bool) (s : State) : Host.Outcome State Fault Refusal :=
  .next (s.vint c (encR 0x20 d a b p (0 + b2n wide * 128)) (if wide then 32 else 16) d a b p fun _w x y => x + y)

/-- VSUB on 16-bit or 32-bit lanes (R197). -/
def execSVsub (c : CoreId) (d a b : VReg) (p : PReg) (wide : Bool) (s : State) : Host.Outcome State Fault Refusal :=
  .next (s.vint c (encR 0x20 d a b p (1 + b2n wide * 128)) (if wide then 32 else 16) d a b p fun w x y => x + 2 ^ w - y)

/-- VADD.L on 16-bit or 32-bit lanes (R197). -/
def execSVaddL (c : CoreId) (d a b : VReg) (p : PReg) (wide : Bool) (s : State) : Host.Outcome State Fault Refusal :=
  .next (s.vint c (encR 0x20 d a b p (2 + b2n wide * 128)) (if wide then 32 else 16) d a b p fun w x y => min (2 ^ w - 1) (x + y))

/-- VSUB.L on 16-bit or 32-bit lanes (R197). -/
def execSVsubL (c : CoreId) (d a b : VReg) (p : PReg) (wide : Bool) (s : State) : Host.Outcome State Fault Refusal :=
  .next (s.vint c (encR 0x20 d a b p (3 + b2n wide * 128)) (if wide then 32 else 16) d a b p fun _w x y => x - y)

/-- VADDS on 16-bit or 32-bit lanes (R197). -/
def execSVadds (c : CoreId) (d a b : VReg) (p : PReg) (wide : Bool) (s : State) : Host.Outcome State Fault Refusal :=
  .next (s.vint c (encR 0x20 d a b p (4 + b2n wide * 128)) (if wide then 32 else 16) d a b p fun w x y => unsigned w (clampI (-(2 ^ (w - 1))) (2 ^ (w - 1) - 1) (sext w x + sext w y)))

/-- VSUBS on 16-bit or 32-bit lanes (R197). -/
def execSVsubs (c : CoreId) (d a b : VReg) (p : PReg) (wide : Bool) (s : State) : Host.Outcome State Fault Refusal :=
  .next (s.vint c (encR 0x20 d a b p (5 + b2n wide * 128)) (if wide then 32 else 16) d a b p fun w x y => unsigned w (clampI (-(2 ^ (w - 1))) (2 ^ (w - 1) - 1) (sext w x - sext w y)))

/-- VMUL on 16-bit or 32-bit lanes (R197). -/
def execSVmul (c : CoreId) (d a b : VReg) (p : PReg) (wide : Bool) (s : State) : Host.Outcome State Fault Refusal :=
  .next (s.vint c (encR 0x20 d a b p (6 + b2n wide * 128)) (if wide then 32 else 16) d a b p fun _w x y => x * y)

/-- VMUL.L: 16-bit lanes only (R197, R198). -/
def execSVmulL (c : CoreId) (d a b : VReg) (p : PReg) (wide : Bool) (s : State) : Host.Outcome State Fault Refusal :=
  let w := encR 0x20 d a b p (7 + b2n wide * 128)
  if wide then .next (s.illegal c w) else .next (s.vint c w 16 d a b p fun _w x y => lmul x y)

/-- VMUL.Q12: 16-bit lanes only (R197, R198). -/
def execSVmulQ12 (c : CoreId) (d a b : VReg) (p : PReg) (wide : Bool) (s : State) : Host.Outcome State Fault Refusal :=
  let w := encR 0x20 d a b p (8 + b2n wide * 128)
  if wide then .next (s.illegal c w) else .next (s.vint c w 16 d a b p fun _w x y => unsigned 16 (sats16 (fdiv (2 * sext 16 x * sext 16 y + 4096) 8192)))

/-- VMUL.U15: 16-bit lanes only (R197, R198). -/
def execSVmulU15 (c : CoreId) (d a b : VReg) (p : PReg) (wide : Bool) (s : State) : Host.Outcome State Fault Refusal :=
  let w := encR 0x20 d a b p (9 + b2n wide * 128)
  if wide then .next (s.illegal c w) else .next (s.vint c w 16 d a b p fun _w x y => min 65535 ((2 * x * y + 32768) / 65536))

/-- VMINU on 16-bit or 32-bit lanes (R197). -/
def execSVminu (c : CoreId) (d a b : VReg) (p : PReg) (wide : Bool) (s : State) : Host.Outcome State Fault Refusal :=
  .next (s.vint c (encR 0x20 d a b p (10 + b2n wide * 128)) (if wide then 32 else 16) d a b p fun _w x y => min x y)

/-- VMAXU on 16-bit or 32-bit lanes (R197). -/
def execSVmaxu (c : CoreId) (d a b : VReg) (p : PReg) (wide : Bool) (s : State) : Host.Outcome State Fault Refusal :=
  .next (s.vint c (encR 0x20 d a b p (11 + b2n wide * 128)) (if wide then 32 else 16) d a b p fun _w x y => max x y)

/-- VMINS on 16-bit or 32-bit lanes (R197). -/
def execSVmins (c : CoreId) (d a b : VReg) (p : PReg) (wide : Bool) (s : State) : Host.Outcome State Fault Refusal :=
  .next (s.vint c (encR 0x20 d a b p (12 + b2n wide * 128)) (if wide then 32 else 16) d a b p fun w x y => if sext w x ≤ sext w y then x else y)

/-- VMAXS on 16-bit or 32-bit lanes (R197). -/
def execSVmaxs (c : CoreId) (d a b : VReg) (p : PReg) (wide : Bool) (s : State) : Host.Outcome State Fault Refusal :=
  .next (s.vint c (encR 0x20 d a b p (13 + b2n wide * 128)) (if wide then 32 else 16) d a b p fun w x y => if sext w y ≤ sext w x then x else y)

/-- VAND on 16-bit or 32-bit lanes (R197). -/
def execSVand (c : CoreId) (d a b : VReg) (p : PReg) (wide : Bool) (s : State) : Host.Outcome State Fault Refusal :=
  .next (s.vint c (encR 0x20 d a b p (14 + b2n wide * 128)) (if wide then 32 else 16) d a b p fun _w x y => x &&& y)

/-- VOR on 16-bit or 32-bit lanes (R197). -/
def execSVor (c : CoreId) (d a b : VReg) (p : PReg) (wide : Bool) (s : State) : Host.Outcome State Fault Refusal :=
  .next (s.vint c (encR 0x20 d a b p (15 + b2n wide * 128)) (if wide then 32 else 16) d a b p fun _w x y => x ||| y)

/-- VXOR on 16-bit or 32-bit lanes (R197). -/
def execSVxor (c : CoreId) (d a b : VReg) (p : PReg) (wide : Bool) (s : State) : Host.Outcome State Fault Refusal :=
  .next (s.vint c (encR 0x20 d a b p (16 + b2n wide * 128)) (if wide then 32 else 16) d a b p fun _w x y => x ^^^ y)

/-- VSHL on 16-bit or 32-bit lanes (R197). -/
def execSVshl (c : CoreId) (d a b : VReg) (p : PReg) (wide : Bool) (s : State) : Host.Outcome State Fault Refusal :=
  .next (s.vint c (encR 0x20 d a b p (17 + b2n wide * 128)) (if wide then 32 else 16) d a b p fun w x y => x * 2 ^ (y % w))

/-- VSHR on 16-bit or 32-bit lanes (R197). -/
def execSVshr (c : CoreId) (d a b : VReg) (p : PReg) (wide : Bool) (s : State) : Host.Outcome State Fault Refusal :=
  .next (s.vint c (encR 0x20 d a b p (18 + b2n wide * 128)) (if wide then 32 else 16) d a b p fun w x y => x / 2 ^ (y % w))

/-- VSRA on 16-bit or 32-bit lanes (R197). -/
def execSVsra (c : CoreId) (d a b : VReg) (p : PReg) (wide : Bool) (s : State) : Host.Outcome State Fault Refusal :=
  .next (s.vint c (encR 0x20 d a b p (19 + b2n wide * 128)) (if wide then 32 else 16) d a b p fun w x y => unsigned w (sext w x / 2 ^ (y % w)))

/-- VFADD (R199). -/
def execSVfadd (c : CoreId) (d a b : VReg) (p : PReg) (s : State) : Host.Outcome State Fault Refusal :=
  .next (s.vfp c (encR 0x21 d a b p 0) d a b p fun _o x y => f16Add x y)

/-- VFSUB (R199). -/
def execSVfsub (c : CoreId) (d a b : VReg) (p : PReg) (s : State) : Host.Outcome State Fault Refusal :=
  .next (s.vfp c (encR 0x21 d a b p 1) d a b p fun _o x y => f16Add x (if f16Nan y then y else f16Flip y))

/-- VFMUL (R199). -/
def execSVfmul (c : CoreId) (d a b : VReg) (p : PReg) (s : State) : Host.Outcome State Fault Refusal :=
  .next (s.vfp c (encR 0x21 d a b p 2) d a b p fun _o x y => f16Mul x y)

/-- VFMA: v[d] + x × y with a single rounding (R199). -/
def execSVfma (c : CoreId) (d a b : VReg) (p : PReg) (s : State) : Host.Outcome State Fault Refusal :=
  .next (s.alu c (encR 0x21 d a b p 3) [vKey d, vKey a, vKey b] [vKey d] fun k =>
    k.putFp p d fun i => f16Fma (lane 16 (k.vr d) i) (lane 16 (k.vr a) i) (lane 16 (k.vr b) i))

/-- VFMIN (R199). -/
def execSVfmin (c : CoreId) (d a b : VReg) (p : PReg) (s : State) : Host.Outcome State Fault Refusal :=
  .next (s.vfp c (encR 0x21 d a b p 4) d a b p fun _o x y => f16MinMax false x y)

/-- VFMAX (R199). -/
def execSVfmax (c : CoreId) (d a b : VReg) (p : PReg) (s : State) : Host.Outcome State Fault Refusal :=
  .next (s.vfp c (encR 0x21 d a b p 5) d a b p fun _o x y => f16MinMax true x y)

/-- VFABS; a NaN result is 0x7E00 (R109, R199). -/
def execSVfabs (c : CoreId) (d a : VReg) (p : PReg) (s : State) : Host.Outcome State Fault Refusal :=
  .next (s.vcvt c (encR 0x21 d a 0 p 6) d a p fun x => (if f16Nan x then f16NaN else x % 0x8000, 0))

/-- VFNEG; a NaN result is 0x7E00 (R109, R199). -/
def execSVfneg (c : CoreId) (d a : VReg) (p : PReg) (s : State) : Host.Outcome State Fault Refusal :=
  .next (s.vcvt c (encR 0x21 d a 0 p 7) d a p fun x => (if f16Nan x then f16NaN else f16Flip x, 0))

/-- L16 lanes to fp16: value / 65,535, nearest even (R109, R200). -/
def execSL16F16 (c : CoreId) (d a : VReg) (p : PReg) (s : State) : Host.Outcome State Fault Refusal :=
  .next (s.vcvt c (encR 0x28 d a 0 p 0) d a p fun x => toF16 x 65535)

/-- fp16 lanes to L16: clamped to [0, 1], times 65,535, nearest even (R109, R200). -/
def execSF16L16 (c : CoreId) (d a : VReg) (p : PReg) (s : State) : Host.Outcome State Fault Refusal :=
  .next (s.vcvt c (encR 0x28 d a 0 p 1) d a p fun x => natFp 16 (fromF16 65535 0 65535 x))

/-- s3.12 lanes to fp16 (R109, R200). -/
def execSQ12F16 (c : CoreId) (d a : VReg) (p : PReg) (s : State) : Host.Outcome State Fault Refusal :=
  .next (s.vcvt c (encR 0x28 d a 0 p 2) d a p fun x => toF16 (sext 16 x) 4096)

/-- fp16 lanes to s3.12, saturated (R109, R200). -/
def execSF16Q12 (c : CoreId) (d a : VReg) (p : PReg) (s : State) : Host.Outcome State Fault Refusal :=
  .next (s.vcvt c (encR 0x28 d a 0 p 3) d a p fun x => natFp 16 (fromF16 4096 (-32768) 32767 x))

/-- u1.15 lanes to fp16 (R109, R200). -/
def execSU15F16 (c : CoreId) (d a : VReg) (p : PReg) (s : State) : Host.Outcome State Fault Refusal :=
  .next (s.vcvt c (encR 0x28 d a 0 p 4) d a p fun x => toF16 x 32768)

/-- fp16 lanes to u1.15, saturated; negative values give 0 (R109, R200). -/
def execSF16U15 (c : CoreId) (d a : VReg) (p : PReg) (s : State) : Host.Outcome State Fault Refusal :=
  .next (s.vcvt c (encR 0x28 d a 0 p 5) d a p fun x => natFp 16 (fromF16 32768 0 65535 x))

/-- L16.U15: fdiv(65,536·x + 65,535, 131,070) (R109, R200). -/
def execSL16U15 (c : CoreId) (d a : VReg) (p : PReg) (s : State) : Host.Outcome State Fault Refusal :=
  .next (s.vcvt c (encR 0x28 d a 0 p 6) d a p fun x => ((65536 * x + 65535) / 131070, 0))

/-- U15.L16: fdiv(131,070·t + 32,768, 65,536) of t = min(x, 0x8000) (R109, R200). -/
def execSU15L16 (c : CoreId) (d a : VReg) (p : PReg) (s : State) : Host.Outcome State Fault Refusal :=
  .next (s.vcvt c (encR 0x28 d a 0 p 7) d a p fun x => ((131070 * min x 0x8000 + 32768) / 65536, 0))

/-- VMOV, governed by p (R201). -/
def execSVmov (c : CoreId) (d a : VReg) (p : PReg) (s : State) : Host.Outcome State Fault Refusal :=
  .next (s.alu c (encR 0x23 d a 0 p 0) [vKey a] [vKey d] fun k => k.putLanes 16 p d (lane 16 (k.vr a)))

/-- VSEL: the predicate selects, all 8 lanes are written (R201). -/
def execSVsel (c : CoreId) (d a b : VReg) (p : PReg) (s : State) : Host.Outcome State Fault Refusal :=
  .next (s.alu c (encR 0x23 d a b p 1) [vKey a, vKey b] [vKey d] fun k =>
    k.setV d (ofLanes 16 8 fun i => if laneOn 16 (k.pr p) i then lane 16 (k.vr a) i else lane 16 (k.vr b) i))

/-- VPERM (R201). -/
def execSVperm (c : CoreId) (d a b : VReg) (s : State) : Host.Outcome State Fault Refusal :=
  .next (s.alu c (encR 0x23 d a b 0 2) [vKey a, vKey b] [vKey d] fun k =>
    k.setV d (ofLanes 16 8 fun i => lane 16 (k.vr a) (lane 16 (k.vr b) i % 8)))

/-- VSPLAT.H (R201). -/
def execSVsplatH (c : CoreId) (d : VReg) (a : GReg) (s : State) : Host.Outcome State Fault Refusal :=
  .next (s.alu c (encR 0x23 d a 0 0 3) [gKey a] [vKey d] fun k => k.setV d (ofLanes 16 8 fun _i => (k.gr a).toNat))

/-- VSPLAT.W (R201). -/
def execSVsplatW (c : CoreId) (d : VReg) (a : GReg) (s : State) : Host.Outcome State Fault Refusal :=
  .next (s.alu c (encR 0x23 d a 0 0 4) [gKey a] [vKey d] fun k => k.setV d (ofLanes 32 4 fun _i => (k.gr a).toNat))

/-- VEXT.H (R201). -/
def execSVextH (c : CoreId) (d : GReg) (a : VReg) (b : Fin 8) (s : State) : Host.Outcome State Fault Refusal :=
  .next (s.alu c (encR 0x23 d a b 0 5) [vKey a] [gKey d] fun k => k.setG d (BitVec.ofNat 64 (lane 16 (k.vr a) b.val)))

/-- VINS.H: the other lanes are unchanged (R201). -/
def execSVinsH (c : CoreId) (d : VReg) (a : GReg) (b : Fin 8) (s : State) : Host.Outcome State Fault Refusal :=
  .next (s.alu c (encR 0x23 d a b 0 6) [gKey a] [vKey d] fun k =>
    k.setV d (ofLanes 16 8 fun i => if i = b.val then (k.gr a).toNat else lane 16 (k.vr d) i))

/-- VPACK.B rounds L16 lanes to bytes (R201). -/
def execSVpackB (c : CoreId) (d a b : VReg) (s : State) : Host.Outcome State Fault Refusal :=
  .next (s.alu c (encR 0x23 d a b 0 7) [vKey a, vKey b] [vKey d] fun k =>
    k.setV d (ofLanes 8 16 fun i => (2 * (if i < 8 then lane 16 (k.vr a) i else lane 16 (k.vr b) (i - 8)) + 257) / 514))

/-- VUNPK.LO (R201). -/
def execSVunpkLo (c : CoreId) (d a : VReg) (s : State) : Host.Outcome State Fault Refusal :=
  .next (s.alu c (encR 0x23 d a 0 0 8) [vKey a] [vKey d] fun k => k.setV d (ofLanes 16 8 fun i => lane 8 (k.vr a) i * 257))

/-- VUNPK.HI (R201). -/
def execSVunpkHi (c : CoreId) (d a : VReg) (s : State) : Host.Outcome State Fault Refusal :=
  .next (s.alu c (encR 0x23 d a 0 0 9) [vKey a] [vKey d] fun k => k.setV d (ofLanes 16 8 fun i => lane 8 (k.vr a) (8 + i) * 257))

/-- VMOVG (R201). -/
def execSVmovg (c : CoreId) (d : VReg) (a b : GReg) (s : State) : Host.Outcome State Fault Refusal :=
  .next (s.alu c (encR 0x23 d a b 0 0xA) [gKey a, gKey b] [vKey d] fun k => k.setV d (k.gr b ++ k.gr a))

/-- VEXT.D (R201). -/
def execSVextD (c : CoreId) (d : GReg) (a : VReg) (b : Fin 2) (s : State) : Host.Outcome State Fault Refusal :=
  .next (s.alu c (encR 0x23 d a b 0 0xB) [vKey a] [gKey d] fun k => k.setG d ((k.vr a).extractLsb' (64 * b.val) 64))

/-- MIX.3 and MIX.4: an s3.12 matrix in the pair v[b], v[b+1], which must be even (R204). -/
def execSMix (c : CoreId) (d a b : VReg) (p : PReg) (four : Bool) (s : State) : Host.Outcome State Fault Refusal :=
  let w := encR 0x25 d a b p (b2n four)
  if b.val % 2 = 1 then .next (s.illegal c w)
  else .next (s.alu c w [vKey a, vKey b, vKey (vNext b)] [vKey d] fun k =>
    k.putLanes 16 p d (mixLane (if four then 4 else 3) (k.vr a) (k.vr (vNext b) ++ k.vr b)))

/-- BLEND with the opacity in v[o] (R205). -/
def execSBlend (c : CoreId) (d a b o : VReg) (p : PReg) (mode : Fin 4) (s : State) : Host.Outcome State Fault Refusal :=
  .next (s.alu c (encR 0x26 d a b p (mode + o * 4)) [vKey a, vKey b, vKey o] [vKey d] fun k =>
    k.putLanes 16 p d fun i => blendOp mode.val (lane 16 (k.vr a) i) (lane 16 (k.vr b) i) (lane 16 (k.vr o) i))

/-- FADE with the progress in v[t]; curve 3 is reserved (R206). -/
def execSFade (c : CoreId) (d a b t : VReg) (p : PReg) (curve : Fin 4) (s : State) : Host.Outcome State Fault Refusal :=
  let w := encR 0x27 d a b p (curve + t * 4)
  if curve.val = 3 then .next (s.illegal c w)
  else .next (s.alu c w [vKey a, vKey b, vKey t] [vKey d] fun k =>
    k.putLanes 16 p d fun i => fadeOp curve.val (lane 16 (k.vr a) i) (lane 16 (k.vr b) i) (lane 16 (k.vr t) i))

end Sys2Proof.Machine
end

