-- ==== Sys2Proof/Machine/SelmirMem.lean ====
section
/-!
DEFINITION. Loads, stores, atomics and LUT of the Selmir cores (04_selmir_instructions.md R188 to R192, R202, R203;
03_selmir_machine.md R127, R140, R157; 18_faults_telemetry.md R689, R700, R701, R751).
-/
namespace Sys2Proof.Machine

open Sys2Proof

namespace State

/-- The agent that a supervisor core is on the bus. -/
def supAgent (c : Nat) : Agent := .sup (Fin.ofNat 4 (supNo c))

/-- g[a] + sext(off) × scale (R188, R189). -/
def effAddr (k : Core) (a : GReg) (off : BitVec 13) (scale : Int) : Nat := (k.gr a + BitVec.ofInt 64 (off.toInt * scale)).toNat

/-- An access of a supervisor core that completes with a bus error is a precise exception (R37, R192, R689, R743); a field core
raises UNMAPPED or ACCESS (R140). -/
def badAccess (s : State) (c : Nat) (w : Word) (a : Nat) (write : Bool) : State :=
  if isField c then s.exc c (badRegion a) w a
  else s.supExc c Code.SYS_BUS_ERR a [BitVec.ofNat 32 a, BitVec.ofNat 32 (a / 2 ^ 32 % 256 + b2n write * 256)]

/-- What the ECC check of a read finds: 0 nothing new, 1 a corrected error, 2 an uncorrectable error (R700, R701). -/
def eccFind (s : State) (c a n : Nat) (ecc : Fin 3) : State :=
  let s := if ecc = 1 then s.reportCe a (coreInstOf c) else if ecc = 2 then s.setUe a true else s
  s.noteUe (coreInstOf c) a n

/-- A load of plain memory leaves: n bytes read now, to be written to the destination when it returns. `f` extends them. Data
with an uncorrectable error is a free value, and its register is poisoned (R157, log entry 2). -/
def loadOut (s : State) (c a n : Nat) (ecc : Fin 3) (vec : Bool) (dest : Nat) (mask : BitVec 8) (f : Nat → Vec) : State :=
  let s := s.eccFind c a n ecc
  let bad := s.hasUe a n
  let v : Vec := if bad then s.free 128 else f (s.memNat a n)
  let s := if bad then s.drawn else s
  s.updCore c fun k => { k with loads := k.loads ++ [LoadOut.mk vec dest (v) mask a bad] }.next

/-- A 32-bit read of the control registers or a ring window by a supervisor core; none where it completes with a bus error
(R8, R10, R34, R543). -/
def ioRead (s : State) (c a n : Nat) : Option (Word × State) :=
  let ag := supAgent c
  if n ≠ 4 then none
  else match regionOf a with
    | .ctrl => if mayAccess ag (a - ctrlBase) false then some (s.regRead (agIdx ag) (a - ctrlBase)) else none
    | .ringWin => some (s.winRead ag (a - 0x1200000000))
    | _ => none

/-- A 32-bit write of the same. -/
def ioWrite (s : State) (c a n : Nat) (v : Word) : Option State :=
  let ag := supAgent c
  if n ≠ 4 then none
  else match regionOf a with
    | .ctrl => if mayAccess ag (a - ctrlBase) true then some (s.regWrite ag (a - ctrlBase) v) else none
    | .ringWin => some (s.winWrite ag (a - 0x1200000000) v)
    | _ => none

/-- LD of n bytes into g[d] (R140, R188). A core with 8 accesses outstanding waits (R32). -/
def load (s : State) (c : CoreId) (w : Word) (d a : GReg) (off : BitVec 13) (n : Nat) (ecc : Fin 3) (f : Nat → DWord) : State :=
  s.issue c w [gKey a] [gKey d] fun s =>
    let k := s.core c.val
    let addr := effAddr k a off 1
    if 8 ≤ outCount k then s
    else if addr % n ≠ 0 then s.exc c.val Code.TILE_ALIGN w addr
    else if plainOk c.val addr n false then s.loadOut c.val addr n ecc false d.val 0xFF fun x => (f x).setWidth 128
    else match (if isField c.val then none else s.ioRead c.val addr n) with
      | some (v, s) => s.updCore c.val fun k =>
        { k with loads := k.loads ++ [LoadOut.mk false d.val ((f v.toNat).setWidth 128) 0xFF addr false] }.next
      | none => s.badAccess c.val w addr false

/-- ST of the n low bytes of g[t] (R140, R188). -/
def storeG (s : State) (c : CoreId) (w : Word) (t a : GReg) (off : BitVec 13) (n : Nat) : State :=
  s.issue c w [gKey a, gKey t] [] fun s =>
    let k := s.core c.val
    let addr := effAddr k a off 1
    if addr % n ≠ 0 then s.exc c.val Code.TILE_ALIGN w addr
    else if plainOk c.val addr n true then
      (s.store (coreInstOf c.val) addr (leBytes n (k.gr t).toNat)).updCore c.val Core.next
    else match (if isField c.val then none else s.ioWrite c.val addr n ((k.gr t).setWidth 32)) with
      | some s => s.updCore c.val Core.next
      | none => s.badAccess c.val w addr true

/-- ATOM at g[a], governed by bit 0 of p: `f old` is the value written, if one is (R191). -/
def atomic (s : State) (c : CoreId) (w : Word) (d a b : GReg) (p : PReg) (n : Nat) (cas : Bool) (ecc : Fin 3)
    (f : Core → Nat → Option Nat) : State :=
  if !(s.core c.val).p0 p then s.alu c w [] [] fun k => k
  else s.issue c w ([gKey a, gKey b] ++ (if cas then [gKey d] else [])) [gKey d] fun s =>
    let k := s.core c.val
    let addr := (k.gr a).toNat
    if 8 ≤ outCount k then s
    else if addr % n ≠ 0 then s.exc c.val Code.TILE_ALIGN w addr
    else if !plainOk c.val addr n true then s.exc c.val Code.TILE_ACCESS w addr
    else
      let s := s.eccFind c.val addr n ecc
      let bad := s.hasUe addr n
      let old : Nat := if bad then (s.free (8 * n)).toNat else s.memNat addr n
      let s := if bad then s.drawn else s
      let s := match f k old with
        | some v => s.store (coreInstOf c.val) addr (leBytes n v)
        | none => s
      s.updCore c.val fun k => { k with loads := k.loads ++ [LoadOut.mk false d.val (BitVec.ofNat 128 old) 0xFF addr bad] }.next

end State

/-- Entry k of a table of halfwords. -/
def lutEntry (s : State) (t k : Nat) : Nat := s.memNat (t + 2 * k) 2

/-- One lane of LUT: N is 4,096 or 256 (R202). -/
def lutLane (s : State) (t : Nat) (big linear : Bool) (x : Nat) : Nat :=
  let sh := if big then 4 else 8
  let k : Nat := x / 2 ^ sh
  let f : Nat := x % 2 ^ sh
  let lo := lutEntry s t k
  if linear then ((lo : Int) + fdiv (2 * ((lutEntry s t (k + 1) : Int) - lo) * f + ((2 ^ sh : Nat) : Int)) (2 * 2 ^ sh)).toNat else lo

/-- First byte and length of the entries that one lane reads. -/
def lutSpan (t : Nat) (big linear : Bool) (x : Nat) : Nat × Nat :=
  (t + 2 * (x / 2 ^ (if big then 4 else 8)), if linear then 4 else 2)

/-- The table lies where R203 allows it. -/
def lutOk (c t n : Nat) : Bool :=
  if isField c then
    decide (0x1000000000 + c / 16 * 0x800000 ≤ t) && decide (t + n ≤ 0x1000000000 + (c / 16 + 1) * 0x800000)
      && State.plainOk c t n false
  else State.supMemOk c t n true

/-! ### The instructions -/

/-- LDB. -/
def execSLdb (c : CoreId) (d a : GReg) (off : BitVec 13) (ecc : Fin 3) (s : State) : Host.Outcome State Fault Refusal :=
  .next (s.load c (encM 0x12 d a 0 off.toNat) d a off 1 ecc fun x => (BitVec.ofNat 8 x).signExtend 64)

/-- LDBU. -/
def execSLdbu (c : CoreId) (d a : GReg) (off : BitVec 13) (ecc : Fin 3) (s : State) : Host.Outcome State Fault Refusal :=
  .next (s.load c (encM 0x12 d a 1 off.toNat) d a off 1 ecc fun x => BitVec.ofNat 64 x)

/-- LDH. -/
def execSLdh (c : CoreId) (d a : GReg) (off : BitVec 13) (ecc : Fin 3) (s : State) : Host.Outcome State Fault Refusal :=
  .next (s.load c (encM 0x12 d a 2 off.toNat) d a off 2 ecc fun x => (BitVec.ofNat 16 x).signExtend 64)

/-- LDHU. -/
def execSLdhu (c : CoreId) (d a : GReg) (off : BitVec 13) (ecc : Fin 3) (s : State) : Host.Outcome State Fault Refusal :=
  .next (s.load c (encM 0x12 d a 3 off.toNat) d a off 2 ecc fun x => BitVec.ofNat 64 x)

/-- LDW. -/
def execSLdw (c : CoreId) (d a : GReg) (off : BitVec 13) (ecc : Fin 3) (s : State) : Host.Outcome State Fault Refusal :=
  .next (s.load c (encM 0x12 d a 4 off.toNat) d a off 4 ecc fun x => (BitVec.ofNat 32 x).signExtend 64)

/-- LDWU. -/
def execSLdwu (c : CoreId) (d a : GReg) (off : BitVec 13) (ecc : Fin 3) (s : State) : Host.Outcome State Fault Refusal :=
  .next (s.load c (encM 0x12 d a 5 off.toNat) d a off 4 ecc fun x => BitVec.ofNat 64 x)

/-- LDD. -/
def execSLdd (c : CoreId) (d a : GReg) (off : BitVec 13) (ecc : Fin 3) (s : State) : Host.Outcome State Fault Refusal :=
  .next (s.load c (encM 0x12 d a 6 off.toNat) d a off 8 ecc fun x => BitVec.ofNat 64 x)

/-- STB. -/
def execSStb (c : CoreId) (t a : GReg) (off : BitVec 13) (s : State) : Host.Outcome State Fault Refusal :=
  .next (s.storeG c (encM 0x13 t a 0 off.toNat) t a off 1)

/-- STH. -/
def execSSth (c : CoreId) (t a : GReg) (off : BitVec 13) (s : State) : Host.Outcome State Fault Refusal :=
  .next (s.storeG c (encM 0x13 t a 2 off.toNat) t a off 2)

/-- STW. -/
def execSStw (c : CoreId) (t a : GReg) (off : BitVec 13) (s : State) : Host.Outcome State Fault Refusal :=
  .next (s.storeG c (encM 0x13 t a 4 off.toNat) t a off 4)

/-- STD. -/
def execSStd (c : CoreId) (t a : GReg) (off : BitVec 13) (s : State) : Host.Outcome State Fault Refusal :=
  .next (s.storeG c (encM 0x13 t a 6 off.toNat) t a off 8)

/-- VLD of the active lanes (R189). -/
def execSVld (c : CoreId) (d : VReg) (a : GReg) (p : PReg) (off : BitVec 13) (ecc : Fin 3) (s : State) : Host.Outcome State Fault Refusal :=
  let w := encM 0x14 d a p off.toNat
  .next (s.issue c w [gKey a] [vKey d] fun s =>
    let k := s.core c.val
    let addr := State.effAddr k a off 16
    if 8 ≤ State.outCount k then s
    else if addr % 16 ≠ 0 then s.exc c.val Code.TILE_ALIGN w addr
    else if State.plainOk c.val addr 16 false then s.loadOut c.val addr 16 ecc true d.val (k.pr p) fun x => BitVec.ofNat 128 x
    else s.badAccess c.val w addr false)

/-- VST of the active lanes (R189, R190). -/
def execSVst (c : CoreId) (t : VReg) (a : GReg) (p : PReg) (off : BitVec 13) (s : State) : Host.Outcome State Fault Refusal :=
  let w := encM 0x15 t a p off.toNat
  .next (s.issue c w [gKey a, vKey t] [] fun s =>
    let k := s.core c.val
    let addr := State.effAddr k a off 16
    if addr % 16 ≠ 0 then s.exc c.val Code.TILE_ALIGN w addr
    else if State.plainOk c.val addr 16 true then (s.storeLanes c.val addr (k.pr p) (k.vr t)).updCore c.val Core.next
    else s.badAccess c.val w addr true)

/-- AADD.W. -/
def execSAaddW (c : CoreId) (d a b : GReg) (p : PReg) (ecc : Fin 3) (s : State) : Host.Outcome State Fault Refusal :=
  .next (s.atomic c (encR 0x16 d a b p 0) d a b p 4 false ecc fun k old => some (old + (k.gr b).toNat % 2 ^ 32))

/-- AADD.D. -/
def execSAaddD (c : CoreId) (d a b : GReg) (p : PReg) (ecc : Fin 3) (s : State) : Host.Outcome State Fault Refusal :=
  .next (s.atomic c (encR 0x16 d a b p 1) d a b p 8 false ecc fun k old => some (old + (k.gr b).toNat))

/-- ASWP.W. -/
def execSAswpW (c : CoreId) (d a b : GReg) (p : PReg) (ecc : Fin 3) (s : State) : Host.Outcome State Fault Refusal :=
  .next (s.atomic c (encR 0x16 d a b p 2) d a b p 4 false ecc fun k _ => some (k.gr b).toNat)

/-- ASWP.D. -/
def execSAswpD (c : CoreId) (d a b : GReg) (p : PReg) (ecc : Fin 3) (s : State) : Host.Outcome State Fault Refusal :=
  .next (s.atomic c (encR 0x16 d a b p 3) d a b p 8 false ecc fun k _ => some (k.gr b).toNat)

/-- ACAS.W. -/
def execSAcasW (c : CoreId) (d a b : GReg) (p : PReg) (ecc : Fin 3) (s : State) : Host.Outcome State Fault Refusal :=
  .next (s.atomic c (encR 0x16 d a b p 4) d a b p 4 true ecc fun k old =>
    if old = (k.gr d).toNat % 2 ^ 32 then some (k.gr b).toNat else none)

/-- ACAS.D. -/
def execSAcasD (c : CoreId) (d a b : GReg) (p : PReg) (ecc : Fin 3) (s : State) : Host.Outcome State Fault Refusal :=
  .next (s.atomic c (encR 0x16 d a b p 5) d a b p 8 true ecc fun k old =>
    if old = (k.gr d).toNat then some (k.gr b).toNat else none)

/-- LUT: `big` is fn [0], `linear` fn [1] (R202, R203). An uncorrectable error in an entry read poisons v[d] with a free value. -/
def execSLut (c : CoreId) (d a : VReg) (b : GReg) (p : PReg) (big linear : Bool) (s : State) : Host.Outcome State Fault Refusal :=
  let w := encR 0x24 d a b p (b2n big + 2 * b2n linear)
  .next (s.issue c w [vKey a, gKey b] [vKey d] fun s =>
    let k := s.core c.val
    let t := (k.gr b).toNat
    let lanes := (List.range 8).filter fun i => laneOn 16 (k.pr p) i
    let bads := lanes.filter fun i => let x := lutSpan t big linear (lane 16 (k.vr a) i); s.hasUe x.1 x.2
    if t % 16 ≠ 0 then s.exc c.val Code.TILE_ALIGN w t
    else if !lutOk c.val t (if big then 8194 else 514) then s.exc c.val Code.TILE_ACCESS w t
    else if bads.isEmpty then s.updCore c.val fun k =>
      (k.putLanes 16 p d fun i => lutLane s t big linear (lane 16 (k.vr a) i)).next
    else
      let s := bads.foldl (fun s i => let x := lutSpan t big linear (lane 16 (k.vr a) i); s.noteUe (coreInstOf c.val) x.1 x.2) s
      let v := s.free 128
      s.drawn.updCore c.val fun k =>
        let k := k.putLanes 16 p d fun i => lane 16 v i
        { k with poison := k.poison.put none (vKey d) (some t) }.next)

end Sys2Proof.Machine
end

