-- ==== Sys2Proof/Machine/Arms.lean ====
section
/-!
DEFINITION. Every family of meanings, for the dispatch.
-/
end

