-- ==== Sys2Proof/Machine/Dispatch.lean ====
section
/-!
DEFINITION. One arm per command: each calls its meaning.
-/
namespace Sys2Proof.Machine

def exec (i : Instr) (s : State) : Host.Outcome State Fault Refusal :=
  match i with
  | .registerWrite ag a v => Sys2Proof.Machine.execRegisterWrite ag a v s
  | .pairLowRead ag a => Sys2Proof.Machine.execPairLowRead ag a s
  | .pairLowWrite ag a v => Sys2Proof.Machine.execPairLowWrite ag a v s
  | .pairHighWrite ag a v => Sys2Proof.Machine.execPairHighWrite ag a v s
  | .siderealTick n => Sys2Proof.Machine.execSiderealTick n s
  | .monoTick n => Sys2Proof.Machine.execMonoTick n s
  | .ptpClockTick n => Sys2Proof.Machine.execPtpClockTick n s
  | .ptpSampleTick => Sys2Proof.Machine.execPtpSampleTick s
  | .siderealLockChange => Sys2Proof.Machine.execSiderealLockChange s
  | .ltcSyncWord ok hh mm ss ff => Sys2Proof.Machine.execLtcSyncWord ok hh mm ss ff s
  | .mediaRtpPacket uplink stream rtp agoNs => Sys2Proof.Machine.execMediaRtpPacket uplink stream rtp agoNs s
  | .mainsZcEdge rising => Sys2Proof.Machine.execMainsZcEdge rising s
  | .ppsInEdge rising => Sys2Proof.Machine.execPpsInEdge rising s
  | .ppsEdgeMissing => Sys2Proof.Machine.execPpsEdgeMissing s
  | .referenceLossTimeout => Sys2Proof.Machine.execReferenceLossTimeout s
  | .referenceQualified => Sys2Proof.Machine.execReferenceQualified s
  | .sidCtrlWrite ag v => Sys2Proof.Machine.execSidCtrlWrite ag v s
  | .sidJam ag => Sys2Proof.Machine.execSidJam ag s
  | .sidApply ag => Sys2Proof.Machine.execSidApply ag s
  | .siderealStep => Sys2Proof.Machine.execSiderealStep s
  | .sidIncNomWrite ag v => Sys2Proof.Machine.execSidIncNomWrite ag v s
  | .ptpSet ag => Sys2Proof.Machine.execPtpSet ag s
  | .ptpStep ag => Sys2Proof.Machine.execPtpStep ag s
  | .ptpAdjWrite ag v => Sys2Proof.Machine.execPtpAdjWrite ag v s
  | .ptpTimeNsRead ag => Sys2Proof.Machine.execPtpTimeNsRead ag s
  | .ephPostWordWrite ag n v => Sys2Proof.Machine.execEphPostWordWrite ag n v s
  | .ephPost ag v => Sys2Proof.Machine.execEphPost ag v s
  | .ephCancel ag tag => Sys2Proof.Machine.execEphCancel ag tag s
  | .ephClear ag => Sys2Proof.Machine.execEphClear ag s
  | .ephClearDone => Sys2Proof.Machine.execEphClearDone s
  | .entryFire => Sys2Proof.Machine.execEntryFire s
  | .ringPost => Sys2Proof.Machine.execRingPost s
  | .gpioAction => Sys2Proof.Machine.execGpioAction s
  | .launch => Sys2Proof.Machine.execLaunch s
  | .sEnd c => Sys2Proof.Machine.execSEnd c s
  | .fieldException t c w => Sys2Proof.Machine.execFieldException t c w s
  | .budgetExpiry t c => Sys2Proof.Machine.execBudgetExpiry t c s
  | .tileAbort ag t v => Sys2Proof.Machine.execTileAbort ag t v s
  | .tileRelease ag t v => Sys2Proof.Machine.execTileRelease ag t v s
  | .tileCtrlWrite ag t v => Sys2Proof.Machine.execTileCtrlWrite ag t v s
  | .tileIcinv ag t => Sys2Proof.Machine.execTileIcinv ag t s
  | .icinvDone t => Sys2Proof.Machine.execIcinvDone t s
  | .supStart ag n => Sys2Proof.Machine.execSupStart ag n s
  | .supStop ag n => Sys2Proof.Machine.execSupStop ag n s
  | .supException n w => Sys2Proof.Machine.execSupException n w s
  | .ringInterrupt n => Sys2Proof.Machine.execRingInterrupt n s
  | .loadReturn c n => Sys2Proof.Machine.execLoadReturn c n s
  | .remoteResponse n => Sys2Proof.Machine.execRemoteResponse n s
  | .remoteReissue n => Sys2Proof.Machine.execRemoteReissue n s
  | .waitphRelease c => Sys2Proof.Machine.execWaitphRelease c s
  | .barrierComplete c => Sys2Proof.Machine.execBarrierComplete c s
  | .fenceComplete c => Sys2Proof.Machine.execFenceComplete c s
  | .sAdd c d a b p => Sys2Proof.Machine.execSAdd c d a b p s
  | .sSub c d a b p => Sys2Proof.Machine.execSSub c d a b p s
  | .sAnd c d a b p => Sys2Proof.Machine.execSAnd c d a b p s
  | .sOr c d a b p => Sys2Proof.Machine.execSOr c d a b p s
  | .sXor c d a b p => Sys2Proof.Machine.execSXor c d a b p s
  | .sAndn c d a b p => Sys2Proof.Machine.execSAndn c d a b p s
  | .sShl c d a b p => Sys2Proof.Machine.execSShl c d a b p s
  | .sShr c d a b p => Sys2Proof.Machine.execSShr c d a b p s
  | .sSra c d a b p => Sys2Proof.Machine.execSSra c d a b p s
  | .sRor c d a b p => Sys2Proof.Machine.execSRor c d a b p s
  | .sMin c d a b p => Sys2Proof.Machine.execSMin c d a b p s
  | .sMax c d a b p => Sys2Proof.Machine.execSMax c d a b p s
  | .sMinu c d a b p => Sys2Proof.Machine.execSMinu c d a b p s
  | .sMaxu c d a b p => Sys2Proof.Machine.execSMaxu c d a b p s
  | .sSel c d a b p => Sys2Proof.Machine.execSSel c d a b p s
  | .sClz c d a p => Sys2Proof.Machine.execSClz c d a p s
  | .sPopc c d a p => Sys2Proof.Machine.execSPopc c d a p s
  | .sSextB c d a p => Sys2Proof.Machine.execSSextB c d a p s
  | .sSextH c d a p => Sys2Proof.Machine.execSSextH c d a p s
  | .sSextW c d a p => Sys2Proof.Machine.execSSextW c d a p s
  | .sZextB c d a p => Sys2Proof.Machine.execSZextB c d a p s
  | .sZextH c d a p => Sys2Proof.Machine.execSZextH c d a p s
  | .sZextW c d a p => Sys2Proof.Machine.execSZextW c d a p s
  | .sAddw c d a b p => Sys2Proof.Machine.execSAddw c d a b p s
  | .sAddi c d a imm => Sys2Proof.Machine.execSAddi c d a imm s
  | .sAndi c d a imm => Sys2Proof.Machine.execSAndi c d a imm s
  | .sOri c d a imm => Sys2Proof.Machine.execSOri c d a imm s
  | .sXori c d a imm => Sys2Proof.Machine.execSXori c d a imm s
  | .sShi c d a kind n => Sys2Proof.Machine.execSShi c d a kind n s
  | .sMul c d a b p => Sys2Proof.Machine.execSMul c d a b p s
  | .sMulh c d a b p => Sys2Proof.Machine.execSMulh c d a b p s
  | .sMulhu c d a b p => Sys2Proof.Machine.execSMulhu c d a b p s
  | .sDiv c d a b p => Sys2Proof.Machine.execSDiv c d a b p s
  | .sDivu c d a b p => Sys2Proof.Machine.execSDivu c d a b p s
  | .sRem c d a b p => Sys2Proof.Machine.execSRem c d a b p s
  | .sRemu c d a b p => Sys2Proof.Machine.execSRemu c d a b p s
  | .sMovl c d imm => Sys2Proof.Machine.execSMovl c d imm s
  | .sMovh c d hw imm => Sys2Proof.Machine.execSMovh c d hw imm s
  | .sCmp c d a b p cond => Sys2Proof.Machine.execSCmp c d a b p cond s
  | .sCmpi c d cond a imm => Sys2Proof.Machine.execSCmpi c d cond a imm s
  | .sVcmp c d a b p fp wide cond => Sys2Proof.Machine.execSVcmp c d a b p fp wide cond s
  | .sPand c d a b => Sys2Proof.Machine.execSPand c d a b s
  | .sPor c d a b => Sys2Proof.Machine.execSPor c d a b s
  | .sPxor c d a b => Sys2Proof.Machine.execSPxor c d a b s
  | .sPandn c d a b => Sys2Proof.Machine.execSPandn c d a b s
  | .sPnot c d a => Sys2Proof.Machine.execSPnot c d a s
  | .sPmovg c d a => Sys2Proof.Machine.execSPmovg c d a s
  | .sGmovp c d a => Sys2Proof.Machine.execSGmovp c d a s
  | .sB c off => Sys2Proof.Machine.execSB c off s
  | .sBl c off => Sys2Proof.Machine.execSBl c off s
  | .sBc c p test off => Sys2Proof.Machine.execSBc c p test off s
  | .sDbnz c g off => Sys2Proof.Machine.execSDbnz c g off s
  | .sJr c a p => Sys2Proof.Machine.execSJr c a p s
  | .sJlr c d a p => Sys2Proof.Machine.execSJlr c d a p s
  | .sLdb c d a off ecc => Sys2Proof.Machine.execSLdb c d a off ecc s
  | .sLdbu c d a off ecc => Sys2Proof.Machine.execSLdbu c d a off ecc s
  | .sLdh c d a off ecc => Sys2Proof.Machine.execSLdh c d a off ecc s
  | .sLdhu c d a off ecc => Sys2Proof.Machine.execSLdhu c d a off ecc s
  | .sLdw c d a off ecc => Sys2Proof.Machine.execSLdw c d a off ecc s
  | .sLdwu c d a off ecc => Sys2Proof.Machine.execSLdwu c d a off ecc s
  | .sLdd c d a off ecc => Sys2Proof.Machine.execSLdd c d a off ecc s
  | .sStb c t a off => Sys2Proof.Machine.execSStb c t a off s
  | .sSth c t a off => Sys2Proof.Machine.execSSth c t a off s
  | .sStw c t a off => Sys2Proof.Machine.execSStw c t a off s
  | .sStd c t a off => Sys2Proof.Machine.execSStd c t a off s
  | .sVld c d a p off ecc => Sys2Proof.Machine.execSVld c d a p off ecc s
  | .sVst c t a p off => Sys2Proof.Machine.execSVst c t a p off s
  | .sAaddW c d a b p ecc => Sys2Proof.Machine.execSAaddW c d a b p ecc s
  | .sAaddD c d a b p ecc => Sys2Proof.Machine.execSAaddD c d a b p ecc s
  | .sAswpW c d a b p ecc => Sys2Proof.Machine.execSAswpW c d a b p ecc s
  | .sAswpD c d a b p ecc => Sys2Proof.Machine.execSAswpD c d a b p ecc s
  | .sAcasW c d a b p ecc => Sys2Proof.Machine.execSAcasW c d a b p ecc s
  | .sAcasD c d a b p ecc => Sys2Proof.Machine.execSAcasD c d a b p ecc s
  | .sRldw c d a b p => Sys2Proof.Machine.execSRldw c d a b p s
  | .sRldd c d a b p => Sys2Proof.Machine.execSRldd c d a b p s
  | .sRvld c d a b p => Sys2Proof.Machine.execSRvld c d a b p s
  | .sRstw c d a b p => Sys2Proof.Machine.execSRstw c d a b p s
  | .sRstd c d a b p => Sys2Proof.Machine.execSRstd c d a b p s
  | .sRvst c d a b p => Sys2Proof.Machine.execSRvst c d a b p s
  | .sRfaddw c d a b p => Sys2Proof.Machine.execSRfaddw c d a b p s
  | .sRfaddd c d a b p => Sys2Proof.Machine.execSRfaddd c d a b p s
  | .sRput c d a b p m => Sys2Proof.Machine.execSRput c d a b p m s
  | .sRmput c d a b p m => Sys2Proof.Machine.execSRmput c d a b p m s
  | .sVadd c d a b p wide => Sys2Proof.Machine.execSVadd c d a b p wide s
  | .sVsub c d a b p wide => Sys2Proof.Machine.execSVsub c d a b p wide s
  | .sVaddL c d a b p wide => Sys2Proof.Machine.execSVaddL c d a b p wide s
  | .sVsubL c d a b p wide => Sys2Proof.Machine.execSVsubL c d a b p wide s
  | .sVadds c d a b p wide => Sys2Proof.Machine.execSVadds c d a b p wide s
  | .sVsubs c d a b p wide => Sys2Proof.Machine.execSVsubs c d a b p wide s
  | .sVmul c d a b p wide => Sys2Proof.Machine.execSVmul c d a b p wide s
  | .sVmulL c d a b p wide => Sys2Proof.Machine.execSVmulL c d a b p wide s
  | .sVmulQ12 c d a b p wide => Sys2Proof.Machine.execSVmulQ12 c d a b p wide s
  | .sVmulU15 c d a b p wide => Sys2Proof.Machine.execSVmulU15 c d a b p wide s
  | .sVminu c d a b p wide => Sys2Proof.Machine.execSVminu c d a b p wide s
  | .sVmaxu c d a b p wide => Sys2Proof.Machine.execSVmaxu c d a b p wide s
  | .sVmins c d a b p wide => Sys2Proof.Machine.execSVmins c d a b p wide s
  | .sVmaxs c d a b p wide => Sys2Proof.Machine.execSVmaxs c d a b p wide s
  | .sVand c d a b p wide => Sys2Proof.Machine.execSVand c d a b p wide s
  | .sVor c d a b p wide => Sys2Proof.Machine.execSVor c d a b p wide s
  | .sVxor c d a b p wide => Sys2Proof.Machine.execSVxor c d a b p wide s
  | .sVshl c d a b p wide => Sys2Proof.Machine.execSVshl c d a b p wide s
  | .sVshr c d a b p wide => Sys2Proof.Machine.execSVshr c d a b p wide s
  | .sVsra c d a b p wide => Sys2Proof.Machine.execSVsra c d a b p wide s
  | .sVfadd c d a b p => Sys2Proof.Machine.execSVfadd c d a b p s
  | .sVfsub c d a b p => Sys2Proof.Machine.execSVfsub c d a b p s
  | .sVfmul c d a b p => Sys2Proof.Machine.execSVfmul c d a b p s
  | .sVfma c d a b p => Sys2Proof.Machine.execSVfma c d a b p s
  | .sVfmin c d a b p => Sys2Proof.Machine.execSVfmin c d a b p s
  | .sVfmax c d a b p => Sys2Proof.Machine.execSVfmax c d a b p s
  | .sVfabs c d a p => Sys2Proof.Machine.execSVfabs c d a p s
  | .sVfneg c d a p => Sys2Proof.Machine.execSVfneg c d a p s
  | .sL16F16 c d a p => Sys2Proof.Machine.execSL16F16 c d a p s
  | .sF16L16 c d a p => Sys2Proof.Machine.execSF16L16 c d a p s
  | .sQ12F16 c d a p => Sys2Proof.Machine.execSQ12F16 c d a p s
  | .sF16Q12 c d a p => Sys2Proof.Machine.execSF16Q12 c d a p s
  | .sU15F16 c d a p => Sys2Proof.Machine.execSU15F16 c d a p s
  | .sF16U15 c d a p => Sys2Proof.Machine.execSF16U15 c d a p s
  | .sL16U15 c d a p => Sys2Proof.Machine.execSL16U15 c d a p s
  | .sU15L16 c d a p => Sys2Proof.Machine.execSU15L16 c d a p s
  | .sVmov c d a p => Sys2Proof.Machine.execSVmov c d a p s
  | .sVsel c d a b p => Sys2Proof.Machine.execSVsel c d a b p s
  | .sVperm c d a b => Sys2Proof.Machine.execSVperm c d a b s
  | .sVsplatH c d a => Sys2Proof.Machine.execSVsplatH c d a s
  | .sVsplatW c d a => Sys2Proof.Machine.execSVsplatW c d a s
  | .sVextH c d a b => Sys2Proof.Machine.execSVextH c d a b s
  | .sVinsH c d a b => Sys2Proof.Machine.execSVinsH c d a b s
  | .sVpackB c d a b => Sys2Proof.Machine.execSVpackB c d a b s
  | .sVunpkLo c d a => Sys2Proof.Machine.execSVunpkLo c d a s
  | .sVunpkHi c d a => Sys2Proof.Machine.execSVunpkHi c d a s
  | .sVmovg c d a b => Sys2Proof.Machine.execSVmovg c d a b s
  | .sVextD c d a b => Sys2Proof.Machine.execSVextD c d a b s
  | .sLut c d a b p big linear => Sys2Proof.Machine.execSLut c d a b p big linear s
  | .sMix c d a b p four => Sys2Proof.Machine.execSMix c d a b p four s
  | .sBlend c d a b o p mode => Sys2Proof.Machine.execSBlend c d a b o p mode s
  | .sFade c d a b t p curve => Sys2Proof.Machine.execSFade c d a b t p curve s
  | .sRpush c d v ring rr gr => Sys2Proof.Machine.execSRpush c d v ring rr gr s
  | .sRpop c d v ring rr gr => Sys2Proof.Machine.execSRpop c d v ring rr gr s
  | .sRdrop c d ring rr gr => Sys2Proof.Machine.execSRdrop c d ring rr gr s
  | .sRdph c d => Sys2Proof.Machine.execSRdph c d s
  | .sWaitph c a => Sys2Proof.Machine.execSWaitph c a s
  | .sWaitphK c a => Sys2Proof.Machine.execSWaitphK c a s
  | .sSched c d a => Sys2Proof.Machine.execSSched c d a s
  | .sPst c d a b p => Sys2Proof.Machine.execSPst c d a b p s
  | .sPin c d a => Sys2Proof.Machine.execSPin c d a s
  | .sUnpin c d a => Sys2Proof.Machine.execSUnpin c d a s
  | .sNop c => Sys2Proof.Machine.execSNop c s
  | .sFenceT c => Sys2Proof.Machine.execSFenceT c s
  | .sFenceD c => Sys2Proof.Machine.execSFenceD c s
  | .sFenceF c => Sys2Proof.Machine.execSFenceF c s
  | .sBarT c => Sys2Proof.Machine.execSBarT c s
  | .sBarG c => Sys2Proof.Machine.execSBarG c s
  | .sTrap c imm => Sys2Proof.Machine.execSTrap c imm s
  | .sMvs c d sr => Sys2Proof.Machine.execSMvs c d sr s
  | .sMvt c a sr => Sys2Proof.Machine.execSMvt c a sr s
  | .sEret c => Sys2Proof.Machine.execSEret c s
  | .sWfi c => Sys2Proof.Machine.execSWfi c s
  | .wfiWake n => Sys2Proof.Machine.execWfiWake n s
  | .subframeStart p alter => Sys2Proof.Machine.execSubframeStart p alter s
  | .subframeLatch p done => Sys2Proof.Machine.execSubframeLatch p done s
  | .lateLeSend p => Sys2Proof.Machine.execLateLeSend p s
  | .subframeAbandon p => Sys2Proof.Machine.execSubframeAbandon p s
  | .bufConfig ag => Sys2Proof.Machine.execBufConfig ag s
  | .bufInit ag => Sys2Proof.Machine.execBufInit ag s
  | .bufOpen ag => Sys2Proof.Machine.execBufOpen ag s
  | .bufSeal ag => Sys2Proof.Machine.execBufSeal ag s
  | .bufFree ag => Sys2Proof.Machine.execBufFree ag s
  | .bufReset ag => Sys2Proof.Machine.execBufReset ag s
  | .bufBadop ag seven => Sys2Proof.Machine.execBufBadop ag seven s
  | .plateLatch => Sys2Proof.Machine.execPlateLatch s
  | .plateEnable ag p v => Sys2Proof.Machine.execPlateEnable ag p v s
  | .plateDisable ag p v => Sys2Proof.Machine.execPlateDisable ag p v s
  | .plateStop p => Sys2Proof.Machine.execPlateStop p s
  | .plateCommit ag p => Sys2Proof.Machine.execPlateCommit ag p s
  | .lcReceived p good n sf status crc => Sys2Proof.Machine.execLcReceived p good n sf status crc s
  | .srReceived p good kind tag qcode data => Sys2Proof.Machine.execSrReceived p good kind tag qcode data s
  | .fmChunk p good mapseq offset data => Sys2Proof.Machine.execFmChunk p good mapseq offset data s
  | .trReceived p good temps => Sys2Proof.Machine.execTrReceived p good temps s
  | .upstreamAlign p lcode lmask => Sys2Proof.Machine.execUpstreamAlign p lcode lmask s
  | .teEdge p => Sys2Proof.Machine.execTeEdge p s
  | .teTimeout p => Sys2Proof.Machine.execTeTimeout p s
  | .linkStall p => Sys2Proof.Machine.execLinkStall p s
  | .engDetAssert p => Sys2Proof.Machine.execEngDetAssert p s
  | .engDetDebounce p => Sys2Proof.Machine.execEngDetDebounce p s
  | .engDetNegate p => Sys2Proof.Machine.execEngDetNegate p s
  | .engDetLoss p => Sys2Proof.Machine.execEngDetLoss p s
  | .trainTimeout p => Sys2Proof.Machine.execTrainTimeout p s
  | .identTimeout p => Sys2Proof.Machine.execIdentTimeout p s
  | .rxLockLoss p => Sys2Proof.Machine.execRxLockLoss p s
  | .linkCtrlWrite ag p v => Sys2Proof.Machine.execLinkCtrlWrite ag p v s
  | .linkRetrain ag p => Sys2Proof.Machine.execLinkRetrain ag p s
  | .lcRelease ag p => Sys2Proof.Machine.execLcRelease ag p s
  | .sqStatusTick p => Sys2Proof.Machine.execSqStatusTick p s
  | .lightExitTimeout p => Sys2Proof.Machine.execLightExitTimeout p s
  | .deepWakeEnd p => Sys2Proof.Machine.execDeepWakeEnd p s
  | .pwrNoAck p => Sys2Proof.Machine.execPwrNoAck p s
  | .linkTestWrite ag p v => Sys2Proof.Machine.execLinkTestWrite ag p v s
  | .farEndLoopEnd p errs => Sys2Proof.Machine.execFarEndLoopEnd p errs s
  | .occCut p mismatch parity => Sys2Proof.Machine.execOccCut p mismatch parity s
  | .feedRecord mac ip payload => Sys2Proof.Machine.execFeedRecord mac ip payload s
  | .feedSourceExpire => Sys2Proof.Machine.execFeedSourceExpire s
  | .rgnWrite ag => Sys2Proof.Machine.execRgnWrite ag s
  | .rgnArm ag => Sys2Proof.Machine.execRgnArm ag s
  | .rgnDisarm ag => Sys2Proof.Machine.execRgnDisarm ag s
  | .rgnRefresh ag => Sys2Proof.Machine.execRgnRefresh ag s
  | .rgnRead ag => Sys2Proof.Machine.execRgnRead ag s
  | .rgnBadop ag op => Sys2Proof.Machine.execRgnBadop ag op s
  | .guardRelease ag p => Sys2Proof.Machine.execGuardRelease ag p s
  | .minEnter ag p => Sys2Proof.Machine.execMinEnter ag p s
  | .minExit ag p => Sys2Proof.Machine.execMinExit ag p s
  | .xfCommit ag p => Sys2Proof.Machine.execXfCommit ag p s
  | .glyphCommit ag second => Sys2Proof.Machine.execGlyphCommit ag second s
  | .retInstanceCommit ag p k v => Sys2Proof.Machine.execRetInstanceCommit ag p k v s
  | .pwmPeriodStart n => Sys2Proof.Machine.execPwmPeriodStart n s
  | .senseConversion n mv => Sys2Proof.Machine.execSenseConversion n mv s
  | .ntcConversion n r => Sys2Proof.Machine.execNtcConversion n r s
  | .strThermal n => Sys2Proof.Machine.execStrThermal n s
  | .strSet => Sys2Proof.Machine.execStrSet s
  | .fadeStart => Sys2Proof.Machine.execFadeStart s
  | .fadeFrameEval => Sys2Proof.Machine.execFadeFrameEval s
  | .stringUnverified n => Sys2Proof.Machine.execStringUnverified n s
  | .probeDue n => Sys2Proof.Machine.execProbeDue n s
  | .strUnverified n => Sys2Proof.Machine.execStrUnverified n s
  | .strClear ag n => Sys2Proof.Machine.execStrClear ag n s
  | .strCfgWrite ag n v => Sys2Proof.Machine.execStrCfgWrite ag n v s
  | .engTempLost p => Sys2Proof.Machine.execEngTempLost p s
  | .strdiagInit ag p => Sys2Proof.Machine.execStrdiagInit ag p s
  | .strdiagInitDone p => Sys2Proof.Machine.execStrdiagInitDone p s
  | .stuckClr ag p => Sys2Proof.Machine.execStuckClr ag p s
  | .linkPacketReceive l lseq good k => Sys2Proof.Machine.execLinkPacketReceive l lseq good k s
  | .llcReceive l cr ack nak => Sys2Proof.Machine.execLlcReceive l cr ack nak s
  | .replayTimeout l => Sys2Proof.Machine.execReplayTimeout l s
  | .linkBlockLock l => Sys2Proof.Machine.execLinkBlockLock l s
  | .helloTick l => Sys2Proof.Machine.execHelloTick l s
  | .helloReceive l h => Sys2Proof.Machine.execHelloReceive l h s
  | .linkDeadTimeout l => Sys2Proof.Machine.execLinkDeadTimeout l s
  | .transitLinkCfgWrite ag l v => Sys2Proof.Machine.execTransitLinkCfgWrite ag l v s
  | .transitRetrain ag l => Sys2Proof.Machine.execTransitRetrain ag l s
  | .routerForward => Sys2Proof.Machine.execRouterForward s
  | .wrRequest => Sys2Proof.Machine.execWrRequest s
  | .rdRequest busy => Sys2Proof.Machine.execRdRequest busy s
  | .faddRequest busy => Sys2Proof.Machine.execFaddRequest busy s
  | .flushRequest => Sys2Proof.Machine.execFlushRequest s
  | .streamRequest => Sys2Proof.Machine.execStreamRequest s
  | .msgRequest => Sys2Proof.Machine.execMsgRequest s
  | .rspReceive => Sys2Proof.Machine.execRspReceive s
  | .lateReceive => Sys2Proof.Machine.execLateReceive s
  | .transactionTimeout n => Sys2Proof.Machine.execTransactionTimeout n s
  | .flushReissue n => Sys2Proof.Machine.execFlushReissue n s
  | .lsaReceive l a => Sys2Proof.Machine.execLsaReceive l a s
  | .grpReceive l g => Sys2Proof.Machine.execGrpReceive l g s
  | .lsaRefreshTick => Sys2Proof.Machine.execLsaRefreshTick s
  | .lsaExpire => Sys2Proof.Machine.execLsaExpire s
  | .routeTableUpdate => Sys2Proof.Machine.execRouteTableUpdate s
  | .idClaimTimeout => Sys2Proof.Machine.execIdClaimTimeout s
  | .phaseMasterElect => Sys2Proof.Machine.execPhaseMasterElect s
  | .phaseSendTick => Sys2Proof.Machine.execPhaseSendTick s
  | .phasePacketReceive l k resid => Sys2Proof.Machine.execPhasePacketReceive l k resid s
  | .ctrlRx l op data => Sys2Proof.Machine.execCtrlRx l op data s
  | .ctrlTx => Sys2Proof.Machine.execCtrlTx s
  | .msgTx => Sys2Proof.Machine.execMsgTx s
  | .targetStateRequest => Sys2Proof.Machine.execTargetStateRequest s
  | .tgtClrLate ag => Sys2Proof.Machine.execTgtClrLate ag s
  | .itemPut src => Sys2Proof.Machine.execItemPut src s
  | .nodeSet => Sys2Proof.Machine.execNodeSet s
  | .inventoryReceive l n => Sys2Proof.Machine.execInventoryReceive l n s
  | .coordChange replica => Sys2Proof.Machine.execCoordChange replica s
  | .rebalanceTick => Sys2Proof.Machine.execRebalanceTick s
  | .migratePrepare msg => Sys2Proof.Machine.execMigratePrepare msg s
  | .prepareDone node id => Sys2Proof.Machine.execPrepareDone node id s
  | .migrateCommit msg => Sys2Proof.Machine.execMigrateCommit msg s
  | .cframeReached => Sys2Proof.Machine.execCframeReached s
  | .finalCopy id ended => Sys2Proof.Machine.execFinalCopy id ended s
  | .retireExpire => Sys2Proof.Machine.execRetireExpire s
  | .nodeLoss n hello => Sys2Proof.Machine.execNodeLoss n hello s
  | .txDescriptor => Sys2Proof.Machine.execTxDescriptor s
  | .frameSelect p => Sys2Proof.Machine.execFrameSelect p s
  | .txFrameDone p => Sys2Proof.Machine.execTxFrameDone p s
  | .pfcReceive p en quanta => Sys2Proof.Machine.execPfcReceive p en quanta s
  | .pauseReceive p quanta => Sys2Proof.Machine.execPauseReceive p quanta s
  | .pauseTimerExpire p q => Sys2Proof.Machine.execPauseTimerExpire p q s
  | .pfcXoff p => Sys2Proof.Machine.execPfcXoff p s
  | .pfcRefresh p => Sys2Proof.Machine.execPfcRefresh p s
  | .pfcXon p => Sys2Proof.Machine.execPfcXon p s
  | .pauseLong p q => Sys2Proof.Machine.execPauseLong p q s
  | .rxFrame p frame agoNs => Sys2Proof.Machine.execRxFrame p frame agoNs s
  | .rxFrameStore p => Sys2Proof.Machine.execRxFrameStore p s
  | .rxFreeBuffer => Sys2Proof.Machine.execRxFreeBuffer s
  | .macLinkUp p an => Sys2Proof.Machine.execMacLinkUp p an s
  | .macLinkLoss p => Sys2Proof.Machine.execMacLinkLoss p s
  | .macCtrlWrite ag p v => Sys2Proof.Machine.execMacCtrlWrite ag p v s
  | .netLaunch => Sys2Proof.Machine.execNetLaunch s
  | .lpiEnter p => Sys2Proof.Machine.execLpiEnter p s
  | .lpiWake p => Sys2Proof.Machine.execLpiWake p s
  | .sacnDataReceive => Sys2Proof.Machine.execSacnDataReceive s
  | .sacnSyncReceive => Sys2Proof.Machine.execSacnSyncReceive s
  | .sacnSourceTimeout n => Sys2Proof.Machine.execSacnSourceTimeout n s
  | .st2110Packet => Sys2Proof.Machine.execSt2110Packet s
  | .stCfgWrite ag u k v => Sys2Proof.Machine.execStCfgWrite ag u k v s
  | .ringPushStage ag r n v => Sys2Proof.Machine.execRingPushStage ag r n v s
  | .ringWindowPush ag r v => Sys2Proof.Machine.execRingWindowPush ag r v s
  | .ringWindowPop ag r => Sys2Proof.Machine.execRingWindowPop ag r s
  | .ringWindowPeek ag r => Sys2Proof.Machine.execRingWindowPeek ag r s
  | .ringWindowDrop ag r => Sys2Proof.Machine.execRingWindowDrop ag r s
  | .unitRingPush w => Sys2Proof.Machine.execUnitRingPush w s
  | .ringRefill r lost => Sys2Proof.Machine.execRingRefill r lost s
  | .ringReset ag r => Sys2Proof.Machine.execRingReset ag r s
  | .ringCtrlWrite ag r v => Sys2Proof.Machine.execRingCtrlWrite ag r v s
  | .dmxBreak => Sys2Proof.Machine.execDmxBreak s
  | .dmxPacketEnd d => Sys2Proof.Machine.execDmxPacketEnd d s
  | .rdmTransactionStart d => Sys2Proof.Machine.execRdmTransactionStart d s
  | .rdmResponse d data => Sys2Proof.Machine.execRdmResponse d data s
  | .rdmResponseTimeout d => Sys2Proof.Machine.execRdmResponseTimeout d s
  | .tunnelGet => Sys2Proof.Machine.execTunnelGet s
  | .tunnelCollect => Sys2Proof.Machine.execTunnelCollect s
  | .tunnelSet => Sys2Proof.Machine.execTunnelSet s
  | .pendingDiscard n => Sys2Proof.Machine.execPendingDiscard n s
  | .discFull ag d => Sys2Proof.Machine.execDiscFull ag d s
  | .discoverySweep d => Sys2Proof.Machine.execDiscoverySweep d s
  | .panelSample pins emergL darkL => Sys2Proof.Machine.execPanelSample pins emergL darkL s
  | .panelStuck n => Sys2Proof.Machine.execPanelStuck n s
  | .panelRearm ag v => Sys2Proof.Machine.execPanelRearm ag v s
  | .emergAssert => Sys2Proof.Machine.execEmergAssert s
  | .emergRelease => Sys2Proof.Machine.execEmergRelease s
  | .darkAssert => Sys2Proof.Machine.execDarkAssert s
  | .darkRelease => Sys2Proof.Machine.execDarkRelease s
  | .safeLong n => Sys2Proof.Machine.execSafeLong n s
  | .failsafeDmxTick d => Sys2Proof.Machine.execFailsafeDmxTick d s
  | .failsafeSacnTick p => Sys2Proof.Machine.execFailsafeSacnTick p s
  | .heartbeatTick => Sys2Proof.Machine.execHeartbeatTick s
  | .heartbeatReceived => Sys2Proof.Machine.execHeartbeatReceived s
  | .heartbeatLoss => Sys2Proof.Machine.execHeartbeatLoss s
  | .peerAssert => Sys2Proof.Machine.execPeerAssert s
  | .peerNegate => Sys2Proof.Machine.execPeerNegate s
  | .gateOpen => Sys2Proof.Machine.execGateOpen s
  | .tcrcReceive es => Sys2Proof.Machine.execTcrcReceive es s
  | .tcrcTimeout => Sys2Proof.Machine.execTcrcTimeout s
  | .tjudgeReceive p sf n disagree re crc => Sys2Proof.Machine.execTjudgeReceive p sf n disagree re crc s
  | .judgeTimeout => Sys2Proof.Machine.execJudgeTimeout s
  | .tcutReceive p sf n count seqs => Sys2Proof.Machine.execTcutReceive p sf n count seqs s
  | .thealthReceive health frame status => Sys2Proof.Machine.execThealthReceive health frame status s
  | .healthPublish => Sys2Proof.Machine.execHealthPublish s
  | .standbyLost => Sys2Proof.Machine.execStandbyLost s
  | .tyieldReceive frame sf => Sys2Proof.Machine.execTyieldReceive frame sf s
  | .twinYield ag => Sys2Proof.Machine.execTwinYield ag s
  | .yieldDone => Sys2Proof.Machine.execYieldDone s
  | .autoReturn => Sys2Proof.Machine.execAutoReturn s
  | .twinUndecClr ag => Sys2Proof.Machine.execTwinUndecClr ag s
  | .twinEnable ag v => Sys2Proof.Machine.execTwinEnable ag v s
  | .selftestStep test element pass => Sys2Proof.Machine.execSelftestStep test element pass s
  | .twinLinkDown => Sys2Proof.Machine.execTwinLinkDown s
  | .almAppend ag => Sys2Proof.Machine.execAlmAppend ag s
  | .almRead ag => Sys2Proof.Machine.execAlmRead ag s
  | .almCompact ag => Sys2Proof.Machine.execAlmCompact ag s
  | .almScrub ag => Sys2Proof.Machine.execAlmScrub ag s
  | .almBadop ag k => Sys2Proof.Machine.execAlmBadop ag k s
  | .almCommandDone fails => Sys2Proof.Machine.execAlmCommandDone fails s
  | .mailboxPoll => Sys2Proof.Machine.execMailboxPoll s
  | .almReplay ag v unread fails => Sys2Proof.Machine.execAlmReplay ag v unread fails s
  | .replayDone fails places => Sys2Proof.Machine.execReplayDone fails places s
  | .compactionCommit fails => Sys2Proof.Machine.execCompactionCommit fails s
  | .pwrfailAssert left => Sys2Proof.Machine.execPwrfailAssert left s
  | .pwrfailRelease since => Sys2Proof.Machine.execPwrfailRelease since s
  | .almScrubTick changed soft fails => Sys2Proof.Machine.execAlmScrubTick changed soft fails s
  | .thermSample counts => Sys2Proof.Machine.execThermSample counts s
  | .sensorBroken n => Sys2Proof.Machine.execSensorBroken n s
  | .thermLimitChange => Sys2Proof.Machine.execThermLimitChange s
  | .throttleStepChange => Sys2Proof.Machine.execThrottleStepChange s
  | .thermLimWrite ag k v => Sys2Proof.Machine.execThermLimWrite ag k v s
  | .sensorClr ag => Sys2Proof.Machine.execSensorClr ag s
  | .peakClr ag => Sys2Proof.Machine.execPeakClr ag s
  | .compStep => Sys2Proof.Machine.execCompStep s
  | .calRun ag => Sys2Proof.Machine.execCalRun ag s
  | .calAll ag => Sys2Proof.Machine.execCalAll ag s
  | .calRunDone runs => Sys2Proof.Machine.execCalRunDone runs s
  | .calAutoTick => Sys2Proof.Machine.execCalAutoTick s
  | .modeResolve => Sys2Proof.Machine.execModeResolve s
  | .sysModeReqWrite ag v => Sys2Proof.Machine.execSysModeReqWrite ag v s
  | .isolationTimeout => Sys2Proof.Machine.execIsolationTimeout s
  | .fsClr ag => Sys2Proof.Machine.execFsClr ag s
  | .fsLoad ag => Sys2Proof.Machine.execFsLoad ag s
  | .bootDone ag => Sys2Proof.Machine.execBootDone ag s
  | .sysResetWarm ag unread => Sys2Proof.Machine.execSysResetWarm ag unread s
  | .sysResetSystem ag => Sys2Proof.Machine.execSysResetSystem ag s
  | .wdogKick ag => Sys2Proof.Machine.execWdogKick ag s
  | .wdogExpire unread => Sys2Proof.Machine.execWdogExpire unread s
  | .porstAssert => Sys2Proof.Machine.execPorstAssert s
  | .sysrstAssert => Sys2Proof.Machine.execSysrstAssert s
  | .supplyUndervoltage => Sys2Proof.Machine.execSupplyUndervoltage s
  | .coldExit sel unread otpBad => Sys2Proof.Machine.execColdExit sel unread otpBad s
  | .dbgAuthRead => Sys2Proof.Machine.execDbgAuthRead s
  | .dbgAuthToken token => Sys2Proof.Machine.execDbgAuthToken token s
  | .dormantEnter acks runs => Sys2Proof.Machine.execDormantEnter acks runs s
  | .dormantWake src => Sys2Proof.Machine.execDormantWake src s
  | .modeMailboxPoll => Sys2Proof.Machine.execModeMailboxPoll s
  | .faultRecordPush => Sys2Proof.Machine.execFaultRecordPush s
  | .faultRelease ag => Sys2Proof.Machine.execFaultRelease ag s
  | .safeClr ag => Sys2Proof.Machine.execSafeClr ag s
  | .scrubPassComplete dram ce ue => Sys2Proof.Machine.execScrubPassComplete dram ce ue s
  | .scrubLate dram => Sys2Proof.Machine.execScrubLate dram s
  | .bgWindow used deferred => Sys2Proof.Machine.execBgWindow used deferred s
  | .telemSnap => Sys2Proof.Machine.execTelemSnap s
  | .telemCmdSnap ag => Sys2Proof.Machine.execTelemCmdSnap ag s
  | .telemCopyDone => Sys2Proof.Machine.execTelemCopyDone s
  | .smbStart ag m => Sys2Proof.Machine.execSmbStart ag m s
  | .smbDone m result count data => Sys2Proof.Machine.execSmbDone m result count data s
  | .refClockLoss k => Sys2Proof.Machine.execRefClockLoss k s
  | .serdesCtrlWrite ag lane v => Sys2Proof.Machine.execSerdesCtrlWrite ag lane v s
  | .timeClockUnlock => Sys2Proof.Machine.execTimeClockUnlock s
  | .timeClockRelock => Sys2Proof.Machine.execTimeClockRelock s
  | .refClockReturn k => Sys2Proof.Machine.execRefClockReturn k s
  | .transitBlockLockLoss l => Sys2Proof.Machine.execTransitBlockLockLoss l s

end Sys2Proof.Machine
end

