-- ==== Sys2Proof/Safety.lean ====
section
/-!
DEFINITION. What a safe outcome of the block is, and the words the statements are written in: every command answers a next state, since
the device reports errors through its own fault unit and never stops.
-/
namespace Sys2Proof.Machine

/-- The outcome is a next state. -/
def safeOutcome (o : Host.Outcome State Fault Refusal) : Prop := ∃ t, o = .next t

/-- The command answers a next state, and that state has the property. -/
def Runs (i : Instr) (s : State) (P : State → Prop) : Prop := ∃ t, exec i s = .next t ∧ P t

/-- Commands that may write memory: stores, atomics, writes that arrive from other nodes and networks, the units that write their results, and the resets. -/
def storesMemory : Instr → Bool
  | .registerWrite .. | .sStb .. | .sSth .. | .sStw .. | .sStd .. | .sVst .. | .sAaddW .. | .sAaddD .. | .sAswpW ..
  | .sAswpD .. | .sAcasW .. | .sAcasD .. | .sPst .. | .subframeStart .. | .fmChunk .. | .fadeFrameEval ..
  | .strdiagInitDone .. | .wrRequest .. | .faddRequest .. | .streamRequest .. | .itemPut .. | .coordChange ..
  | .rebalanceTick .. | .migratePrepare .. | .migrateCommit .. | .cframeReached .. | .finalCopy .. | .nodeLoss ..
  | .rxFrameStore .. | .sacnDataReceive .. | .sacnSyncReceive .. | .sacnSourceTimeout .. | .st2110Packet ..
  | .rdmResponse .. | .rdmResponseTimeout .. | .almCommandDone .. | .mailboxPoll .. | .replayDone ..
  | .pwrfailAssert .. | .sysResetWarm .. | .wdogExpire .. | .coldExit .. | .modeMailboxPoll .. | .telemCopyDone ..
  | .porstAssert .. | .sysrstAssert .. | .supplyUndervoltage .. | .sysResetSystem .. => true
  | _ => false

/-- Commands that may change the flash of the Almanac. -/
def writesFlash : Instr → Bool
  | .registerWrite .. | .sStb .. | .sSth .. | .sStw .. | .sStd .. | .almCommandDone .. | .almReplay .. | .replayDone ..
  | .compactionCommit .. | .pwrfailAssert .. | .almScrubTick .. => true
  | _ => false

/-- Commands that may change the monotonic counter: its tick, and the cold resets, which a store or a register write may command. -/
def passesTime : Instr → Bool
  | .monoTick .. | .porstAssert .. | .sysrstAssert .. | .supplyUndervoltage .. | .sysResetSystem .. | .registerWrite ..
  | .sStb .. | .sSth .. | .sStw .. | .sStd .. => true
  | _ => false

/-- The fault unit's queue has room for a record (R687). -/
abbrev State.faultRoom (s : State) : Prop := s.faultQ.length < 256

/-- The invariant of every step: memory in its canonical form, and at most 256 fault records queued (R687). -/
abbrev State.sound (s : State) : Prop := Memory.wf s.mem = true ∧ s.faultQ.length ≤ 256

/-- A record of a fault code for an instance waits in the fault unit's queue (R686, R687). -/
abbrev State.faultQueued (s : State) (code inst : Nat) : Prop := ∃ r ∈ s.faultQ, r.code = code ∧ r.inst = inst

/-- An agent makes a write that is allowed at the register offset: the device is out of reset and awake, debug is open for JTAG, and
the block is one the agent may write (R34, R36 to R38). -/
abbrev State.canWrite (s : State) (ag : Agent) (a : Nat) : Prop := s.agentLive ag = true ∧ mayAccess ag a true = true

/-- Core c can commit an instruction that reads the registers of keys rd and writes those of keys wr: it runs with no fence open, its
kernel is within BUDGET, its fetch is allowed, no register named waits for an access, and none read is poisoned (R119, R123, R129,
R134, R157, R176). g register n has key n, v register n key 32 + n. -/
abbrev State.canIssue (s : State) (c : CoreId) (rd wr : List Nat) : Prop :=
  s.coreLive c.val = true ∧ s.overBudget c.val = false ∧ s.fetchBad c.val = none ∧
    (s.core c.val).outstanding (rd ++ wr) = false ∧ (s.core c.val).firstPoison rd = none

/-- Core c becomes k at the instruction after its own, and nothing else of the device changes. -/
def State.commits (s : State) (c : CoreId) (k : Core) : State := s.setCore c.val { k with pc := (s.core c.val).pc + 4 }

/-- Core c commits a vector result: each active lane of v[d], of w bits, takes f, and the other lanes keep their value; with no lane
active nothing is written (R104). Beside it only PC changes. -/
def State.lanesTo (s t : State) (c : CoreId) (w : Nat) (p : PReg) (d : VReg) (f : Nat → Nat) : Prop :=
  let k := s.core c.val
  if anyOn w (k.pr p) then
    ∃ x : Vec, t = s.commits c (k.setV d x) ∧
      ∀ i, i < 128 / w → lane w x i = if laneOn w (k.pr p) i then f i % 2 ^ w else lane w (k.vr d) i
  else t = s.commits c k

/-- The same for an instruction that writes every lane. -/
def State.vecTo (s t : State) (c : CoreId) (w : Nat) (d : VReg) (f : Nat → Nat) : Prop :=
  ∃ x : Vec, t = s.commits c ((s.core c.val).setV d x) ∧ ∀ i, i < 128 / w → lane w x i = f i % 2 ^ w

/-- The same as lanesTo for an instruction of fp16 lanes: f gives a lane's result and its FPSR flags, and the flags of the active
lanes are added to FPSR (R199). -/
def State.fpLanesTo (s t : State) (c : CoreId) (p : PReg) (d : VReg) (f : Nat → Nat × Nat) : Prop :=
  let k := s.core c.val
  if anyOn 16 (k.pr p) then
    ∃ (x : Vec) (fl : Word), t = s.commits c { k.setV d x with fpsr := k.fpsr ||| fl } ∧
      (∀ i, i < 8 → lane 16 x i = if laneOn 16 (k.pr p) i then (f i).1 % 2 ^ 16 else lane 16 (k.vr d) i) ∧
      ∀ j, fl.getLsbD j = true ↔ j < 32 ∧ ∃ i, i < 8 ∧ laneOn 16 (k.pr p) i = true ∧ (f i).2.testBit j = true
  else t = s.commits c k

end Sys2Proof.Machine
end

