-- ==== Sys2Proof/WellFormed.lean ====
section
/-!
DEFINITION. Well-formed commands: the data a command brings lies in the range that the event it stands for can bring. Operands whose
types already bound them need no check.
-/
namespace Sys2Proof

/-- A transit packet carries at most 256 payload bytes (R413). -/
def Pkt.wf (k : Pkt) : Bool := decide (k.payload.length ≤ 256)

/-- A byte address of the local address map is 40 bits wide (R742). -/
def addrWf (a : Nat) : Bool := decide (a < 2 ^ 40)

/-- The data of the command lies in its range. -/
def Instr.wellFormed : Instr → Bool
  -- a time code gives hours 0 to 23, minutes and seconds 0 to 59, frames 0 to 29 (R51)
  | .ltcSyncWord _ hh mm ss ff => decide (hh < 24) && decide (mm < 60) && decide (ss < 60) && decide (ff < 30)
  -- four uplinks of sixteen stream slots (R53, R515)
  | .mediaRtpPacket uplink stream _ _ => decide (uplink < 4) && decide (stream < 16)
  -- a code altered on its way to the guard: a light code of at most ten bits (R218)
  | .subframeStart _ alter => alter.all fun x => decide (x.2.2 < 1024)
  | .linkPacketReceive _ _ _ k => k.wf
  -- a received frame holds at least its FCS (R502)
  | .rxFrame _ f _ => decide (4 ≤ f.length)
  -- an Ethernet payload of a position datagram (R341)
  | .feedRecord _ _ payload => decide (payload.length ≤ 9600)
  -- a CTRL packet carries at most 256 payload bytes (R413)
  | .ctrlRx _ _ d => decide (d.length ≤ 256)
  -- a light engine reports at most 16 temperatures (R286)
  | .trReceived _ _ t => decide (t.length ≤ 16)
  -- a DMX line carries at most a start code and 512 slots of one packet (R556)
  | .rdmResponse _ d => decide (d.length ≤ 513)
  -- a TCRC message holds 1 to 16 entries (R589)
  | .tcrcReceive es => decide (1 ≤ es.length) && decide (es.length ≤ 16)
  -- a packet has at least one entry (R527)
  | .unitRingPush (.packet _ es _) => decide (1 ≤ es.length)
  -- every one of the 64 sensors is converted (R628)
  | .thermSample counts => decide (counts.length = 64)
  -- a token has 240 bytes (R679)
  | .dbgAuthToken t => decide (t.length = 240)
  -- the errors a scrubber finds lie in the address map (R703)
  | .scrubPassComplete _ ce ue => ce.all addrWf && ue.all addrWf
  -- an SMBus transaction moves at most 32 bytes (R740)
  | .smbDone _ _ _ d => decide (d.length ≤ 32)
  | _ => true

end Sys2Proof
end

