-- ==== Sys2Proof/Certificates/Slice0/Obligations.lean ====
section
/-!
DEFINITION. The statements for the provers.
-/

open Sys2Proof Sys2Proof.Machine Sys2Proof.Machine.State

/-- Ticks of the time clock advance the Sidereal phase, the monotonic counter and PTP time; samples and lock changes follow. -/
def Obligations.TimeBasesAdvance : Prop :=
  -- SIDEREAL_TICK
  (∀ (n : Nat) (s : State), s.mode ≠ 0xA → exec (.siderealTick n) s = .next { s with acc := s.acc + BitVec.ofInt 96 (n * (if s.sidState = 0 then 0 else if s.sidState = 1 then (s.incNom : Int) else if s.sidState = 2 ∨ s.sidState = 5 then s.sid.fT else s.sid.fT + s.sid.pT)) }) ∧
  -- SIDEREAL_TICK
  (∀ (n : Nat) (s : State), s.mode = 0xA → exec (.siderealTick n) s = .next s) ∧
  -- MONO_TICK
  (∀ (n : Nat) (s : State), s.mode ≠ 0xA → exec (.monoTick n) s = .next { s with mono := s.mono + n }) ∧
  -- MONO_TICK
  (∀ (n : Nat) (s : State), s.mode = 0xA → Runs (.monoTick n) s fun t =>
    t.mono * 65536 + t.monoFrac = s.mono * 65536 + s.monoFrac + n * (s.reg Reg.CAL_RC_PERIOD).toNat ∧ t.monoFrac < 65536 ∧ t = { s with mono := t.mono, monoFrac := t.monoFrac }) ∧
  -- PTP_CLOCK_TICK
  (∀ (n : Nat) (s : State), s.mode ≠ 0xA → s.reg Reg.PTP_ADJ = 0 → s.ptp.spreadLeft = 0 → s.ptp.frac < State.ptpUnit → 
    s.ptp.ns + n < 1000000000 → s.ptp.sec < 2 ^ 48 → exec (.ptpClockTick n) s = .next { s with ptp := { s.ptp with ns := s.ptp.ns + n } }) ∧
  -- PTP_SAMPLE_TICK
  (∀ (s : State), s.ptpNs / 1000000 ≠ s.sid.lastMs → s.sidRef = 1 → s.ptpValid = false → Runs .ptpSampleTick s fun t =>
    t.sid.lastMs = s.ptpNs / 1000000 ∧ t.sid.validSince = none ∧ t.acc = s.acc) ∧
  -- PTP_SAMPLE_TICK
  (∀ (s : State), s.ptpNs / 1000000 ≠ s.sid.lastMs → s.sidRef = 0 → exec .ptpSampleTick s = .next { s with sid := { s.sid with lastMs := s.ptpNs / 1000000 } }) ∧
  -- SIDEREAL_LOCK_CHANGE
  (∀ (s : State), s.sidState = 4 → max 1 (s.fld Reg.SID_LOOP 23 16) ≤ s.sid.runIn → Runs .siderealLockChange s fun t =>
    t.sidState = 3 ∧ t.sid.runIn = 0 ∧ t.sid.runOut = 0 ∧ (∀ a, a ≠ Reg.SID_STATUS → t.reg a = s.reg a)) ∧
  -- SIDEREAL_LOCK_CHANGE
  (∀ (s : State), s.sidState = 3 → max 1 (s.fld Reg.SID_LOOP 23 16) ≤ s.sid.runOut → Runs .siderealLockChange s fun t =>
    t.sidState = 4 ∧ t.sid.runIn = 0 ∧ t.sid.runOut = 0 ∧ (∀ a, a ≠ Reg.SID_STATUS → t.reg a = s.reg a))

/-- LTC words, MEDIA packets, mains and PPS edges, loss and requalification of the Sidereal references. -/
def Obligations.ReferencesAreSampled : Prop :=
  -- LTC_SYNC_WORD
  (∀ (hh mm ss ff : Nat) (s : State), s.sidRef = 2 → s.sid.ltcNum = none → Runs (.ltcSyncWord true hh mm ss ff) s fun t =>
    t.reg Reg.SID_LTC_TC = BitVec.ofNat 32 (bcd ff + bcd ss * 2 ^ 8 + bcd mm * 2 ^ 16 + bcd hh * 2 ^ 24) ∧ t.sid.ltcNum.isSome = true) ∧
  -- LTC_SYNC_WORD
  (∀ (hh mm ss ff : Nat) (s : State), s.sidRef = 2 → s.onceOk Code.CLK_LTC_WORD 1000000000 = true → s.faultRoom → Runs (.ltcSyncWord false hh mm ss ff) s fun t =>
    t.sid.validSince = none ∧ t.faultQueued Code.CLK_LTC_WORD 0) ∧
  -- MEDIA_RTP_PACKET
  (∀ (up st : Nat) (rtp : Word) (ago : Nat) (s : State), s.sidRef = 3 → up = s.fld Reg.SID_MEDIA 1 0 → 
    st = s.fld Reg.SID_MEDIA 5 2 → 
    0 ≤ (BitVec.ofNat 32 (s.mediaCount16At (s.ptpCount16 - ago * 65536) / 65536) - rtp).toInt → 
    (BitVec.ofNat 32 (s.mediaCount16At (s.ptpCount16 - ago * 65536) / 65536) - rtp).toInt ≤ s.fld Reg.SID_MEDIA 23 8 → Runs (.mediaRtpPacket up st rtp ago) s fun t =>
    t.sid.mediaPass = some s.mono ∧ t.sid.mediaFails = 0 ∧ t.regs = s.regs) ∧
  -- MEDIA_RTP_PACKET
  (∀ (up st : Nat) (rtp : Word) (ago : Nat) (s : State), s.sidRef = 3 → up = s.fld Reg.SID_MEDIA 1 0 → 
    st = s.fld Reg.SID_MEDIA 5 2 → 
    (BitVec.ofNat 32 (s.mediaCount16At (s.ptpCount16 - ago * 65536) / 65536) - rtp).toInt < 0 → s.sid.mediaFails ≠ 15 → exec (.mediaRtpPacket up st rtp ago) s = .next { s with sid := { s.sid with mediaFails := s.sid.mediaFails + 1 } }) ∧
  -- MEDIA_RTP_PACKET
  (∀ (up st : Nat) (rtp : Word) (ago : Nat) (s : State), s.sidRef = 3 → up = s.fld Reg.SID_MEDIA 1 0 → 
    st = s.fld Reg.SID_MEDIA 5 2 → 
    (BitVec.ofNat 32 (s.mediaCount16At (s.ptpCount16 - ago * 65536) / 65536) - rtp).toInt < 0 → s.sid.mediaFails = 15 → 
    s.faultRoom → Runs (.mediaRtpPacket up st rtp ago) s fun t =>
    t.sid.mediaFails = 16 ∧ t.faultQueued Code.CLK_MEDIA_MISMATCH 0) ∧
  -- MAINS_ZC_EDGE
  (∀ (rising : Bool) (g : Nat) (s : State), s.bit Reg.MAINS_CTRL 0 = true → 
    (rising = true ∨ s.bit Reg.MAINS_CTRL 1 = true) → s.sid.mainsEdge = some g → Runs (.mainsZcEdge rising) s fun t =>
    t.sid.mainsEdge = some s.mono ∧ (t.sid.mainsPeriod = if s.bit Reg.MAINS_CTRL 1 then 2 * (s.mono - g) else s.mono - g) ∧ (t.reg Reg.MAINS_FREQ = BitVec.ofNat 32 (if t.sid.mainsPeriod = 0 then 0 else 1000000000000 / t.sid.mainsPeriod))) ∧
  -- PPS_IN_EDGE
  (∀ (rising : Bool) (s : State), rising ≠ s.bit Reg.PTP_CTRL 3 → Runs (.ppsInEdge rising) s fun t =>
    t.reg Reg.PPS_CNT = s.reg Reg.PPS_CNT + 1 ∧ t.reg Reg.PPS_CAPT_NS = BitVec.ofNat 32 s.ptp.ns ∧ t.reg64 Reg.SID_CAPT_PPS_LO = s.phase ∧ t.sid.ppsEdge = some s.mono) ∧
  -- PPS_EDGE_MISSING
  (∀ (x : Nat) (s : State), s.sidRef = 5 → s.sid.ppsValid = some x → s.sid.ppsMiss < 2 → 
    x + (s.sid.ppsMiss + 1) * 1000000000 + 100000 ≤ s.mono → exec .ppsEdgeMissing s = .next { s with sid := { s.sid with ppsMiss := s.sid.ppsMiss + 1, validSince := none } }) ∧
  -- PPS_EDGE_MISSING
  (∀ (x : Nat) (s : State), s.sidRef = 5 → s.sid.ppsValid = some x → s.sid.ppsMiss = 2 → x + 3000100000 ≤ s.mono → 
    (s.sidState = 3 ∨ s.sidState = 4) → s.faultRoom → Runs .ppsEdgeMissing s fun t =>
    t.refQualified = false ∧ t.sidState = 5 ∧ t.sid.ppsValid = none ∧ t.faultQueued Code.CLK_REF_LOSS 0) ∧
  -- REFERENCE_LOSS_TIMEOUT
  (∀ (s : State), s.refQualified = true → s.lossDue = true → (s.sidState = 3 ∨ s.sidState = 4) → s.faultRoom → Runs .referenceLossTimeout s fun t =>
    t.refQualified = false ∧ t.sidState = 5 ∧ t.sid.validSince = none ∧ t.faultQueued Code.CLK_REF_LOSS 0) ∧
  -- REFERENCE_QUALIFIED
  (∀ (x : Nat) (s : State), s.sid.validSince = some x → s.refQualified = false → s.refValidNow = true → 
    x + s.fld Reg.SID_LOSS 31 16 * 1000000 ≤ s.mono → Runs .referenceQualified s fun t =>
    t.refQualified = true ∧ t.sid.validSince = some x)

/-- Writes of SID_CTRL, JAM, APPLY, SID_INC_NOM and the PTP commands, the armed step, and the PTP_TIME_NS latch. -/
def Obligations.SiderealRegistersAct : Prop :=
  -- SID_CTRL_WRITE
  (∀ (ag : Agent) (v : Word) (s : State), s.canWrite ag Reg.SID_CTRL → 7 ≤ wfld v 3 0 → exec (.sidCtrlWrite ag v) s = .next (s.raise Code.CLK_CFG_ERR 0)) ∧
  -- SID_CTRL_WRITE
  (∀ (ag : Agent) (v : Word) (s : State), s.canWrite ag Reg.SID_CTRL → wfld v 3 0 = 0 → s.sidRef = 0 → wfld v 7 7 = 1 → 
    s.sidState = 0 → Runs (.sidCtrlWrite ag v) s fun t =>
    t.sidState = 1 ∧ t.sid.fT = s.incNom ∧ t.sid.pT = 0 ∧ t.sidRef = 0 ∧ t.bit Reg.SID_CTRL 7 = true) ∧
  -- SID_JAM
  (∀ (ag : Agent) (s : State), s.canWrite ag Reg.SID_CMD → s.sidRef ≠ 0 → Runs (.sidJam ag) s fun t =>
    t.bit Reg.SID_CMD 0 = true ∧ t.sid.stepReq = true ∧ (t.sid.armedAt = if s.refQualified then some s.phase else none)) ∧
  -- SID_JAM
  (∀ (ag : Agent) (s : State), s.canWrite ag Reg.SID_CMD → s.sidRef = 0 → exec (.sidJam ag) s = .next s) ∧
  -- SID_APPLY
  (∀ (ag : Agent) (s : State), s.canWrite ag Reg.SID_CMD → mappedRef s.sidRef = true → 
    s.mapOk s.sidRef s.shadowMap.num s.shadowMap.den = true → Runs (.sidApply ag) s fun t =>
    t.sid.copied = some s.shadowMap ∧ t.bit Reg.SID_CMD 1 = true ∧ t.jumpPending = false) ∧
  -- SIDEREAL_STEP
  (∀ (p : DWord) (s : State), s.sid.armedAt = some p → s.refQualified = true → s.stopped = false → 
    phaseBefore s.phase ((p &&& 0xFFFFFFFF00000000#64) + 0x100000000#64) = false → Runs .siderealStep s fun t =>
    t.acc = s.stepTarget ++ 0#32 ∧ t.sid.stepReq = false ∧ t.sid.armedAt = none) ∧
  -- SID_INC_NOM_WRITE
  (∀ (ag : Agent) (v : DWord) (s : State), s.canWrite ag Reg.SID_INC_NOM_LO → v.toNat < 0x67144770E9 → exec (.sidIncNomWrite ag v) s = .next (s.raise Code.CLK_CFG_ERR 0)) ∧
  -- SID_INC_NOM_WRITE
  (∀ (ag : Agent) (v : DWord) (s : State), s.canWrite ag Reg.SID_INC_NOM_LO → 0x67144770E9 ≤ v.toNat → 
    v.toNat ≤ 0x80D9594D235 → Runs (.sidIncNomWrite ag v) s fun t =>
    t.reg64 Reg.SID_INC_NOM_LO = v) ∧
  -- PTP_SET
  (∀ (ag : Agent) (s : State), s.canWrite ag Reg.PTP_CMD → exec (.ptpSet ag) s = .next { s with ptp := { sec := (s.reg Reg.PTP_SET_SEC_LO).toNat + 2 ^ 32 * s.fld Reg.PTP_SET_SEC_HI 15 0, ns := min (s.reg Reg.PTP_SET_NS).toNat 999999999 } }) ∧
  -- PTP_STEP
  (∀ (ag : Agent) (s : State), s.canWrite ag Reg.PTP_CMD → s.ptp.frac < State.ptpUnit → s.ptp.sec < 2 ^ 48 → 
    0 ≤ (s.ptp.ns : Int) + (s.reg Reg.PTP_STEP).toInt → (s.ptp.ns : Int) + (s.reg Reg.PTP_STEP).toInt < 1000000000 → Runs (.ptpStep ag) s fun t =>
    (t.ptp.ns : Int) = s.ptp.ns + (s.reg Reg.PTP_STEP).toInt ∧ t.ptp.sec = s.ptp.sec ∧ t.ptp.frac = s.ptp.frac ∧ t.ptp.spreadLeft = 0 ∧ t.regs = s.regs) ∧
  -- PTP_ADJ_WRITE
  (∀ (ag : Agent) (v : Word) (s : State), s.canWrite ag Reg.PTP_ADJ → -256000000 ≤ v.toInt → v.toInt ≤ 256000000 → exec (.ptpAdjWrite ag v) s = .next (s.setReg Reg.PTP_ADJ v)) ∧
  -- PTP_ADJ_WRITE
  (∀ (ag : Agent) (v : Word) (s : State), s.canWrite ag Reg.PTP_ADJ → 256000000 < v.toInt → exec (.ptpAdjWrite ag v) s = .next (s.setReg Reg.PTP_ADJ 256000000#32)) ∧
  -- PTP_ADJ_WRITE
  (∀ (ag : Agent) (v : Word) (s : State), s.canWrite ag Reg.PTP_ADJ → v.toInt < -256000000 → exec (.ptpAdjWrite ag v) s = .next (s.setReg Reg.PTP_ADJ 0xF0BDC000#32)) ∧
  -- PTP_TIME_NS_READ
  (∀ (ag : Agent) (s : State), s.agentLive ag = true → Runs (.ptpTimeNsRead ag) s fun t =>
    t.latch.get none (agIdx ag * 2 ^ 24 + Reg.PTP_TIME_SUBNS) = some (BitVec.ofNat 32 s.ptpSub) ∧ t.latch.get none (agIdx ag * 2 ^ 24 + Reg.PTP_TIME_SEC_LO) = some (BitVec.ofNat 32 s.ptp.sec) ∧ t.latch.get none (agIdx ag * 2 ^ 24 + Reg.PTP_TIME_SEC_HI) = some (BitVec.ofNat 32 (s.ptp.sec / 2 ^ 32)) ∧ t.regs = s.regs)

/-- Posting, cancelling, clearing and firing Ephemeris entries, and the RING_POST and GPIO actions. -/
def Obligations.EphemerisPostsAndFires : Prop :=
  -- EPH_POST_WORD_WRITE
  (∀ (ag : Agent) (i : Fin 7) (v : Word) (s : State), s.canWrite ag (Reg.EPH_POST + 4 * i.val) → exec (.ephPostWordWrite ag i v) s = .next (s.setAreg (agIdx ag) (Reg.EPH_POST + 4 * i.val) v)) ∧
  -- EPH_POST
  (∀ (ag : Agent) (v : Word) (act : Word) (ph : DWord) (s : State), s.canWrite ag (Reg.EPH_POST + 28) → 
    s.bit Reg.EPH_CTRL 8 = false → act = s.areg (agIdx ag) (Reg.EPH_POST + 8) → 
    ph = s.areg (agIdx ag) (Reg.EPH_POST + 4) ++ s.areg (agIdx ag) (Reg.EPH_POST + 0) → actCode act < 10 → 
    actTargetOk act = true → actRepeat act = false → actNow act = false → 
    (phaseDiff (ph + s.actOfs act) s.phase).natAbs ≤ 2 ^ 62 → phaseBefore (ph + s.actOfs act) s.phase = false → 
    s.eph.length < 4096 → exec (.ephPost ag v) s = .next (({ s with eph := s.eph ++ [⟨ph, ph + s.actOfs act, act, s.areg (agIdx ag) (Reg.EPH_POST + 12), s.areg (agIdx ag) (Reg.EPH_POST + 16), s.areg (agIdx ag) (Reg.EPH_POST + 20), s.areg (agIdx ag) (Reg.EPH_POST + 24), v, false⟩] } : State).setAreg (agIdx ag) Reg.EPH_POST_RES 0)) ∧
  -- EPH_POST
  (∀ (ag : Agent) (v : Word) (s : State), s.canWrite ag (Reg.EPH_POST + 28) → s.bit Reg.EPH_CTRL 8 = false → 
    10 ≤ actCode (s.areg (agIdx ag) (Reg.EPH_POST + 8)) → s.faultRoom → Runs (.ephPost ag v) s fun t =>
    t.eph = s.eph ∧ t.areg (agIdx ag) Reg.EPH_POST_RES = 3 ∧ t.faultQueued Code.CLK_EPH_REFUSED 0) ∧
  -- EPH_POST
  (∀ (ag : Agent) (v : Word) (s : State), s.canWrite ag (Reg.EPH_POST + 28) → s.bit Reg.EPH_CTRL 8 = true → exec (.ephPost ag v) s = .next (s.setAreg (agIdx ag) Reg.EPH_POST_RES 1)) ∧
  -- EPH_CANCEL
  (∀ (ag : Agent) (tag : Word) (s : State), s.canWrite ag Reg.EPH_CANCEL → exec (.ephCancel ag tag) s = .next (({ s with eph := s.eph.filter fun e => e.tag != tag } : State).setAreg (agIdx ag) Reg.EPH_CANCEL_RES (BitVec.ofNat 32 (s.eph.filter fun e => e.tag == tag).length))) ∧
  -- EPH_CLEAR
  (∀ (ag : Agent) (s : State), s.canWrite ag Reg.EPH_CTRL → Runs (.ephClear ag) s fun t =>
    t.eph = [] ∧ t.bit Reg.EPH_CTRL 8 = true ∧ (∀ a, a ≠ Reg.EPH_CTRL → t.reg a = s.reg a)) ∧
  -- EPH_CLEAR_DONE
  (∀ (s : State), s.eph = [] → exec .ephClearDone s = .next (s.setBit Reg.EPH_CTRL 8 false)) ∧
  -- ENTRY_FIRE
  (∀ (e : EphEntry) (s : State), s.ephHeld = false → State.ephFirst s.eph = some e → phaseBefore s.phase e.fire = false → 
    s.ephSpan ≠ s.mono / 8 → State.tagItem e.tag = none → actRepeat e.act = false → actNotify e.act = false → 
    (actCode e.act = 3 ∨ actCode e.act = 4 ∨ actCode e.act = 7 ∨ actCode e.act = 8 ∨ actCode e.act = 9) → exec .entryFire s = .next { s with ephSpan := s.mono / 8, ephSpanCnt := 1, ephLast := s.mono, issued := s.issued ++ [s.actOf e (b2n e.late)], eph := State.ephReplace e none s.eph }) ∧
  -- RING_POST
  (∀ (a : Act) (s : State), (s.issued.find? fun x => actCode x.act == 8) = some a → 
    s.ringRoom (actTarget a.act) 1 = true → exec .ringPost s = .next (({ s with issued := s.issued.erase a } : State).ringAccept (actTarget a.act) (State.firedEntry a false))) ∧
  -- GPIO_ACTION
  (∀ (a : Act) (s : State), (s.issued.find? fun x => actCode x.act == 9) = some a → exec .gpioAction s = .next (({ s with issued := s.issued.erase a } : State).setBit Reg.SYS_GPIO_OUT (actTarget a.act) (wfld a.a0 0 0 == 1)))

/-- Scalar register instructions (R104, R179, R181). -/
def Obligations.ScalarResults : Prop :=
  ∀ (s : State) (c : CoreId) (d a b : GReg) (p : PReg),
    s.canIssue c [a.val, b.val] [d.val] →
    let k := s.core c.val
    let x := k.gr a
    let y := k.gr b
    let put := fun v => (Host.Outcome.next (s.commits c (k.setG d v)) : Host.Outcome State Fault Refusal)
    exec (.sSel c d a b p) s = put (if bits (k.pr p) 0 0 = 1 then x else y) ∧
    (bits (k.pr p) 0 0 = 1 →
      exec (.sAdd c d a b p) s = put (x + y) ∧
      exec (.sSub c d a b p) s = put (x - y) ∧
      exec (.sAnd c d a b p) s = put (x &&& y) ∧
      exec (.sOr c d a b p) s = put (x ||| y) ∧
      exec (.sXor c d a b p) s = put (x ^^^ y) ∧
      exec (.sAndn c d a b p) s = put (x &&& ~~~y) ∧
      exec (.sShl c d a b p) s = put (x <<< (y.toNat % 64)) ∧
      exec (.sShr c d a b p) s = put (x >>> (y.toNat % 64)) ∧
      exec (.sSra c d a b p) s = put (x.sshiftRight (y.toNat % 64)) ∧
      exec (.sRor c d a b p) s = put (x.rotateRight (y.toNat % 64)) ∧
      exec (.sMin c d a b p) s = put (if x.slt y then x else y) ∧
      exec (.sMax c d a b p) s = put (if x.slt y then y else x) ∧
      exec (.sMinu c d a b p) s = put (if x < y then x else y) ∧
      exec (.sMaxu c d a b p) s = put (if x < y then y else x) ∧
      exec (.sAddw c d a b p) s = put (((x + y).setWidth 32).signExtend 64) ∧
      exec (.sMul c d a b p) s = put (x * y) ∧
      exec (.sMulh c d a b p) s = put (BitVec.ofInt 64 (x.toInt * y.toInt / 2 ^ 64)) ∧
      exec (.sMulhu c d a b p) s = put (BitVec.ofNat 64 (x.toNat * y.toNat / 2 ^ 64)) ∧
      exec (.sDiv c d a b p) s = put (if y = 0 then -1 else x.sdiv y) ∧
      exec (.sDivu c d a b p) s = put (if y = 0 then -1 else x / y) ∧
      exec (.sRem c d a b p) s = put (if y = 0 then x else x.srem y) ∧
      exec (.sRemu c d a b p) s = put (if y = 0 then x else x % y)) ∧
    (bits (k.pr p) 0 0 = 0 →
      exec (.sAdd c d a b p) s = .next (s.commits c k) ∧ exec (.sSub c d a b p) s = .next (s.commits c k) ∧
      exec (.sMul c d a b p) s = .next (s.commits c k) ∧ exec (.sDiv c d a b p) s = .next (s.commits c k))

/-- One-operand and immediate scalar instructions (R104, R179, R180, R182). -/
def Obligations.ImmediateAndMoveResults : Prop :=
  ∀ (s : State) (c : CoreId) (d a : GReg) (p : PReg) (imm : BitVec 16) (n : Fin 64) (hw : Fin 4),
    s.canIssue c [a.val] [d.val] →
    let k := s.core c.val
    let x := k.gr a
    let put := fun v => (Host.Outcome.next (s.commits c (k.setG d v)) : Host.Outcome State Fault Refusal)
    (bits (k.pr p) 0 0 = 1 →
      exec (.sClz c d a p) s = put (BitVec.ofNat 64 (if x = 0 then 64 else 63 - x.toNat.log2)) ∧
      exec (.sPopc c d a p) s = put (BitVec.ofNat 64 ((List.range 64).countP fun i => x.getLsbD i)) ∧
      exec (.sSextB c d a p) s = put ((x.setWidth 8).signExtend 64) ∧
      exec (.sSextH c d a p) s = put ((x.setWidth 16).signExtend 64) ∧
      exec (.sSextW c d a p) s = put ((x.setWidth 32).signExtend 64) ∧
      exec (.sZextB c d a p) s = put (x &&& 0xFF) ∧
      exec (.sZextH c d a p) s = put (x &&& 0xFFFF) ∧
      exec (.sZextW c d a p) s = put (x &&& 0xFFFFFFFF)) ∧
    exec (.sAddi c d a imm) s = put (x + imm.signExtend 64) ∧
    exec (.sAndi c d a imm) s = put (x &&& imm.setWidth 64) ∧
    exec (.sOri c d a imm) s = put (x ||| imm.setWidth 64) ∧
    exec (.sXori c d a imm) s = put (x ^^^ imm.setWidth 64) ∧
    exec (.sShi c d a 0 n) s = put (x <<< n.val) ∧
    exec (.sShi c d a 1 n) s = put (x >>> n.val) ∧
    exec (.sShi c d a 2 n) s = put (x.sshiftRight n.val) ∧
    exec (.sShi c d a 3 n) s = put (x.rotateRight n.val) ∧
    exec (.sMovl c d imm) s = put (imm.setWidth 64) ∧
    exec (.sMovh c d hw imm) s =
      put ((k.gr d &&& ~~~((0xFFFF : DWord) <<< (16 * hw.val))) ||| (imm.setWidth 64 <<< (16 * hw.val)))

/-- Compares and predicate instructions (R104, R183 to R185). -/
def Obligations.CompareAndPredicateResults : Prop :=
  ∀ (s : State) (c : CoreId) (a b d : GReg) (va vb : VReg) (pa pb pd p : PReg) (cond : Fin 8) (imm : BitVec 15) (fp wide : Bool),
    let k := s.core c.val
    let test := fun (x y : DWord) => match cond.val with
      | 0 => x == y
      | 1 => x != y
      | 2 => x.slt y
      | 3 => !x.slt y
      | 4 => x.ult y
      | 5 => !x.ult y
      | 6 => (x &&& y) != 0
      | _ => (x - y).slt 0
    let put := fun v => (Host.Outcome.next (s.commits c (k.setP pd v)) : Host.Outcome State Fault Refusal)
    (s.canIssue c [a.val, b.val] [] → bits (k.pr p) 0 0 = 1 →
      exec (.sCmp c pd a b p cond) s = put (if test (k.gr a) (k.gr b) then 0xFF else 0)) ∧
    (s.canIssue c [a.val] [] → exec (.sCmpi c pd cond a imm) s = put (if test (k.gr a) (imm.signExtend 64) then 0xFF else 0)) ∧
    (s.canIssue c [32 + va.val, 32 + vb.val] [] → (if fp then wide = false ∧ cond.val < 4 else cond.val ≠ 7) →
      exec (.sVcmp c pd va vb p fp wide cond) s = put (vcmpOp fp wide cond.val (k.pr p) (k.pr pd) (k.vr va) (k.vr vb))) ∧
    (s.canIssue c [] [] → (fp = true ∧ wide = true ∨ fp = true ∧ 4 ≤ cond.val ∨ fp = false ∧ cond.val = 7) →
      exec (.sVcmp c pd va vb p fp wide cond) s =
        .next (s.exc c.val Code.TILE_ILLEGAL (encR 0x22 pd va vb p (cond.val + b2n wide * 8 + b2n fp * 16)))) ∧
    (s.canIssue c [] [] →
      exec (.sPand c pd pa pb) s = put (k.pr pa &&& k.pr pb) ∧
      exec (.sPor c pd pa pb) s = put (k.pr pa ||| k.pr pb) ∧
      exec (.sPxor c pd pa pb) s = put (k.pr pa ^^^ k.pr pb) ∧
      exec (.sPandn c pd pa pb) s = put (k.pr pa &&& ~~~k.pr pb) ∧
      exec (.sPnot c pd pa) s = put (~~~k.pr pa)) ∧
    (s.canIssue c [a.val] [] → exec (.sPmovg c pd a) s = put ((k.gr a).setWidth 8)) ∧
    (s.canIssue c [] [d.val] → exec (.sGmovp c d pa) s = .next (s.commits c (k.setG d ((k.pr pa).setWidth 64))))

/-- Branches and jumps set PC to their target, link PC + 4, count down, or go on, and change nothing else. -/
def Obligations.BranchesAndJumps : Prop :=
  -- B
  (∀ (c : CoreId) (off : BitVec 26) (s : State), s.canIssue c [] [] → exec (.sB c off) s = .next (s.setCore c.val { s.core c.val with pc := (s.core c.val).pc + off.signExtend 64 * 4 })) ∧
  -- BL
  (∀ (c : CoreId) (off : BitVec 26) (s : State), s.canIssue c [] [30] → exec (.sBl c off) s = .next (s.setCore c.val { (s.core c.val).setG 30 ((s.core c.val).pc + 4) with pc := (s.core c.val).pc + off.signExtend 64 * 4 })) ∧
  -- BC
  (∀ (c : CoreId) (p : PReg) (test : Fin 4) (off : BitVec 21) (s : State), s.canIssue c [] [] → 
    if test = 0 then bits ((s.core c.val).pr p) 0 0 = 1 else if test = 1 then bits ((s.core c.val).pr p) 0 0 = 0 else if test = 2 then (s.core c.val).pr p ≠ 0 else (s.core c.val).pr p = 0 → 
    exec (.sBc c p test off) s = .next (s.setCore c.val { s.core c.val with pc := (s.core c.val).pc + off.signExtend 64 * 4 })) ∧
  -- BC
  (∀ (c : CoreId) (p : PReg) (test : Fin 4) (off : BitVec 21) (s : State), s.canIssue c [] [] → 
    if test = 0 then bits ((s.core c.val).pr p) 0 0 = 0 else if test = 1 then bits ((s.core c.val).pr p) 0 0 = 1 else if test = 2 then (s.core c.val).pr p = 0 else (s.core c.val).pr p ≠ 0 → 
    exec (.sBc c p test off) s = .next (s.commits c (s.core c.val))) ∧
  -- DBNZ
  (∀ (c : CoreId) (g : GReg) (off : BitVec 21) (s : State), s.canIssue c [g.val] [g.val] → g ≠ 0 → 
    (s.core c.val).gr g ≠ 1 → exec (.sDbnz c g off) s = .next (s.setCore c.val { (s.core c.val).setG g ((s.core c.val).gr g - 1) with pc := (s.core c.val).pc + off.signExtend 64 * 4 })) ∧
  -- DBNZ
  (∀ (c : CoreId) (g : GReg) (off : BitVec 21) (s : State), s.canIssue c [g.val] [g.val] → g ≠ 0 → 
    (s.core c.val).gr g = 1 → exec (.sDbnz c g off) s = .next (s.commits c ((s.core c.val).setG g 0))) ∧
  -- DBNZ
  (∀ (c : CoreId) (off : BitVec 21) (s : State), s.canIssue c [] [] → exec (.sDbnz c 0 off) s = .next (s.exc c.val Code.TILE_ILLEGAL (encD 0 off.toNat))) ∧
  -- JR
  (∀ (c : CoreId) (a : GReg) (p : PReg) (s : State), s.canIssue c [a.val] [] → bits ((s.core c.val).pr p) 0 0 = 1 → 
    bits ((s.core c.val).gr a) 1 0 = 0 → exec (.sJr c a p) s = .next (s.setCore c.val { s.core c.val with pc := (s.core c.val).gr a })) ∧
  -- JR
  (∀ (c : CoreId) (a : GReg) (p : PReg) (s : State), s.canIssue c [a.val] [] → bits ((s.core c.val).pr p) 0 0 = 1 → 
    bits ((s.core c.val).gr a) 1 0 ≠ 0 → exec (.sJr c a p) s = .next (s.exc c.val Code.TILE_ALIGN (encR 0x06 0 a 0 p 0) ((s.core c.val).gr a).toNat)) ∧
  -- JR
  (∀ (c : CoreId) (a : GReg) (p : PReg) (s : State), s.canIssue c [] [] → bits ((s.core c.val).pr p) 0 0 = 0 → exec (.sJr c a p) s = .next (s.commits c (s.core c.val))) ∧
  -- JLR
  (∀ (c : CoreId) (d a : GReg) (p : PReg) (s : State), s.canIssue c [a.val] [d.val] → bits ((s.core c.val).pr p) 0 0 = 1 → 
    bits ((s.core c.val).gr a) 1 0 = 0 → exec (.sJlr c d a p) s = .next (s.setCore c.val { (s.core c.val).setG d ((s.core c.val).pc + 4) with pc := (s.core c.val).gr a })) ∧
  -- JLR
  (∀ (c : CoreId) (d a : GReg) (p : PReg) (s : State), s.canIssue c [a.val] [d.val] → bits ((s.core c.val).pr p) 0 0 = 1 → 
    bits ((s.core c.val).gr a) 1 0 ≠ 0 → exec (.sJlr c d a p) s = .next (s.exc c.val Code.TILE_ALIGN (encR 0x06 d a 0 p 1) ((s.core c.val).gr a).toNat)) ∧
  -- JLR
  (∀ (c : CoreId) (d a : GReg) (p : PReg) (s : State), s.canIssue c [] [] → bits ((s.core c.val).pr p) 0 0 = 0 → exec (.sJlr c d a p) s = .next (s.commits c (s.core c.val))) ∧
  -- NOP
  (∀ (c : CoreId) (s : State), s.canIssue c [] [] → exec (.sNop c) s = .next (s.commits c (s.core c.val))) ∧
  -- TRAP
  (∀ (c : CoreId) (imm : BitVec 16) (s : State), s.canIssue c [] [] → (c.val = 256 ∨ c.val = 257) → 
    (s.core c.val).edepth = 0 → (s.core c.val).loads = [] → Runs (.sTrap c imm) s fun t =>
    (t.core c.val).epc = (s.core c.val).pc ∧ (t.core c.val).ecause = BitVec.ofNat 32 (Code.TILE_TRAP + b2n (s.core c.val).gie * 2 ^ 30) ∧ (t.core c.val).eaddr = 0 ∧ (t.core c.val).gie = false ∧ (t.core c.val).edepth = 1 ∧ (t.core c.val).pc = (s.core c.val).evec ∧ t.mem = s.mem) ∧
  -- TRAP
  (∀ (c : CoreId) (imm : BitVec 16) (s : State), s.canIssue c [] [] → c.val < 256 → (s.core c.val).loads = [] → 
    (s.core c.val).pins = [] → (s.core c.val).kernel = none → s.bit (0x1000 * (c.val / 16) + Reg.TILE_CTRL) 16 = true → Runs (.sTrap c imm) s fun t =>
    (t.core c.val).run = .held ∧ t.reg (State.coreReg Reg.TILE_C_CAUSE c.val) = BitVec.ofNat 32 Code.TILE_TRAP ∧ t.mem = s.mem)

/-- Fences wait for what is open and then go on; barriers let every member go on once all have reached them. -/
def Obligations.FencesAndBarriers : Prop :=
  -- FENCE_T
  (∀ (c : CoreId) (s : State), s.canIssue c [] [] → (s.core c.val).loads = [] → exec (.sFenceT c) s = .next (s.commits c (s.core c.val))) ∧
  -- FENCE_T
  (∀ (c : CoreId) (s : State), s.canIssue c [] [] → (s.core c.val).loads ≠ [] → exec (.sFenceT c) s = .next (s.setCore c.val { s.core c.val with fence := .t })) ∧
  -- FENCE_D
  (∀ (c : CoreId) (s : State), s.canIssue c [] [] → (s.core c.val).loads = [] → exec (.sFenceD c) s = .next (s.commits c (s.core c.val))) ∧
  -- FENCE_D
  (∀ (c : CoreId) (s : State), s.canIssue c [] [] → (s.core c.val).loads ≠ [] → exec (.sFenceD c) s = .next (s.setCore c.val { s.core c.val with fence := .d })) ∧
  -- FENCE_F
  (∀ (c : CoreId) (s : State), s.canIssue c [] [] → (s.core c.val).loads = [] → (s.core c.val).remote = [] → 
    (s.core c.val).flushes = [] → (s.core c.val).farNodes = [] → exec (.sFenceF c) s = .next (s.commits c (s.core c.val))) ∧
  -- FENCE_F
  (∀ (c : CoreId) (s : State), s.canIssue c [] [] → s.slotsFree c.val < (s.core c.val).farNodes.length → exec (.sFenceF c) s = .next s) ∧
  -- FENCE_COMPLETE
  (∀ (c : CoreId) (s : State), ((s.core c.val).fence = .t ∨ (s.core c.val).fence = .d) → (s.core c.val).loads = [] → exec (.fenceComplete c) s = .next (s.commits c { s.core c.val with fence := .none })) ∧
  -- FENCE_COMPLETE
  (∀ (c : CoreId) (s : State), (s.core c.val).fence = .f → (s.core c.val).loads = [] → (s.core c.val).remote = [] → 
    (s.core c.val).flushes = [] → exec (.fenceComplete c) s = .next (s.commits c { s.core c.val with fence := .none, farNodes := [] })) ∧
  -- BAR_T
  (∀ (c : CoreId) (s : State), c.val < 256 → s.canIssue c [] [] → (s.core c.val).loads = [] → 
    s.barrierMembers c.val true = [c.val] → Runs (.sBarT c) s fun t =>
    (t.core c.val).run = .run ∧ (t.core c.val).wait = .none ∧ (t.core c.val).pc = (s.core c.val).pc + 4 ∧ (∀ i, i ≠ c.val → t.core i = s.core i)) ∧
  -- BAR_T
  (∀ (c : CoreId) (m : Nat) (s : State), c.val < 256 → s.canIssue c [] [] → (s.core c.val).loads = [] → 
    m ∈ s.barrierMembers c.val true → m ≠ c.val → exec (.sBarT c) s = .next (s.setCore c.val { s.core c.val with run := .wait, wait := .barT })) ∧
  -- BAR_G
  (∀ (c : CoreId) (s : State), c.val < 256 → s.canIssue c [] [] → (s.core c.val).loads = [] → 
    s.barrierMembers c.val false = [c.val] → Runs (.sBarG c) s fun t =>
    (t.core c.val).run = .run ∧ (t.core c.val).wait = .none ∧ (t.core c.val).pc = (s.core c.val).pc + 4 ∧ (∀ i, i ≠ c.val → t.core i = s.core i)) ∧
  -- BAR_G
  (∀ (c : CoreId) (m : Nat) (s : State), c.val < 256 → s.canIssue c [] [] → (s.core c.val).loads = [] → 
    m ∈ s.barrierMembers c.val false → m ≠ c.val → exec (.sBarG c) s = .next (s.setCore c.val { s.core c.val with run := .wait, wait := .barG })) ∧
  -- BAR_T
  (∀ (c : CoreId) (s : State), 256 ≤ c.val → s.canIssue c [] [] → exec (.sBarT c) s = .next (s.exc c.val Code.TILE_ILLEGAL (encR 0x19 0 0 0 0 4))) ∧
  -- BAR_G
  (∀ (c : CoreId) (s : State), 256 ≤ c.val → s.canIssue c [] [] → exec (.sBarG c) s = .next (s.exc c.val Code.TILE_ILLEGAL (encR 0x19 0 0 0 0 5))) ∧
  -- BARRIER_COMPLETE
  (∀ (c : CoreId) (s : State), ((s.core c.val).wait = .barT ∨ (s.core c.val).wait = .barG) → 
    (s.barrierMembers c.val ((s.core c.val).wait == .barT)).Nodup → 
    (∀ m ∈ s.barrierMembers c.val ((s.core c.val).wait == .barT), s.atBarrier c.val m (s.core c.val).wait = true) → Runs (.barrierComplete c) s fun t =>
    (∀ m ∈ s.barrierMembers c.val ((s.core c.val).wait == .barT), (t.core m).run = .run ∧ (t.core m).wait = .none ∧ (t.core m).pc = (s.core m).pc + 4) ∧ (∀ m, m ∉ s.barrierMembers c.val ((s.core c.val).wait == .barT) → t.core m = s.core m))

/-- RDPH reads the phase; WAITPH and WAITPH.K go on when the phase has reached their target, wait for it, or raise PHASE_RANGE. -/
def Obligations.PhaseWaits : Prop :=
  -- RDPH
  (∀ (c : CoreId) (d : GReg) (s : State), s.canIssue c [] [d.val] → exec (.sRdph c d) s = .next (s.commits c ((s.core c.val).setG d s.phase))) ∧
  -- WAITPH
  (∀ (c : CoreId) (a : GReg) (s : State), s.canIssue c [a.val] [] → phaseDiff ((s.core c.val).gr a) s.phase ≤ 0 → 
    s.stopped = false → exec (.sWaitph c a) s = .next (s.commits c { s.core c.val with kstat := wset (s.core c.val).kstat 4 4 1 })) ∧
  -- WAITPH
  (∀ (c : CoreId) (a : GReg) (s : State), s.canIssue c [a.val] [] → 
    (0 < phaseDiff ((s.core c.val).gr a) s.phase ∨ s.stopped = true) → 
    phaseDiff ((s.core c.val).gr a) s.phase ≤ 2 ^ 62 → exec (.sWaitph c a) s = .next (s.setCore c.val { s.core c.val with kstat := wset (s.core c.val).kstat 4 4 0, run := .wait, wait := .phase ((s.core c.val).gr a) })) ∧
  -- WAITPH
  (∀ (c : CoreId) (a : GReg) (s : State), s.canIssue c [a.val] [] → 2 ^ 62 < phaseDiff ((s.core c.val).gr a) s.phase → exec (.sWaitph c a) s = .next (s.exc c.val Code.TILE_PHASE_RANGE (encR 0x1A 0 a 0 0 1))) ∧
  -- WAITPH_K
  (∀ (c : CoreId) (a : GReg) (s : State), c.val < 256 → s.canIssue c [a.val] [] → 
    phaseDiff ((s.core c.val).lphase + (s.core c.val).gr a) s.phase ≤ 0 → s.stopped = false → exec (.sWaitphK c a) s = .next (s.commits c { s.core c.val with kstat := wset (s.core c.val).kstat 4 4 1 })) ∧
  -- WAITPH_K
  (∀ (c : CoreId) (a : GReg) (s : State), c.val < 256 → s.canIssue c [a.val] [] → 
    (0 < phaseDiff ((s.core c.val).lphase + (s.core c.val).gr a) s.phase ∨ s.stopped = true) → 
    phaseDiff ((s.core c.val).lphase + (s.core c.val).gr a) s.phase ≤ 2 ^ 62 → exec (.sWaitphK c a) s = .next (s.setCore c.val { s.core c.val with kstat := wset (s.core c.val).kstat 4 4 0, run := .wait, wait := .phase ((s.core c.val).lphase + (s.core c.val).gr a) })) ∧
  -- WAITPH_K
  (∀ (c : CoreId) (a : GReg) (s : State), c.val < 256 → s.canIssue c [a.val] [] → 
    2 ^ 62 < phaseDiff ((s.core c.val).lphase + (s.core c.val).gr a) s.phase → exec (.sWaitphK c a) s = .next (s.exc c.val Code.TILE_PHASE_RANGE (encR 0x1A 0 a 0 0 2))) ∧
  -- WAITPH_K
  (∀ (c : CoreId) (a : GReg) (s : State), 256 ≤ c.val → s.canIssue c [] [] → exec (.sWaitphK c a) s = .next (s.exc c.val Code.TILE_ILLEGAL (encR 0x1A 0 a 0 0 2))) ∧
  -- WAITPH_RELEASE
  (∀ (c : CoreId) (target : DWord) (s : State), (s.core c.val).run = .wait → (s.core c.val).wait = .phase target → 
    phaseBefore s.phase target = false → s.stopped = false → exec (.waitphRelease c) s = .next (s.commits c { s.core c.val with run := .run, wait := .none })) ∧
  -- WAITPH_RELEASE
  (∀ (c : CoreId) (target : DWord) (s : State), (s.core c.val).wait = .phase target → 
    (phaseBefore s.phase target = true ∨ s.stopped = true) → exec (.waitphRelease c) s = .next s) ∧
  -- WFI
  (∀ (c : CoreId) (s : State), 256 ≤ c.val → s.canIssue c [] [] → s.ipendOf c.val ≠ 0 → exec (.sWfi c) s = .next (s.commits c (s.core c.val))) ∧
  -- WFI
  (∀ (c : CoreId) (s : State), 256 ≤ c.val → s.canIssue c [] [] → s.ipendOf c.val = 0 → exec (.sWfi c) s = .next (s.setCore c.val { s.core c.val with run := .wait, wait := .wfi })) ∧
  -- WFI
  (∀ (c : CoreId) (s : State), c.val < 256 → s.canIssue c [] [] → exec (.sWfi c) s = .next (s.exc c.val Code.TILE_PRIV (encR 0x1E 0 0 0 0 1))) ∧
  -- WFI_WAKE
  (∀ (n : Fin 4) (s : State), (s.core (256 + n.val)).run = .wait → (s.core (256 + n.val)).wait = .wfi → 
    s.ipendOf (256 + n.val) ≠ 0 → exec (.wfiWake n) s = .next (s.setCore (256 + n.val) { s.core (256 + n.val) with run := .run, wait := .none, pc := (s.core (256 + n.val)).pc + 4 })) ∧
  -- RING_INTERRUPT
  (∀ (n : Fin 4) (s : State), (s.core (256 + n.val)).run = .run → (s.core (256 + n.val)).fence = .none → 
    (s.core (256 + n.val)).gie = true → s.ipendOf (256 + n.val) ≠ 0 → (s.core (256 + n.val)).edepth < 2 → Runs (.ringInterrupt n) s fun t =>
    (t.core (256 + n.val)).epc = (s.core (256 + n.val)).pc ∧ (t.core (256 + n.val)).ecause = 0xC0000000 ∧ (t.core (256 + n.val)).eaddr = 0 ∧ (t.core (256 + n.val)).gie = false ∧ (t.core (256 + n.val)).edepth = (s.core (256 + n.val)).edepth + 1 ∧ (t.core (256 + n.val)).pc = (s.core (256 + n.val)).evec ∧ (t.core (256 + n.val)).g = (s.core (256 + n.val)).g ∧ t = s.setCore (256 + n.val) (t.core (256 + n.val)))

/-- MVS reads and MVT writes the special registers of the table; ERET leaves a handler; field cores are refused supervisor registers. -/
def Obligations.SpecialRegistersAndHandlers : Prop :=
  -- MVS
  (∀ (c : CoreId) (d : GReg) (sr : BitVec 12) (s : State), s.canIssue c [] [d.val] → srExists sr.toNat = true → 
    (256 ≤ c.val ∨ sr.toNat < 0x100) → exec (.sMvs c d sr) s = .next (s.commits c ((s.core c.val).setG d (s.srRead c.val sr.toNat)))) ∧
  -- MVS
  (∀ (c : CoreId) (d : GReg) (sr : BitVec 12) (s : State), s.canIssue c [] [d.val] → srExists sr.toNat = true → 
    c.val < 256 → 0x100 ≤ sr.toNat → exec (.sMvs c d sr) s = .next (s.exc c.val Code.TILE_PRIV (encS d 0 sr.toNat))) ∧
  -- MVS
  (∀ (c : CoreId) (d : GReg) (sr : BitVec 12) (s : State), s.canIssue c [] [d.val] → srExists sr.toNat = false → exec (.sMvs c d sr) s = .next (s.exc c.val Code.TILE_ILLEGAL (encS d 0 sr.toNat))) ∧
  -- MVT
  (∀ (c : CoreId) (a : GReg) (sr : BitVec 12) (s : State), s.canIssue c [a.val] [] → sr = 9 → exec (.sMvt c a sr) s = .next (s.commits c { s.core c.val with kstat := ((s.core c.val).gr a).setWidth 32 &&& 0x3F })) ∧
  -- MVT
  (∀ (c : CoreId) (a : GReg) (sr : BitVec 12) (s : State), s.canIssue c [a.val] [] → sr = 0xA → exec (.sMvt c a sr) s = .next (s.commits c { s.core c.val with fpsr := ((s.core c.val).gr a).setWidth 32 &&& 0xF })) ∧
  -- MVT
  (∀ (c : CoreId) (a : GReg) (sr : BitVec 12) (s : State), s.canIssue c [a.val] [] → sr = 0xC → c.val < 256 → exec (.sMvt c a sr) s = .next (s.commits c { s.core c.val with rtx := ((s.core c.val).gr a).getLsbD 0 })) ∧
  -- MVT
  (∀ (c : CoreId) (a : GReg) (sr : BitVec 12) (s : State), s.canIssue c [a.val] [] → 256 ≤ c.val → sr = 0x100 → exec (.sMvt c a sr) s = .next (s.commits c { s.core c.val with evec := (s.core c.val).gr a })) ∧
  -- MVT
  (∀ (c : CoreId) (a : GReg) (sr : BitVec 12) (s : State), s.canIssue c [a.val] [] → 256 ≤ c.val → sr = 0x101 → exec (.sMvt c a sr) s = .next (s.commits c { s.core c.val with epc := (s.core c.val).gr a })) ∧
  -- MVT
  (∀ (c : CoreId) (a : GReg) (sr : BitVec 12) (s : State), s.canIssue c [a.val] [] → 256 ≤ c.val → sr = 0x102 → exec (.sMvt c a sr) s = .next (s.commits c { s.core c.val with ecause := ((s.core c.val).gr a).setWidth 32 &&& 0xC000FFFF })) ∧
  -- MVT
  (∀ (c : CoreId) (a : GReg) (sr : BitVec 12) (s : State), s.canIssue c [a.val] [] → 256 ≤ c.val → sr = 0x103 → exec (.sMvt c a sr) s = .next (s.commits c { s.core c.val with eaddr := (s.core c.val).gr a })) ∧
  -- MVT
  (∀ (c : CoreId) (a : GReg) (sr : BitVec 12) (s : State), s.canIssue c [a.val] [] → 256 ≤ c.val → sr = 0x105 → exec (.sMvt c a sr) s = .next (s.commits c { s.core c.val with esave0 := (s.core c.val).gr a })) ∧
  -- MVT
  (∀ (c : CoreId) (a : GReg) (sr : BitVec 12) (s : State), s.canIssue c [a.val] [] → 256 ≤ c.val → sr = 0x106 → exec (.sMvt c a sr) s = .next (s.commits c { s.core c.val with esave1 := (s.core c.val).gr a })) ∧
  -- MVT
  (∀ (c : CoreId) (a : GReg) (sr : BitVec 12) (s : State), s.canIssue c [a.val] [] → 256 ≤ c.val → sr = 0x110 → exec (.sMvt c a sr) s = .next (s.commits c { s.core c.val with ien := (s.core c.val).gr a })) ∧
  -- MVT
  (∀ (c : CoreId) (a : GReg) (sr : BitVec 12) (s : State), s.canIssue c [a.val] [] → 256 ≤ c.val → sr = 0x112 → exec (.sMvt c a sr) s = .next (s.commits c { s.core c.val with gie := ((s.core c.val).gr a).getLsbD 0 })) ∧
  -- MVT
  (∀ (c : CoreId) (a : GReg) (sr : BitVec 12) (s : State), s.canIssue c [a.val] [] → (sr.toNat ≤ 8 ∨ sr.toNat = 0xB) → exec (.sMvt c a sr) s = .next (s.commits c (s.core c.val))) ∧
  -- MVT
  (∀ (c : CoreId) (a : GReg) (sr : BitVec 12) (s : State), s.canIssue c [a.val] [] → c.val < 256 → 
    srExists sr.toNat = true → 0x100 ≤ sr.toNat → exec (.sMvt c a sr) s = .next (s.exc c.val Code.TILE_PRIV (encS a 1 sr.toNat))) ∧
  -- ERET
  (∀ (c : CoreId) (s : State), 256 ≤ c.val → s.canIssue c [] [] → (s.core c.val).edepth ≠ 0 → exec (.sEret c) s = .next (s.setCore c.val { s.core c.val with pc := (s.core c.val).epc, gie := (s.core c.val).ecause.getLsbD 30, edepth := (s.core c.val).edepth - 1 })) ∧
  -- ERET
  (∀ (c : CoreId) (s : State), 256 ≤ c.val → s.canIssue c [] [] → (s.core c.val).edepth = 0 → exec (.sEret c) s = .next (s.exc c.val Code.TILE_ILLEGAL (encR 0x1E 0 0 0 0 0))) ∧
  -- ERET
  (∀ (c : CoreId) (s : State), c.val < 256 → s.canIssue c [] [] → exec (.sEret c) s = .next (s.exc c.val Code.TILE_PRIV (encR 0x1E 0 0 0 0 0))) ∧
  -- LOAD_RETURN
  (
    ∀ (c : CoreId) (i : Fin 8) (d : GReg) (val : Vec) (m : BitVec 8) (a : Nat) (s : State), (s.core c.val).loads[i.val]? = some ⟨false, d.val, val, m, a, false⟩ → 
    exec (.loadReturn c i) s = .next (s.setCore c.val { (s.core c.val).setG d (val.setWidth 64) with loads := (s.core c.val).loads.eraseIdx i.val })) ∧
  -- LOAD_RETURN
  (
    ∀ (c : CoreId) (i : Fin 8) (d : GReg) (val : Vec) (m : BitVec 8) (a : Nat) (s : State), (s.core c.val).loads[i.val]? = some ⟨false, d.val, val, m, a, true⟩ → 
    d ≠ 0 → Runs (.loadReturn c i) s fun t =>
    (t.core c.val).firstPoison [d.val] = some a ∧ (t.core c.val).loads = (s.core c.val).loads.eraseIdx i.val) ∧
  -- FIELD_EXCEPTION
  (∀ (tile n : Fin 16) (w : Word) (s : State), s.canIssue (Fin.ofNat 260 (tile.val * 16 + n.val)) [] [] → 
    wordLegal true w = false → exec (.fieldException tile n w) s = .next (s.exc (tile.val * 16 + n.val) Code.TILE_ILLEGAL w)) ∧
  -- SUP_EXCEPTION
  (∀ (n : Fin 4) (w : Word) (s : State), s.canIssue (Fin.ofNat 260 (256 + n.val)) [] [] → wordLegal false w = false → exec (.supException n w) s = .next (s.exc (256 + n.val) Code.TILE_ILLEGAL w)) ∧
  -- BUDGET_EXPIRY
  (
    ∀ (tile n : Fin 16) (s : State), ((s.core (tile.val * 16 + n.val)).run = .run ∨ (s.core (tile.val * 16 + n.val)).run = .wait) → 
    s.overBudget (tile.val * 16 + n.val) = true → exec (.budgetExpiry tile n) s = .next (s.exc (tile.val * 16 + n.val) Code.TILE_BUDGET (s.memWord (s.core (tile.val * 16 + n.val)).pc.toNat)))

/-- SCHED posts to the Ephemeris; RPUSH, RPOP and RDROP act on a ring and report in g[d] and KSTAT. -/
def Obligations.RingAndScheduleInstructions : Prop :=
  -- SCHED
  (∀ (c : CoreId) (d : GReg) (a : VReg) (s : State), a.val % 2 = 0 → 
    s.canIssue c [32 + a.val, 32 + (vNext a).val] [d.val] → (s.core c.val).loads = [] → 256 ≤ c.val → d ≠ 0 → Runs (.sSched c d a) s fun t =>
    (t.core c.val).gr d = BitVec.ofNat 64 (s.ephSubmit ((List.range 8).map (entryWord (entryOfPair ((s.core c.val).vr a) ((s.core c.val).vr (vNext a)))))).1 ∧ t.eph = (s.ephSubmit ((List.range 8).map (entryWord (entryOfPair ((s.core c.val).vr a) ((s.core c.val).vr (vNext a)))))).2.eph ∧ (t.core c.val).pc = (s.core c.val).pc + 4) ∧
  -- SCHED
  (∀ (c : CoreId) (d : GReg) (a : VReg) (s : State), a.val % 2 = 0 → 
    s.canIssue c [32 + a.val, 32 + (vNext a).val] [d.val] → (s.core c.val).loads = [] → c.val < 256 → 
    s.bit (State.tileReg Reg.TILE_SCHED_MASK c.val) (bits ((s.core c.val).vr a) 71 64) = false → exec (.sSched c d a) s = .next (s.commits c ((s.core c.val).setG d 3))) ∧
  -- SCHED
  (∀ (c : CoreId) (d : GReg) (a : VReg) (s : State), a.val % 2 = 1 → s.canIssue c [] [] → exec (.sSched c d a) s = .next (s.exc c.val Code.TILE_ILLEGAL (encR 0x1A d a 0 0 3))) ∧
  -- RPUSH
  (∀ (c : CoreId) (d : GReg) (a : VReg) (ring : RingId) (s : State), a.val % 2 = 0 → 
    s.canIssue c [32 + a.val, 32 + (vNext a).val] [d.val] → (s.core c.val).loads = [] → 
    s.mayRing c.val ring.val = true → s.ringRoom ring.val 1 = true → (s.ring ring.val).dropping = false → d ≠ 0 → Runs (.sRpush c d a ring false 0) s fun t =>
    (t.core c.val).gr d = 0 ∧ bits (t.core c.val).kstat 3 3 = 0 ∧ (t.core c.val).pc = (s.core c.val).pc + 4 ∧ (t.ring ring.val).pushSeq = ((s.ring ring.val).pushSeq + 1) % 65536 ∧ t.reg (Reg.RING_PUSH_CNT + 0x100 * ring.val) = s.reg (Reg.RING_PUSH_CNT + 0x100 * ring.val) + 1 ∧ (t.ring ring.val).head ++ (t.ring ring.val).spill ++ (t.ring ring.val).tail = (s.ring ring.val).head ++ (s.ring ring.val).spill ++ (s.ring ring.val).tail ++ [entryWithSeq (entryOfPair ((s.core c.val).vr a) ((s.core c.val).vr (vNext a))) (s.ring ring.val).pushSeq]) ∧
  -- RPUSH
  (∀ (c : CoreId) (d : GReg) (a : VReg) (ring : RingId) (s : State), a.val % 2 = 0 → 
    s.canIssue c [32 + a.val, 32 + (vNext a).val] [d.val] → (s.core c.val).loads = [] → 
    s.mayRing c.val ring.val = true → s.ringRoom ring.val 1 = false → d ≠ 0 → Runs (.sRpush c d a ring false 0) s fun t =>
    (t.core c.val).gr d = 1 ∧ bits (t.core c.val).kstat 3 3 = 1 ∧ (t.core c.val).pc = (s.core c.val).pc + 4 ∧ t.rings = s.rings ∧ t.reg (Reg.RING_REFUSE_CNT + 0x100 * ring.val) = s.reg (Reg.RING_REFUSE_CNT + 0x100 * ring.val) + 1) ∧
  -- RPOP
  (∀ (c : CoreId) (d : GReg) (a : VReg) (ring : RingId) (e0 : Entry) (es : List Entry) (s : State), a.val % 2 = 0 → 
    s.canIssue c [] [d.val, 32 + a.val, 32 + (vNext a).val] → s.mayRing c.val ring.val = true → 
    s.ringEn ring.val = true → (s.ring ring.val).head ++ (s.ring ring.val).spill ++ (s.ring ring.val).tail = e0 :: es → 
    d ≠ 0 → Runs (.sRpop c d a ring false 0) s fun t =>
    (t.core c.val).gr d = (entryWord e0 0).setWidth 64 ∧ entryOfPair ((t.core c.val).vr a) ((t.core c.val).vr (vNext a)) = e0 ∧ bits (t.core c.val).kstat 2 2 = 0 ∧ (t.core c.val).pc = (s.core c.val).pc + 4 ∧ (t.ring ring.val).head ++ (t.ring ring.val).spill ++ (t.ring ring.val).tail = es ∧ (t.ring ring.val).popSeq = ((s.ring ring.val).popSeq + 1) % 65536 ∧ t.reg (Reg.RING_POP_CNT + 0x100 * ring.val) = s.reg (Reg.RING_POP_CNT + 0x100 * ring.val) + 1) ∧
  -- RPOP
  (∀ (c : CoreId) (d : GReg) (a : VReg) (ring : RingId) (s : State), a.val % 2 = 0 → 
    s.canIssue c [] [d.val, 32 + a.val, 32 + (vNext a).val] → s.mayRing c.val ring.val = true → 
    (s.ring ring.val).count = 0 → (s.ring ring.val).popSeq < 65536 → Runs (.sRpop c d a ring false 0) s fun t =>
    entryOfPair ((t.core c.val).vr a) ((t.core c.val).vr (vNext a)) = BitVec.ofNat 256 ((s.ring ring.val).popSeq * 2 ^ 16) ∧ bits (t.core c.val).kstat 2 2 = 1 ∧ (t.core c.val).pc = (s.core c.val).pc + 4 ∧ t.rings = s.rings ∧ t.regs = s.regs) ∧
  -- RDROP
  (∀ (c : CoreId) (d : GReg) (ring : RingId) (e0 : Entry) (es : List Entry) (s : State), s.canIssue c [] [d.val] → 
    s.mayRing c.val ring.val = true → s.ringEn ring.val = true → 
    (s.ring ring.val).head ++ (s.ring ring.val).spill ++ (s.ring ring.val).tail = e0 :: es → entrySop e0 = true → exec (.sRdrop c d ring false 0) s = .next (s.commits c ((s.core c.val).setG d 0))) ∧
  -- RDROP
  (∀ (c : CoreId) (d : GReg) (ring : RingId) (s : State), c.val < 256 → s.canIssue c [] [d.val] → 
    s.bit (State.tileReg Reg.TILE_RING_MASK_LO c.val + ring.val / 32 * 4) (ring.val % 32) = false → exec (.sRdrop c d ring false 0) s = .next (s.exc c.val Code.TILE_ACCESS (encQ d 0 ring 2 0 0)))

/-- PIN, UNPIN and PST act on a generation of a plate buffer, and say in g[d] or by an exception when they cannot. -/
def Obligations.PlateInstructions : Prop :=
  -- PIN
  (∀ (c : CoreId) (d a : GReg) (s : State), c.val < 256 → s.canIssue c [a.val] [d.val] → 
    bits ((s.core c.val).gr a) 31 12 = 0 → 
    (s.buf (bits ((s.core c.val).gr a) 11 0)).holds (((s.core c.val).gr a).extractLsb' 32 32) [1, 2] = true → 
    (s.core c.val).pins.length < 8 → d ≠ 0 → Runs (.sPin c d a) s fun t =>
    (t.core c.val).gr d = 0 ∧ (t.core c.val).pins = (s.core c.val).pins ++ [(bits ((s.core c.val).gr a) 11 0, ((s.core c.val).gr a).extractLsb' 32 32)] ∧ (t.core c.val).pc = (s.core c.val).pc + 4 ∧ ((t.buf (bits ((s.core c.val).gr a) 11 0)).slot ((s.buf (bits ((s.core c.val).gr a) 11 0)).slotOf (((s.core c.val).gr a).extractLsb' 32 32))).pins = ((s.buf (bits ((s.core c.val).gr a) 11 0)).slot ((s.buf (bits ((s.core c.val).gr a) 11 0)).slotOf (((s.core c.val).gr a).extractLsb' 32 32))).pins + 1 ∧ t.mem = s.mem) ∧
  -- PIN
  (∀ (c : CoreId) (d a : GReg) (s : State), c.val < 256 → s.canIssue c [a.val] [d.val] → 
    (bits ((s.core c.val).gr a) 31 12 ≠ 0 ∨ (s.buf (bits ((s.core c.val).gr a) 11 0)).holds (((s.core c.val).gr a).extractLsb' 32 32) [1, 2] = false) → 
    exec (.sPin c d a) s = .next (s.commits c ((s.core c.val).setG d 1))) ∧
  -- PIN
  (∀ (c : CoreId) (d a : GReg) (s : State), c.val < 256 → s.canIssue c [a.val] [d.val] → 
    bits ((s.core c.val).gr a) 31 12 = 0 → 
    (s.buf (bits ((s.core c.val).gr a) 11 0)).holds (((s.core c.val).gr a).extractLsb' 32 32) [1, 2] = true → 
    8 ≤ (s.core c.val).pins.length → exec (.sPin c d a) s = .next (s.exc c.val Code.TILE_PIN_LIMIT (encR 0x1B d a 0 0 1))) ∧
  -- UNPIN
  (∀ (c : CoreId) (d a : GReg) (s : State), c.val < 256 → s.canIssue c [a.val] [d.val] → 
    bits ((s.core c.val).gr a) 31 12 = 0 → 
    (s.core c.val).pins.contains (bits ((s.core c.val).gr a) 11 0, ((s.core c.val).gr a).extractLsb' 32 32) = true → 
    (s.buf (bits ((s.core c.val).gr a) 11 0)).holds (((s.core c.val).gr a).extractLsb' 32 32) [1, 2] = true → d ≠ 0 → Runs (.sUnpin c d a) s fun t =>
    (t.core c.val).gr d = 0 ∧ (t.core c.val).pins = (s.core c.val).pins.erase (bits ((s.core c.val).gr a) 11 0, ((s.core c.val).gr a).extractLsb' 32 32) ∧ (t.core c.val).pc = (s.core c.val).pc + 4 ∧ ((t.buf (bits ((s.core c.val).gr a) 11 0)).slot ((s.buf (bits ((s.core c.val).gr a) 11 0)).slotOf (((s.core c.val).gr a).extractLsb' 32 32))).pins = ((s.buf (bits ((s.core c.val).gr a) 11 0)).slot ((s.buf (bits ((s.core c.val).gr a) 11 0)).slotOf (((s.core c.val).gr a).extractLsb' 32 32))).pins - 1) ∧
  -- UNPIN
  (∀ (c : CoreId) (d a : GReg) (s : State), c.val < 256 → s.canIssue c [a.val] [d.val] → 
    (bits ((s.core c.val).gr a) 31 12 ≠ 0 ∨ (s.core c.val).pins.contains (bits ((s.core c.val).gr a) 11 0, ((s.core c.val).gr a).extractLsb' 32 32) = false) → 
    exec (.sUnpin c d a) s = .next (s.commits c ((s.core c.val).setG d 1))) ∧
  -- PST
  (∀ (c : CoreId) (d : VReg) (a b : GReg) (p : PReg) (s : State), c.val < 256 → 
    s.canIssue c [32 + d.val, a.val, b.val] [] → bits ((s.core c.val).gr a) 31 12 = 0 → 
    (s.buf (bits ((s.core c.val).gr a) 11 0)).holds (((s.core c.val).gr a).extractLsb' 32 32) [1] = true → 
    ((s.core c.val).gr b).toNat % 16 = 0 → 
    ((s.core c.val).gr b).toNat + 16 ≤ (s.buf (bits ((s.core c.val).gr a) 11 0)).slotSize → Runs (.sPst c d a b p) s fun t =>
    t.core c.val = { s.core c.val with pc := (s.core c.val).pc + 4 } ∧ (∀ i, i < 8 → laneOn 16 ((s.core c.val).pr p) i = true → t.memNat ((s.buf (bits ((s.core c.val).gr a) 11 0)).base + (s.buf (bits ((s.core c.val).gr a) 11 0)).slotOf (((s.core c.val).gr a).extractLsb' 32 32) * (s.buf (bits ((s.core c.val).gr a) 11 0)).slotSize + ((s.core c.val).gr b).toNat + 2 * i) 2 = lane 16 ((s.core c.val).vr d) i) ∧ (∀ x, (x < (s.buf (bits ((s.core c.val).gr a) 11 0)).base + (s.buf (bits ((s.core c.val).gr a) 11 0)).slotOf (((s.core c.val).gr a).extractLsb' 32 32) * (s.buf (bits ((s.core c.val).gr a) 11 0)).slotSize + ((s.core c.val).gr b).toNat ∨ (s.buf (bits ((s.core c.val).gr a) 11 0)).base + (s.buf (bits ((s.core c.val).gr a) 11 0)).slotOf (((s.core c.val).gr a).extractLsb' 32 32) * (s.buf (bits ((s.core c.val).gr a) 11 0)).slotSize + ((s.core c.val).gr b).toNat + 16 ≤ x) → t.byte x = s.byte x)) ∧
  -- PST
  (∀ (c : CoreId) (d : VReg) (a b : GReg) (p : PReg) (s : State), c.val < 256 → 
    s.canIssue c [32 + d.val, a.val, b.val] [] → 
    (bits ((s.core c.val).gr a) 31 12 ≠ 0 ∨ (s.buf (bits ((s.core c.val).gr a) 11 0)).holds (((s.core c.val).gr a).extractLsb' 32 32) [1] = false) → 
    exec (.sPst c d a b p) s = .next (s.exc c.val Code.TILE_PST_GEN (encR 0x1B d a b p 0))) ∧
  -- PST
  (∀ (c : CoreId) (d : VReg) (a b : GReg) (p : PReg) (s : State), c.val < 256 → 
    s.canIssue c [32 + d.val, a.val, b.val] [] → bits ((s.core c.val).gr a) 31 12 = 0 → 
    (s.buf (bits ((s.core c.val).gr a) 11 0)).holds (((s.core c.val).gr a).extractLsb' 32 32) [1] = true → 
    ((s.core c.val).gr b).toNat % 16 = 0 → 
    (s.buf (bits ((s.core c.val).gr a) 11 0)).slotSize < ((s.core c.val).gr b).toNat + 16 → exec (.sPst c d a b p) s = .next (s.exc c.val Code.TILE_ACCESS (encR 0x1B d a b p 0) ((s.buf (bits ((s.core c.val).gr a) 11 0)).base + (s.buf (bits ((s.core c.val).gr a) 11 0)).slotOf (((s.core c.val).gr a).extractLsb' 32 32) * (s.buf (bits ((s.core c.val).gr a) 11 0)).slotSize + ((s.core c.val).gr b).toNat))) ∧
  -- PST
  (∀ (c : CoreId) (d : VReg) (a b : GReg) (p : PReg) (s : State), c.val < 256 → 
    s.canIssue c [32 + d.val, a.val, b.val] [] → bits ((s.core c.val).gr a) 31 12 = 0 → 
    (s.buf (bits ((s.core c.val).gr a) 11 0)).holds (((s.core c.val).gr a).extractLsb' 32 32) [1] = true → 
    ((s.core c.val).gr b).toNat % 16 ≠ 0 → exec (.sPst c d a b p) s = .next (s.exc c.val Code.TILE_ALIGN (encR 0x1B d a b p 0) ((s.buf (bits ((s.core c.val).gr a) 11 0)).base + (s.buf (bits ((s.core c.val).gr a) 11 0)).slotOf (((s.core c.val).gr a).extractLsb' 32 32) * (s.buf (bits ((s.core c.val).gr a) 11 0)).slotSize + ((s.core c.val).gr b).toNat))) ∧
  -- PIN
  (∀ (c : CoreId) (d a : GReg) (s : State), 256 ≤ c.val → s.canIssue c [] [] → exec (.sPin c d a) s = .next (s.exc c.val Code.TILE_ILLEGAL (encR 0x1B d a 0 0 1))) ∧
  -- UNPIN
  (∀ (c : CoreId) (d a : GReg) (s : State), 256 ≤ c.val → s.canIssue c [] [] → exec (.sUnpin c d a) s = .next (s.exc c.val Code.TILE_ILLEGAL (encR 0x1B d a 0 0 2))) ∧
  -- PST
  (∀ (c : CoreId) (d : VReg) (a b : GReg) (p : PReg) (s : State), 256 ≤ c.val → s.canIssue c [] [] → exec (.sPst c d a b p) s = .next (s.exc c.val Code.TILE_ILLEGAL (encR 0x1B d a b p 0)))

/-- Loads (R140, R157, R188, R189, R32). -/
def Obligations.LoadsLeave : Prop :=
  ∀ (s : State) (c : CoreId) (d a : GReg) (v : VReg) (p : PReg) (off : BitVec 13) (ecc : Fin 3),
    s.canIssue c [a.val] [d.val] → s.canIssue c [a.val] [32 + v.val] →
    let k := s.core c.val
    let addr := (k.gr a + off.signExtend 64).toNat
    let vaddr := (k.gr a + off.signExtend 64 * 16).toNat
    let ok := fun n => State.outCount k < 8 ∧ addr % n = 0 ∧ State.plainOk c.val addr n false = true ∧ s.hasUe addr n = false
    let held := fun (n : Nat) (f : Nat → DWord) => (Host.Outcome.next (s.commits c { k with
      loads := k.loads ++ [⟨false, d.val, (f (s.memNat addr n)).setWidth 128, 0xFF, addr, false⟩] }) : Host.Outcome State Fault Refusal)
    let misaligned := fun (w : Word) => (Host.Outcome.next (s.exc c.val Code.TILE_ALIGN w addr) : Host.Outcome State Fault Refusal)
    (ok 1 →
      exec (.sLdb c d a off 0) s = held 1 (fun x => (BitVec.ofNat 8 x).signExtend 64) ∧
      exec (.sLdbu c d a off 0) s = held 1 (fun x => BitVec.ofNat 64 x)) ∧
    (ok 2 →
      exec (.sLdh c d a off 0) s = held 2 (fun x => (BitVec.ofNat 16 x).signExtend 64) ∧
      exec (.sLdhu c d a off 0) s = held 2 (fun x => BitVec.ofNat 64 x)) ∧
    (ok 4 →
      exec (.sLdw c d a off 0) s = held 4 (fun x => (BitVec.ofNat 32 x).signExtend 64) ∧
      exec (.sLdwu c d a off 0) s = held 4 (fun x => BitVec.ofNat 64 x)) ∧
    (ok 8 → exec (.sLdd c d a off 0) s = held 8 (fun x => BitVec.ofNat 64 x)) ∧
    (State.outCount k < 8 → vaddr % 16 = 0 → State.plainOk c.val vaddr 16 false = true → s.hasUe vaddr 16 = false →
      exec (.sVld c v a p off 0) s = .next (s.commits c { k with
        loads := k.loads ++ [⟨true, v.val, BitVec.ofNat 128 (s.memNat vaddr 16), k.pr p, vaddr, false⟩] })) ∧
    (State.outCount k < 8 → addr % 2 ≠ 0 →
      exec (.sLdh c d a off ecc) s = misaligned (encM 0x12 d a 2 off.toNat) ∧
      exec (.sLdhu c d a off ecc) s = misaligned (encM 0x12 d a 3 off.toNat)) ∧
    (State.outCount k < 8 → addr % 4 ≠ 0 →
      exec (.sLdw c d a off ecc) s = misaligned (encM 0x12 d a 4 off.toNat) ∧
      exec (.sLdwu c d a off ecc) s = misaligned (encM 0x12 d a 5 off.toNat)) ∧
    (State.outCount k < 8 → addr % 8 ≠ 0 → exec (.sLdd c d a off ecc) s = misaligned (encM 0x12 d a 6 off.toNat)) ∧
    (State.outCount k < 8 → vaddr % 16 ≠ 0 →
      exec (.sVld c v a p off ecc) s = .next (s.exc c.val Code.TILE_ALIGN (encM 0x14 v a p off.toNat) vaddr)) ∧
    (State.outCount k < 8 → c.val < 256 → State.plainOk c.val addr 1 false = false →
      exec (.sLdb c d a off ecc) s = .next (s.exc c.val
        (if regionOf addr = .unmapped then Code.TILE_UNMAPPED else Code.TILE_ACCESS) (encM 0x12 d a 0 off.toNat) addr)) ∧
    (8 ≤ State.outCount k →
      exec (.sLdb c d a off ecc) s = .next s ∧ exec (.sLdbu c d a off ecc) s = .next s ∧ exec (.sLdh c d a off ecc) s = .next s ∧
      exec (.sLdhu c d a off ecc) s = .next s ∧ exec (.sLdw c d a off ecc) s = .next s ∧ exec (.sLdwu c d a off ecc) s = .next s ∧
      exec (.sLdd c d a off ecc) s = .next s ∧ exec (.sVld c v a p off ecc) s = .next s) ∧
    (State.outCount k < 8 → 256 ≤ c.val → addr % 4 = 0 → regionOf addr = .ctrl →
      mayAccess (State.supAgent c.val) (addr - ctrlBase) false = true →
      ∃ t, exec (.sLdwu c d a off ecc) s = .next t ∧
        (t.core c.val).loads = ((s.regRead (agIdx (State.supAgent c.val)) (addr - ctrlBase)).2.core c.val).loads ++
          [⟨false, d.val, (s.regRead (agIdx (State.supAgent c.val)) (addr - ctrlBase)).1.setWidth 128, 0xFF, addr, false⟩] ∧
        (t.core c.val).pc = ((s.regRead (agIdx (State.supAgent c.val)) (addr - ctrlBase)).2.core c.val).pc + 4)

/-- Stores (R140, R188 to R190). -/
def Obligations.StoresWriteOnlyTheirBytes : Prop :=
  ∀ (s : State) (c : CoreId) (g a : GReg) (v : VReg) (p : PReg) (off : BitVec 13),
    s.canIssue c [a.val, g.val] [] → s.canIssue c [a.val, 32 + v.val] [] →
    let k := s.core c.val
    let addr := (k.gr a + off.signExtend 64).toNat
    let vaddr := (k.gr a + off.signExtend 64 * 16).toNat
    let ok := fun n => addr % n = 0 ∧ State.plainOk c.val addr n true = true ∧ s.hasUe addr n = false
    let stored := fun (i : Instr) (n : Nat) => Runs i s fun t =>
      t.memNat addr n = (k.gr g).toNat % 2 ^ (8 * n) ∧ (∀ x, (x < addr ∨ addr + n ≤ x) → t.byte x = s.byte x) ∧
      t = { s with cores := t.cores, mem := t.mem } ∧ t.cores = (s.commits c k).cores
    let misaligned := fun (w : Word) => (Host.Outcome.next (s.exc c.val Code.TILE_ALIGN w addr) : Host.Outcome State Fault Refusal)
    let noWay := fun (w : Word) => (Host.Outcome.next (s.exc c.val
      (if regionOf addr = .unmapped then Code.TILE_UNMAPPED else Code.TILE_ACCESS) w addr) : Host.Outcome State Fault Refusal)
    (ok 1 → stored (.sStb c g a off) 1) ∧
    (ok 2 → stored (.sSth c g a off) 2) ∧
    (ok 4 → stored (.sStw c g a off) 4) ∧
    (ok 8 → stored (.sStd c g a off) 8) ∧
    (vaddr % 16 = 0 → State.plainOk c.val vaddr 16 true = true → s.hasUe vaddr 16 = false → Runs (.sVst c v a p off) s fun t =>
      (∀ i, i < 8 → t.memNat (vaddr + 2 * i) 2 = if laneOn 16 (k.pr p) i then lane 16 (k.vr v) i else s.memNat (vaddr + 2 * i) 2) ∧
      (∀ x, (x < vaddr ∨ vaddr + 16 ≤ x) → t.byte x = s.byte x) ∧
      t = { s with cores := t.cores, mem := t.mem } ∧ t.cores = (s.commits c k).cores) ∧
    (addr % 2 ≠ 0 → exec (.sSth c g a off) s = misaligned (encM 0x13 g a 2 off.toNat)) ∧
    (addr % 4 ≠ 0 → exec (.sStw c g a off) s = misaligned (encM 0x13 g a 4 off.toNat)) ∧
    (addr % 8 ≠ 0 → exec (.sStd c g a off) s = misaligned (encM 0x13 g a 6 off.toNat)) ∧
    (vaddr % 16 ≠ 0 → exec (.sVst c v a p off) s = .next (s.exc c.val Code.TILE_ALIGN (encM 0x15 v a p off.toNat) vaddr)) ∧
    (c.val < 256 →
      (State.plainOk c.val addr 1 true = false → exec (.sStb c g a off) s = noWay (encM 0x13 g a 0 off.toNat)) ∧
      (addr % 4 = 0 → State.plainOk c.val addr 4 true = false → exec (.sStw c g a off) s = noWay (encM 0x13 g a 4 off.toNat)))

/-- Atomics and LUT (R191, R202, R203). -/
def Obligations.AtomicsAndTables : Prop :=
  ∀ (s : State) (c : CoreId) (d a b : GReg) (vd va : VReg) (p : PReg) (big linear : Bool) (ecc : Fin 3),
    let k := s.core c.val
    let addr := (k.gr a).toNat
    let table := (k.gr b).toNat
    let atom := fun (i : Instr) (n new : Nat) => Runs i s fun t =>
      t.memNat addr n = new % 2 ^ (8 * n) ∧ (∀ x, (x < addr ∨ addr + n ≤ x) → t.byte x = s.byte x) ∧
      t = { s with cores := t.cores, mem := t.mem } ∧
      t.cores = (s.commits c { k with
        loads := k.loads ++ [⟨false, d.val, BitVec.ofNat 128 (s.memNat addr n), 0xFF, addr, false⟩] }).cores
    let ok := fun n => addr % n = 0 ∧ State.plainOk c.val addr n true = true ∧ s.hasUe addr n = false
    (s.canIssue c [a.val, b.val, d.val] [d.val] → bits (k.pr p) 0 0 = 1 → State.outCount k < 8 →
      (ok 4 →
        atom (.sAaddW c d a b p 0) 4 (s.memNat addr 4 + (k.gr b).toNat) ∧
        atom (.sAswpW c d a b p 0) 4 (k.gr b).toNat ∧
        atom (.sAcasW c d a b p 0) 4 (if s.memNat addr 4 = (k.gr d).toNat % 2 ^ 32 then (k.gr b).toNat else s.memNat addr 4)) ∧
      (ok 8 →
        atom (.sAaddD c d a b p 0) 8 (s.memNat addr 8 + (k.gr b).toNat) ∧
        atom (.sAswpD c d a b p 0) 8 (k.gr b).toNat ∧
        atom (.sAcasD c d a b p 0) 8 (if s.memNat addr 8 = (k.gr d).toNat then (k.gr b).toNat else s.memNat addr 8)) ∧
      (addr % 4 ≠ 0 → exec (.sAaddW c d a b p ecc) s = .next (s.exc c.val Code.TILE_ALIGN (encR 0x16 d a b p 0) addr)) ∧
      (addr % 8 ≠ 0 → exec (.sAcasD c d a b p ecc) s = .next (s.exc c.val Code.TILE_ALIGN (encR 0x16 d a b p 5) addr)) ∧
      (addr % 4 = 0 → State.plainOk c.val addr 4 true = false →
        exec (.sAswpW c d a b p ecc) s = .next (s.exc c.val Code.TILE_ACCESS (encR 0x16 d a b p 2) addr))) ∧
    (s.canIssue c [] [] → bits (k.pr p) 0 0 = 0 → exec (.sAaddD c d a b p ecc) s = .next (s.commits c k)) ∧
    (s.canIssue c [32 + va.val, b.val] [32 + vd.val] →
      let shift := if big then 4 else 8
      let size := if big then 8194 else 514
      let half := fun n => (s.memNat (table + 2 * n) 2 : Int)
      (table % 16 = 0 → lutOk c.val table size = true → (∀ x, table ≤ x → x < table + size → s.hasUe x 1 = false) →
        Runs (.sLut c vd va b p big linear) s fun t => s.lanesTo t c 16 p vd fun i =>
          let x := lane 16 (k.vr va) i
          let e := x / 2 ^ shift
          if linear then (half e + (2 * (half (e + 1) - half e) * (x % 2 ^ shift : Nat) + 2 ^ shift) / (2 * 2 ^ shift)).toNat
          else s.memNat (table + 2 * e) 2) ∧
      (table % 16 ≠ 0 → exec (.sLut c vd va b p big linear) s =
        .next (s.exc c.val Code.TILE_ALIGN (encR 0x24 vd va b p (b2n big + 2 * b2n linear)) table)) ∧
      (table % 16 = 0 → lutOk c.val table size = false → exec (.sLut c vd va b p big linear) s =
        .next (s.exc c.val Code.TILE_ACCESS (encR 0x24 vd va b p (b2n big + 2 * b2n linear)) table)))

/-- Vector integer instructions (R103, R104, R108, R197, R198). -/
def Obligations.VectorIntegerResults : Prop :=
  ∀ (s : State) (c : CoreId) (d a b : VReg) (p : PReg) (wide : Bool),
    let k := s.core c.val
    let w := if wide then 32 else 16
    let signed := fun (x : Nat) => (if x < 2 ^ (w - 1) then (x : Int) else (x : Int) - 2 ^ w)
    let encode := fun (x : Int) => (x % 2 ^ w).toNat
    let clamp := fun (x : Int) => encode (max (-(2 ^ (w - 1))) (min (2 ^ (w - 1) - 1) x))
    let gives := fun (i : Instr) (f : Nat → Nat → Nat) => Runs i s fun t =>
      s.lanesTo t c w p d fun n => f (lane w (k.vr a) n) (lane w (k.vr b) n)
    let gives16 := fun (i : Instr) (f : Nat → Nat → Nat) => Runs i s fun t =>
      s.lanesTo t c 16 p d fun n => f (lane 16 (k.vr a) n) (lane 16 (k.vr b) n)
    (s.canIssue c [32 + a.val, 32 + b.val] [32 + d.val] →
      gives (.sVadd c d a b p wide) (fun x y => x + y) ∧
      gives (.sVsub c d a b p wide) (fun x y => encode ((x : Int) - y)) ∧
      gives (.sVaddL c d a b p wide) (fun x y => min (2 ^ w - 1) (x + y)) ∧
      gives (.sVsubL c d a b p wide) (fun x y => x - y) ∧
      gives (.sVadds c d a b p wide) (fun x y => clamp (signed x + signed y)) ∧
      gives (.sVsubs c d a b p wide) (fun x y => clamp (signed x - signed y)) ∧
      gives (.sVmul c d a b p wide) (fun x y => x * y) ∧
      gives (.sVminu c d a b p wide) (fun x y => min x y) ∧
      gives (.sVmaxu c d a b p wide) (fun x y => max x y) ∧
      gives (.sVmins c d a b p wide) (fun x y => encode (min (signed x) (signed y))) ∧
      gives (.sVmaxs c d a b p wide) (fun x y => encode (max (signed x) (signed y))) ∧
      gives (.sVand c d a b p wide) (fun x y => x &&& y) ∧
      gives (.sVor c d a b p wide) (fun x y => x ||| y) ∧
      gives (.sVxor c d a b p wide) (fun x y => x ^^^ y) ∧
      gives (.sVshl c d a b p wide) (fun x y => x * 2 ^ (y % w)) ∧
      gives (.sVshr c d a b p wide) (fun x y => x / 2 ^ (y % w)) ∧
      gives (.sVsra c d a b p wide) (fun x y => encode (signed x / 2 ^ (y % w))) ∧
      gives16 (.sVmulL c d a b p false) (fun x y => (2 * x * y + 65535) / 131070) ∧
      gives16 (.sVmulQ12 c d a b p false) (fun x y =>
        (max (-32768) (min 32767 ((2 * ((BitVec.ofNat 16 x).toInt * (BitVec.ofNat 16 y).toInt) + 4096) / 8192)) % 65536).toNat) ∧
      gives16 (.sVmulU15 c d a b p false) (fun x y => min 65535 ((2 * x * y + 32768) / 65536))) ∧
    (s.canIssue c [] [] →
      exec (.sVmulL c d a b p true) s = .next (s.exc c.val Code.TILE_ILLEGAL (encR 0x20 d a b p 0x87)) ∧
      exec (.sVmulQ12 c d a b p true) s = .next (s.exc c.val Code.TILE_ILLEGAL (encR 0x20 d a b p 0x88)) ∧
      exec (.sVmulU15 c d a b p true) s = .next (s.exc c.val Code.TILE_ILLEGAL (encR 0x20 d a b p 0x89)))

/-- fp16 instructions and conversions (R104, R109, R199, R200). -/
def Obligations.VectorFloatResults : Prop :=
  ∀ (s : State) (c : CoreId) (d a b : VReg) (p : PReg),
    let k := s.core c.val
    let two := fun (i : Instr) (f : Nat → Nat → Nat × Nat) =>
      s.canIssue c [32 + a.val, 32 + b.val] [32 + d.val] → Runs i s fun t =>
        s.fpLanesTo t c p d fun n => f (lane 16 (k.vr a) n) (lane 16 (k.vr b) n)
    let one := fun (i : Instr) (f : Nat → Nat × Nat) =>
      s.canIssue c [32 + a.val] [32 + d.val] → Runs i s fun t => s.fpLanesTo t c p d fun n => f (lane 16 (k.vr a) n)
    let quiet := fun (i : Instr) (f : Nat → Nat) => s.canIssue c [32 + a.val] [32 + d.val] → Runs i s fun t =>
      s.fpLanesTo t c p d fun n => (f (lane 16 (k.vr a) n), 0)
    let clamped := fun (scale lo hi : Int) (x : Nat) => (((fromF16 scale lo hi x).1 % 65536).toNat, (fromF16 scale lo hi x).2)
    two (.sVfadd c d a b p) (fun x y => f16Add x y) ∧
    two (.sVfsub c d a b p) (fun x y => f16Add x (if f16Nan y then y else f16Flip y)) ∧
    two (.sVfmul c d a b p) (fun x y => f16Mul x y) ∧
    two (.sVfmin c d a b p) (fun x y => f16MinMax false x y) ∧
    two (.sVfmax c d a b p) (fun x y => f16MinMax true x y) ∧
    (s.canIssue c [32 + d.val, 32 + a.val, 32 + b.val] [32 + d.val] → Runs (.sVfma c d a b p) s fun t =>
      s.fpLanesTo t c p d fun n => f16Fma (lane 16 (k.vr d) n) (lane 16 (k.vr a) n) (lane 16 (k.vr b) n)) ∧
    quiet (.sVfabs c d a p) (fun x => if f16Nan x then 0x7E00 else x % 0x8000) ∧
    quiet (.sVfneg c d a p) (fun x => if f16Nan x then 0x7E00 else if x < 0x8000 then x + 0x8000 else x - 0x8000) ∧
    one (.sL16F16 c d a p) (fun x => toF16 x 65535) ∧
    one (.sQ12F16 c d a p) (fun x => toF16 (BitVec.ofNat 16 x).toInt 4096) ∧
    one (.sU15F16 c d a p) (fun x => toF16 x 32768) ∧
    one (.sF16L16 c d a p) (clamped 65535 0 65535) ∧
    one (.sF16Q12 c d a p) (clamped 4096 (-32768) 32767) ∧
    one (.sF16U15 c d a p) (clamped 32768 0 65535) ∧
    quiet (.sL16U15 c d a p) (fun x => (65536 * x + 65535) / 131070) ∧
    quiet (.sU15L16 c d a p) (fun x => (131070 * min x 0x8000 + 32768) / 65536)

/-- Vector moves and light instructions (R201, R204 to R206). -/
def Obligations.VectorMoveAndLightResults : Prop :=
  ∀ (s : State) (c : CoreId) (d a b o : VReg) (g ga gb : GReg) (p : PReg) (n : Fin 8) (q : Fin 2) (mode : Fin 4),
    let k := s.core c.val
    let x := fun i => lane 16 (k.vr a) i
    let y := fun i => lane 16 (k.vr b) i
    let z := fun i => lane 16 (k.vr o) i
    let light := fun (x y : Nat) => (2 * x * y + 65535) / 131070
    let coef := fun (i : Nat) =>
      (BitVec.ofNat 16 (if i < 8 then lane 16 (k.vr b) i else lane 16 (k.vr (vNext b)) (i - 8))).toInt
    let mixed := fun (m i : Nat) =>
      (max 0 (min 65535 ((2 * ((List.range m).map fun j => coef (m * (i % 4) + j) * (x (4 * (i / 4) + j) : Int)).sum + 4096) / 8192))).toNat
    (s.canIssue c [32 + a.val] [32 + d.val] → Runs (.sVmov c d a p) s fun t => s.lanesTo t c 16 p d x) ∧
    (s.canIssue c [32 + a.val, 32 + b.val] [32 + d.val] →
      (Runs (.sVsel c d a b p) s fun t => s.vecTo t c 16 d fun i => if laneOn 16 (k.pr p) i then x i else y i) ∧
      (Runs (.sVperm c d a b) s fun t => s.vecTo t c 16 d fun i => x (y i % 8)) ∧
      (Runs (.sVpackB c d a b) s fun t => s.vecTo t c 8 d fun i => (2 * (if i < 8 then x i else y (i - 8)) + 257) / 514)) ∧
    (s.canIssue c [ga.val] [32 + d.val] →
      (Runs (.sVsplatH c d ga) s fun t => s.vecTo t c 16 d fun _ => (k.gr ga).toNat) ∧
      (Runs (.sVsplatW c d ga) s fun t => s.vecTo t c 32 d fun _ => (k.gr ga).toNat) ∧
      (Runs (.sVinsH c d ga n) s fun t => s.vecTo t c 16 d fun i => if i = n.val then (k.gr ga).toNat else lane 16 (k.vr d) i)) ∧
    (s.canIssue c [32 + a.val] [32 + d.val] →
      (Runs (.sVunpkLo c d a) s fun t => s.vecTo t c 16 d fun i => lane 8 (k.vr a) i * 257) ∧
      (Runs (.sVunpkHi c d a) s fun t => s.vecTo t c 16 d fun i => lane 8 (k.vr a) (8 + i) * 257)) ∧
    (s.canIssue c [ga.val, gb.val] [32 + d.val] → exec (.sVmovg c d ga gb) s = .next (s.commits c (k.setV d (k.gr gb ++ k.gr ga)))) ∧
    (s.canIssue c [32 + a.val] [g.val] →
      exec (.sVextH c g a n) s = .next (s.commits c (k.setG g (BitVec.ofNat 64 (x n.val)))) ∧
      exec (.sVextD c g a q) s = .next (s.commits c (k.setG g ((k.vr a).extractLsb' (64 * q.val) 64)))) ∧
    (s.canIssue c [32 + a.val, 32 + b.val, 32 + (vNext b).val] [32 + d.val] → b.val % 2 = 0 →
      (Runs (.sMix c d a b p false) s fun t => s.lanesTo t c 16 p d fun i => if i % 4 = 3 then x i else mixed 3 i) ∧
      (Runs (.sMix c d a b p true) s fun t => s.lanesTo t c 16 p d fun i => mixed 4 i)) ∧
    (s.canIssue c [] [] → b.val % 2 = 1 →
      exec (.sMix c d a b p false) s = .next (s.exc c.val Code.TILE_ILLEGAL (encR 0x25 d a b p 0)) ∧
      exec (.sMix c d a b p true) s = .next (s.exc c.val Code.TILE_ILLEGAL (encR 0x25 d a b p 1))) ∧
    (s.canIssue c [32 + a.val, 32 + b.val, 32 + o.val] [32 + d.val] →
      (Runs (.sBlend c d a b o p mode) s fun t => s.lanesTo t c 16 p d fun i =>
        if mode = 0 then min 65535 (light (y i) (z i) + light (x i) (65535 - z i))
        else if mode = 1 then min 65535 (x i + light (y i) (z i))
        else if mode = 2 then max (x i) (light (y i) (z i))
        else light (x i) (65535 - light (65535 - y i) (z i))) ∧
      (mode ≠ 3 → Runs (.sFade c d a b o p mode) s fun t => s.lanesTo t c 16 p d fun i =>
        let u := min (z i) 0x8000
        let num := if mode = 0 then u else if mode = 1 then u * u * (98304 - 2 * u) else u * u
        let den := if mode = 0 then 2 ^ 15 else if mode = 1 then 2 ^ 45 else 2 ^ 30
        ((x i : Int) + (2 * ((y i : Int) - x i) * num + den) / (2 * den)).toNat)) ∧
    (s.canIssue c [] [] → exec (.sFade c d a b o p 3) s = .next (s.exc c.val Code.TILE_ILLEGAL (encR 0x27 d a b p (3 + o.val * 4))))

/-- LAUNCH starts a kernel on the selected idle cores; END, abort, release, CORE_EN, ICINV and SUP START and STOP change a core's run state. -/
def Obligations.KernelsStartAndEnd : Prop :=
  -- LAUNCH
  (∀ (a : Act) (c : Nat) (s : State), (s.issued.find? fun x => actCode x.act == 1) = some a → 
    s.kdescBad (a.a1.toNat + a.a2.toNat * 2 ^ 32) = false → s.bit Reg.TILE_SHED_STATUS 0 = false → 
    s.groups.length < 256 → s.selected a.a0 = [c] → (s.core c).run = .idle → (s.core c).pend = none → 
    s.icInv c = false → Runs .launch s fun t =>
    (t.core c).run = .run ∧ (t.core c).pc = s.memWord (a.a1.toNat + a.a2.toNat * 2 ^ 32 + 8) ++ s.memWord (a.a1.toNat + a.a2.toNat * 2 ^ 32 + 4) ∧ (t.core c).gr 1 = a.a3.setWidth 64 ∧ (t.core c).gr 2 = BitVec.ofNat 64 (scratchBase c) ∧ (t.core c).gr 31 = BitVec.ofNat 64 (scratchBase c + 0x4000) ∧ (t.core c).rtx = !(s.memWord (a.a1.toNat + a.a2.toNat * 2 ^ 32)).getLsbD 25 ∧ (t.core c).started = s.mono ∧ t.groups.map (fun g => g.alive) = s.groups.map (fun g => g.alive) ++ [[c]] ∧ t.issued = s.issued.erase a ∧ (∀ i, i ≠ c → t.core i = s.core i)) ∧
  -- LAUNCH
  (∀ (a : Act) (s : State), (s.issued.find? fun x => actCode x.act == 1) = some a → 
    s.kdescBad (a.a1.toNat + a.a2.toNat * 2 ^ 32) = true → s.hasUe (a.a1.toNat + a.a2.toNat * 2 ^ 32) 32 = false → 
    s.faultRoom → Runs .launch s fun t =>
    t.faultQueued Code.TILE_LAUNCH_BAD 0 ∧ t.cores = s.cores ∧ t.groups = s.groups ∧ t.issued = s.issued.erase a) ∧
  -- END
  (∀ (c : CoreId) (x : Kernel) (g : Group) (s : State), c.val < 256 → s.canIssue c [] [] → (s.core c.val).loads = [] → 
    (s.core c.val).remote = [] → (s.core c.val).pins = [] → (s.core c.val).pend = none → 
    (s.core c.val).kernel = some x → (s.groups.find? fun y => y.id == x.gid) = some g → g.alive = [c.val] → 
    g.notify = false → s.coreEn c.val = true → Runs (.sEnd c) s fun t =>
    (t.core c.val).run = .idle ∧ t.groups = (s.groups.filter fun y => y.id != x.gid) ∧ (t.core c.val).g = (s.core c.val).g ∧ t.mem = s.mem ∧ (∀ i, i ≠ c.val → t.core i = s.core i)) ∧
  -- END
  (∀ (c : CoreId) (s : State), c.val < 256 → s.canIssue c [] [] → 
    ((s.core c.val).loads ≠ [] ∨ (s.core c.val).remote ≠ []) → exec (.sEnd c) s = .next s) ∧
  -- END
  (∀ (c : CoreId) (s : State), 256 ≤ c.val → s.canIssue c [] [] → exec (.sEnd c) s = .next (s.exc c.val Code.TILE_ILLEGAL (encR 0x19 0 0 0 0 8))) ∧
  -- TILE_ABORT
  (∀ (ag : Agent) (n : Fin 16) (i : Fin 16) (w : Word) (s : State), s.canWrite ag (Reg.TILE_ABORT + n.val * 0x1000) → 
    w = BitVec.ofNat 32 (2 ^ i.val) → (s.core (n.val * 16 + i.val)).run = .run → 
    (s.core (n.val * 16 + i.val)).pend = none → (s.core (n.val * 16 + i.val)).pins = [] → 
    (s.core (n.val * 16 + i.val)).kernel = none → s.coreEn (n.val * 16 + i.val) = true → Runs (.tileAbort ag n w) s fun t =>
    (t.core (n.val * 16 + i.val)).run = .idle ∧ (t.core (n.val * 16 + i.val)).loads = [] ∧ t.reg (Reg.TILE_ABORT_CNT + n.val * 0x1000) = s.reg (Reg.TILE_ABORT_CNT + n.val * 0x1000) + 1 ∧ (∀ j, j ≠ n.val * 16 + i.val → t.core j = s.core j)) ∧
  -- TILE_RELEASE
  (∀ (ag : Agent) (n : Fin 16) (i : Fin 16) (w : Word) (s : State), s.canWrite ag (Reg.TILE_RELEASE + n.val * 0x1000) → 
    w = BitVec.ofNat 32 (2 ^ i.val) → (s.core (n.val * 16 + i.val)).run = .held → 
    (s.core (n.val * 16 + i.val)).pend = none → s.coreEn (n.val * 16 + i.val) = true → exec (.tileRelease ag n w) s = .next (s.setCore (n.val * 16 + i.val) { s.core (n.val * 16 + i.val) with run := .idle, wait := .none, fence := .none })) ∧
  -- TILE_CTRL_WRITE
  (∀ (ag : Agent) (n : Fin 16) (i : Fin 16) (w : Word) (s : State), s.canWrite ag (Reg.TILE_CTRL + n.val * 0x1000) → 
    w.getLsbD i.val = false → (s.core (n.val * 16 + i.val)).run = .idle → (s.core (n.val * 16 + i.val)).pend = none → Runs (.tileCtrlWrite ag n w) s fun t =>
    (t.core (n.val * 16 + i.val)).run = .off ∧ t.reg (Reg.TILE_CTRL + n.val * 0x1000) &&& 0x1FFFF = w &&& 0x1FFFF) ∧
  -- TILE_CTRL_WRITE
  (∀ (ag : Agent) (n : Fin 16) (i : Fin 16) (w : Word) (s : State), s.canWrite ag (Reg.TILE_CTRL + n.val * 0x1000) → 
    w.getLsbD i.val = true → (s.core (n.val * 16 + i.val)).run = .off → Runs (.tileCtrlWrite ag n w) s fun t =>
    (t.core (n.val * 16 + i.val)).run = .idle ∧ t.mem = s.mem) ∧
  -- TILE_ICINV
  (∀ (ag : Agent) (n : Fin 16) (s : State), s.canWrite ag (Reg.TILE_CMD + n.val * 0x1000) → exec (.tileIcinv ag n) s = .next (s.setBit (Reg.TILE_CMD + n.val * 0x1000) 0 true)) ∧
  -- ICINV_DONE
  (∀ (n : Fin 16) (i : Fin 16) (x : Kernel) (s : State), (s.core (n.val * 16 + i.val)).run = .idle → 
    (s.core (n.val * 16 + i.val)).pend = some x → Runs (.icinvDone n) s fun t =>
    t.bit (Reg.TILE_CMD + n.val * 0x1000) 0 = false ∧ (t.core (n.val * 16 + i.val)).run = .run ∧ (t.core (n.val * 16 + i.val)).pc = x.entry ∧ (t.core (n.val * 16 + i.val)).kernel = some x ∧ (t.core (n.val * 16 + i.val)).pend = none) ∧
  -- SUP_START
  (∀ (ag : Agent) (n : Fin 4) (s : State), (ag = .sup 0 ∨ ag = .sup 1) → s.canWrite ag (Reg.SUP_CTRL + n.val * 0x100) → 
    2 ≤ n.val → (s.core (256 + n.val)).run = .idle → exec (.supStart ag n) s = .next (s.setCore (256 + n.val) { s.core (256 + n.val) with pc := s.reg (Reg.SUP_ENTRY_LO + n.val * 0x100 + 4) ++ s.reg (Reg.SUP_ENTRY_LO + n.val * 0x100), run := .run, wait := .none, fence := .none })) ∧
  -- SUP_STOP
  (∀ (ag : Agent) (n : Fin 4) (s : State), (ag = .sup 0 ∨ ag = .sup 1) → s.canWrite ag (Reg.SUP_CTRL + n.val * 0x100) → 
    2 ≤ n.val → exec (.supStop ag n) s = .next (s.setCore (256 + n.val) { s.core (256 + n.val) with run := .idle, wait := .none, fence := .none })) ∧
  -- SUP_START
  (∀ (ag : Agent) (n : Fin 4) (s : State), s.canWrite ag (Reg.SUP_CTRL + n.val * 0x100) → n.val < 2 → exec (.supStart ag n) s = .next s) ∧
  -- SUP_STOP
  (∀ (ag : Agent) (n : Fin 4) (s : State), s.canWrite ag (Reg.SUP_CTRL + n.val * 0x100) → n.val < 2 → exec (.supStop ag n) s = .next s)

/-- Remote instructions (R138, R193 to R196, R415 to R418). -/
def Obligations.RemoteInstructions : Prop :=
  (∀ (s : State) (c : CoreId) (d a b : GReg) (v : VReg) (p : PReg) (m : Fin 16),
    let k := s.core c.val
    let far := k.gr a
    let node := bits (k.gr b) 12 0
    let inOrder := fun (n : Nat) => bits far 63 40 = 0 ∧ far.toNat % n = 0
    let asks := fun (i : Instr) (slot type op len key : Nat) (data : List Byte) => Runs i s fun t =>
      (t.tslot slot).busy = true ∧ (t.tslot slot).seq = ((s.tslot slot).seq + 1) % 65536 ∧ (t.tslot slot).type = type ∧
      (t.tslot slot).op = op ∧ (t.tslot slot).core = c.val ∧ (t.tslot slot).key = key ∧ (t.tslot slot).dst = node ∧
      (t.tslot slot).addr = far.toNat ∧ (t.tslot slot).len = len ∧ (t.tslot slot).data = data ∧
      (t.core c.val).remote = k.remote ++ [(slot, key)] ∧ (t.core c.val).pc = k.pc + 4 ∧ (t.core c.val).g = k.g ∧ t.mem = s.mem
    let posts := fun (i : Instr) (type : BitVec 4) (dst : BitVec 13) (data : List Byte) => Runs i s fun t =>
      t.transit.inbox = s.transit.inbox ++ [(16,
        { dst := dst, src := BitVec.ofNat 13 s.ownId, type := type, tag := BitVec.ofNat 10 c.val, addr := BitVec.ofNat 40 far.toNat,
          seq := BitVec.ofNat 16 s.transit.postSeq, hops := s.hopLimit, mc := type == 4, len := BitVec.ofNat 9 data.length, payload := data })] ∧
      t.transit.postSeq = (s.transit.postSeq + 1) % 65536 ∧ (type = 0 → node ∈ (t.core c.val).farNodes) ∧
      (t.core c.val).pc = k.pc + 4 ∧ (t.core c.val).g = k.g ∧ t.mem = s.mem
    let home := s.idAssigned = true ∧ s.isLocal node = true ∧ (s.tgt node).late = false
    (bits (k.pr p) 0 0 = 1 → State.outCount k < 8 → s.noRoute node = false → ∀ slot, s.freeSlot c.val = some slot →
      (s.canIssue c [a.val, b.val] [d.val] →
        (inOrder 4 → asks (.sRldw c d a b p) slot 1 0 4 d.val []) ∧
        (inOrder 8 → asks (.sRldd c d a b p) slot 1 0 8 d.val [])) ∧
      (s.canIssue c [a.val, b.val] [32 + v.val] → inOrder 16 → asks (.sRvld c v a b p) slot 1 0 16 (32 + v.val) []) ∧
      (s.canIssue c [a.val, b.val, d.val] [d.val] →
        (inOrder 4 → asks (.sRfaddw c d a b p) slot 2 0 8 d.val (leBytes 8 (bits (k.gr d) 31 0))) ∧
        (inOrder 8 → asks (.sRfaddd c d a b p) slot 2 1 8 d.val (leBytes 8 (k.gr d).toNat)))) ∧
    (bits (k.pr p) 0 0 = 1 → State.outCount k < 8 → s.noRoute node = true → s.canIssue c [a.val, b.val] [d.val] → inOrder 4 → d ≠ 0 →
      Runs (.sRldw c d a b p) s fun t => (t.core c.val).gr d = 0 ∧ (t.core c.val).kstat = (k.kstat ||| 2) &&& ~~~1 ∧
        (t.core c.val).remote = k.remote ∧ (t.core c.val).pc = k.pc + 4 ∧
        t.reg Reg.TRANSIT_NOROUTE_CNT = s.reg Reg.TRANSIT_NOROUTE_CNT + 1) ∧
    (bits (k.pr p) 0 0 = 1 → home → s.canIssue c [a.val, b.val, d.val] [] →
      (inOrder 4 → posts (.sRstw c d a b p) 0 (BitVec.ofNat 13 node) (leBytes 4 (k.gr d).toNat)) ∧
      (inOrder 8 → posts (.sRstd c d a b p) 0 (BitVec.ofNat 13 node) (leBytes 8 (k.gr d).toNat)) ∧
      (inOrder 16 → far.toNat % 256 + 16 * (m.val + 1) ≤ 256 → (k.gr d).toNat % 16 = 0 →
        State.plainOk c.val (k.gr d).toNat (16 * (m.val + 1)) false = true → s.hasUe (k.gr d).toNat (16 * (m.val + 1)) = false →
        posts (.sRput c d a b p m) 0 (BitVec.ofNat 13 node) (s.bytes (k.gr d).toNat (16 * (m.val + 1))))) ∧
    (bits (k.pr p) 0 0 = 1 → home → s.canIssue c [a.val, b.val, 32 + v.val] [] → inOrder 16 →
      posts (.sRvst c v a b p) 0 (BitVec.ofNat 13 node) (leBytes 16 (k.vr v).toNat)) ∧
    (bits (k.pr p) 0 0 = 1 → s.idAssigned = true → s.bit (Reg.ROUTER_MCAST + 4 * (node % 4096)) 17 = true →
      s.canIssue c [a.val, b.val, d.val] [] → inOrder 16 → far.toNat % 256 + 16 * (m.val + 1) ≤ 256 → (k.gr d).toNat % 16 = 0 →
      State.plainOk c.val (k.gr d).toNat (16 * (m.val + 1)) false = true → s.hasUe (k.gr d).toNat (16 * (m.val + 1)) = false →
      posts (.sRmput c d a b p m) 4 (BitVec.ofNat 13 (node % 4096)) (s.bytes (k.gr d).toNat (16 * (m.val + 1)))) ∧
    (bits (k.pr p) 0 0 = 1 → s.canIssue c [a.val, b.val] [d.val] →
      (bits far 63 40 ≠ 0 → exec (.sRldw c d a b p) s = .next (s.exc c.val Code.TILE_UNMAPPED (encR 0x17 d a b p 0) far.toNat)) ∧
      (bits far 63 40 = 0 → far.toNat % 4 ≠ 0 →
        exec (.sRldw c d a b p) s = .next (s.exc c.val Code.TILE_ALIGN (encR 0x17 d a b p 0) far.toNat))) ∧
    (bits (k.pr p) 0 0 = 0 → s.canIssue c [] [] →
      exec (.sRldw c d a b p) s = .next (s.commits c k) ∧ exec (.sRstw c d a b p) s = .next (s.commits c k) ∧
      exec (.sRfaddd c d a b p) s = .next (s.commits c k) ∧ exec (.sRmput c d a b p m) s = .next (s.commits c k))) ∧
  (∀ (s : State) (i : Byte) (d : GReg) (data : List Byte) (status : Nat),
    let x := s.tslot i.toNat
    let k := s.core x.core
    x.busy = true → x.answer = some (status, data) → x.key = d.val → d ≠ 0 → k.remote.contains (i.toNat, x.key) = true →
    (status = 0 → Runs (.remoteResponse i) s fun t =>
      (t.core x.core).gr d = BitVec.ofNat 64 (leNat data) ∧ (t.core x.core).remote = k.remote.erase (i.toNat, x.key) ∧
      (t.tslot i.toNat).busy = false ∧ (t.core x.core).pc = k.pc) ∧
    (status = 1 → wfld (s.reg (State.tileReg Reg.TILE_RTX x.core)) 7 0 ≤ x.reissues → Runs (.remoteResponse i) s fun t =>
      (t.core x.core).gr d = 0 ∧ (t.core x.core).kstat.getLsbD 0 = true ∧ (t.tslot i.toNat).busy = false) ∧
    (1 < status → Runs (.remoteResponse i) s fun t =>
      (t.core x.core).gr d = 0 ∧ (t.core x.core).kstat.getLsbD 1 = true ∧ (t.tslot i.toNat).busy = false)) ∧
  (∀ (s : State) (i : Byte) (g : Nat),
    let x := s.tslot i.toNat
    x.busy = true → x.type ≠ 3 → x.gap = some g → g + s.fld (State.tileReg Reg.TILE_RTX x.core) 23 8 ≤ s.mono →
    Runs (.remoteReissue i) s fun t =>
      (t.tslot i.toNat).gap = none ∧ (t.tslot i.toNat).issued = s.mono ∧ (t.tslot i.toNat).seq = x.seq ∧
      (s.isLocal (BitVec.ofNat 13 x.dst).toNat = true → t.transit.inbox.length = s.transit.inbox.length + 1))

/-- A write reaches its register by the access codes, or is a bus error, or is ignored; pairs are latched, staged and committed per agent. -/
def Obligations.RegisterWritesReachTheirRegister : Prop :=
  -- REGISTER_WRITE
  (∀ (ag : Agent) (a : BitVec 24) (w : Word) (s : State), s.agentLive ag = false → exec (.registerWrite ag a w) s = .next s) ∧
  -- REGISTER_WRITE
  (∀ (ag : Agent) (a : BitVec 24) (w : Word) (s : State), s.agentLive ag = true → 
    (mayAccess ag a.toNat true = false ∨ a.toNat % 4 ≠ 0) → s.faultRoom → Runs (.registerWrite ag a w) s fun t =>
    t.faultQueued Code.SYS_BUS_ERR (agInst ag) ∧ (t.faultQ.map fun x => x.args) = (s.faultQ.map fun x => x.args) ++ [[BitVec.ofNat 32 (ctrlBase + a.toNat), BitVec.ofNat 32 ((ctrlBase + a.toNat) / 2 ^ 32 % 256 + 256)]] ∧ (∀ b, 0x50000 ≤ b → b < 0x70000 → t.reg b = s.reg b) ∧ t.mem = s.mem) ∧
  -- REGISTER_WRITE
  (∀ (ag : Agent) (a : BitVec 24) (w : Word) (s : State), s.canWrite ag a.toNat → a.toNat % 4 = 0 → 
    regRow a.toNat = none → exec (.registerWrite ag a w) s = .next s) ∧
  -- REGISTER_WRITE
  (∀ (ag : Agent) (a : BitVec 24) (w : Word) (x : RegRow) (s : State), s.canWrite ag a.toNat → a.toNat % 4 = 0 → 
    a.toNat < 0x10000 → regRow a.toNat = some x → x.priv = false → x.pair = 0 → a.toNat ≠ Reg.SYS_MODE_REQ → 
    a.toNat ≠ Reg.SYS_CMD → a.toNat ≠ Reg.SYS_RESET → a.toNat ≠ Reg.SYS_WDOG → a.toNat ≠ Reg.SYS_WDOG_KICK → exec (.registerWrite ag a w) s = .next (s.setReg a.toNat (s.maskWrite x a.toNat (s.reg a.toNat) w))) ∧
  -- PAIR_LOW_READ
  (∀ (ag : Agent) (a : BitVec 24) (s : State), s.agentLive ag = true → mayAccess ag a.toNat false = true → 
    State.pairOf a.toNat = 1 → exec (.pairLowRead ag a) s = .next { s with latch := s.latch.put none (agIdx ag * 2 ^ 24 + a.toNat + 4) (some (s.regNow (agIdx ag) (a.toNat + 4))) }) ∧
  -- PAIR_LOW_WRITE
  (∀ (ag : Agent) (a : BitVec 24) (w : Word) (s : State), s.canWrite ag a.toNat → a.toNat % 4 = 0 → 
    State.pairOf a.toNat = 1 → s.pairIgnored ag a.toNat = none → exec (.pairLowWrite ag a w) s = .next { s with stage := s.stage.put none (agIdx ag * 2 ^ 24 + a.toNat) (some w) }) ∧
  -- PAIR_LOW_WRITE
  (∀ (ag : Agent) (a : BitVec 24) (w : Word) (ring : RingId) (s : State), s.canWrite ag a.toNat → 
    a.toNat = Reg.RING_SPILL_LO + 0x100 * ring.val → s.ringEn ring.val = true → s.faultRoom → Runs (.pairLowWrite ag a w) s fun t =>
    t.stage = s.stage ∧ t.reg a.toNat = s.reg a.toNat ∧ t.faultQueued Code.RING_CFG_ERR ring.val) ∧
  -- PAIR_HIGH_WRITE
  (∀ (ag : Agent) (a : BitVec 24) (w : Word) (x y : RegRow) (s : State), s.canWrite ag a.toNat → a.toNat % 4 = 0 → 
    0x20000 ≤ a.toNat - 4 → a.toNat < 0x700000 → regRow (a.toNat - 4) = some x → regRow a.toNat = some y → y.pair = 2 → 
    x.priv = false → y.priv = false → x.lock = none → y.lock = none → s.pairIgnored ag (a.toNat - 4) = none → Runs (.pairHighWrite ag a w) s fun t =>
    t.reg (a.toNat - 4) = s.maskWrite x (a.toNat - 4) (s.reg (a.toNat - 4)) ((s.stage.get none (agIdx ag * 2 ^ 24 + (a.toNat - 4))).getD (s.reg (a.toNat - 4))) ∧ t.reg a.toNat = s.maskWrite y a.toNat (s.reg a.toNat) w ∧ t.stage.get none (agIdx ag * 2 ^ 24 + (a.toNat - 4)) = none ∧ (∀ b, b ≠ a.toNat → b ≠ a.toNat - 4 → (0x200000 ≤ a.toNat → a.toNat < 0x210000 → b % 0x4000 ≠ 0x24 ∧ b % 0x4000 ≠ 0x220) → t.reg b = s.reg b) ∧ t.mem = s.mem)

/-- What a register holds after a write, bit by bit (R14, R17). -/
def Obligations.AccessCodesDecideEachBit : Prop :=
  ∀ (s : State) (x : RegRow) (a : Nat) (old w : Word) (i : Nat), i < 32 →
    let has := fun (m : Nat) => m.testBit i
    let new := (s.maskWrite x a old w).getLsbD i
    let lockHere := match x.lock with
      | some (la, b) => la + x.outer a * (if x.nx = 1 then 0 else x.sx) = a ∧ b = i
      | none => False
    (has x.rw = true ∨ has x.rws = true ∨ (has x.rwl = true ∧ s.locked x a = false) →
      has x.w1c = false → (new = w.getLsbD i ∨ (new = true ∧ lockHere ∧ old.getLsbD i = true)) ∧
        (w.getLsbD i = true → new = true) ∧ (¬ lockHere → new = w.getLsbD i)) ∧
    (has x.rw = false → has x.rws = false → has x.rwl = true → s.locked x a = true → has x.w1c = false → has x.w1s = false →
      new = old.getLsbD i) ∧
    (has x.rw = false → has x.rws = false → has x.rwl = false → has x.w1c = false → has x.w1s = false → new = old.getLsbD i) ∧
    (has x.rw = false → has x.rws = false → has x.rwl = false → has x.w1c = true → has x.w1s = false →
      new = (old.getLsbD i && !w.getLsbD i)) ∧
    (has x.rw = false → has x.rws = false → has x.rwl = false → has x.w1c = false → has x.w1s = true →
      new = (old.getLsbD i || w.getLsbD i)) ∧
    (lockHere → has x.w1c = false → old.getLsbD i = true → new = true)

/-- Ring windows stage, push, pop, peek and drop; units push packets whole; refill, reset and enable keep or discard entries in order. -/
def Obligations.RingWindowAndUnitActs : Prop :=
  -- RING_PUSH_STAGE
  (∀ (ag : Agent) (q : RingId) (i : Fin 7) (w : Word) (s : State), s.agentLive ag = true → Runs (.ringPushStage ag q i w) s fun t =>
    entryWord (t.win ag q.val).stage i.val = w ∧ (∀ j, j < 8 → j ≠ i.val → entryWord (t.win ag q.val).stage j = entryWord (s.win ag q.val).stage j) ∧ t = { s with ringWins := t.ringWins }) ∧
  -- RING_WINDOW_PUSH
  (∀ (ag : Agent) (q : RingId) (w : Word) (s : State), s.agentLive ag = true → s.ringRoom q.val 1 = true → 
    (s.ring q.val).dropping = false → Runs (.ringWindowPush ag q w) s fun t =>
    (t.ring q.val).head ++ (t.ring q.val).spill ++ (t.ring q.val).tail = (s.ring q.val).head ++ (s.ring q.val).spill ++ (s.ring q.val).tail ++ [entryWithSeq (((s.win ag q.val).stage &&& BitVec.ofNat 256 (2 ^ 224 - 1)) ||| BitVec.ofNat 256 (w.toNat * 2 ^ 224)) (s.ring q.val).pushSeq] ∧ (t.ring q.val).pushSeq = ((s.ring q.val).pushSeq + 1) % 65536 ∧ (t.win ag q.val).res = 0 ∧ t.reg (Reg.RING_PUSH_CNT + 0x100 * q.val) = s.reg (Reg.RING_PUSH_CNT + 0x100 * q.val) + 1) ∧
  -- RING_WINDOW_PUSH
  (∀ (ag : Agent) (q : RingId) (w : Word) (s : State), s.agentLive ag = true → s.ringRoom q.val 1 = false → Runs (.ringWindowPush ag q w) s fun t =>
    t.rings = s.rings ∧ (t.win ag q.val).res = 1 ∧ t.reg (Reg.RING_REFUSE_CNT + 0x100 * q.val) = s.reg (Reg.RING_REFUSE_CNT + 0x100 * q.val) + 1) ∧
  -- RING_WINDOW_POP
  (∀ (ag : Agent) (q : RingId) (e0 : Entry) (es : List Entry) (s : State), s.agentLive ag = true → 
    (s.ring q.val).head ++ (s.ring q.val).spill ++ (s.ring q.val).tail = e0 :: es → Runs (.ringWindowPop ag q) s fun t =>
    (t.win ag q.val).popped = e0 ∧ (t.ring q.val).head ++ (t.ring q.val).spill ++ (t.ring q.val).tail = es ∧ (t.ring q.val).popSeq = ((s.ring q.val).popSeq + 1) % 65536 ∧ t.reg (Reg.RING_POP_CNT + 0x100 * q.val) = s.reg (Reg.RING_POP_CNT + 0x100 * q.val) + 1) ∧
  -- RING_WINDOW_POP
  (∀ (ag : Agent) (q : RingId) (s : State), s.agentLive ag = true → (s.ring q.val).count = 0 → Runs (.ringWindowPop ag q) s fun t =>
    (t.win ag q.val).popped = BitVec.ofNat 256 ((s.ring q.val).popSeq * 2 ^ 16) ∧ t.rings = s.rings ∧ t.regs = s.regs) ∧
  -- RING_WINDOW_PEEK
  (∀ (ag : Agent) (q : RingId) (s : State), exec (.ringWindowPeek ag q) s = .next s) ∧
  -- RING_WINDOW_DROP
  (∀ (ag : Agent) (q : RingId) (e0 : Entry) (es : List Entry) (s : State), s.agentLive ag = true → s.ringEn q.val = true → 
    (s.ring q.val).head = e0 :: es → entrySop e0 = false → entrySop (es.headD 0) = true → es ≠ [] → 
    (s.ring q.val).spill = [] → (s.ring q.val).tail = [] → Runs (.ringWindowDrop ag q) s fun t =>
    (t.ring q.val).head = es ∧ (t.ring q.val).popSeq = ((s.ring q.val).popSeq + 1) % 65536 ∧ t.reg (Reg.RING_DISCARD_CNT + 0x100 * q.val) = s.reg (Reg.RING_DISCARD_CNT + 0x100 * q.val) + 1) ∧
  -- UNIT_RING_PUSH
  (∀ (q : RingId) (e0 : Entry) (s : State), s.ringRoom q.val 1 = true → (s.ring q.val).dropping = false → Runs (.unitRingPush (.packet q [e0] 0)) s fun t =>
    (t.ring q.val).head ++ (t.ring q.val).spill ++ (t.ring q.val).tail = (s.ring q.val).head ++ (s.ring q.val).spill ++ (s.ring q.val).tail ++ [entryWithSeq e0 (s.ring q.val).pushSeq] ∧ (t.ring q.val).pushSeq = ((s.ring q.val).pushSeq + 1) % 65536 ∧ t.reg (Reg.RING_PUSH_CNT + 0x100 * q.val) = s.reg (Reg.RING_PUSH_CNT + 0x100 * q.val) + 1) ∧
  -- UNIT_RING_PUSH
  (∀ (q : RingId) (es : List Entry) (s : State), s.ringEn q.val = true → s.ringRoom q.val es.length = false → 
    s.onceOk (Code.RING_RING_OVF + 65536 * q.val) 1000000000 = true → s.faultRoom → Runs (.unitRingPush (.packet q es 0)) s fun t =>
    t.rings = s.rings ∧ t.reg (Reg.RING_OVF_CNT + 0x100 * q.val) = s.reg (Reg.RING_OVF_CNT + 0x100 * q.val) + BitVec.ofNat 32 es.length ∧ t.bit (Reg.RING_STATUS + 0x100 * q.val) 24 = true ∧ t.faultQueued Code.RING_RING_OVF q.val) ∧
  -- UNIT_RING_PUSH
  (∀ (q : RingId) (es : List Entry) (s : State), s.ringEn q.val = false → 
    s.onceOk (Code.RING_DISABLED_PUSH + 65536 * q.val) 1000000000 = true → s.faultRoom → Runs (.unitRingPush (.packet q es 0)) s fun t =>
    t.rings = s.rings ∧ t.reg (Reg.RING_OVF_CNT + 0x100 * q.val) = s.reg (Reg.RING_OVF_CNT + 0x100 * q.val) + BitVec.ofNat 32 es.length ∧ t.faultQueued Code.RING_DISABLED_PUSH q.val) ∧
  -- RING_REFILL
  (∀ (q : RingId) (s : State), (s.ring q.val).head.length ≤ 8 → (s.ring q.val).spill ≠ [] → Runs (.ringRefill q 0) s fun t =>
    (t.ring q.val).head ++ (t.ring q.val).spill ++ (t.ring q.val).tail = (s.ring q.val).head ++ (s.ring q.val).spill ++ (s.ring q.val).tail ∧ (8 < (t.ring q.val).head.length ∨ (t.ring q.val).spill = []) ∧ t.regs = s.regs) ∧
  -- RING_RESET
  (∀ (ag : Agent) (q : RingId) (s : State), s.canWrite ag (Reg.RING_CMD + 0x100 * q.val) → 
    s.bit (Reg.RING_CTRL + 0x100 * q.val) 31 = false → Runs (.ringReset ag q) s fun t =>
    (t.ring q.val).head = [] ∧ (t.ring q.val).spill = [] ∧ (t.ring q.val).tail = [] ∧ (t.ring q.val).popSeq = (s.ring q.val).pushSeq ∧ (t.ring q.val).pushSeq = (s.ring q.val).pushSeq ∧ (t.ring q.val).hwm = 0 ∧ t.reg (Reg.RING_DISCARD_CNT + 0x100 * q.val) = s.reg (Reg.RING_DISCARD_CNT + 0x100 * q.val) + BitVec.ofNat 32 (s.ring q.val).count) ∧
  -- RING_RESET
  (∀ (ag : Agent) (q : RingId) (s : State), s.canWrite ag (Reg.RING_CMD + 0x100 * q.val) → 
    s.bit (Reg.RING_CTRL + 0x100 * q.val) 31 = true → exec (.ringReset ag q) s = .next s) ∧
  -- RING_CTRL_WRITE
  (∀ (ag : Agent) (q : RingId) (w : Word) (s : State), s.canWrite ag (Reg.RING_CTRL + 0x100 * q.val) → 
    s.bit (Reg.RING_CTRL + 0x100 * q.val) 31 = false → s.ringEn q.val = true → w.getLsbD 0 = false → Runs (.ringCtrlWrite ag q w) s fun t =>
    t.ringEn q.val = false ∧ (t.ring q.val).count = 0 ∧ t.reg (Reg.RING_DISCARD_CNT + 0x100 * q.val) = s.reg (Reg.RING_DISCARD_CNT + 0x100 * q.val) + BitVec.ofNat 32 (s.ring q.val).count) ∧
  -- RING_CTRL_WRITE
  (∀ (ag : Agent) (q : RingId) (w : Word) (s : State), s.canWrite ag (Reg.RING_CTRL + 0x100 * q.val) → 
    s.bit (Reg.RING_CTRL + 0x100 * q.val) 31 = false → s.ringEn q.val = false → w.getLsbD 0 = true → 
    s.spillOk q.val = false → s.faultRoom → Runs (.ringCtrlWrite ag q w) s fun t =>
    t.ringEn q.val = false ∧ t.faultQueued Code.RING_CFG_ERR q.val ∧ t.rings = s.rings) ∧
  -- RING_CTRL_WRITE
  (∀ (ag : Agent) (q : RingId) (w : Word) (s : State), s.canWrite ag (Reg.RING_CTRL + 0x100 * q.val) → 
    s.bit (Reg.RING_CTRL + 0x100 * q.val) 31 = false → s.ringEn q.val = false → w.getLsbD 0 = true → 
    s.spillOk q.val = true → Runs (.ringCtrlWrite ag q w) s fun t =>
    t.ringEn q.val = true ∧ t.rings = s.rings ∧ t.faultQ = s.faultQ)

/-- A plate port starts a sub-frame at its start phase, latches it at its latch phase, sends, delays or abandons its LE, and stops. -/
def Obligations.SubFramesStartLatchAndEnd : Prop :=
  -- SUBFRAME_START
  (∀ (p : PortId) (s : State), s.pEn p.val = true → s.stopped = false → s.running = true → 
    phaseBefore s.phase (s.startOf p.val (s.nextLatch p.val (s.port p.val).lastPh)) = false → 
    (s.port p.val).enAt + 10000 ≤ s.mono → Runs (.subframeStart p []) s fun t =>
    t.reg (State.pReg Reg.PLATE_SF_CNT p.val) = s.reg (State.pReg Reg.PLATE_SF_CNT p.val) + 1 ∧ (t.port p.val).lastPh = s.startOf p.val (s.nextLatch p.val (s.port p.val).lastPh) ∧ (∃ x ∈ (t.port p.val).sfs, x.latch = s.nextLatch p.val (s.port p.val).lastPh)) ∧
  -- SUBFRAME_START
  (∀ (p : PortId) (s : State), s.pEn p.val = true → s.stopped = false → s.running = true → 
    phaseBefore s.phase (s.startOf p.val (s.nextLatch p.val (s.port p.val).lastPh)) = false → 
    s.mono < (s.port p.val).enAt + 10000 → Runs (.subframeStart p []) s fun t =>
    t.reg (State.pReg Reg.PLATE_SKIP_CNT p.val) = s.reg (State.pReg Reg.PLATE_SKIP_CNT p.val) + 1 ∧ t.reg (State.pReg Reg.PLATE_SF_CNT p.val) = s.reg (State.pReg Reg.PLATE_SF_CNT p.val) ∧ (t.port p.val).lastPh = s.startOf p.val (s.nextLatch p.val (s.port p.val).lastPh)) ∧
  -- SUBFRAME_LATCH
  (∀ (p : PortId) (x : SubFrame) (s : State), s.stopped = false → (s.port p.val).sfs = [x] → x.latched = false → 
    x.stream = true → x.fs = true → x.le = none → phaseBefore s.phase x.latch = false → s.portGate p.val = true → Runs (.subframeLatch p true) s fun t =>
    t.reg (State.pReg Reg.PLATE_LAST_FRAME p.val) = BitVec.ofNat 32 x.n ∧ t.arrayCur.get none p.val = x.current ∧ (t.port p.val).lastLe = some (x.n, x.s, x.crc) ∧ t.reg (State.pReg Reg.PLATE_LATE_CNT p.val) = s.reg (State.pReg Reg.PLATE_LATE_CNT p.val)) ∧
  -- SUBFRAME_LATCH
  (∀ (p : PortId) (x : SubFrame) (s : State), s.stopped = false → (s.port p.val).sfs = [x] → x.latched = false → 
    x.stream = true → x.fs = true → x.le = none → x.blank = false → phaseBefore s.phase x.latch = false → 
    s.portGate p.val = true → Runs (.subframeLatch p false) s fun t =>
    t.reg (State.pReg Reg.PLATE_LAST_FRAME p.val) = BitVec.ofNat 32 x.n ∧ t.reg (State.pReg Reg.PLATE_LATE_CNT p.val) = s.reg (State.pReg Reg.PLATE_LATE_CNT p.val) + 1 ∧ (t.port p.val).lastLe = (s.port p.val).lastLe) ∧
  -- LATE_LE_SEND
  (
    ∀ (p : PortId) (x : SubFrame) (s : State), ((s.port p.val).sfs.find? fun y => y.latched && State.owesLe y && y.fs) = some x → 
    Runs (.lateLeSend p) s fun t =>
    (t.port p.val).lastLe = some (x.n, x.s, x.crc) ∧ t.reg (State.pReg Reg.PLATE_SF_CNT p.val) = s.reg (State.pReg Reg.PLATE_SF_CNT p.val)) ∧
  -- SUBFRAME_ABANDON
  (∀ (p : PortId) (x : SubFrame) (s : State), ((s.port p.val).sfs.find? fun y => y.latched && State.owesLe y) = some x → 
    s.stopped = false → phaseBefore s.phase (s.nextLatchAfter p.val x) = false → s.faultRoom → Runs (.subframeAbandon p) s fun t =>
    t.reg (State.pReg Reg.PLATE_ABANDON_CNT p.val) = s.reg (State.pReg Reg.PLATE_ABANDON_CNT p.val) + 1 ∧ t.faultQueued Code.PLATE_SF_ABANDON p.val ∧ (∀ y ∈ (t.port p.val).sfs, y.latch ≠ x.latch)) ∧
  -- PLATE_LATCH
  (∀ (a : Act) (s : State), (s.issued.find? fun x => actCode x.act == 2) = some a → actTarget a.act < 4 → 
    s.paired (actTarget a.act) = false → s.pEn (actTarget a.act) = true → s.stopped = false → wfld a.a1 8 8 = 0 → 
    wfld a.a1 10 10 = 0 → Runs .plateLatch s fun t =>
    ((t.port (actTarget a.act)).latches = (s.port (actTarget a.act)).latches ++ [⟨some (s.nextLatch (actTarget a.act) s.phase), a.a0, wfld a.a1 7 0, wfld a.a1 9 9 == 1, if wfld a.a1 11 11 = 1 then some (wfld a.a2 15 0) else none, if wfld a.a1 12 12 = 1 then some (wfld a.a1 13 13 == 1) else none⟩]) ∧ t.issued = s.issued.erase a ∧ t.regs = s.regs) ∧
  -- PLATE_ENABLE
  (∀ (ag : Agent) (p : PortId) (w : Word) (s : State), s.canWrite ag (State.pReg Reg.PLATE_CTRL p.val) → 
    s.pEn p.val = false → 
    (s.plainWrite ag (State.pReg Reg.PLATE_CTRL p.val) (wset (w ||| 1) 0 0 0)).cfgOk p.val = true → Runs (.plateEnable ag p w) s fun t =>
    t.pEn p.val = true ∧ t.pState p.val = 1 ∧ t.reg (State.pReg Reg.PLATE_RENDER_MAX p.val) = 0 ∧ t.bit (State.pReg Reg.PLATE_CMD p.val) 0 = false ∧ (t.port p.val).lastPh = s.phase ∧ (t.port p.val).enAt = s.mono) ∧
  -- PLATE_ENABLE
  (∀ (ag : Agent) (p : PortId) (w : Word) (s : State), s.canWrite ag (State.pReg Reg.PLATE_CTRL p.val) → 
    s.pEn p.val = false → 
    (s.plainWrite ag (State.pReg Reg.PLATE_CTRL p.val) (wset (w ||| 1) 0 0 0)).cfgOk p.val = false → s.faultRoom → Runs (.plateEnable ag p w) s fun t =>
    t.pEn p.val = false ∧ t.faultQueued Code.PLATE_CFG_ERR p.val ∧ t.ports = s.ports) ∧
  -- PLATE_DISABLE
  (∀ (ag : Agent) (p : PortId) (w : Word) (s : State), s.canWrite ag (State.pReg Reg.PLATE_CTRL p.val) → 
    s.pEn p.val = true → Runs (.plateDisable ag p w) s fun t =>
    t.pEn p.val = false ∧ t.pState p.val = 3 ∧ t.ports = s.ports) ∧
  -- PLATE_STOP
  (∀ (p : PortId) (s : State), s.pState p.val = 3 → (s.port p.val).sfs = [] → Runs (.plateStop p) s fun t =>
    t.pState p.val = 0 ∧ (t.port p.val).pins = [] ∧ (t.lState p.val = if s.lState p.val = 6 then 5 else s.lState p.val) ∧ (∀ l, l < 8 → t.reg (State.pReg Reg.PLATE_L_STATE p.val + 0x20 * l) = 0)) ∧
  -- PLATE_COMMIT
  (∀ (ag : Agent) (p : PortId) (s : State), s.canWrite ag (State.pReg Reg.PLATE_CMD p.val) → s.paired p.val = false → exec (.plateCommit ag p) s = .next (s.setBit (State.pReg Reg.PLATE_CMD p.val) 0 true))

/-- The commands of a plate buffer configure, open, seal, free and reset its slots, with their result, and refuse what the spec refuses. -/
def Obligations.PlateBufferCommands : Prop :=
  -- BUF_CONFIG
  (∀ (ag : Agent) (b : Nat) (s : State), s.canWrite ag Reg.PLATE_BUF_CMD → b = s.afld (agIdx ag) Reg.PLATE_BUF_SEL 11 0 → 
    (s.buf b).allEmpty = true → 
    bufCfgBad ((s.areg64 (agIdx ag) Reg.PLATE_BUF_BASE_LO).toNat % 2 ^ 40) (s.areg (agIdx ag) Reg.PLATE_BUF_SLOT).toNat (s.afld (agIdx ag) Reg.PLATE_BUF_CFG 2 0) = false → 
    exec (.bufConfig ag) s = .next ((s.setBuf b ⟨true, (s.areg64 (agIdx ag) Reg.PLATE_BUF_BASE_LO).toNat % 2 ^ 40, (s.areg (agIdx ag) Reg.PLATE_BUF_SLOT).toNat, s.afld (agIdx ag) Reg.PLATE_BUF_CFG 2 0, s.afld (agIdx ag) Reg.PLATE_BUF_CFG 3 3 == 1, {}⟩).setAreg (agIdx ag) Reg.PLATE_BUF_RES 0)) ∧
  -- BUF_CONFIG
  (∀ (ag : Agent) (b : Nat) (s : State), s.canWrite ag Reg.PLATE_BUF_CMD → b = s.afld (agIdx ag) Reg.PLATE_BUF_SEL 11 0 → 
    (s.buf b).allEmpty = false → s.faultRoom → Runs (.bufConfig ag) s fun t =>
    t.areg (agIdx ag) Reg.PLATE_BUF_RES = 2 ∧ t.bufs = s.bufs ∧ t.faultQueued Code.PLATE_BUF_REFUSED b) ∧
  -- BUF_CONFIG
  (∀ (ag : Agent) (b : Nat) (s : State), s.canWrite ag Reg.PLATE_BUF_CMD → b = s.afld (agIdx ag) Reg.PLATE_BUF_SEL 11 0 → 
    (s.buf b).allEmpty = true → 
    bufCfgBad ((s.areg64 (agIdx ag) Reg.PLATE_BUF_BASE_LO).toNat % 2 ^ 40) (s.areg (agIdx ag) Reg.PLATE_BUF_SLOT).toNat (s.afld (agIdx ag) Reg.PLATE_BUF_CFG 2 0) = true → 
    s.faultRoom → Runs (.bufConfig ag) s fun t =>
    t.areg (agIdx ag) Reg.PLATE_BUF_RES = 4 ∧ t.bufs = s.bufs ∧ t.faultQueued Code.PLATE_BUF_REFUSED b) ∧
  -- BUF_INIT
  (∀ (ag : Agent) (b : Nat) (s : State), s.canWrite ag Reg.PLATE_BUF_CMD → b = s.afld (agIdx ag) Reg.PLATE_BUF_SEL 11 0 → 
    (s.buf b).valid = true → (s.buf b).depth = 1 → (s.buf b).allEmpty = true → Runs (.bufInit ag) s fun t =>
    ((t.buf b).slot 0) = ⟨1, s.areg (agIdx ag) Reg.PLATE_BUF_GEN, 0⟩ ∧ t.areg (agIdx ag) Reg.PLATE_BUF_RES = 0 ∧ t.faultQ = s.faultQ) ∧
  -- BUF_OPEN
  (∀ (ag : Agent) (b : Nat) (g : Word) (s : State), s.canWrite ag Reg.PLATE_BUF_CMD → 
    b = s.afld (agIdx ag) Reg.PLATE_BUF_SEL 11 0 → g = s.areg (agIdx ag) Reg.PLATE_BUF_GEN → (s.buf b).valid = true → 
    ((s.buf b).slot ((s.buf b).slotOf g)).state = 0 → exec (.bufOpen ag) s = .next ((s.setBuf b ((s.buf b).setSlot ((s.buf b).slotOf g) ⟨1, g, 0⟩)).setAreg (agIdx ag) Reg.PLATE_BUF_RES 0)) ∧
  -- BUF_SEAL
  (∀ (ag : Agent) (b : Nat) (g : Word) (s : State), s.canWrite ag Reg.PLATE_BUF_CMD → 
    b = s.afld (agIdx ag) Reg.PLATE_BUF_SEL 11 0 → g = s.areg (agIdx ag) Reg.PLATE_BUF_GEN → 
    (s.buf b).holds g [1] = true → Runs (.bufSeal ag) s fun t =>
    ((t.buf b).slot ((s.buf b).slotOf g)).state = 2 ∧ ((t.buf b).slot ((s.buf b).slotOf g)).gen = g ∧ ((t.buf b).slot ((s.buf b).slotOf g)).pins = ((s.buf b).slot ((s.buf b).slotOf g)).pins ∧ t.areg (agIdx ag) Reg.PLATE_BUF_RES = 0 ∧ t.faultQ = s.faultQ) ∧
  -- BUF_SEAL
  (∀ (ag : Agent) (b : Nat) (g : Word) (s : State), s.canWrite ag Reg.PLATE_BUF_CMD → 
    b = s.afld (agIdx ag) Reg.PLATE_BUF_SEL 11 0 → g = s.areg (agIdx ag) Reg.PLATE_BUF_GEN → (s.buf b).valid = true → 
    (s.buf b).holds g [1, 2] = false → s.faultRoom → Runs (.bufSeal ag) s fun t =>
    t.areg (agIdx ag) Reg.PLATE_BUF_RES = 3 ∧ t.bufs = s.bufs ∧ t.faultQueued Code.PLATE_BUF_REFUSED b) ∧
  -- BUF_FREE
  (∀ (ag : Agent) (b : Nat) (g : Word) (s : State), s.canWrite ag Reg.PLATE_BUF_CMD → 
    b = s.afld (agIdx ag) Reg.PLATE_BUF_SEL 11 0 → g = s.areg (agIdx ag) Reg.PLATE_BUF_GEN → 
    (s.buf b).holds g [1, 2] = true → ((s.buf b).slot ((s.buf b).slotOf g)).pins = 0 → (s.buf b).auto = false → exec (.bufFree ag) s = .next ((s.setBuf b ((s.buf b).setSlot ((s.buf b).slotOf g) ⟨0, g, 0⟩)).setAreg (agIdx ag) Reg.PLATE_BUF_RES 0)) ∧
  -- BUF_FREE
  (∀ (ag : Agent) (b : Nat) (g : Word) (s : State), s.canWrite ag Reg.PLATE_BUF_CMD → 
    b = s.afld (agIdx ag) Reg.PLATE_BUF_SEL 11 0 → g = s.areg (agIdx ag) Reg.PLATE_BUF_GEN → 
    (s.buf b).holds g [1, 2] = true → 0 < ((s.buf b).slot ((s.buf b).slotOf g)).pins → s.faultRoom → Runs (.bufFree ag) s fun t =>
    ((t.buf b).slot ((s.buf b).slotOf g)).state = 3 ∧ ((t.buf b).slot ((s.buf b).slotOf g)).pins = ((s.buf b).slot ((s.buf b).slotOf g)).pins ∧ t.areg (agIdx ag) Reg.PLATE_BUF_RES = 1 ∧ t.reg Reg.PLATE_DEFER_CNT = s.reg Reg.PLATE_DEFER_CNT + 1 ∧ (∃ f ∈ t.faultQ, f.code = Code.PLATE_PREMATURE_FREE)) ∧
  -- BUF_RESET
  (∀ (ag : Agent) (b : Nat) (s : State), s.canWrite ag Reg.PLATE_BUF_CMD → b = s.afld (agIdx ag) Reg.PLATE_BUF_SEL 11 0 → 
    (s.buf b).allEmpty = true → exec (.bufReset ag) s = .next ((s.setBuf b { s.buf b with valid := false }).setAreg (agIdx ag) Reg.PLATE_BUF_RES 0)) ∧
  -- BUF_BADOP
  (∀ (ag : Agent) (seven : Bool) (s : State), s.canWrite ag Reg.PLATE_BUF_CMD → exec (.bufBadop ag seven) s = .next (s.setAreg (agIdx ag) Reg.PLATE_BUF_RES 5))

/-- LC and SR packets, TE_L edges, ALIGN blocks and their loss act on a plate link as the spec says. -/
def Obligations.LinkReadbackIsChecked : Prop :=
  -- LC_RECEIVED
  (∀ (p : PortId) (n : Word) (sf : Fin 8) (st : Fin 4) (crc : Word) (s : State), s.linkHears p.val = true → Runs (.lcReceived p false n sf st crc) s fun t =>
    t.reg (State.pReg Reg.PLATE_UP_CRC_CNT p.val) = s.reg (State.pReg Reg.PLATE_UP_CRC_CNT p.val) + 1 ∧ t.reg (State.pReg Reg.PLATE_LC_CRC p.val) = s.reg (State.pReg Reg.PLATE_LC_CRC p.val) ∧ t.ports = s.ports) ∧
  -- LC_RECEIVED
  (∀ (p : PortId) (n : Word) (sf : Fin 8) (crc : Word) (s : State), s.linkHears p.val = true → 
    s.lcMatch p.val n.toNat sf.val crc = true → s.lcConfirms p.val n.toNat sf.val = true → Runs (.lcReceived p true n sf 0 crc) s fun t =>
    t.reg (State.pReg Reg.PLATE_LC_CRC p.val) = crc ∧ t.reg (State.pReg Reg.PLATE_LC_FRAME p.val) = n ∧ t.reg (State.pReg Reg.OCC_CONFIRM_CNT p.val) = s.reg (State.pReg Reg.OCC_CONFIRM_CNT p.val) + 1 ∧ t.reg (State.pReg Reg.PLATE_LC_MISM_CNT p.val) = s.reg (State.pReg Reg.PLATE_LC_MISM_CNT p.val)) ∧
  -- LC_RECEIVED
  (∀ (p : PortId) (n : Word) (sf : Fin 8) (crc : Word) (s : State), s.linkHears p.val = true → 
    s.lcMatch p.val n.toNat sf.val crc = false → s.faultRoom → Runs (.lcReceived p true n sf 0 crc) s fun t =>
    t.reg (State.pReg Reg.PLATE_LC_CRC p.val) = crc ∧ t.reg (State.pReg Reg.PLATE_LC_MISM_CNT p.val) = s.reg (State.pReg Reg.PLATE_LC_MISM_CNT p.val) + 1 ∧ t.reg (State.pReg Reg.OCC_CONFIRM_CNT p.val) = s.reg (State.pReg Reg.OCC_CONFIRM_CNT p.val) ∧ t.faultQueued Code.PLATE_LC_MISMATCH p.val) ∧
  -- LC_RECEIVED
  (∀ (p : PortId) (n : Word) (sf : Fin 8) (crc : Word) (s : State), s.linkHears p.val = true → 
    s.lcMatch p.val n.toNat sf.val crc = false → s.bit (State.pReg Reg.PLATE_LINK_CTRL p.val) 5 = true → Runs (.lcReceived p true n sf 0 crc) s fun t =>
    t.bit (State.pReg Reg.PLATE_LINK_STATUS p.val) 7 = true) ∧
  -- LC_RECEIVED
  (∀ (p : PortId) (n : Word) (sf : Fin 8) (crc : Word) (s : State), s.linkHears p.val = true → Runs (.lcReceived p true n sf 1 crc) s fun t =>
    t.reg (State.pReg Reg.PLATE_REJECT_CNT p.val) = s.reg (State.pReg Reg.PLATE_REJECT_CNT p.val) + 1 ∧ t.reg (State.pReg Reg.OCC_CONFIRM_CNT p.val) = s.reg (State.pReg Reg.OCC_CONFIRM_CNT p.val)) ∧
  -- SR_RECEIVED
  (∀ (p : PortId) (tag qcode : Byte) (data : List DWord) (d0 d1 : DWord) (s : State), s.linkHears p.val = true → 
    data = [d0, d1] → Runs (.srReceived p true 0 tag qcode data) s fun t =>
    t.reg64 (State.pReg Reg.PLATE_ENG_STAT p.val) = d0 ∧ t.reg64 (State.pReg Reg.PLATE_ENG_STAT p.val + 8) = d1) ∧
  -- SR_RECEIVED
  (∀ (p : PortId) (tag qcode : Byte) (data : List DWord) (s : State), s.lState p.val = 4 → 
    s.fld (State.pReg Reg.PLATE_LINK_TEST p.val) 1 0 = 0 → s.pstateReq p.val = 0 → Runs (.srReceived p true 1 tag qcode data) s fun t =>
    t.lState p.val = 5 ∧ t.reg64 (State.pReg Reg.PLATE_ENG_ID p.val) = data.getD 0 0 ∧ (t.port p.val).ident = some (data.take 4) ∧ (t.port p.val).query = none) ∧
  -- SR_RECEIVED
  (∀ (p : PortId) (tag : Byte) (data : List DWord) (q : Query) (s : State), s.lState p.val = 5 → 
    (s.port p.val).query = some q → q.code = 3 → q.tag = tag.toNat → (q.arg = 1 ∨ q.arg = 2) → Runs (.srReceived p true 3 tag 3 data) s fun t =>
    t.lState p.val = 6 + q.arg.toNat ∧ (t.port p.val).query = none) ∧
  -- UPSTREAM_ALIGN
  (∀ (p : PortId) (lc : Fin 4) (lm : Fin 16) (s : State), s.lState p.val = 3 → lc.val = (s.port p.val).lanes → 
    s.coversLanes p.val lm.val = true → (s.port p.val).aligns ≠ 0 → s.refOk (52 + 4 * p.val) = true → Runs (.upstreamAlign p lc lm) s fun t =>
    t.lState p.val = 4 ∧ (t.port p.val).trained = true ∧ ((t.port p.val).query.map fun q => q.code) = some 1) ∧
  -- UPSTREAM_ALIGN
  (∀ (p : PortId) (lc : Fin 4) (lm : Fin 16) (s : State), (s.lState p.val = 5 ∨ s.lState p.val = 6) → 
    lm.val &&& s.usedMask p.val ≠ s.usedMask p.val → s.refOk (52 + 4 * p.val) = true → s.faultRoom → Runs (.upstreamAlign p lc lm) s fun t =>
    t.lState p.val = 3 ∧ t.reg (State.pReg Reg.PLATE_LANE_LOSS_CNT p.val) = s.reg (State.pReg Reg.PLATE_LANE_LOSS_CNT p.val) + 1 ∧ t.faultQueued Code.PLATE_LANE_LOSS p.val) ∧
  -- RX_LOCK_LOSS
  (∀ (p : PortId) (s : State), (s.lState p.val = 5 ∨ s.lState p.val = 6) → s.faultRoom → Runs (.rxLockLoss p) s fun t =>
    t.lState p.val = 3 ∧ t.faultQueued Code.PLATE_LANE_LOSS p.val ∧ t.reg (State.pReg Reg.PLATE_TRAIN_CNT p.val) = s.reg (State.pReg Reg.PLATE_TRAIN_CNT p.val) + 1) ∧
  -- RX_LOCK_LOSS
  (∀ (p : PortId) (s : State), s.lState p.val = 3 → Runs (.rxLockLoss p) s fun t =>
    (t.port p.val).aligns = 0 ∧ t.lState p.val = 3 ∧ t.bit (State.pReg Reg.PLATE_LINK_STATUS p.val) 12 = false) ∧
  -- TE_EDGE
  (∀ (p : PortId) (eop : Nat) (s : State), s.bit (State.pReg Reg.PLATE_LINK_CTRL p.val) 4 = true → 
    (s.port p.val).teWait = some eop → Runs (.teEdge p) s fun t =>
    t.reg (State.pReg Reg.PLATE_TE_DLY p.val) = BitVec.ofNat 32 (s.mono - eop) ∧ (t.port p.val).teWait = none ∧ (t.port p.val).teAt = some s.mono ∧ (t.port p.val).stall = 0 ∧ (t.port p.val).released = true) ∧
  -- TE_TIMEOUT
  (∀ (p : PortId) (eop : Nat) (s : State), (s.port p.val).teWait = some eop → 
    s.isLastLe p.val (s.reg (State.pReg Reg.PLATE_LC_FRAME p.val)).toNat (s.fld (State.pReg Reg.PLATE_LC_INFO p.val) 2 0) = true → 
    s.fld (State.pReg Reg.PLATE_LC_INFO p.val) 4 3 ≠ 1 → 
    eop + s.fld (State.pReg Reg.PLATE_TE p.val) 15 0 * 1000 ≤ s.mono → Runs (.teTimeout p) s fun t =>
    t.reg (State.pReg Reg.PLATE_TE_MISS_CNT p.val) = s.reg (State.pReg Reg.PLATE_TE_MISS_CNT p.val) + 1 ∧ t.reg (State.pReg Reg.PLATE_TE_SUBST_CNT p.val) = s.reg (State.pReg Reg.PLATE_TE_SUBST_CNT p.val) + 1 ∧ (t.port p.val).teWait = none) ∧
  -- LINK_STALL
  (∀ (p : PortId) (s : State), s.lState p.val = 6 → 
    max 1 (s.fld (State.pReg Reg.PLATE_TE p.val) 23 16) ≤ (s.port p.val).stall → s.faultRoom → Runs (.linkStall p) s fun t =>
    t.lState p.val = 3 ∧ t.faultQueued Code.PLATE_LINK_STALL p.val ∧ (t.port p.val).released = true)

/-- A plate link finds and loses its engine, trains, identifies, changes its power state and runs its loops. -/
def Obligations.LinkStatesChange : Prop :=
  -- ENG_DET_ASSERT
  (∀ (p : PortId) (s : State), (s.port p.val).det = false → s.lState p.val = 1 → Runs (.engDetAssert p) s fun t =>
    t.lState p.val = 2 ∧ (t.port p.val).det = true) ∧
  -- ENG_DET_NEGATE
  (∀ (p : PortId) (s : State), (s.port p.val).det = true → s.lState p.val = 2 → Runs (.engDetNegate p) s fun t =>
    t.lState p.val = 1 ∧ (t.port p.val).det = false) ∧
  -- ENG_DET_DEBOUNCE
  (∀ (p : PortId) (s : State), s.lState p.val = 2 → (s.port p.val).det = true → 
    (s.port p.val).since + s.fld (State.pReg Reg.PLATE_ENG_DET p.val) 15 0 * 1000000 ≤ s.mono → s.faultRoom → Runs (.engDetDebounce p) s fun t =>
    t.lState p.val = 3 ∧ t.bit (State.pReg Reg.PLATE_LINK_STATUS p.val) 4 = true ∧ t.faultQueued Code.PLATE_ENG_FOUND p.val ∧ t.reg (State.pReg Reg.PLATE_TRAIN_CNT p.val) = s.reg (State.pReg Reg.PLATE_TRAIN_CNT p.val) + 1) ∧
  -- ENG_DET_LOSS
  (∀ (p : PortId) (s : State), 3 ≤ s.lState p.val → (s.port p.val).det = false → 
    (s.port p.val).detAt + s.fld (State.pReg Reg.PLATE_ENG_DET p.val) 31 16 * 1000 ≤ s.mono → s.faultRoom → Runs (.engDetLoss p) s fun t =>
    t.lState p.val = 1 ∧ t.bit (State.pReg Reg.PLATE_LINK_STATUS p.val) 4 = false ∧ t.faultQueued Code.PLATE_ENG_LOST p.val) ∧
  -- TRAIN_TIMEOUT
  (∀ (p : PortId) (s : State), s.lState p.val = 3 → 
    (s.port p.val).since + s.fld (State.pReg Reg.PLATE_TRAIN p.val) 15 0 * 1000000 ≤ s.mono → 
    (s.port p.val).trained = true → s.faultRoom → Runs (.trainTimeout p) s fun t =>
    t.lState p.val = 3 ∧ t.faultQueued Code.PLATE_TRAIN_FAIL p.val ∧ (t.port p.val).trained = false ∧ (t.port p.val).since = s.mono + 1000000 ∧ t.reg (State.pReg Reg.PLATE_TRAIN_CNT p.val) = s.reg (State.pReg Reg.PLATE_TRAIN_CNT p.val) + 1) ∧
  -- IDENT_TIMEOUT
  (∀ (p : PortId) (q : Query) (s : State), s.lState p.val = 4 → (s.port p.val).query = some q → q.code = 1 → 
    q.sent + 1000000 ≤ s.mono → q.tries < 3 → Runs (.identTimeout p) s fun t =>
    t.lState p.val = 4 ∧ ((t.port p.val).query.map fun x => x.tries) = some (q.tries + 1)) ∧
  -- IDENT_TIMEOUT
  (∀ (p : PortId) (q : Query) (s : State), s.lState p.val = 4 → (s.port p.val).query = some q → q.code = 1 → 
    q.sent + 1000000 ≤ s.mono → 3 ≤ q.tries → s.faultRoom → Runs (.identTimeout p) s fun t =>
    t.lState p.val = 3 ∧ t.faultQueued Code.PLATE_ENG_NORESP p.val) ∧
  -- PWR_NO_ACK
  (∀ (p : PortId) (q : Query) (s : State), s.lState p.val = 5 → (s.port p.val).query = some q → q.code = 3 → 
    q.sent + 1000000 ≤ s.mono → 3 ≤ q.tries → s.faultRoom → Runs (.pwrNoAck p) s fun t =>
    t.lState p.val = 5 ∧ t.faultQueued Code.PLATE_ENG_NORESP p.val ∧ (t.port p.val).query = none) ∧
  -- LINK_CTRL_WRITE
  (∀ (ag : Agent) (p : PortId) (w : Word) (s : State), s.canWrite ag (State.pReg Reg.PLATE_LINK_CTRL p.val) → 
    (wfld w 3 2 = 3 ∨ (wfld w 3 0 ≠ s.fld (State.pReg Reg.PLATE_LINK_CTRL p.val) 3 0 ∧ s.lState p.val = 6)) → 
    s.faultRoom → Runs (.linkCtrlWrite ag p w) s fun t =>
    t.reg (State.pReg Reg.PLATE_LINK_CTRL p.val) = s.reg (State.pReg Reg.PLATE_LINK_CTRL p.val) ∧ t.faultQueued Code.PLATE_CFG_ERR p.val) ∧
  -- LINK_CTRL_WRITE
  (∀ (ag : Agent) (p : PortId) (w : Word) (s : State), s.canWrite ag (State.pReg Reg.PLATE_LINK_CTRL p.val) → 
    wfld w 3 2 ≠ 3 → s.lState p.val = 0 → s.bit (State.pReg Reg.PLATE_LINK_CTRL p.val) 4 = false → wfld w 4 4 = 1 → 
    wfld w 6 6 = 0 → wfld w 8 7 = 0 → Runs (.linkCtrlWrite ag p w) s fun t =>
    (t.lState p.val = if (s.port p.val).det then 2 else 1) ∧ t.bit (State.pReg Reg.PLATE_LINK_CTRL p.val) 4 = true ∧ t.reg (State.pReg Reg.PLATE_TE_DLY_MAX p.val) = 0) ∧
  -- LINK_CTRL_WRITE
  (∀ (ag : Agent) (p : PortId) (w : Word) (s : State), s.canWrite ag (State.pReg Reg.PLATE_LINK_CTRL p.val) → 
    wfld w 3 0 = s.fld (State.pReg Reg.PLATE_LINK_CTRL p.val) 3 0 → wfld w 3 2 ≠ 3 → 
    s.bit (State.pReg Reg.PLATE_LINK_CTRL p.val) 4 = true → wfld w 4 4 = 0 → Runs (.linkCtrlWrite ag p w) s fun t =>
    t.lState p.val = 0 ∧ t.bit (State.pReg Reg.PLATE_LINK_CTRL p.val) 4 = false ∧ (t.port p.val).query = none) ∧
  -- LINK_RETRAIN
  (∀ (ag : Agent) (p : PortId) (s : State), s.canWrite ag (State.pReg Reg.PLATE_LINK_CMD p.val) → 3 ≤ s.lState p.val → 
    s.lState p.val ≤ 9 → Runs (.linkRetrain ag p) s fun t =>
    t.lState p.val = 3 ∧ t.reg (State.pReg Reg.PLATE_TRAIN_CNT p.val) = s.reg (State.pReg Reg.PLATE_TRAIN_CNT p.val) + 1) ∧
  -- LINK_RETRAIN
  (∀ (ag : Agent) (p : PortId) (s : State), s.canWrite ag (State.pReg Reg.PLATE_LINK_CMD p.val) → s.lState p.val < 3 → exec (.linkRetrain ag p) s = .next s) ∧
  -- LC_RELEASE
  (∀ (ag : Agent) (p : PortId) (s : State), s.canWrite ag (State.pReg Reg.PLATE_LINK_CMD p.val) → Runs (.lcRelease ag p) s fun t =>
    t.bit (State.pReg Reg.PLATE_LINK_STATUS p.val) 7 = false ∧ t.lState p.val = s.lState p.val ∧ t.ports = s.ports) ∧
  -- SQ_STATUS_TICK
  (∀ (p : PortId) (s : State), s.lState p.val = 5 → max (s.port p.val).statAt (s.port p.val).since + 1000000 ≤ s.mono → 
    s.fld (State.pReg Reg.PLATE_LINK_TEST p.val) 1 0 = 0 → s.pstateReq p.val = 0 → Runs (.sqStatusTick p) s fun t =>
    (t.port p.val).statAt = s.mono ∧ (t.port p.val).outSq = [BitVec.ofNat 64 (0x78 + 0x04 * 2 ^ 8 + 2 * 2 ^ 16 + ((s.port p.val).tag + 1) % 256 * 2 ^ 24)] ∧ t.regs = s.regs) ∧
  -- LIGHT_EXIT_TIMEOUT
  (∀ (p : PortId) (at' : Nat) (s : State), s.lState p.val = 7 → (s.port p.val).pexit = some at' → at' + 1000000 ≤ s.mono → Runs (.lightExitTimeout p) s fun t =>
    t.lState p.val = 3 ∧ t.fld (State.pReg Reg.PLATE_LINK_STATUS p.val) 14 13 = 0) ∧
  -- DEEP_WAKE_END
  (∀ (p : PortId) (at' : Nat) (s : State), s.lState p.val = 8 → (s.port p.val).pexit = some at' → at' + 20000 ≤ s.mono → Runs (.deepWakeEnd p) s fun t =>
    t.lState p.val = 3 ∧ t.fld (State.pReg Reg.PLATE_LINK_STATUS p.val) 14 13 = 0) ∧
  -- LINK_TEST_WRITE
  (∀ (ag : Agent) (p : PortId) (w : Word) (s : State), s.canWrite ag (State.pReg Reg.PLATE_LINK_TEST p.val) → 
    wfld w 1 0 ≠ 0 → s.pEn p.val = true → s.faultRoom → Runs (.linkTestWrite ag p w) s fun t =>
    t.reg (State.pReg Reg.PLATE_LINK_TEST p.val) = s.reg (State.pReg Reg.PLATE_LINK_TEST p.val) ∧ t.faultQueued Code.PLATE_CFG_ERR p.val) ∧
  -- LINK_TEST_WRITE
  (∀ (ag : Agent) (p : PortId) (w : Word) (s : State), s.canWrite ag (State.pReg Reg.PLATE_LINK_TEST p.val) → 
    (wfld w 1 0 = 1 ∨ wfld w 1 0 = 2) → s.pEn p.val = false → s.lState p.val = 5 → Runs (.linkTestWrite ag p w) s fun t =>
    t.lState p.val = 9 ∧ t.fld (State.pReg Reg.PLATE_LINK_TEST p.val) 1 0 = wfld w 1 0 ∧ (∀ i, i < 4 → t.reg (State.pReg Reg.PLATE_TEST_ERR p.val + 4 * i) = 0)) ∧
  -- FAR_END_LOOP_END
  (∀ (p : PortId) (errs : List Word) (at' : Nat) (s : State), s.lState p.val = 9 → (s.port p.val).testEnd = some at' → 
    at' ≤ s.mono → Runs (.farEndLoopEnd p errs) s fun t =>
    t.lState p.val = 3 ∧ (t.port p.val).testEnd = none ∧ (∀ i, i < 4 → t.reg (State.pReg Reg.PLATE_TEST_ERR p.val + 4 * i) = if 0 < i ∧ i < 2 ^ (s.port p.val).lanes then BitVec.ofNat 32 (min (2 ^ 32 - 1) ((s.reg (State.pReg Reg.PLATE_TEST_ERR p.val + 4 * i)).toNat + (errs.getD i 0).toNat)) else s.reg (State.pReg Reg.PLATE_TEST_ERR p.val + 4 * i)))

/-- The region commands check what an agent staged, answer a result and change the commanded copy of the region, which the next cut takes. -/
def Obligations.RegionCommandsStageForTheCut : Prop :=
  -- RGN_WRITE
  (∀ (ag : Agent) (p r : Nat) (s : State), s.canWrite ag Reg.OCC_RGN_CMD → s.afld (agIdx ag) Reg.OCC_RGN_SEL 9 8 = p → 
    s.afld (agIdx ag) Reg.OCC_RGN_SEL 7 0 = r → State.rgnCfgBad (s.rgnStaged (agIdx ag)) = false → 
    shapeOk (regionShape (s.occ p).xfCmd (s.rgnStaged (agIdx ag)).kind (s.rgnStaged (agIdx ag)).nv (s.rgnStaged (agIdx ag)).geo) = true → 
    Runs (.rgnWrite ag) s fun t =>
    t.areg (agIdx ag) Reg.OCC_RGN_RES = 0 ∧ (t.rgn p r).feed = (s.afld (agIdx ag) Reg.OCC_RGN_CFG0 0 0 == 1) ∧ (t.rgn p r).kind = s.afld (agIdx ag) Reg.OCC_RGN_CFG0 2 1 ∧ (t.rgn p r).nv = s.afld (agIdx ag) Reg.OCC_RGN_CFG0 8 4 ∧ (t.rgn p r).feather = s.afld (agIdx ag) Reg.OCC_RGN_CFG0 23 16 ∧ (t.rgn p r).ceil = s.afld (agIdx ag) Reg.OCC_RGN_CFG1 15 0 ∧ (t.rgn p r).minceil = s.afld (agIdx ag) Reg.OCC_RGN_CFG1 31 16 ∧ (t.rgn p r).timeout = s.afld (agIdx ag) Reg.OCC_RGN_CFG2 15 0 ∧ (t.rgn p r).geo = ((List.range 32).map fun i => (s.areg (agIdx ag) (Reg.OCC_RGN_V + 4 * i)).toInt) ∧ (t.rgn p r).armed = (s.rgn p r).armed ∧ (t.occ p).changes = (s.occ p).changes ++ [.write r (s.rgnStaged (agIdx ag))] ∧ t.rgnsCut = s.rgnsCut) ∧
  -- RGN_WRITE
  (∀ (ag : Agent) (s : State), s.canWrite ag Reg.OCC_RGN_CMD → 
    (s.afld (agIdx ag) Reg.OCC_RGN_CFG0 2 1 = 3 ∨ s.afld (agIdx ag) Reg.OCC_RGN_CFG1 15 0 < s.afld (agIdx ag) Reg.OCC_RGN_CFG1 31 16 ∨ (s.afld (agIdx ag) Reg.OCC_RGN_CFG0 0 0 = 1 ∧ s.afld (agIdx ag) Reg.OCC_RGN_CFG2 15 0 = 0) ∨ (s.afld (agIdx ag) Reg.OCC_RGN_CFG0 2 1 = 0 ∧ (s.afld (agIdx ag) Reg.OCC_RGN_CFG0 8 4 < 3 ∨ 16 < s.afld (agIdx ag) Reg.OCC_RGN_CFG0 8 4))) → 
    s.faultRoom → Runs (.rgnWrite ag) s fun t =>
    t.areg (agIdx ag) Reg.OCC_RGN_RES = 2 ∧ t.faultQueued Code.OCC_CFG_ERR (s.afld (agIdx ag) Reg.OCC_RGN_SEL 9 8) ∧ t.rgns = s.rgns ∧ t.occs = s.occs) ∧
  -- RGN_ARM
  (∀ (ag : Agent) (p r : Nat) (s : State), s.canWrite ag Reg.OCC_RGN_CMD → s.afld (agIdx ag) Reg.OCC_RGN_SEL 9 8 = p → 
    s.afld (agIdx ag) Reg.OCC_RGN_SEL 7 0 = r → State.rgnCfgBad (s.rgn p r) = false → 
    shapeOk (regionShape (s.occ p).xfCmd (s.rgn p r).kind (s.rgn p r).nv (s.rgn p r).geo) = true → Runs (.rgnArm ag) s fun t =>
    t.areg (agIdx ag) Reg.OCC_RGN_RES = 0 ∧ (t.rgn p r).armed = true ∧ (t.rgn p r).refMono = s.mono ∧ (t.rgn p r).refPtp = s.ptpNow ∧ (t.occ p).changes = (s.occ p).changes ++ [.arm r s.ptpNow s.mono] ∧ t.rgnsCut = s.rgnsCut) ∧
  -- RGN_ARM
  (∀ (ag : Agent) (p r : Nat) (s : State), s.canWrite ag Reg.OCC_RGN_CMD → s.afld (agIdx ag) Reg.OCC_RGN_SEL 9 8 = p → 
    s.afld (agIdx ag) Reg.OCC_RGN_SEL 7 0 = r → State.rgnCfgBad (s.rgn p r) = false → 
    shapeOk (regionShape (s.occ p).xfCmd (s.rgn p r).kind (s.rgn p r).nv (s.rgn p r).geo) = false → s.faultRoom → Runs (.rgnArm ag) s fun t =>
    t.areg (agIdx ag) Reg.OCC_RGN_RES = 3 ∧ t.faultQueued Code.OCC_CFG_ERR p ∧ t.rgns = s.rgns ∧ t.occs = s.occs) ∧
  -- RGN_DISARM
  (∀ (ag : Agent) (p r : Nat) (s : State), s.canWrite ag Reg.OCC_RGN_CMD → s.afld (agIdx ag) Reg.OCC_RGN_SEL 9 8 = p → 
    s.afld (agIdx ag) Reg.OCC_RGN_SEL 7 0 = r → Runs (.rgnDisarm ag) s fun t =>
    t.areg (agIdx ag) Reg.OCC_RGN_RES = 0 ∧ t.rgn p r = { s.rgn p r with armed := false } ∧ (t.occ p).changes = (s.occ p).changes ++ [.disarm r] ∧ t.rgnsCut = s.rgnsCut) ∧
  -- RGN_REFRESH
  (∀ (ag : Agent) (p r : Nat) (s : State), s.canWrite ag Reg.OCC_RGN_CMD → s.afld (agIdx ag) Reg.OCC_RGN_SEL 9 8 = p → 
    s.afld (agIdx ag) Reg.OCC_RGN_SEL 7 0 = r → (s.rgn p r).feed = false → Runs (.rgnRefresh ag) s fun t =>
    t.areg (agIdx ag) Reg.OCC_RGN_RES = 0 ∧ (t.rgn p r).refMono = s.mono ∧ (t.rgn p r).refPtp = s.ptpNow ∧ (t.rgn p r).armed = (s.rgn p r).armed ∧ (t.occ p).changes = (s.occ p).changes ++ [.refresh r s.ptpNow s.mono]) ∧
  -- RGN_REFRESH
  (∀ (ag : Agent) (p r : Nat) (s : State), s.canWrite ag Reg.OCC_RGN_CMD → s.afld (agIdx ag) Reg.OCC_RGN_SEL 9 8 = p → 
    s.afld (agIdx ag) Reg.OCC_RGN_SEL 7 0 = r → (s.rgn p r).feed = true → s.faultRoom → Runs (.rgnRefresh ag) s fun t =>
    t.areg (agIdx ag) Reg.OCC_RGN_RES = 4 ∧ t.faultQueued Code.OCC_CFG_ERR p ∧ t.rgns = s.rgns) ∧
  -- RGN_READ
  (∀ (ag : Agent) (p r : Nat) (s : State), s.canWrite ag Reg.OCC_RGN_CMD → s.afld (agIdx ag) Reg.OCC_RGN_SEL 9 8 = p → 
    s.afld (agIdx ag) Reg.OCC_RGN_SEL 7 0 = r → Runs (.rgnRead ag) s fun t =>
    t.areg (agIdx ag) Reg.OCC_RGN_RES = 0 ∧ t.areg (agIdx ag) Reg.OCC_RGN_CFG0 = BitVec.ofNat 32 (b2n (s.rgn p r).feed + (s.rgn p r).kind * 2 + (s.rgn p r).nv * 2 ^ 4 + (s.rgn p r).feather * 2 ^ 16) ∧ t.areg (agIdx ag) Reg.OCC_RGN_CFG1 = BitVec.ofNat 32 ((s.rgn p r).ceil + (s.rgn p r).minceil * 2 ^ 16) ∧ t.areg (agIdx ag) Reg.OCC_RGN_CFG2 = BitVec.ofNat 32 (s.rgn p r).timeout ∧ t.areg (agIdx ag) Reg.OCC_RGN_SRCID = (s.rgn p r).source ∧ (∀ i, i < 32 → t.areg (agIdx ag) (Reg.OCC_RGN_V + 4 * i) = BitVec.ofInt 32 ((s.rgn p r).geo.getD i 0)) ∧ t.regs = s.regs ∧ t.occs = s.occs) ∧
  -- RGN_BADOP
  (∀ (ag : Agent) (op : Fin 3) (s : State), s.canWrite ag Reg.OCC_RGN_CMD → s.faultRoom → Runs (.rgnBadop ag op) s fun t =>
    t.areg (agIdx ag) Reg.OCC_RGN_RES = 5 ∧ t.faultQueued Code.OCC_CFG_ERR (s.afld (agIdx ag) Reg.OCC_RGN_SEL 9 8) ∧ t.rgns = s.rgns ∧ t.occs = s.occs) ∧
  -- XF_COMMIT
  (∀ (ag : Agent) (p : PortId) (s : State), s.canWrite ag (Reg.OCC_CMD + State.pOfs p.val) → Runs (.xfCommit ag p) s fun t =>
    (t.occ p.val).xfCmd = ((List.range 6).map fun i => (s.reg (Reg.OCC_XFORM_A + 4 * i + State.pOfs p.val)).toInt) ∧ (t.occ p.val).changes = (s.occ p.val).changes ++ [.xform ((List.range 6).map fun i => (s.reg (Reg.OCC_XFORM_A + 4 * i + State.pOfs p.val)).toInt)] ∧ (t.occ p.val).xf = (s.occ p.val).xf ∧ t.regs = s.regs) ∧
  -- RET_INSTANCE_COMMIT
  (
    ∀ (ag : Agent) (p : PortId) (k : Fin 256) (w : Word) (s : State), s.canWrite ag (Reg.OCC_RET_W0 + State.pOfs p.val + 0x20 * k.val) → 
    Runs (.retInstanceCommit ag p k w) s fun t =>
    wfld (t.reg (Reg.OCC_RET_W0 + State.pOfs p.val + 0x20 * k.val)) 12 0 = wfld w 12 0 ∧ wfld (t.reg (Reg.OCC_RET_W0 + State.pOfs p.val + 0x20 * k.val)) 31 16 = wfld w 31 16 ∧ (t.occ p.val).changes = (s.occ p.val).changes ++ [.inst k.val ((List.range 5).map fun i => t.reg (Reg.OCC_RET_W0 + State.pOfs p.val + 0x20 * k.val + 4 * i))] ∧ t.insts = s.insts) ∧
  -- GLYPH_COMMIT
  (∀ (ag : Agent) (second : Bool) (s : State), s.canWrite ag Reg.OCC_GLYPH_CMD → s.glyphBad (b2n second) = none → Runs (.glyphCommit ag second) s fun t =>
    t.fld Reg.OCC_GLYPH_RES 1 0 = 0 ∧ t.fld Reg.OCC_GLYPH_RES 25 16 = 0 ∧ (∀ p, p < 4 → (t.occ p).changes = (s.occ p).changes ++ [.glyph (b2n second)])) ∧
  -- GLYPH_COMMIT
  (∀ (ag : Agent) (second : Bool) (g : Nat) (s : State), s.canWrite ag Reg.OCC_GLYPH_CMD → 
    s.glyphBad (b2n second) = some g → s.faultRoom → Runs (.glyphCommit ag second) s fun t =>
    t.fld Reg.OCC_GLYPH_RES 1 0 = 2 ∧ t.fld Reg.OCC_GLYPH_RES 25 16 = g ∧ t.faultQueued Code.OCC_GLYPH_BAD 0 ∧ t.occs = s.occs)

/-- The cut takes the changes that wait, the feed applies its records, and the guard and minimum mode follow their commands. -/
def Obligations.TheCutTakesWhatWasCommanded : Prop :=
  -- OCC_CUT
  (∀ (p : PortId) (l : List Int) (s : State), s.pEn p.val = true → s.stopped = false → 
    phaseBefore s.phase (s.startOf p.val (s.nextLatch p.val (s.port p.val).lastPh) - BitVec.ofNat 64 (s.cutNs p.val * s.incNom / 2 ^ 32)) = false → 
    (s.occ p.val).cutFor ≠ some (s.startOf p.val (s.nextLatch p.val (s.port p.val).lastPh)) → 
    s.twinFollows p.val = false → (s.occ p.val).changes = [.xform l] → Runs (.occCut p none false) s fun t =>
    (t.occ p.val).xf = l ∧ (t.occ p.val).changes = [] ∧ (t.occ p.val).cutFor = some (s.startOf p.val (s.nextLatch p.val (s.port p.val).lastPh)) ∧ t.fld (Reg.OCC_STATUS + State.pOfs p.val) 24 16 = (t.armedRgns p.val).length) ∧
  -- OCC_CUT
  (∀ (p : PortId) (r : Nat) (ptp : Int) (mono : Nat) (s : State), s.pEn p.val = true → s.stopped = false → 
    phaseBefore s.phase (s.startOf p.val (s.nextLatch p.val (s.port p.val).lastPh) - BitVec.ofNat 64 (s.cutNs p.val * s.incNom / 2 ^ 32)) = false → 
    (s.occ p.val).cutFor ≠ some (s.startOf p.val (s.nextLatch p.val (s.port p.val).lastPh)) → 
    s.twinFollows p.val = false → (s.occ p.val).changes = [.arm r ptp mono] → Runs (.occCut p none false) s fun t =>
    (t.rgnCut p.val r).armed = true ∧ (t.rgnCut p.val r).refMono = mono ∧ (t.rgnCut p.val r).refPtp = ptp ∧ (t.occ p.val).changes = [] ∧ (t.occ p.val).applied = (s.occ p.val).applied + 1 ∧ t.fld (Reg.OCC_STATUS + State.pOfs p.val) 24 16 = (t.armedRgns p.val).length) ∧
  -- OCC_CUT
  (
    ∀ (p : PortId) (m : Option (Fin 256)) (s : State), (s.pEn p.val = false ∨ s.stopped = true ∨ (s.occ p.val).cutFor = some (s.startOf p.val (s.nextLatch p.val (s.port p.val).lastPh))) → 
    exec (.occCut p m false) s = .next s) ∧
  -- OCC_CUT
  (∀ (p : PortId) (s : State), s.pEn p.val = true → s.stopped = false → 
    phaseBefore s.phase (s.startOf p.val (s.nextLatch p.val (s.port p.val).lastPh) - BitVec.ofNat 64 (s.cutNs p.val * s.incNom / 2 ^ 32)) = false → 
    (s.occ p.val).cutFor ≠ some (s.startOf p.val (s.nextLatch p.val (s.port p.val).lastPh)) → Runs (.occCut p none true) s fun t =>
    t.bit (Reg.OCC_STATUS + State.pOfs p.val) 0 = true ∧ t.fld (Reg.OCC_STATUS + State.pOfs p.val) 15 8 = 0 ∧ (t.occ p.val).relReq = false) ∧
  -- FEED_RECORD
  (∀ (m : MacId) (ip : Word) (pl : List Byte) (why : Nat) (s : State), s.bit Reg.OCC_FEED_CTRL 16 = true → 
    s.feedReason (s.bit (Reg.OCC_FEED_PORTS_LO + m.val / 32 * 4) (m.val % 32) && (!s.bit Reg.OCC_FEED_CTRL 18 || s.reg Reg.OCC_FEED_SRCIP == ip)) pl = why → 
    why ≠ 0 → s.onceOk Code.OCC_FEED_REJECT 1000000000 = true → s.faultRoom → Runs (.feedRecord m ip pl) s fun t =>
    t.reg Reg.OCC_FEED_RX_CNT = s.reg Reg.OCC_FEED_RX_CNT + 1 ∧ t.reg Reg.OCC_FEED_REJ_CNT = s.reg Reg.OCC_FEED_REJ_CNT + 1 ∧ t.fld Reg.OCC_FEED_LAST 3 0 = why ∧ t.faultQueued Code.OCC_FEED_REJECT 0 ∧ t.rgns = s.rgns ∧ t.occs = s.occs ∧ t.feedSrcs = s.feedSrcs) ∧
  -- FEED_RECORD
  (
    ∀ (m : MacId) (ip : Word) (pl : List Byte) (it : List Byte) (p r : Byte) (s : State), s.bit Reg.OCC_FEED_CTRL 16 = true → 
    s.feedReason (s.bit (Reg.OCC_FEED_PORTS_LO + m.val / 32 * 4) (m.val % 32) && (!s.bit Reg.OCC_FEED_CTRL 18 || s.reg Reg.OCC_FEED_SRCIP == ip)) pl = 0 → 
    State.feedItems (pl.getD 3 0).toNat ((pl.drop 0x20).take (pl.length - 0x24)) = some [it] → it = [p, r, 3, 0] → 
    p.toNat < 4 → (s.rgn p.toNat r.toNat).armed = true → (s.rgn p.toNat r.toNat).feed = true → 
    (s.rgn p.toNat r.toNat).source = 0 → Runs (.feedRecord m ip pl) s fun t =>
    t.reg Reg.OCC_FEED_RX_CNT = s.reg Reg.OCC_FEED_RX_CNT + 1 ∧ t.reg Reg.OCC_FEED_REJ_CNT = s.reg Reg.OCC_FEED_REJ_CNT ∧ t.reg Reg.OCC_FEED_IREJ_CNT = s.reg Reg.OCC_FEED_IREJ_CNT ∧ ⟨BitVec.ofNat 32 (State.le32 pl 4), BitVec.ofNat 32 (State.le32 pl 8), s.mono⟩ ∈ t.feedSrcs ∧ (t.rgn p.toNat r.toNat).refMono = s.mono ∧ (t.rgn p.toNat r.toNat).refPtp = s.ptpNow - s.feedAge pl ∧ (t.rgn p.toNat r.toNat).geo = (s.rgn p.toNat r.toNat).geo ∧ t.rgnsCut = s.rgnsCut) ∧
  -- FEED_RECORD
  (
    ∀ (m : MacId) (ip : Word) (pl : List Byte) (it : List Byte) (p r : Byte) (s : State), s.bit Reg.OCC_FEED_CTRL 16 = true → 
    s.feedReason (s.bit (Reg.OCC_FEED_PORTS_LO + m.val / 32 * 4) (m.val % 32) && (!s.bit Reg.OCC_FEED_CTRL 18 || s.reg Reg.OCC_FEED_SRCIP == ip)) pl = 0 → 
    State.feedItems (pl.getD 3 0).toNat ((pl.drop 0x20).take (pl.length - 0x24)) = some [it] → it = [p, r, 3, 0] → 
    (s.rgn p.toNat r.toNat).armed = false → Runs (.feedRecord m ip pl) s fun t =>
    t.reg Reg.OCC_FEED_IREJ_CNT = s.reg Reg.OCC_FEED_IREJ_CNT + 1 ∧ t.fld Reg.OCC_FEED_LAST 11 8 = 1 ∧ t.rgns = s.rgns) ∧
  -- FEED_RECORD
  (∀ (m : MacId) (ip : Word) (pl : List Byte) (s : State), s.bit Reg.OCC_FEED_CTRL 16 = false → exec (.feedRecord m ip pl) s = .next s) ∧
  -- FEED_SOURCE_EXPIRE
  (∀ (s : State), Runs .feedSourceExpire s fun t =>
    t.regs = s.regs ∧ t.rgns = s.rgns ∧ (∀ x ∈ t.feedSrcs, s.mono < x.last + 10000000000) ∧ (∀ x ∈ s.feedSrcs, x ∈ t.feedSrcs ∨ x.last + 10000000000 ≤ s.mono)) ∧
  -- GUARD_RELEASE
  (∀ (ag : Agent) (p : PortId) (s : State), s.canWrite ag (Reg.OCC_CMD + State.pOfs p.val) → 
    s.bit (Reg.OCC_STATUS + State.pOfs p.val) 0 = true → s.bit (Reg.OCC_STATUS + State.pOfs p.val) 4 = true → Runs (.guardRelease ag p) s fun t =>
    (t.occ p.val).relReq = true ∧ t.regs = s.regs) ∧
  -- GUARD_RELEASE
  (∀ (ag : Agent) (p : PortId) (s : State), s.canWrite ag (Reg.OCC_CMD + State.pOfs p.val) → 
    (s.bit (Reg.OCC_STATUS + State.pOfs p.val) 0 = false ∨ s.bit (Reg.OCC_STATUS + State.pOfs p.val) 4 = false) → exec (.guardRelease ag p) s = .next s) ∧
  -- MIN_ENTER
  (∀ (ag : Agent) (p : PortId) (s : State), s.canWrite ag (Reg.OCC_CMD + State.pOfs p.val) → 
    s.bit (Reg.OCC_STATUS + State.pOfs p.val) 1 = false → s.faultRoom → Runs (.minEnter ag p) s fun t =>
    t.bit (Reg.OCC_STATUS + State.pOfs p.val) 1 = true ∧ (t.occ p.val).exitPend = false ∧ t.faultQueued Code.OCC_MIN_MODE p.val) ∧
  -- MIN_EXIT
  (∀ (ag : Agent) (p : PortId) (s : State), s.canWrite ag (Reg.OCC_CMD + State.pOfs p.val) → 
    s.bit (Reg.OCC_STATUS + State.pOfs p.val) 2 = false → Runs (.minExit ag p) s fun t =>
    (t.occ p.val).exitPend = true ∧ t.regs = s.regs) ∧
  -- MIN_EXIT
  (∀ (ag : Agent) (p : PortId) (s : State), s.canWrite ag (Reg.OCC_CMD + State.pOfs p.val) → 
    s.bit (Reg.OCC_STATUS + State.pOfs p.val) 2 = true → exec (.minExit ag p) s = .next s)

/-- String channels: a PWM period takes level, DAC code and on-time; actions, fades, conversions and times move level and state as the spec says. -/
def Obligations.StringChannelsFollowTheirCommands : Prop :=
  -- PWM_PERIOD_START
  (∀ (n : StrId) (s : State), s.strEn n.val = true → (s.strCh n.val).periodAt + (s.strCh n.val).period ≤ s.mono → 
    s.cal.cells.get none n.val = none → (s.strCh n.val).fade = none → s.strBound n.val = none → 
    s.strTemp n.val = none → s.strsOff = false → s.under = 3 → (1 ≤ s.strState n.val ∧ s.strState n.val ≤ 3) → 
    0 < (s.strCh n.val).level → s.strLevel n.val = (s.strCh n.val).level → Runs (.pwmPeriodStart n) s fun t =>
    t.reg (State.strReg Reg.STR_LEVEL n.val) = BitVec.ofNat 32 (s.strCh n.val).level ∧ t.reg (State.strReg Reg.STR_ON n.val) = BitVec.ofNat 32 (State.onTime (s.strCh n.val).level (s.fld (State.strReg Reg.STR_KNEE n.val) 15 0) (s.fld (State.strReg Reg.STR_PWM n.val) 19 0) false) ∧ t.reg (State.strReg Reg.STR_DAC n.val) = BitVec.ofNat 32 (State.dacCode (State.analog (s.strCh n.val).level (s.fld (State.strReg Reg.STR_KNEE n.val) 15 0) false) 0x8000 + 0x8000 * 2 ^ 12) ∧ (t.strCh n.val).periodAt = s.mono ∧ (t.strCh n.val).period = s.fld (State.strReg Reg.STR_PWM n.val) 19 0 ∧ t.strState n.val = s.strState n.val) ∧
  -- PWM_PERIOD_START
  (∀ (n : StrId) (s : State), (s.strEn n.val = false ∨ s.mono < (s.strCh n.val).periodAt + (s.strCh n.val).period) → exec (.pwmPeriodStart n) s = .next s) ∧
  -- STR_SET
  (∀ (a : Act) (s : State), (s.issued.find? fun x => actCode x.act == 5) = some a → actTarget a.act < 32 → 
    s.strBound (actTarget a.act) = none → Runs .strSet s fun t =>
    (t.strCh (actTarget a.act)).level = wfld a.a0 15 0 ∧ (t.strCh (actTarget a.act)).fade = none ∧ (t.strCh (actTarget a.act)).periodAt = s.mono ∧ t.issued = s.issued.erase a) ∧
  -- STR_SET
  (∀ (a : Act) (p : Nat) (s : State), (s.issued.find? fun x => actCode x.act == 5) = some a → actTarget a.act < 32 → 
    s.strBound (actTarget a.act) = some p → s.onceFrameOk (Code.STRING_BIND_IGNORED + 65536 * actTarget a.act) = true → 
    s.faultRoom → Runs .strSet s fun t =>
    t.strs = s.strs ∧ t.faultQueued Code.STRING_BIND_IGNORED (actTarget a.act) ∧ t.issued = s.issued.erase a) ∧
  -- FADE_START
  (∀ (a : Act) (s : State), (s.issued.find? fun x => actCode x.act == 6) = some a → wfld a.a0 21 16 < 32 → 
    wfld a.a0 23 22 ≠ 3 → s.strBound (wfld a.a0 21 16) = none → Runs .fadeStart s fun t =>
    (t.strCh (wfld a.a0 21 16)).fade = some (wfld a.a0 9 0) ∧ (t.strCh (wfld a.a0 21 16)).level = (s.strCh (wfld a.a0 21 16)).level ∧ (t.fadeE (wfld a.a0 9 0) = { active := true, ch := wfld a.a0 21 16, curve := wfld a.a0 23 22, first := if wfld a.a0 24 24 = 1 then (s.strCh (wfld a.a0 21 16)).level else wfld a.a1 15 0, last := wfld a.a1 31 16, dur := a.a2.toNat, ph0 := a.fire, value := (s.fadeE (wfld a.a0 9 0)).value }) ∧ t.issued = s.issued.erase a) ∧
  -- FADE_START
  (∀ (a : Act) (s : State), (s.issued.find? fun x => actCode x.act == 6) = some a → wfld a.a0 21 16 < 32 → 
    wfld a.a0 23 22 = 3 → s.faultRoom → Runs .fadeStart s fun t =>
    t.fades = s.fades ∧ t.strs = s.strs ∧ t.faultQueued Code.STRING_CFG_ERR (wfld a.a0 21 16)) ∧
  -- FADE_FRAME_EVAL
  (∀ (s : State), s.stopped = false → s.fadeFrame ≠ some s.frame → Runs .fadeFrameEval s fun t =>
    t.fadeFrame = some s.frame ∧ (∀ e, e < 1024 → (s.fadeE e).active = true → (t.fadeE e).value = fadeOp (s.fadeE e).curve (s.fadeE e).first (s.fadeE e).last (State.fadeT (s.fadeE e) (BitVec.ofNat 64 (s.frame * 2 ^ 32)))) ∧ (∀ e, e < 1024 → (s.fadeE e).active = true → ((t.fadeE e).active = true ↔ State.fadeT (s.fadeE e) (BitVec.ofNat 64 (s.frame * 2 ^ 32)) ≠ 0x8000)) ∧ (∀ e, (s.fadeE e).active = false → t.fadeE e = s.fadeE e)) ∧
  -- FADE_FRAME_EVAL
  (∀ (s : State), (s.stopped = true ∨ s.fadeFrame = some s.frame) → exec .fadeFrameEval s = .next s) ∧
  -- SENSE_CONVERSION
  (∀ (n : StrId) (mv : BitVec 16) (s : State), s.strEn n.val = true → s.strMeasured n.val = true → 
    s.senseClass mv.toNat = 0 → (s.strState n.val = 1 ∨ s.strState n.val = 3) → Runs (.senseConversion n mv) s fun t =>
    t.reg (State.strReg Reg.STR_MEAS_CNT n.val) = s.reg (State.strReg Reg.STR_MEAS_CNT n.val) + 1 ∧ t.reg (State.strReg Reg.STR_SENS n.val) = BitVec.ofNat 32 mv.toNat ∧ t.reg64 (State.strReg Reg.STR_LASTGOOD_LO n.val) = BitVec.ofNat 64 s.mono ∧ t.strState n.val = 2) ∧
  -- SENSE_CONVERSION
  (∀ (n : StrId) (mv : BitVec 16) (s : State), s.strEn n.val = true → s.strMeasured n.val = true → 
    s.senseClass mv.toNat = 1 → (1 ≤ s.strState n.val ∧ s.strState n.val ≤ 3) → (s.strCh n.val).runClass = 1 → 
    s.faultN ≤ (s.strCh n.val).badRun + 1 → s.faultRoom → Runs (.senseConversion n mv) s fun t =>
    t.reg (State.strReg Reg.STR_SENS n.val) = BitVec.ofNat 32 (mv.toNat + 2 ^ 16) ∧ t.strState n.val = 4 ∧ t.reg (State.strReg Reg.STR_FAULT_CNT n.val) = s.reg (State.strReg Reg.STR_FAULT_CNT n.val) + 1 ∧ t.faultQueued Code.STRING_STR_OPEN n.val) ∧
  -- NTC_CONVERSION
  (
    ∀ (i : Fin 8) (r : Fin 65537) (x : Int) (s : State), ntcTemp r.val (s.fld (Reg.NTC_CFG + 0x10 * i.val) 31 16) (s.fld (Reg.NTC_BIAS + 0x10 * i.val) 15 0) (s.fld (Reg.NTC_CFG + 0x10 * i.val) 15 0) = some x → 
    (2 * 65536 ≤ 100 * r.val ∧ 100 * r.val ≤ 98 * 65536) → 3 ≤ (s.ntcs.get {} i.val).good → Runs (.ntcConversion i r) s fun t =>
    t.fld (Reg.NTC_TEMP + 0x10 * i.val) 15 0 = unsigned 16 x ∧ t.bit (Reg.NTC_TEMP + 0x10 * i.val) 16 = true) ∧
  -- NTC_CONVERSION
  (∀ (i : Fin 8) (r : Fin 65537) (s : State), (98 * 65536 < 100 * r.val ∨ 100 * r.val < 2 * 65536) → 
    (s.ntcs.get {} i.val).bad = 3 → s.faultRoom → Runs (.ntcConversion i r) s fun t =>
    t.bit (Reg.NTC_TEMP + 0x10 * i.val) 16 = false ∧ t.faultQueued Code.STRING_NTC_FAULT i.val ∧ (t.ntcs.get {} i.val).good = 0) ∧
  -- STR_THERMAL
  (∀ (n : StrId) (s : State), 8 ≤ (s.strCh n.val).hot → s.strState n.val ≠ 7 → s.faultRoom → Runs (.strThermal n) s fun t =>
    t.strState n.val = 7 ∧ t.reg (State.strReg Reg.STR_ON n.val) = 0 ∧ t.faultQueued Code.STRING_STR_THERM n.val) ∧
  -- STRING_UNVERIFIED
  (∀ (n : StrId) (s : State), s.strState n.val = 2 → 
    (s.reg64 (State.strReg Reg.STR_LASTGOOD_LO n.val)).toNat + s.probeAfter ≤ s.mono → Runs (.stringUnverified n) s fun t =>
    t.strState n.val = 3 ∧ (t.strCh n.val).probeDue = true ∧ (t.strCh n.val).unverAt = s.mono ∧ (t.strCh n.val).level = (s.strCh n.val).level) ∧
  -- STRING_UNVERIFIED
  (∀ (n : StrId) (s : State), (s.strState n.val ≠ 1 ∧ s.strState n.val ≠ 2) → exec (.stringUnverified n) s = .next s) ∧
  -- PROBE_DUE
  (∀ (n : StrId) (s : State), s.strState n.val = 3 → (s.strCh n.val).probeAt + s.probePeriod ≤ s.mono → Runs (.probeDue n) s fun t =>
    (t.strCh n.val).probeDue = true ∧ t.regs = s.regs) ∧
  -- STR_UNVERIFIED
  (∀ (n : StrId) (s : State), s.strState n.val = 3 → (s.strCh n.val).unverAt + s.probePeriod ≤ s.mono → s.faultRoom → Runs (.strUnverified n) s fun t =>
    (t.strCh n.val).unverAt = s.mono ∧ t.faultQueued Code.STRING_STR_UNVERIFIED n.val ∧ t.strState n.val = 3) ∧
  -- STR_CLEAR
  (∀ (ag : Agent) (n : StrId) (s : State), s.canWrite ag (State.strReg Reg.STR_CMD n.val) → 
    (4 ≤ s.strState n.val ∧ s.strState n.val ≤ 6) → (s.strCh n.val).convAt ≠ some s.mono → Runs (.strClear ag n) s fun t =>
    (t.strState n.val = if s.strLevel n.val = 0 then 0 else 1) ∧ t.fld (State.strReg Reg.STR_STATUS n.val) 11 8 = 0 ∧ (t.strCh n.val).level = (s.strCh n.val).level) ∧
  -- STR_CLEAR
  (∀ (ag : Agent) (n : StrId) (s : State), s.canWrite ag (State.strReg Reg.STR_CMD n.val) → 
    (4 ≤ s.strState n.val ∧ s.strState n.val ≤ 6) → (s.strCh n.val).convAt = some s.mono → 
    (s.strCh n.val).convClass = 0 → 0 < s.strLevel n.val → Runs (.strClear ag n) s fun t =>
    t.strState n.val = 2 ∧ (t.strCh n.val).goodRun = 0 ∧ t.reg64 (State.strReg Reg.STR_LASTGOOD_LO n.val) = BitVec.ofNat 64 s.mono) ∧
  -- STR_CLEAR
  (∀ (ag : Agent) (n : StrId) (s : State), s.canWrite ag (State.strReg Reg.STR_CMD n.val) → 
    (s.strState n.val < 4 ∨ s.strState n.val = 7) → exec (.strClear ag n) s = .next s) ∧
  -- STR_CFG_WRITE
  (∀ (ag : Agent) (n : StrId) (w : Word) (s : State), s.canWrite ag (State.strReg Reg.STR_CFG n.val) → 
    (wfld w 3 1 = 0 ∨ wfld w 3 1 = s.fld (State.strReg Reg.STR_CFG n.val) 3 1 ∨ (wfld w 3 1 ≤ 4 ∧ s.bindTaken n.val (wfld w 3 1) = false)) → 
    Runs (.strCfgWrite ag n w) s fun t =>
    t.fld (State.strReg Reg.STR_CFG n.val) 9 0 = wfld w 9 0 ∧ t.strBind = s.strBind) ∧
  -- STR_CFG_WRITE
  (∀ (ag : Agent) (n : StrId) (w : Word) (s : State), s.canWrite ag (State.strReg Reg.STR_CFG n.val) → wfld w 3 1 ≠ 0 → 
    wfld w 3 1 ≠ s.fld (State.strReg Reg.STR_CFG n.val) 3 1 → s.bindTaken n.val (wfld w 3 1) = true → s.faultRoom → Runs (.strCfgWrite ag n w) s fun t =>
    t.reg (State.strReg Reg.STR_CFG n.val) = s.reg (State.strReg Reg.STR_CFG n.val) ∧ t.faultQueued Code.STRING_CFG_ERR n.val ∧ t.strs = s.strs)

/-- Engine temperatures and the fault map of a plate engine are recorded, and a chunk that leaves a gap restarts the pass. -/
def Obligations.EngineDiagnosticsAreRecorded : Prop :=
  -- TR_RECEIVED
  (∀ (p : PortId) (ts : List (BitVec 16)) (s : State), s.linkHears p.val = true → ts.length = 16 → Runs (.trReceived p true ts) s fun t =>
    t.bit (State.dgReg Reg.STRDIAG_TEMP p.val) 16 = true ∧ (∀ i, i < 8 → t.reg (State.pReg Reg.PLATE_ENG_TEMP p.val + 4 * i) = ts.getD (2 * i + 1) 0 ++ ts.getD (2 * i) 0) ∧ (∀ x ∈ ts, x.toInt ≤ sext 16 (t.fld (State.dgReg Reg.STRDIAG_TEMP p.val) 15 0)) ∧ (∃ x ∈ ts, x.toInt = sext 16 (t.fld (State.dgReg Reg.STRDIAG_TEMP p.val) 15 0)) ∧ (t.diag p.val).trAt = some s.mono) ∧
  -- ENG_TEMP_LOST
  (∀ (p : PortId) (x : Nat) (s : State), (s.diag p.val).trAt = some x → x + 100000000 ≤ s.mono → 
    s.bit (State.dgReg Reg.STRDIAG_TEMP p.val) 16 = true → s.faultRoom → Runs (.engTempLost p) s fun t =>
    t.bit (State.dgReg Reg.STRDIAG_TEMP p.val) 16 = false ∧ t.faultQueued Code.STRING_ENG_TEMP_LOST p.val ∧ t.diags = s.diags) ∧
  -- FM_CHUNK
  (∀ (p : PortId) (q : BitVec 16) (o : Word) (data : List Byte) (s : State), s.linkHears p.val = true → 
    (s.fmIdent p.val).1 = 1 → data.length < (s.fmIdent p.val).2 → o = 0 → 
    ((s.diag p.val).seq = none ∨ (s.diag p.val).seq = some ((q - 1).toNat)) → 
    s.bit (State.dgReg Reg.STRDIAG_CMD p.val) 0 = false → s.bit (State.dgReg Reg.STRDIAG_CTRL p.val) 0 = false → Runs (.fmChunk p true q o data) s fun t =>
    (t.diag p.val).seq = some q.toNat ∧ (t.diag p.val).next = some data.length ∧ (t.diag p.val).passAt = s.mono ∧ t.mem = s.mem ∧ t.reg (State.dgReg Reg.STRDIAG_FMERR_CNT p.val) = s.reg (State.dgReg Reg.STRDIAG_FMERR_CNT p.val)) ∧
  -- FM_CHUNK
  (∀ (p : PortId) (q : BitVec 16) (o : Word) (data : List Byte) (b : Byte) (s : State), s.linkHears p.val = true → 
    (s.fmIdent p.val).1 = 1 → 1 < (s.fmIdent p.val).2 → o = 0 → data = [b] → b.toNat % 16 < 6 → b.toNat / 16 < 6 → 
    2 ≤ s.subEmitters p.val → (s.diag p.val).seq = none → s.bit (State.dgReg Reg.STRDIAG_CMD p.val) 0 = false → 
    s.bit (State.dgReg Reg.STRDIAG_CTRL p.val) 0 = true → s.mapFits p.val = true → Runs (.fmChunk p true q o data) s fun t =>
    t.memNat (t.diagAt p.val 0) 2 = State.entReport (s.memNat (s.diagAt p.val 0) 2) (b.toNat % 16) (s.npOf p.val) (s.ppOf p.val) ∧ t.memNat (t.diagAt p.val 1) 2 = State.entReport (s.memNat (s.diagAt p.val 1) 2) (b.toNat / 16) (s.npOf p.val) (s.ppOf p.val)) ∧
  -- FM_CHUNK
  (∀ (p : PortId) (q : BitVec 16) (o : Word) (data : List Byte) (s : State), s.linkHears p.val = true → 
    (s.fmIdent p.val).1 = 1 → o ≠ 0 → (s.diag p.val).next ≠ some o.toNat → s.faultRoom → Runs (.fmChunk p true q o data) s fun t =>
    t.reg (State.dgReg Reg.STRDIAG_FMERR_CNT p.val) = s.reg (State.dgReg Reg.STRDIAG_FMERR_CNT p.val) + 1 ∧ t.faultQueued Code.STRING_FM_ERROR p.val ∧ (t.diag p.val).next = none ∧ t.mem = s.mem) ∧
  -- FM_CHUNK
  (∀ (p : PortId) (q : BitVec 16) (o : Word) (data : List Byte) (s : State), s.linkHears p.val = true → 
    (s.fmIdent p.val).1 = 1 → o ≠ 0 → (s.diag p.val).next = some o.toNat → (s.diag p.val).seq = some q.toNat → 
    (s.fmIdent p.val).2 ≤ o.toNat + data.length → s.bit (State.dgReg Reg.STRDIAG_CMD p.val) 0 = false → 
    s.bit (State.dgReg Reg.STRDIAG_CTRL p.val) 0 = false → Runs (.fmChunk p true q o data) s fun t =>
    t.fld (State.dgReg Reg.STRDIAG_PASS p.val) 15 0 = q.toNat ∧ t.reg (State.dgReg Reg.STRDIAG_PASS_US p.val) = BitVec.ofNat 32 ((s.mono - (s.diag p.val).passAt) / 1000) ∧ (t.diag p.val).next = none) ∧
  -- FM_CHUNK
  (∀ (p : PortId) (q : BitVec 16) (o : Word) (data : List Byte) (s : State), s.linkHears p.val = true → 
    (s.fmIdent p.val).1 ≠ 1 → Runs (.fmChunk p true q o data) s fun t =>
    t.reg (State.dgReg Reg.STRDIAG_FMERR_CNT p.val) = s.reg (State.dgReg Reg.STRDIAG_FMERR_CNT p.val) + 1 ∧ t.mem = s.mem) ∧
  -- STRDIAG_INIT
  (∀ (ag : Agent) (p : PortId) (s : State), s.canWrite ag (State.dgReg Reg.STRDIAG_CMD p.val) → Runs (.strdiagInit ag p) s fun t =>
    t.bit (State.dgReg Reg.STRDIAG_CMD p.val) 0 = true ∧ t.mem = s.mem ∧ t.diags = s.diags) ∧
  -- STRDIAG_INIT_DONE
  (∀ (p : PortId) (s : State), s.bit (State.dgReg Reg.STRDIAG_CMD p.val) 0 = true → s.mapFits p.val = true → Runs (.strdiagInitDone p) s fun t =>
    t.bit (State.dgReg Reg.STRDIAG_CMD p.val) 0 = false ∧ (∀ m, m < s.subEmitters p.val → t.memNat (t.diagAt p.val m) 2 = 0)) ∧
  -- STUCK_CLR
  (∀ (ag : Agent) (p : PortId) (s : State), s.canWrite ag (State.dgReg Reg.STRDIAG_CMD p.val) → 
    (s.stuckOn.get [] p.val).length ≤ 256 → Runs (.stuckClr ag p) s fun t =>
    t.stuckOn.get [] p.val = (s.stuckOn.get [] p.val).filter (s.pixStuck p.val) ∧ t.fld (State.pReg Reg.OCC_STUCK p.val) 8 0 = (t.stuckOn.get [] p.val).length ∧ t.mem = s.mem)

/-- A transit link takes packets in order, acknowledges, resends, greets its peer and changes its state as the spec says. -/
def Obligations.TransitLinksAcknowledgeAndChangeState : Prop :=
  -- LINK_PACKET_RECEIVE
  (∀ (l : LinkId) (q : BitVec 12) (k : Pkt) (s : State), s.linkSt l.val = 3 → (s.link l.val).rxNext = q.toNat → 
    pktListed k.type = true → k.type ≠ 0xC → Runs (.linkPacketReceive l q true k) s fun t =>
    t.transit.inbox = s.transit.inbox ++ [(l.val, k)] ∧ (t.link l.val).rxNext = (q.toNat + 1) % 4096 ∧ (t.link l.val).nak = false ∧ t.reg (Reg.TRANSIT_RX_CNT + 0x1000 * l.val) = s.reg (Reg.TRANSIT_RX_CNT + 0x1000 * l.val) + 1) ∧
  -- LINK_PACKET_RECEIVE
  (∀ (l : LinkId) (q : BitVec 12) (k : Pkt) (s : State), s.linkSt l.val = 3 → Runs (.linkPacketReceive l q false k) s fun t =>
    t.transit = s.transit ∧ (t.link l.val).rxNext = (s.link l.val).rxNext ∧ (t.link l.val).nak = true ∧ t.reg (Reg.TRANSIT_CRC_CNT + 0x1000 * l.val) = s.reg (Reg.TRANSIT_CRC_CNT + 0x1000 * l.val) + 1) ∧
  -- LINK_PACKET_RECEIVE
  (∀ (l : LinkId) (q : BitVec 12) (k : Pkt) (s : State), s.linkSt l.val = 3 → 
    2048 ≤ (q.toNat + 4096 - (s.link l.val).rxNext) % 4096 → Runs (.linkPacketReceive l q true k) s fun t =>
    t.transit = s.transit ∧ (t.link l.val).rxNext = (s.link l.val).rxNext ∧ (t.link l.val).queue = (s.link l.val).queue) ∧
  -- LLC_RECEIVE
  (∀ (l : LinkId) (cr : BitVec 32) (ack : BitVec 12) (x : Replay) (rest : List Replay) (s : State), s.linkSt l.val = 3 → 
    (s.link l.val).queue = [] → (s.link l.val).credits.length = 4 → (s.link l.val).replay = x :: rest → 
    x.lseq = ack.toNat → (∀ y ∈ rest, y.sent = true) → Runs (.llcReceive l cr ack false) s fun t =>
    (t.link l.val).replay = rest ∧ (t.link l.val).tries = 0 ∧ (t.link l.val).ackAt = s.mono ∧ (∀ i, i < 4 → (t.link l.val).credits.getD i 0 = (s.link l.val).credits.getD i 0 + bits cr (8 * i + 7) (8 * i))) ∧
  -- REPLAY_TIMEOUT
  (∀ (l : LinkId) (s : State), s.linkSt l.val = 3 → (s.link l.val).replay ≠ [] → (s.link l.val).ackAt + 8000 ≤ s.mono → 
    (s.link l.val).tries < 8 → Runs (.replayTimeout l) s fun t =>
    (t.link l.val).tries = (s.link l.val).tries + 1 ∧ (t.link l.val).ackAt = s.mono ∧ t.linkSt l.val = 3) ∧
  -- REPLAY_TIMEOUT
  (∀ (l : LinkId) (s : State), s.linkSt l.val = 3 → (s.link l.val).replay ≠ [] → (s.link l.val).ackAt + 8000 ≤ s.mono → 
    8 ≤ (s.link l.val).tries → s.faultQ.length + 1 < 256 → Runs (.replayTimeout l) s fun t =>
    t.linkSt l.val = 1 ∧ t.faultQueued Code.TRANSIT_REPLAY_FAIL l.val ∧ t.faultQueued Code.TRANSIT_LINK_DOWN l.val ∧ (t.link l.val).replay = []) ∧
  -- LINK_BLOCK_LOCK
  (∀ (l : LinkId) (s : State), s.linkSt l.val = 1 → s.refOk l.val = true → Runs (.linkBlockLock l) s fun t =>
    t.linkSt l.val = 2 ∧ t.bit (Reg.TRANSIT_STATUS + 0x1000 * l.val) 2 = true ∧ t.transit = s.transit) ∧
  -- LINK_BLOCK_LOCK
  (∀ (l : LinkId) (s : State), (s.linkSt l.val = 0 ∨ s.refOk l.val = false) → exec (.linkBlockLock l) s = .next s) ∧
  -- TRANSIT_BLOCK_LOCK_LOSS
  (∀ (l : LinkId) (s : State), s.linkSt l.val = 2 → Runs (.transitBlockLockLoss l) s fun t =>
    t.linkSt l.val = 1 ∧ t.bit (Reg.TRANSIT_STATUS + 0x1000 * l.val) 2 = false ∧ t.transit = s.transit) ∧
  -- TRANSIT_BLOCK_LOCK_LOSS
  (∀ (l : LinkId) (s : State), s.linkSt l.val = 3 → (s.link l.val).lockLost = none → Runs (.transitBlockLockLoss l) s fun t =>
    t.linkSt l.val = 3 ∧ t.bit (Reg.TRANSIT_STATUS + 0x1000 * l.val) 2 = false ∧ (t.link l.val).lockLost = some s.mono) ∧
  -- HELLO_TICK
  (∀ (l : LinkId) (s : State), s.linkSt l.val ≠ 0 → (s.link l.val).sentAt = [] → Runs (.helloTick l) s fun t =>
    (t.link l.val).outHello = s.helloBytes l.val ∧ (t.link l.val).hseq = ((s.link l.val).hseq + 1) % 65536 ∧ (t.link l.val).sentAt = [((s.link l.val).hseq, s.mono16)]) ∧
  -- HELLO_TICK
  (∀ (l : LinkId) (s : State), s.linkSt l.val = 0 → exec (.helloTick l) s = .next s) ∧
  -- HELLO_RECEIVE
  (∀ (l : LinkId) (w : Hello) (s : State), 2 ≤ s.linkSt l.val → Runs (.helloReceive l w) s fun t =>
    (t.link l.val).helloAt = s.mono ∧ (t.link l.val).peerUid = w.uid ∧ t.reg64 (Reg.TRANSIT_PEER_UID_LO + 0x1000 * l.val) = w.uid ∧ t.fld (Reg.TRANSIT_STATUS + 0x1000 * l.val) 7 4 = w.link.val ∧ t.fld (Reg.TRANSIT_STATUS + 0x1000 * l.val) 20 8 = w.id.toNat ∧ t.bit (Reg.TRANSIT_STATUS + 0x1000 * l.val) 3 = decide (w.role.val ≠ s.linkRole l.val)) ∧
  -- HELLO_RECEIVE
  (∀ (l : LinkId) (w : Hello) (s : State), s.linkSt l.val = 2 → w.role.val = s.linkRole l.val → w.peerUid = s.ownUid → 
    2 ≤ (s.link l.val).helloRun → s.faultQ.length + 1 < 256 → Runs (.helloReceive l w) s fun t =>
    t.linkSt l.val = 3 ∧ t.faultQueued Code.TRANSIT_LINK_UP l.val) ∧
  -- LINK_DEAD_TIMEOUT
  (∀ (l : LinkId) (s : State), s.linkSt l.val = 3 → 
    max (s.link l.val).helloAt (s.link l.val).since + s.deadNs l.val ≤ s.mono → s.faultRoom → Runs (.linkDeadTimeout l) s fun t =>
    t.linkSt l.val = 1 ∧ t.faultQueued Code.TRANSIT_LINK_DOWN l.val ∧ (t.link l.val).queue = []) ∧
  -- LINK_DEAD_TIMEOUT
  (∀ (l : LinkId) (s : State), s.linkSt l.val ≤ 1 → exec (.linkDeadTimeout l) s = .next s) ∧
  -- TRANSIT_LINK_CFG_WRITE
  (∀ (ag : Agent) (l : LinkId) (w : Word) (s : State), s.canWrite ag (Reg.TRANSIT_CFG + 0x1000 * l.val) → 2 ≤ wfld w 2 1 → 
    s.faultRoom → Runs (.transitLinkCfgWrite ag l w) s fun t =>
    t.reg (Reg.TRANSIT_CFG + 0x1000 * l.val) = s.reg (Reg.TRANSIT_CFG + 0x1000 * l.val) ∧ t.faultQueued Code.TRANSIT_CFG_ERR l.val ∧ t.links = s.links) ∧
  -- TRANSIT_LINK_CFG_WRITE
  (∀ (ag : Agent) (l : LinkId) (w : Word) (s : State), s.canWrite ag (Reg.TRANSIT_CFG + 0x1000 * l.val) → wfld w 2 1 = 0 → 
    s.bit (Reg.TRANSIT_CFG + 0x1000 * l.val) 0 = false → wfld w 0 0 = 1 → Runs (.transitLinkCfgWrite ag l w) s fun t =>
    t.linkSt l.val = 1 ∧ t.bit (Reg.TRANSIT_CFG + 0x1000 * l.val) 0 = true ∧ t.transit = s.transit) ∧
  -- TRANSIT_LINK_CFG_WRITE
  (∀ (ag : Agent) (l : LinkId) (w : Word) (s : State), s.canWrite ag (Reg.TRANSIT_CFG + 0x1000 * l.val) → wfld w 2 1 = 0 → 
    s.bit (Reg.TRANSIT_CFG + 0x1000 * l.val) 0 = true → wfld w 0 0 = 0 → Runs (.transitLinkCfgWrite ag l w) s fun t =>
    t.linkSt l.val = 0 ∧ t.bit (Reg.TRANSIT_CFG + 0x1000 * l.val) 0 = false) ∧
  -- TRANSIT_RETRAIN
  (∀ (ag : Agent) (l : LinkId) (s : State), s.canWrite ag (Reg.TRANSIT_CMD + 0x1000 * l.val) → 1 ≤ s.linkSt l.val → Runs (.transitRetrain ag l) s fun t =>
    t.linkSt l.val = 1 ∧ (t.link l.val).lockLost = none) ∧
  -- TRANSIT_RETRAIN
  (∀ (ag : Agent) (l : LinkId) (s : State), s.canWrite ag (Reg.TRANSIT_CMD + 0x1000 * l.val) → s.linkSt l.val = 0 → exec (.transitRetrain ag l) s = .next s)

/-- The router forwards and delivers packets, and each transaction acts at its target and at its requester as the spec says. -/
def Obligations.TransitRequestsActAtTheTarget : Prop :=
  -- ROUTER_FORWARD
  (∀ (l : Nat) (k : Pkt) (s : State), (s.transit.inbox.find? fun x => x.2.type != 4) = some (l, k) → 
    s.isLocal k.dst.toNat = true → Runs .routerForward s fun t =>
    t.transit.epIn = s.transit.epIn ++ [k] ∧ t.transit.inbox = s.transit.inbox.erase (l, k) ∧ t.mem = s.mem) ∧
  -- ROUTER_FORWARD
  (∀ (l m : Nat) (k : Pkt) (s : State), (s.transit.inbox.find? fun x => x.2.type != 4) = some (l, k) → 
    s.isLocal k.dst.toNat = false → l ≠ 16 → k.hops ≠ 0 → s.bit Reg.ROUTER_CTRL 0 = true → s.nextHop k = some m → 
    s.fabricUp m = true → Runs .routerForward s fun t =>
    { k with hops := k.hops - 1 } ∈ (t.link m).queue ++ (t.link m).replay.map (fun x => x.pkt) ∧ t.transit.epIn = s.transit.epIn ∧ t.transit.inbox = s.transit.inbox.erase (l, k)) ∧
  -- STREAM_REQUEST
  (∀ (l : Nat) (k : Pkt) (s : State), (s.transit.inbox.find? fun x => x.2.type == 4) = some (l, k) → 
    s.bit (Reg.ROUTER_MCAST + 4 * (k.dst.toNat % 4096)) 17 = false → Runs .streamRequest s fun t =>
    t.reg Reg.TRANSIT_NOROUTE_CNT = s.reg Reg.TRANSIT_NOROUTE_CNT + 1 ∧ t.mem = s.mem ∧ t.transit.inbox = s.transit.inbox.erase (l, k)) ∧
  -- STREAM_REQUEST
  (∀ (l : Nat) (k : Pkt) (s : State), (s.transit.inbox.find? fun x => x.2.type == 4) = some (l, k) → 
    s.fld (Reg.ROUTER_MCAST + 4 * (k.dst.toNat % 4096)) 17 16 = 3 → (l = 16 ∨ k.hops ≠ 0) → 
    targetCheck k.addr.toNat k.len.toNat = 0 → k.len.toNat ≤ k.payload.length → Runs .streamRequest s fun t =>
    t.bytes k.addr.toNat k.len.toNat = k.payload.take k.len.toNat ∧ (∀ a, a < k.addr.toNat ∨ k.addr.toNat + k.len.toNat ≤ a → t.byte a = s.byte a)) ∧
  -- WR_REQUEST
  (∀ (k : Pkt) (s : State), (s.transit.epIn.find? fun x => x.type.toNat == 0) = some k → 
    targetCheck k.addr.toNat k.len.toNat = 0 → k.len.toNat ≤ k.payload.length → Runs .wrRequest s fun t =>
    t.bytes k.addr.toNat k.len.toNat = k.payload.take k.len.toNat ∧ (∀ a, a < k.addr.toNat ∨ k.addr.toNat + k.len.toNat ≤ a → t.byte a = s.byte a) ∧ (t.tgt k.src.toNat).wcnt = (s.tgt k.src.toNat).wcnt + 1 ∧ t.transit.epIn = s.transit.epIn.erase k) ∧
  -- WR_REQUEST
  (∀ (k : Pkt) (s : State), (s.transit.epIn.find? fun x => x.type.toNat == 0) = some k → 
    targetCheck k.addr.toNat k.len.toNat ≠ 0 → Runs .wrRequest s fun t =>
    t.mem = s.mem ∧ t.reg Reg.TRANSIT_LATE_TX_CNT = s.reg Reg.TRANSIT_LATE_TX_CNT + 1 ∧ (t.tgt k.src.toNat).wcnt = (s.tgt k.src.toNat).wcnt + 1 ∧ (t.tgt k.src.toNat).lcnt = (s.tgt k.src.toNat).lcnt + 1) ∧
  -- RD_REQUEST
  (∀ (busy : Fin 129) (k : Pkt) (s : State), (s.transit.epIn.find? fun x => x.type.toNat == 1) = some k → 
    s.retryNow busy.val k.addr.toNat = true → Runs (.rdRequest busy) s fun t =>
    t.reg Reg.TRANSIT_RETRY_CNT = s.reg Reg.TRANSIT_RETRY_CNT + 1 ∧ t.mem = s.mem) ∧
  -- RD_REQUEST
  (∀ (busy : Fin 129) (k : Pkt) (s : State), (s.transit.epIn.find? fun x => x.type.toNat == 1) = some k → 
    s.retryNow busy.val k.addr.toNat = false → targetCheck k.addr.toNat k.len.toNat = 0 → 
    s.hasUe k.addr.toNat k.len.toNat = false → s.isLocal k.src.toNat = true → Runs (.rdRequest busy) s fun t =>
    t.transit.inbox = s.transit.inbox ++ [(16, { dst := k.src, src := BitVec.ofNat 13 s.ownId, type := 8, tag := k.tag, seq := k.seq, hops := s.hopLimit, status := 0, len := k.len, payload := s.bytes k.addr.toNat k.len.toNat })] ∧ t.mem = s.mem ∧ t.transit.epIn = s.transit.epIn.erase k) ∧
  -- FADD_REQUEST
  (∀ (busy : Fin 129) (k : Pkt) (s : State), (s.transit.epIn.find? fun x => x.type.toNat == 2) = some k → k.op = 0 → 
    s.retryNow busy.val k.addr.toNat = false → targetCheck k.addr.toNat 4 = 0 → s.hasUe k.addr.toNat 4 = false → 
    s.isLocal k.src.toNat = true → 4 ≤ k.payload.length → Runs (.faddRequest busy) s fun t =>
    t.memNat k.addr.toNat 4 = (s.memNat k.addr.toNat 4 + leNat (k.payload.take 4)) % 2 ^ 32 ∧ t.transit.inbox = s.transit.inbox ++ [(16, { dst := k.src, src := BitVec.ofNat 13 s.ownId, type := 8, tag := k.tag, seq := k.seq, hops := s.hopLimit, status := 0, len := 8, payload := leBytes 8 (s.memNat k.addr.toNat 4) })]) ∧
  -- FLUSH_REQUEST
  (∀ (k : Pkt) (s : State), (s.transit.epIn.find? fun x => x.type == 3) = some k → 
    (s.transit.epIn.takeWhile fun x => x != k) = [] → s.isLocal k.src.toNat = true → Runs .flushRequest s fun t =>
    t.transit.epIn = s.transit.epIn.erase k ∧ t.transit.inbox = s.transit.inbox ++ [(16, { dst := k.src, src := BitVec.ofNat 13 s.ownId, type := 8, tag := k.tag, seq := k.seq, hops := s.hopLimit, status := 0, len := 16, payload := leBytes 4 (s.tgt k.src.toNat).wcnt.toNat ++ leBytes 4 (s.tgt k.src.toNat).lcnt.toNat ++ leBytes 8 0 })] ∧ t.mem = s.mem) ∧
  -- FLUSH_REQUEST
  (∀ (k : Pkt) (s : State), (s.transit.epIn.find? fun x => x.type == 3) = some k → 
    ((s.transit.epIn.takeWhile fun x => x != k).any fun x => x.src == k.src && decide (x.type.toNat ≤ 5)) = true → exec .flushRequest s = .next s) ∧
  -- MSG_REQUEST
  (∀ (k : Pkt) (s : State), (s.transit.epIn.find? fun x => x.type.toNat == 5) = some k → 
    s.bit (Reg.TRANSIT_MSG_MASK_LO + 4 * (k.addr.toNat % 64 / 32)) (k.addr.toNat % 64 % 32) = true → 
    s.ringRoom (k.addr.toNat % 64) (msgEntries (k.payload.take k.len.toNat)).length = true → 
    (s.ring (k.addr.toNat % 64)).dropping = false → Runs .msgRequest s fun t =>
    (t.ring (k.addr.toNat % 64)).count = (s.ring (k.addr.toNat % 64)).count + (msgEntries (k.payload.take k.len.toNat)).length ∧ t.transit.epIn = s.transit.epIn.erase k) ∧
  -- MSG_REQUEST
  (∀ (k : Pkt) (s : State), (s.transit.epIn.find? fun x => x.type.toNat == 5) = some k → 
    s.bit (Reg.TRANSIT_MSG_MASK_LO + 4 * (k.addr.toNat % 64 / 32)) (k.addr.toNat % 64 % 32) = false → Runs .msgRequest s fun t =>
    t.rings = s.rings ∧ t.reg Reg.TRANSIT_LATE_TX_CNT = s.reg Reg.TRANSIT_LATE_TX_CNT + 1) ∧
  -- RSP_RECEIVE
  (∀ (k : Pkt) (s : State), (s.transit.epIn.find? fun x => x.type.toNat == 8) = some k → bits k.tag 9 8 = 2 → 
    (s.tslot (k.tag.toNat % 256)).busy = true → (s.tslot (k.tag.toNat % 256)).seq % 65536 = k.seq.toNat → 
    (s.tslot (k.tag.toNat % 256)).type ≠ 3 → Runs .rspReceive s fun t =>
    t.tslot (k.tag.toNat % 256) = { s.tslot (k.tag.toNat % 256) with answer := some (k.status.toNat, k.payload) } ∧ t.reg Reg.TRANSIT_STALE_CNT = s.reg Reg.TRANSIT_STALE_CNT ∧ t.transit.epIn = s.transit.epIn.erase k) ∧
  -- RSP_RECEIVE
  (∀ (k : Pkt) (s : State), (s.transit.epIn.find? fun x => x.type.toNat == 8) = some k → 
    (bits k.tag 9 8 ≠ 2 ∨ (s.tslot (k.tag.toNat % 256)).busy = false) → Runs .rspReceive s fun t =>
    t.tslots = s.tslots ∧ t.reg Reg.TRANSIT_STALE_CNT = s.reg Reg.TRANSIT_STALE_CNT + 1) ∧
  -- LATE_RECEIVE
  (∀ (k : Pkt) (s : State), (s.transit.epIn.find? fun x => x.type.toNat == 9) = some k → Runs .lateReceive s fun t =>
    t.reg Reg.TRANSIT_LATE_RX_CNT = s.reg Reg.TRANSIT_LATE_RX_CNT + 1 ∧ (t.tgt (leNat (k.payload.take 4) % 8192)).late = true ∧ (t.tgt k.src.toNat).lrcv = (s.tgt k.src.toNat).lrcv + 1 ∧ t.transit.epIn = s.transit.epIn.erase k) ∧
  -- TRANSACTION_TIMEOUT
  (∀ (i : Byte) (s : State), (s.tslot i.toNat).busy = true → (s.tslot i.toNat).answer = none → 
    (s.tslot i.toNat).type ≠ 3 → (s.tslot i.toNat).issued + max 1 (s.reg Reg.TRANSIT_TIMEOUT).toNat * 1000 ≤ s.mono → Runs (.transactionTimeout i) s fun t =>
    t.tslot i.toNat = { s.tslot i.toNat with answer := some (15, []), gap := none } ∧ t.reg Reg.TRANSIT_TMO_CNT = s.reg Reg.TRANSIT_TMO_CNT + 1) ∧
  -- TRANSACTION_TIMEOUT
  (∀ (i : Byte) (s : State), (s.tslot i.toNat).busy = true → (s.tslot i.toNat).answer = none → 
    (s.tslot i.toNat).type = 3 → (s.tslot i.toNat).first + max 1 (s.reg Reg.TRANSIT_TIMEOUT).toNat * 1000 ≤ s.mono → Runs (.transactionTimeout i) s fun t =>
    (t.tslot i.toNat).busy = false ∧ t.reg Reg.TRANSIT_TMO_CNT = s.reg Reg.TRANSIT_TMO_CNT + 1) ∧
  -- TRANSACTION_TIMEOUT
  (∀ (i : Byte) (s : State), (s.tslot i.toNat).busy = false → exec (.transactionTimeout i) s = .next s) ∧
  -- FLUSH_REISSUE
  (∀ (i : Byte) (g : Nat) (s : State), (s.tslot i.toNat).gap = some g → (s.tslot i.toNat).busy = true → 
    (s.tslot i.toNat).type = 3 → g + s.fld Reg.TRANSIT_FLUSH 15 0 ≤ s.mono → Runs (.flushReissue i) s fun t =>
    (t.tslot i.toNat).gap = none ∧ (t.tslot i.toNat).issued = s.mono ∧ (t.tslot i.toNat).busy = true) ∧
  -- FLUSH_REISSUE
  (∀ (i : Byte) (s : State), (s.tslot i.toNat).gap = none → exec (.flushReissue i) s = .next s)

/-- LSA and GRP records, routes, node IDs, the phase master and the rings of the transit unit act as the spec says. -/
def Obligations.FabricRecordsPhaseAndRings : Prop :=
  -- LSA_RECEIVE
  (∀ (l : LinkId) (a : Lsa) (s : State), s.fabricUp l.val = true → 
    (s.transit.lsas.find? fun x => x.1.uid == a.uid) = none → Runs (.lsaReceive l a) s fun t =>
    (a, s.mono) ∈ t.transit.lsas ∧ t.transit.stale = true) ∧
  -- LSA_RECEIVE
  (∀ (l : LinkId) (a : Lsa) (x : Lsa × Nat) (s : State), (s.transit.lsas.find? fun y => y.1.uid == a.uid) = some x → 
    (a.lseq - x.1.lseq).toInt ≤ 0 → exec (.lsaReceive l a) s = .next s) ∧
  -- GRP_RECEIVE
  (∀ (l : LinkId) (g : Grp) (s : State), s.fabricUp l.val = true → 
    (s.transit.grps.find? fun x => x.1.uid == g.uid && x.1.q == g.q) = none → Runs (.grpReceive l g) s fun t =>
    t.transit.grps = s.transit.grps ++ [(g, s.mono)] ∧ t.transit.stale = true) ∧
  -- GRP_RECEIVE
  (∀ (l : LinkId) (g : Grp) (s : State), s.fabricUp l.val = false → exec (.grpReceive l g) s = .next s) ∧
  -- LSA_REFRESH_TICK
  (∀ (s : State), s.fld Reg.TRANSIT_NODE 14 13 ≠ 0 → s.transit.lsaAt + 1000000000 ≤ s.mono → Runs .lsaRefreshTick s fun t =>
    t.transit.lsaSeq = s.transit.lsaSeq + 1 ∧ t.transit.lsaAt = s.mono ∧ (t.transit.outLsa.map fun a => a.lseq) = some (s.transit.lsaSeq + 1) ∧ t.transit.outGrp.length = 4) ∧
  -- LSA_REFRESH_TICK
  (∀ (s : State), (s.fld Reg.TRANSIT_NODE 14 13 = 0 ∨ s.mono < s.transit.lsaAt + 1000000000) → exec .lsaRefreshTick s = .next s) ∧
  -- LSA_EXPIRE
  (∀ (x : Lsa × Nat) (s : State), x ∈ s.transit.lsas → x.2 + 4000000000 ≤ s.mono → Runs .lsaExpire s fun t =>
    t.transit.lsas = s.transit.lsas.filter fun y => decide (s.mono < y.2 + 4000000000) ∧ t.transit.grps = s.transit.grps.filter fun y => decide (s.mono < y.2 + 4000000000) ∧ t.transit.stale = true ∧ t.regs = s.regs) ∧
  -- ROUTE_TABLE_UPDATE
  (∀ (u x : GNode) (s : State), s.transit.stale = true → 
    (routeGraph (s.transit.lsas.map fun y => y.1)).find? (fun y => y.uid == s.ownUid) = some u → 
    (routeGraph (s.transit.lsas.map fun y => y.1)).find? (fun y => y.id == x.id) = some x → x.uid ≠ s.ownUid → Runs .routeTableUpdate s fun t =>
    t.transit.stale = false ∧ t.reg (Reg.ROUTER_ROUTE + 4 * x.id.toNat) = routeWord (nextHops (routeGraph (s.transit.lsas.map fun y => y.1)) (routeLevels (routeGraph (s.transit.lsas.map fun y => y.1))) u x.uid) (decide (x.id = u.id))) ∧
  -- ROUTE_TABLE_UPDATE
  (∀ (s : State), s.transit.stale = false → exec .routeTableUpdate s = .next s) ∧
  -- ID_CLAIM_TIMEOUT
  (∀ (s : State), s.fld Reg.TRANSIT_NODE 14 13 = 1 → s.transit.claimAt + s.fld Reg.TRANSIT_CLAIM 15 0 * 1000000 ≤ s.mono → 
    s.faultRoom → Runs .idClaimTimeout s fun t =>
    t.fld Reg.TRANSIT_NODE 14 13 = 2 ∧ t.ownId = s.ownId ∧ t.faultQueued Code.TRANSIT_ID_ASSIGNED s.ownId) ∧
  -- ID_CLAIM_TIMEOUT
  (∀ (s : State), s.fld Reg.TRANSIT_NODE 14 13 ≠ 1 → exec .idClaimTimeout s = .next s) ∧
  -- PHASE_MASTER_ELECT
  (∀ (b : Lsa) (s : State), s.transit.master = none → s.phaseBest = some b → Runs .phaseMasterElect s fun t =>
    t.transit.master = some b.uid ∧ t.fld Reg.TRANSIT_PHASE_STAT 12 0 = b.id.toNat ∧ t.bit Reg.TRANSIT_PHASE_STAT 16 = (b.uid == s.ownUid)) ∧
  -- PHASE_MASTER_ELECT
  (∀ (s : State), s.transit.master = none → s.phaseBest = none → exec .phaseMasterElect s = .next s) ∧
  -- PHASE_SEND_TICK
  (∀ (s : State), s.bit Reg.TRANSIT_PHASE_STAT 16 = true → 
    s.transit.phaseAt + s.fld Reg.TRANSIT_PHASE 31 16 * 1000 ≤ s.mono → Runs .phaseSendTick s fun t =>
    t.transit.pseq = s.transit.pseq + 1 ∧ t.transit.phaseAt = s.mono ∧ (t.transit.outPhase.map fun x => (x.1.phase, x.1.inc, x.1.corr, x.1.hops, x.2)) = some (s.phase, BitVec.ofInt 64 s.sidInc, 0, 0, s.fabricLinks)) ∧
  -- PHASE_SEND_TICK
  (∀ (s : State), s.bit Reg.TRANSIT_PHASE_STAT 16 = false → exec .phaseSendTick s = .next s) ∧
  -- PHASE_PACKET_RECEIVE
  (∀ (l : LinkId) (k : PhasePkt) (resid : Word) (s : State), s.fabricUp l.val = true → s.routeHops k.master.toNat ≠ 0 → 
    s.fld (Reg.ROUTER_ROUTE + 4 * k.master.toNat) 3 0 = l.val → s.transit.master = some k.muid → 
    s.fld Reg.TRANSIT_PHASE_STAT 12 0 = k.master.toNat → s.transit.lastPseq = none → Runs (.phasePacketReceive l k resid) s fun t =>
    t.transit.lastPseq = some k.pseq ∧ t.transit.phaseRx = some s.mono ∧ (wfld t.phaseStat 17 17 = 1 ∨ s.fld Reg.SID_LOSS 31 0 = 0) ∧ t.fld Reg.TRANSIT_PHASE_STAT 28 24 = k.hops.toNat % 32 ∧ (t.transit.outPhase.map fun x => x.1) = some { k with corr := BitVec.ofNat 48 (k.corr.toNat + (s.reg (Reg.TRANSIT_DELAY + 0x1000 * l.val)).toNat * 256 + resid.toNat), hops := k.hops + 1 }) ∧
  -- PHASE_PACKET_RECEIVE
  (∀ (l : LinkId) (k : PhasePkt) (resid : Word) (s : State), (s.fabricUp l.val = false ∨ s.transit.master ≠ some k.muid) → exec (.phasePacketReceive l k resid) s = .next s) ∧
  -- CTRL_RX
  (∀ (l : LinkId) (op : BitVec 4) (data : List Byte) (s : State), (op ≠ 0 ∧ op ≠ 3) → data.length ≤ 256 → 
    s.ringRoom s.ctrlRxRing (ceilDiv data.length 32 + 1) = true → Runs (.ctrlRx l op data) s fun t =>
    (t.ring s.ctrlRxRing).count = (s.ring s.ctrlRxRing).count + ceilDiv data.length 32 + 1 ∧ t.links = s.links ∧ t.transit = s.transit) ∧
  -- CTRL_RX
  (∀ (l : LinkId) (op : BitVec 4) (data : List Byte) (s : State), (op = 0 ∨ op = 3) → exec (.ctrlRx l op data) s = .next s) ∧
  -- CTRL_TX
  (
    ∀ (e : Entry) (es : List Entry) (l : LinkId) (s : State), (s.ring (s.fld Reg.TRANSIT_RINGS 21 16)).head ++ (s.ring (s.fld Reg.TRANSIT_RINGS 21 16)).spill ++ (s.ring (s.fld Reg.TRANSIT_RINGS 21 16)).tail = e :: es → 
    entryType e = 0x41 → wfld (entryWord e 1) 15 0 = 2 ^ l.val → wfld (entryWord e 1) 28 20 = 0 → 
    wfld (entryWord e 1) 31 31 = 0 → wfld (entryWord e 1) 19 16 ≠ 0 → wfld (entryWord e 1) 19 16 ≠ 3 → 
    s.linkSt l.val = 3 → Runs .ctrlTx s fun t =>
    (t.ring (s.fld Reg.TRANSIT_RINGS 21 16)).head ++ (t.ring (s.fld Reg.TRANSIT_RINGS 21 16)).spill ++ (t.ring (s.fld Reg.TRANSIT_RINGS 21 16)).tail = es ∧ ({ dst := BitVec.ofNat 13 (s.fld (Reg.TRANSIT_STATUS + 0x1000 * l.val) 20 8), src := BitVec.ofNat 13 s.ownId, type := 0xC, op := BitVec.ofNat 4 (wfld (entryWord e 1) 19 16), len := 0, payload := [] } : Pkt) ∈ (t.link l.val).queue ++ (t.link l.val).replay.map (fun x => x.pkt)) ∧
  -- CTRL_TX
  (
    ∀ (e : Entry) (es : List Entry) (s : State), (s.ring (s.fld Reg.TRANSIT_RINGS 21 16)).head ++ (s.ring (s.fld Reg.TRANSIT_RINGS 21 16)).spill ++ (s.ring (s.fld Reg.TRANSIT_RINGS 21 16)).tail = e :: es → 
    entryType e ≠ 0x41 → Runs .ctrlTx s fun t =>
    (t.ring (s.fld Reg.TRANSIT_RINGS 21 16)).head ++ (t.ring (s.fld Reg.TRANSIT_RINGS 21 16)).spill ++ (t.ring (s.fld Reg.TRANSIT_RINGS 21 16)).tail = es ∧ t.links = s.links) ∧
  -- MSG_TX
  (
    ∀ (e f : Entry) (es : List Entry) (s : State), (s.ring (s.fld Reg.TRANSIT_RINGS 5 0)).head ++ (s.ring (s.fld Reg.TRANSIT_RINGS 5 0)).spill ++ (s.ring (s.fld Reg.TRANSIT_RINGS 5 0)).tail = e :: f :: es → 
    entryType e = 0x40 → wfld (entryWord e 1) 25 22 = 1 → s.noRoute (wfld (entryWord e 1) 12 0) = false → 
    s.isLocal (wfld (entryWord e 1) 12 0) = true → Runs .msgTx s fun t =>
    (t.ring (s.fld Reg.TRANSIT_RINGS 5 0)).head ++ (t.ring (s.fld Reg.TRANSIT_RINGS 5 0)).spill ++ (t.ring (s.fld Reg.TRANSIT_RINGS 5 0)).tail = es ∧ t.transit.inbox = s.transit.inbox ++ [(16, { dst := BitVec.ofNat 13 (wfld (entryWord e 1) 12 0), src := BitVec.ofNat 13 s.ownId, type := 5, tag := 0x1FF, addr := BitVec.ofNat 40 (wfld (entryWord e 1) 21 16), len := 32, seq := BitVec.ofNat 16 s.transit.postSeq, hops := s.hopLimit, payload := State.entryBytes f })] ∧ t.transit.postSeq = (s.transit.postSeq + 1) % 65536) ∧
  -- TARGET_STATE_REQUEST
  (
    ∀ (e : Entry) (es : List Entry) (s : State), (s.ring (s.fld Reg.TRANSIT_RINGS 29 24)).head ++ (s.ring (s.fld Reg.TRANSIT_RINGS 29 24)).spill ++ (s.ring (s.fld Reg.TRANSIT_RINGS 29 24)).tail = e :: es → 
    entryType e = 0x42 → wfld (entryWord e 1) 17 16 ≠ 3 → Runs .targetStateRequest s fun t =>
    ((t.tgt (wfld (entryWord e 1) 12 0)).fence = if wfld (entryWord e 1) 16 16 = 1 then true else if wfld (entryWord e 1) 17 17 = 1 then false else (s.tgt (wfld (entryWord e 1) 12 0)).fence) ∧ ((t.tgt (wfld (entryWord e 1) 12 0)).late = if wfld (entryWord e 1) 18 18 = 1 then false else (s.tgt (wfld (entryWord e 1) 12 0)).late)) ∧
  -- TGT_CLR_LATE
  (∀ (ag : Agent) (s : State), s.canWrite ag Reg.TRANSIT_TGT_CMD → Runs (.tgtClrLate ag) s fun t =>
    t.tgt (s.afld (agIdx ag) Reg.TRANSIT_TGT_SEL 12 0) = { s.tgt (s.afld (agIdx ag) Reg.TRANSIT_TGT_SEL 12 0) with late := false } ∧ t.regs = s.regs)

/-- Placement: puts, node settings, inventories, the coordinator, migrations, final copies and node loss change the item table as the spec says. -/
def Obligations.PlacementCommandsMoveItems : Prop :=
  -- ITEM_PUT
  (
    ∀ (e : Entry) (n : Nat) (m : Option Nat) (a : Nat) (sc : Nat × Nat) (s : State), ((s.ring (s.fld Reg.ORRERY_RINGS 5 0)).head ++ (s.ring (s.fld Reg.ORRERY_RINGS 5 0)).spill ++ (s.ring (s.fld Reg.ORRERY_RINGS 5 0)).tail).head? = some e → 
    (entryType e = 0x50 ∧ entrySop e = true ∧ entryEop e = true) → s.isCoord = true → 
    s.putBad (wfld (entryWord e 1) 13 0) (putOf s.ownId e) = false → (putOf s.ownId e).kind ≠ 0 → 
    s.oItem (wfld (entryWord e 1) 13 0) = {} → s.oWaiting = [] → 
    (s.updOrr fun o => { o with items := o.items.put {} (wfld (entryWord e 1) 13 0) { put := putOf s.ownId e, state := 6 } }).oBest (putOf s.ownId e) (wfld (entryWord e 1) 13 0) (fun _ => false) = some (n, m, a, sc) → 
    Runs (.itemPut .own) s fun t =>
    (t.oItem (wfld (entryWord e 1) 13 0)).state = 4 ∧ (t.oItem (wfld (entryWord e 1) 13 0)).put = putOf s.ownId e ∧ (t.oItem (wfld (entryWord e 1) 13 0)).owner = n ∧ (t.oItem (wfld (entryWord e 1) 13 0)).next = n ∧ (t.oItem (wfld (entryWord e 1) 13 0)).addr = a ∧ (t.oItem (wfld (entryWord e 1) 13 0)).cframe = s.frame3) ∧
  -- ITEM_PUT
  (
    ∀ (e : Entry) (s : State), ((s.ring (s.fld Reg.ORRERY_RINGS 5 0)).head ++ (s.ring (s.fld Reg.ORRERY_RINGS 5 0)).spill ++ (s.ring (s.fld Reg.ORRERY_RINGS 5 0)).tail).head? = some e → 
    (entryType e = 0x50 ∧ entrySop e = true ∧ entryEop e = true) → s.isCoord = true → 
    s.putBad (wfld (entryWord e 1) 13 0) (putOf s.ownId e) = true → s.faultQ.length + 1 < 256 → Runs (.itemPut .own) s fun t =>
    t.orr.items = s.orr.items ∧ t.faultQueued Code.ORRERY_CFG_ERR (wfld (entryWord e 1) 13 0)) ∧
  -- ITEM_PUT
  (∀ (q : RingId) (e : Entry) (s : State), s.ringRoom q.val 1 = true → (s.ring q.val).dropping = false → Runs (.itemPut (.answered q e)) s fun t =>
    (t.ring q.val).count = (s.ring q.val).count + 1 ∧ t.orr = { s.orr with out := [] }) ∧
  -- NODE_SET
  (
    ∀ (e : Entry) (s : State), ((s.ring (s.fld Reg.ORRERY_RINGS 5 0)).head ++ (s.ring (s.fld Reg.ORRERY_RINGS 5 0)).spill ++ (s.ring (s.fld Reg.ORRERY_RINGS 5 0)).tail).head? = some e → 
    entryType e = 0x52 → Runs .nodeSet s fun t =>
    t.reg Reg.ORRERY_CTRL = BitVec.ofNat 32 (wfld (entryWord e 1) 18 18 + wfld (entryWord e 1) 16 16 * 2 + wfld (entryWord e 1) 17 17 * 4 + wfld (entryWord e 1) 15 8 * 2 ^ 8 + wfld (entryWord e 1) 7 0 * 2 ^ 16) ∧ t.orr.seq = s.orr.seq + 1 ∧ t.orr.invAt = s.mono) ∧
  -- NODE_SET
  (∀ (s : State), s.ringBusy (s.fld Reg.ORRERY_RINGS 5 0) = false → exec .nodeSet s = .next s.oBegin) ∧
  -- INVENTORY_RECEIVE
  (∀ (l : LinkId) (i : Inv) (s : State), s.fabricUp l.val = true → (s.orr.invs.find? fun x => x.1.uid == i.uid) = none → 
    i.uid ≠ s.ownUid → Runs (.inventoryReceive l i) s fun t =>
    (i, s.mono) ∈ t.orr.invs ∧ t.orr.items = s.orr.items) ∧
  -- INVENTORY_RECEIVE
  (∀ (l : LinkId) (i : Inv) (s : State), (s.fabricUp l.val = false ∨ i.uid = s.ownUid) → exec (.inventoryReceive l i) s = .next s) ∧
  -- COORD_CHANGE
  (∀ (replica : List (Nat × OItem)) (b : Inv) (s : State), s.coordBest = some b → s.coordNow = none → s.faultRoom → Runs (.coordChange replica) s fun t =>
    t.fld Reg.ORRERY_STATUS 12 0 = b.id.toNat ∧ t.bit Reg.ORRERY_STATUS 17 = true ∧ t.bit Reg.ORRERY_STATUS 16 = (b.uid == s.ownUid) ∧ t.faultQueued Code.ORRERY_COORD_CHANGE b.id.toNat) ∧
  -- COORD_CHANGE
  (∀ (replica : List (Nat × OItem)) (s : State), s.coordBest = none → s.bit Reg.ORRERY_STATUS 17 = false → exec (.coordChange replica) s = .next s.oBegin) ∧
  -- REBALANCE_TICK
  (∀ (s : State), s.orr.roundAt + 1000000000 ≤ s.mono → Runs .rebalanceTick s fun t =>
    t.orr.roundAt = s.mono ∧ t.orr.seq = s.orr.seq + 1 ∧ t.orr.invAt = s.mono) ∧
  -- REBALANCE_TICK
  (∀ (s : State), s.mono < s.orr.roundAt + 1000000000 → exec .rebalanceTick s = .next s) ∧
  -- MIGRATE_PREPARE
  (
    ∀ (id n : Nat) (m : Option Nat) (a : Nat) (r : List (Nat × Nat × Option Nat)) (s : State), s.orr.moves = (id, n, m) :: r → 
    s.isCoord = true → frameFrom (((s.oItem id).cframe + s.retireFrames) % 2 ^ 32) s.frame = true → 
    (s.oItem id).state = 2 → s.oAlloc (s.oItem id).put n m = some a → Runs (.migratePrepare none) s fun t =>
    t.oItem id = { s.oItem id with state := 3, next := n, npartner := m, naddr := a, repO := false, repN := false } ∧ t.orr.moves = r ∧ .prepare id (t.oItem id) ∈ t.orr.out) ∧
  -- MIGRATE_PREPARE
  (∀ (s : State), s.orr.moves = [] → exec (.migratePrepare none) s = .next s.oBegin) ∧
  -- PREPARE_DONE
  (∀ (nd : BitVec 13) (id : BitVec 14) (s : State), (s.oItem id.toNat).state = 3 → nd.toNat = (s.oItem id.toNat).next → 
    (s.oItem id.toNat).repO = true → s.isCoord = true → s.orr.commits.contains id.toNat = false → Runs (.prepareDone nd id) s fun t =>
    (t.oItem id.toNat).cframe = s.frame3 ∧ t.orr.commits = s.orr.commits ++ [id.toNat] ∧ t.reg Reg.ORRERY_EPOCH = s.reg Reg.ORRERY_EPOCH + 1) ∧
  -- PREPARE_DONE
  (∀ (nd : BitVec 13) (id : BitVec 14) (s : State), (s.oItem id.toNat).state ≠ 3 → exec (.prepareDone nd id) s = .next s.oBegin) ∧
  -- MIGRATE_COMMIT
  (∀ (id : Nat) (r : List Nat) (s : State), s.orr.commits = id :: r → (s.oItem id).state = 3 → Runs (.migrateCommit none) s fun t =>
    (t.oItem id).state = 4 ∧ (t.oItem id).cframe = (s.oItem id).cframe ∧ (t.oItem id).next = (s.oItem id).next ∧ t.reg Reg.ORRERY_MOVE_CNT = s.reg Reg.ORRERY_MOVE_CNT + 1 ∧ t.orr.commits = r) ∧
  -- MIGRATE_COMMIT
  (∀ (s : State), s.orr.commits = [] → exec (.migrateCommit none) s = .next s.oBegin) ∧
  -- CFRAME_REACHED
  (∀ (id : Nat) (s : State), (s.oItem id).state = 4 → (s.oItem id).later = none → (s.oItem id).del = none → 
    frameFrom (s.oItem id).cframe s.frame = true → Runs .cframeReached s fun t =>
    (t.oItem id).state = 2 ∧ (t.oItem id).owner = (s.oItem id).next ∧ (t.oItem id).partner = (s.oItem id).npartner ∧ (t.oItem id).addr = (s.oItem id).naddr) ∧
  -- FINAL_COPY
  (∀ (id : BitVec 14) (s : State), s.orr.copyWait.contains id.toNat = true → Runs (.finalCopy id true) s fun t =>
    t.orr.copyWait = s.orr.copyWait.filter fun x => x != id.toNat ∧ t.orr.heldFire = s.orr.heldFire.filter fun e => e.tag != State.oTag id.toNat ∧ (∀ e ∈ s.orr.heldFire, e.tag = State.oTag id.toNat → { e with late := true } ∈ t.eph)) ∧
  -- FINAL_COPY
  (∀ (id : BitVec 14) (s : State), s.orr.copyWait.contains id.toNat = false → exec (.finalCopy id true) s = .next s.oBegin) ∧
  -- FINAL_COPY
  (∀ (id : BitVec 14) (s : State), (s.oItem id.toNat).state = 4 → (s.oItem id.toNat).put.carry = true → 
    (s.oItem id.toNat).pages ≠ 0 → (s.oItem id.toNat).owner = s.ownId → (s.oItem id.toNat).next ≠ s.ownId → 
    s.orr.copied.contains id.toNat = false → s.copyReady id.toNat (s.oItem id.toNat) = true → Runs (.finalCopy id false) s fun t =>
    t.orr.copied = id.toNat :: s.orr.copied ∧ .copied (s.oItem id.toNat).next id.toNat ∈ t.orr.out ∧ t.orr.items = s.orr.items) ∧
  -- RETIRE_EXPIRE
  (∀ (s : State), Runs .retireExpire s fun t =>
    t.orr.held = s.orr.held.filter fun x => !frameFrom x.until' s.frame ∧ (∀ x ∈ s.orr.held, frameFrom x.until' s.frame = true → ∀ w ∈ x.win, t.bit (Reg.TRANSIT_RLOCK_BASE_LO + 0x10 * w) 0 = false) ∧ t.orr.items = s.orr.items) ∧
  -- NODE_LOSS
  (∀ (n : BitVec 13) (ph : DWord) (id : Nat) (s : State), s.orr.invs.any (fun x => x.1.id == n) = true → 
    s.oPresent n.toNat = false → s.isCoord = true → (s.oItem id).state = 2 → (s.oItem id).owner = n.toNat → 
    (s.oItem id).partner = none → Runs (.nodeLoss n ph) s fun t =>
    t.reg Reg.ORRERY_LOSS_CNT = s.reg Reg.ORRERY_LOSS_CNT + 1 ∧ (∀ x ∈ t.orr.invs, x.1.id ≠ n) ∧ ((t.oItem id).state = 1 ∨ (t.oItem id).state = 4 ∨ (t.oItem id).state = 5)) ∧
  -- NODE_LOSS
  (∀ (n : BitVec 13) (ph : DWord) (s : State), s.orr.invs.any (fun x => x.1.id == n) = false → exec (.nodeLoss n ph) s = .next s)

/-- A MAC port takes descriptors, selects and sends frames and jobs, sleeps and pauses, and comes up and goes down as the spec says. -/
def Obligations.MacPortsSendAndPause : Prop :=
  -- TX_DESCRIPTOR
  (∀ (e : Entry) (es : List Entry) (s : State), s.mac.turn = false → s.descReady 0 (s.txRing 0) = true → 
    (s.ring (s.txRing 0)).head ++ (s.ring (s.txRing 0)).spill ++ (s.ring (s.txRing 0)).tail = e :: es → 
    s.mac.asm.get [] 0 = [] → (entryType e = 0x60 ∧ entrySop e = true ∧ entryEop e = true) → s.descBad [e] = false → 
    s.macUp (wfld (entryWord e 1) 5 0) = true → 
    s.fixGated (wfld (entryWord e 1) 5 0) (wfld (entryWord e 1) 8 6) = false → Runs .txDescriptor s fun t =>
    (t.mport (wfld (entryWord e 1) 5 0)).queue (wfld (entryWord e 1) 8 6) = (s.mport (wfld (entryWord e 1) 5 0)).queue (wfld (entryWord e 1) 8 6) ++ [State.descItem [e]] ∧ (t.ring (s.txRing 0)).head ++ (t.ring (s.txRing 0)).spill ++ (t.ring (s.txRing 0)).tail = es ∧ t.mac.turn = true) ∧
  -- TX_DESCRIPTOR
  (∀ (e : Entry) (es : List Entry) (s : State), s.mac.turn = false → s.descReady 0 (s.txRing 0) = true → 
    (s.ring (s.txRing 0)).head ++ (s.ring (s.txRing 0)).spill ++ (s.ring (s.txRing 0)).tail = e :: es → 
    entryType e ≠ 0x60 → s.onceOk Code.MAC_DESC_BAD 1000000000 = true → s.faultRoom → Runs .txDescriptor s fun t =>
    t.macs = s.macs ∧ t.faultQueued Code.MAC_DESC_BAD 0 ∧ (t.ring (s.txRing 0)).head ++ (t.ring (s.txRing 0)).spill ++ (t.ring (s.txRing 0)).tail = es) ∧
  -- TX_DESCRIPTOR
  (∀ (s : State), s.descReady 0 (s.txRing 0) = false → s.descReady 1 (s.txRing 1) = false → exec .txDescriptor s = .next s) ∧
  -- FRAME_SELECT
  (∀ (p : MacId) (i : MItem) (l : List MItem) (s : State), s.macUp p.val = true → (s.mport p.val).cur = none → 
    s.txAwake p.val = true → (s.mport p.val).queue 7 = i :: l → i.job = none → i.lmode = 0 → 
    (i.wb = false ∧ i.ts = false) → s.macPaused p.val 7 = false → s.slope p.val 7 = 0 → 
    s.mfld p.val Reg.MAC_LAUNCH 23 16 = 0 → s.fixGated p.val 7 = false → 
    i.parts.any (fun x => s.hasUe x.1 x.2) = false → Runs (.frameSelect p) s fun t =>
    (t.mport p.val).sent = State.withFcs (i.parts.flatMap fun x => s.bytes x.1 x.2) false ∧ (t.mport p.val).cur.map (fun c => (c.q, c.item, c.status, c.ns)) = some (7, some i, 0, s.ptpNs) ∧ (t.mport p.val).queue 7 = l) ∧
  -- FRAME_SELECT
  (∀ (p : MacId) (s : State), (s.macUp p.val = false ∨ (s.mport p.val).cur.isSome = true ∨ s.txAwake p.val = false) → exec (.frameSelect p) s = .next s) ∧
  -- TX_FRAME_DONE
  (∀ (p : MacId) (c : TxCur) (s : State), (s.mport p.val).cur = some c → (s.mport p.val).pfcDue = none → Runs (.txFrameDone p) s fun t =>
    (t.mport p.val).cur = none ∧ (t.mport p.val).idleAt = s.mono ∧ t.reg (macA p.val Reg.MAC_TX_CNT) = s.reg (macA p.val Reg.MAC_TX_CNT) + 1) ∧
  -- TX_FRAME_DONE
  (∀ (p : MacId) (s : State), (s.mport p.val).cur = none → exec (.txFrameDone p) s = .next s) ∧
  -- NET_LAUNCH
  (∀ (a : Act) (s : State), (s.issued.find? fun x => actCode x.act == 3) = some a → wfld a.a1 8 8 = 1 → 
    wfld a.a1 12 12 = 1 → Runs .netLaunch s fun t =>
    ((t.mport (actTarget a.act)).queue (wfld a.a1 11 9) = ((s.mport (actTarget a.act)).queue (wfld a.a1 11 9)).map fun i => if i.job.isNone && i.lmode == 3 && i.released.isNone then { i with released := some a.fire } else i) ∧ t.issued = s.issued.erase a) ∧
  -- NET_LAUNCH
  (∀ (a : Act) (j : Job) (s : State), (s.issued.find? fun x => actCode x.act == 3) = some a → wfld a.a1 8 8 = 0 → 
    wfld a.a1 12 12 = 0 → s.macUp (actTarget a.act) = true → 0 < s.sidInc → 
    { s.jobOf (a.a0.toNat + wfld a.a1 7 0 * 2 ^ 32) (a.fire + BitVec.ofNat 64 (a.a2.toNat + wfld a.a3 15 0 * 2 ^ 32)) (s.latchNs (a.fire + BitVec.ofNat 64 (a.a2.toNat + wfld a.a3 15 0 * 2 ^ 32))).1 with dark := (s.jobMode (actTarget a.act)).1, mute := (s.jobMode (actTarget a.act)).2 } = j → 
    s.jobBad (actTarget a.act) (a.a0.toNat + wfld a.a1 7 0 * 2 ^ 32) j = false → 
    (s.mport (actTarget a.act)).jobs < 16 → Runs .netLaunch s fun t =>
    (t.mport (actTarget a.act)).queue (wfld (s.memWord (a.a0.toNat + wfld a.a1 7 0 * 2 ^ 32)) 27 25) = (s.mport (actTarget a.act)).queue (wfld (s.memWord (a.a0.toNat + wfld a.a1 7 0 * 2 ^ 32)) 27 25) ++ [{ job := some j }] ∧ t.reg (macA (actTarget a.act) Reg.MAC_JOB_CNT) = s.reg (macA (actTarget a.act) Reg.MAC_JOB_CNT) + 1) ∧
  -- NET_LAUNCH
  (∀ (a : Act) (s : State), (s.issued.find? fun x => actCode x.act == 3) = some a → wfld a.a1 8 8 = 0 → 
    wfld a.a1 12 12 = 0 → s.macUp (actTarget a.act) = true → a.a0.toNat % 64 ≠ 0 → s.faultQ.length + 1 < 256 → Runs .netLaunch s fun t =>
    t.macs = s.macs ∧ t.reg Reg.MAC_JOBBAD_CNT = s.reg Reg.MAC_JOBBAD_CNT + 1 ∧ t.faultQueued Code.MAC_JOB_BAD (actTarget a.act)) ∧
  -- LPI_ENTER
  (∀ (p : MacId) (s : State), p.val < 32 → s.macUp p.val = true → s.mbit p.val Reg.MAC_EEE 0 = true → 
    (s.mport p.val).lpi = 0 → (s.mport p.val).cur = none → 
    (s.mport p.val).idleAt + s.mfld p.val Reg.MAC_EEE 15 8 * 1000 ≤ s.mono → (s.mport p.val).queues = {} → Runs (.lpiEnter p) s fun t =>
    (t.mport p.val).lpi = 1 ∧ t.mbit p.val Reg.MAC_STATUS 3 = true ∧ t.reg (macA p.val Reg.MAC_LPI_CNT) = s.reg (macA p.val Reg.MAC_LPI_CNT) + 1) ∧
  -- LPI_ENTER
  (∀ (p : MacId) (s : State), (32 ≤ p.val ∨ s.macUp p.val = false ∨ s.mbit p.val Reg.MAC_EEE 0 = false) → exec (.lpiEnter p) s = .next s) ∧
  -- LPI_WAKE
  (∀ (p : MacId) (q : Fin 8) (i : MItem) (s : State), (s.mport p.val).lpi = 1 → i ∈ (s.mport p.val).queue q.val → 
    i.job = none → i.lmode = 0 → Runs (.lpiWake p) s fun t =>
    (t.mport p.val).lpi = 2 ∧ (t.mport p.val).lpiAt = s.mono ∧ t.regs = s.regs) ∧
  -- LPI_WAKE
  (∀ (p : MacId) (s : State), (s.mport p.val).lpi ≠ 1 → exec (.lpiWake p) s = .next s) ∧
  -- PFC_RECEIVE
  (∀ (p : MacId) (en : Byte) (quanta : BitVec 128) (i : Fin 8) (s : State), s.macUp p.val = true → p.val ≠ 36 → 
    s.mbit p.val Reg.MAC_PFC 8 = true → en = BitVec.ofNat 8 (2 ^ i.val) → 
    bits quanta (16 * i.val + 15) (16 * i.val) ≠ 0 → 
    (s.mport p.val).pause.get none (s.mfld p.val Reg.MAC_PRIOMAP (3 * i.val + 2) (3 * i.val)) = none → Runs (.pfcReceive p en quanta) s fun t =>
    (t.mport p.val).pause.get none (s.mfld p.val Reg.MAC_PRIOMAP (3 * i.val + 2) (3 * i.val)) = some (s.mono + bits quanta (16 * i.val + 15) (16 * i.val) * 512000 / s.macRate p.val, s.mono, false) ∧ t.reg (macA p.val Reg.MAC_PFC_RX_CNT) = s.reg (macA p.val Reg.MAC_PFC_RX_CNT) + 1) ∧
  -- PFC_RECEIVE
  (∀ (p : MacId) (en : Byte) (quanta : BitVec 128) (s : State), s.macUp p.val = false → exec (.pfcReceive p en quanta) s = .next s) ∧
  -- PAUSE_RECEIVE
  (∀ (p : MacId) (quanta : BitVec 16) (s : State), s.macUp p.val = true → p.val ≠ 36 → 
    s.mbit p.val Reg.MAC_CTRL 8 = true → Runs (.pauseReceive p quanta) s fun t =>
    t.reg (macA p.val Reg.MAC_PFC_RX_CNT) = s.reg (macA p.val Reg.MAC_PFC_RX_CNT) + 1 ∧ (∀ q, q < 8 → ((t.mport p.val).pause.get none q).map (fun x => x.1) = if quanta = 0 then none else some (s.mono + quanta.toNat * 512000 / s.macRate p.val))) ∧
  -- PAUSE_TIMER_EXPIRE
  (∀ (p : MacId) (q : Fin 8) (x : Nat × Nat × Bool) (s : State), (s.mport p.val).pause.get none q.val = some x → 
    x.1 ≤ s.mono → Runs (.pauseTimerExpire p q) s fun t =>
    (t.mport p.val).pause.get none q.val = none ∧ (t.mport p.val).queues = (s.mport p.val).queues) ∧
  -- PAUSE_TIMER_EXPIRE
  (∀ (p : MacId) (q : Fin 8) (s : State), (s.mport p.val).pause.get none q.val = none → exec (.pauseTimerExpire p q) s = .next s) ∧
  -- PAUSE_LONG
  (∀ (p : MacId) (q : Fin 8) (x f : Nat) (s : State), (s.mport p.val).pause.get none q.val = some (x, f, false) → 
    p.val < 36 → s.mono < x → f + s.mfld p.val Reg.MAC_PFC 31 16 * 1000000 < s.mono → s.faultRoom → Runs (.pauseLong p q) s fun t =>
    (t.mport p.val).pause.get none q.val = some (x, f, true) ∧ t.faultQueued Code.MAC_PAUSE_LONG p.val) ∧
  -- PFC_XOFF
  (∀ (p : MacId) (s : State), p.val ≠ 36 → s.macUp p.val = true → s.mfld p.val Reg.MAC_PFC 7 0 ≠ 0 → 
    (s.mport p.val).xoff = none → s.mfld p.val Reg.MAC_PFC_THR 15 0 * 64 ≤ s.fifoBytes p.val → 
    (s.mport p.val).cur = none → Runs (.pfcXoff p) s fun t =>
    (t.mport p.val).xoff = some s.mono ∧ (t.mport p.val).sent = s.pfcFrame p.val 0xFFFF ∧ t.reg (macA p.val Reg.MAC_PFC_TX_CNT) = s.reg (macA p.val Reg.MAC_PFC_TX_CNT) + 1) ∧
  -- PFC_REFRESH
  (∀ (p : MacId) (x : Nat) (s : State), (s.mport p.val).xoff = some x → x + 0xFFFF * 256000 / s.macRate p.val ≤ s.mono → 
    (s.mport p.val).cur = none → Runs (.pfcRefresh p) s fun t =>
    (t.mport p.val).xoff = some s.mono ∧ (t.mport p.val).sent = s.pfcFrame p.val 0xFFFF ∧ t.reg (macA p.val Reg.MAC_PFC_TX_CNT) = s.reg (macA p.val Reg.MAC_PFC_TX_CNT) + 1) ∧
  -- PFC_REFRESH
  (∀ (p : MacId) (s : State), (s.mport p.val).xoff = none → exec (.pfcRefresh p) s = .next s) ∧
  -- PFC_XON
  (∀ (p : MacId) (s : State), (s.mport p.val).xoff.isSome = true → 
    s.fifoBytes p.val ≤ s.mfld p.val Reg.MAC_PFC_THR 31 16 * 64 → (s.mport p.val).cur.isSome = true → Runs (.pfcXon p) s fun t =>
    (t.mport p.val).xoff = none ∧ (t.mport p.val).pfcDue = some 0 ∧ (t.mport p.val).sent = (s.mport p.val).sent) ∧
  -- MAC_LINK_UP
  (∀ (p : MacId) (an : Option (BitVec 16)) (s : State), s.mbit p.val Reg.MAC_CTRL 0 = true → 
    s.mbit p.val Reg.MAC_STATUS 0 = false → (p.val = 36 ∨ s.refOk (p.val + 16) = true) → s.faultRoom → Runs (.macLinkUp p an) s fun t =>
    t.mbit p.val Reg.MAC_STATUS 0 = true ∧ (t.mport p.val).idleAt = s.mono ∧ t.faultQueued Code.MAC_LINK_UP p.val) ∧
  -- MAC_LINK_UP
  (
    ∀ (p : MacId) (an : Option (BitVec 16)) (s : State), (s.mbit p.val Reg.MAC_CTRL 0 = false ∨ s.mbit p.val Reg.MAC_STATUS 0 = true ∨ (p.val < 36 ∧ s.refOk (p.val + 16) = false)) → 
    exec (.macLinkUp p an) s = .next s) ∧
  -- MAC_LINK_LOSS
  (∀ (p : MacId) (s : State), s.mbit p.val Reg.MAC_STATUS 0 = true → s.mbit p.val Reg.MAC_CTRL 0 = true → 
    s.faultQ.length + 1 < 256 → Runs (.macLinkLoss p) s fun t =>
    t.fld (macA p.val Reg.MAC_STATUS) 4 0 = 0 ∧ (∀ q, q < 8 → (t.mport p.val).queue q = []) ∧ (t.mport p.val).cur = none ∧ t.faultQueued Code.MAC_LINK_DOWN p.val) ∧
  -- MAC_LINK_LOSS
  (∀ (p : MacId) (s : State), s.mbit p.val Reg.MAC_STATUS 0 = false → exec (.macLinkLoss p) s = .next s) ∧
  -- MAC_CTRL_WRITE
  (∀ (ag : Agent) (p : MacId) (w : Word) (s : State), s.canWrite ag (macA p.val Reg.MAC_CTRL) → 
    s.mbit p.val Reg.MAC_CTRL 0 = true → wfld w 2 1 ≠ s.mfld p.val Reg.MAC_CTRL 2 1 → s.faultRoom → Runs (.macCtrlWrite ag p w) s fun t =>
    t.reg (macA p.val Reg.MAC_CTRL) = s.reg (macA p.val Reg.MAC_CTRL) ∧ t.macs = s.macs ∧ t.faultQueued Code.MAC_CFG_ERR p.val) ∧
  -- MAC_CTRL_WRITE
  (∀ (ag : Agent) (p : MacId) (w : Word) (s : State), s.canWrite ag (macA p.val Reg.MAC_CTRL) → 
    s.macCtrlBad p.val w = false → Runs (.macCtrlWrite ag p w) s fun t =>
    t.mbit p.val Reg.MAC_CTRL 0 = (wfld w 0 0 == 1))

/-- A MAC port checks, steers and stores what it receives, and sACN receive and ST 2110 ingest write their destinations as the spec says. -/
def Obligations.MacPortsReceive : Prop :=
  -- RX_FRAME
  (∀ (p : MacId) (l : List Byte) (ago : Nat) (s : State), s.macUp p.val = true → l.length < 64 → Runs (.rxFrame p l ago) s fun t =>
    t.reg (macA p.val Reg.MAC_RX_DROP_CNT) = s.reg (macA p.val Reg.MAC_RX_DROP_CNT) + 1 ∧ t.macs = s.macs ∧ t.mac = s.mac) ∧
  -- RX_FRAME
  (∀ (p : MacId) (l : List Byte) (ago : Nat) (s : State), s.macUp p.val = true → (64 ≤ l.length ∧ l.length < 16383) → 
    leNat (l.drop (l.length - 4)) ≠ (crc32 (l.take (l.length - 4))).toNat → Runs (.rxFrame p l ago) s fun t =>
    t.reg (macA p.val Reg.MAC_RX_FCS_CNT) = s.reg (macA p.val Reg.MAC_RX_FCS_CNT) + 1 ∧ t.macs = s.macs ∧ t.mac = s.mac) ∧
  -- RX_FRAME
  (∀ (p : MacId) (l : List Byte) (ago : Nat) (s : State), s.macUp p.val = true → 
    (64 ≤ l.length ∧ l.length < 16383 ∧ l.length ≤ s.maxFrame p.val) → 
    leNat (l.drop (l.length - 4)) = (crc32 (l.take (l.length - 4))).toNat → s.macFilter p.val l = true → 
    beAt l 12 2 ≠ 0x8808 → s.macDest p.val l = 101 → s.fifoBytes p.val + l.length ≤ 65536 → Runs (.rxFrame p l ago) s fun t =>
    (t.mport p.val).fifo = (s.mport p.val).fifo ++ [⟨l, l.length, false, false, s.ptp16 - ago * 65536⟩] ∧ t.reg (macA p.val Reg.MAC_RX_CNT) = s.reg (macA p.val Reg.MAC_RX_CNT) + 1) ∧
  -- RX_FRAME
  (∀ (p : MacId) (l : List Byte) (ago : Nat) (s : State), s.macUp p.val = false → exec (.rxFrame p l ago) s = .next s) ∧
  -- RX_FRAME_STORE
  (
    ∀ (p : MacId) (f : RxFrame) (r : List RxFrame) (a n : Nat) (ck : Word) (bs : List (Nat × Nat × Word)) (s : State), (s.mport p.val).fifo = f :: r → 
    s.mac.free = (a, n, ck) :: bs → f.ptp = false → 
    s.ringRoom (s.fld Reg.MAC_RINGS2 (8 * s.mfld p.val Reg.MAC_CTRL 10 9 + 5) (8 * s.mfld p.val Reg.MAC_CTRL 10 9)) 1 = true → 
    (s.ring (s.fld Reg.MAC_RINGS2 (8 * s.mfld p.val Reg.MAC_CTRL 10 9 + 5) (8 * s.mfld p.val Reg.MAC_CTRL 10 9))).dropping = false → 
    Runs (.rxFrameStore p) s fun t =>
    (t.mport p.val).fifo = r ∧ t.mac.free = bs ∧ t.bytes a (f.data.take n).length = f.data.take n ∧ (t.ring (s.fld Reg.MAC_RINGS2 (8 * s.mfld p.val Reg.MAC_CTRL 10 9 + 5) (8 * s.mfld p.val Reg.MAC_CTRL 10 9))).count = (s.ring (s.fld Reg.MAC_RINGS2 (8 * s.mfld p.val Reg.MAC_CTRL 10 9 + 5) (8 * s.mfld p.val Reg.MAC_CTRL 10 9))).count + 1) ∧
  -- RX_FRAME_STORE
  (∀ (p : MacId) (s : State), ((s.mport p.val).fifo = [] ∨ s.mac.free = []) → exec (.rxFrameStore p) s = .next s) ∧
  -- RX_FREE_BUFFER
  (
    ∀ (e : Entry) (es : List Entry) (s : State), (s.ring (s.fld Reg.MAC_RINGS 29 24)).head ++ (s.ring (s.fld Reg.MAC_RINGS 29 24)).spill ++ (s.ring (s.fld Reg.MAC_RINGS 29 24)).tail = e :: es → 
    entryType e = 0x62 → 
    (64 ≤ wfld (entryWord e 1) 15 0 ∧ wfld (entryWord e 1) 15 0 ≤ 16384 ∧ wfld (entryWord e 1) 15 0 % 64 = 0) → 
    bits e 103 64 % 64 = 0 → macSpan (bits e 103 64) (wfld (entryWord e 1) 15 0) = true → Runs .rxFreeBuffer s fun t =>
    t.mac.free = s.mac.free ++ [(bits e 103 64, wfld (entryWord e 1) 15 0, entryWord e 7)] ∧ (t.ring (s.fld Reg.MAC_RINGS 29 24)).head ++ (t.ring (s.fld Reg.MAC_RINGS 29 24)).spill ++ (t.ring (s.fld Reg.MAC_RINGS 29 24)).tail = es) ∧
  -- RX_FREE_BUFFER
  (∀ (s : State), s.ringBusy (s.fld Reg.MAC_RINGS 29 24) = false → exec .rxFreeBuffer s = .next s) ∧
  -- SACN_DATA_RECEIVE
  (
    ∀ (x : MacIn) (n d : Nat) (s : State), (s.mac.inbox.find? fun y => y.st.isNone && acnVector y.data == some 4) = some x → 
    State.sacnGood x.data = true → s.sacnEntry (beAt x.data 113 2) = n → s.memNat (s.sacnRow n + 8) 5 = d → 
    wfld (s.memWord (s.sacnRow n)) 1 0 = 1 → beAt x.data 109 2 = 0 → Runs .sacnDataReceive s fun t =>
    t.bytes d (beAt x.data 123 2 - 1) = (x.data.drop 126).take (beAt x.data 123 2 - 1) ∧ t.memNat (d + 0x200) 2 = beAt x.data 123 2 - 1 ∧ t.mac.sacnAt.get none n = some s.mono ∧ t.reg Reg.MAC_SACN_RX_CNT = s.reg Reg.MAC_SACN_RX_CNT + 1 ∧ t.mac.inbox = s.mac.inbox.erase x) ∧
  -- SACN_DATA_RECEIVE
  (∀ (x : MacIn) (s : State), (s.mac.inbox.find? fun y => y.st.isNone && acnVector y.data == some 4) = some x → 
    State.sacnGood x.data = false → Runs .sacnDataReceive s fun t =>
    t.mem = s.mem ∧ t.reg Reg.MAC_SACN_BAD_CNT = s.reg Reg.MAC_SACN_BAD_CNT + 1 ∧ t.mac.inbox = s.mac.inbox.erase x) ∧
  -- SACN_SYNC_RECEIVE
  (
    ∀ (x : MacIn) (i : Fin 1024) (d : Nat) (s : State), (s.mac.inbox.find? fun y => y.st.isNone && acnVector y.data == some 8) = some x → 
    beAt x.data 40 4 = 1 → wfld (s.memWord (s.sacnRow (i.val + 1))) 0 0 = 1 → 
    wfld (s.memWord (s.sacnRow (i.val + 1))) 3 3 = 1 → s.memNat (s.sacnRow (i.val + 1) + 6) 2 = beAt x.data 45 2 → 
    s.memNat (s.sacnRow (i.val + 1) + 8) 5 = d → 
    (s.regAddr Reg.MAC_SACN_RXTBL_LO + 32768 ≤ d ∨ d + 0x610 ≤ s.regAddr Reg.MAC_SACN_RXTBL_LO) → 
    (∀ j : Fin 1024, j ≠ i → wfld (s.memWord (s.sacnRow (j.val + 1))) 0 0 = 0) → Runs .sacnSyncReceive s fun t =>
    t.bytes d (min 512 (s.memNat (d + 0x600) 2)) = s.bytes (d + 0x400) (min 512 (s.memNat (d + 0x600) 2)) ∧ wfld (t.memWord (s.sacnRow (i.val + 1))) 3 3 = 0 ∧ t.mac.inbox = s.mac.inbox.erase x) ∧
  -- SACN_SYNC_RECEIVE
  (∀ (x : MacIn) (s : State), (s.mac.inbox.find? fun y => y.st.isNone && acnVector y.data == some 8) = some x → 
    beAt x.data 40 4 ≠ 1 → Runs .sacnSyncReceive s fun t =>
    t.mem = s.mem ∧ t.reg Reg.MAC_SACN_BAD_CNT = s.reg Reg.MAC_SACN_BAD_CNT + 1) ∧
  -- SACN_SOURCE_TIMEOUT
  (∀ (n : Fin 1024) (x : Nat) (s : State), s.mac.sacnAt.get none (n.val + 1) = some x → x + 2500000000 ≤ s.mono → 
    s.faultQ.length + 1 < 256 → Runs (.sacnSourceTimeout n) s fun t =>
    t.mac.sacnAt.get none (n.val + 1) = none ∧ wfld (t.memWord (s.sacnRow (n.val + 1))) 2 1 = 2 ∧ t.faultQueued Code.MAC_SACN_LOSS 0) ∧
  -- SACN_SOURCE_TIMEOUT
  (∀ (n : Fin 1024) (s : State), s.mac.sacnAt.get none (n.val + 1) = none → exec (.sacnSourceTimeout n) s = .next s) ∧
  -- ST2110_PACKET
  (∀ (x : MacIn) (k : Nat) (s : State), (s.mac.inbox.find? fun y => y.st.isSome) = some x → x.st = some k → 
    s.bit (State.stA Reg.ST_CFG k) 1 = false → Runs .st2110Packet s fun t =>
    t.reg (State.stA Reg.ST_RTP k) = BitVec.ofNat 32 (beAt x.data 4 4) ∧ t.mem = s.mem ∧ t.mac.streams = s.mac.streams ∧ t.mac.inbox = s.mac.inbox.erase x) ∧
  -- ST2110_PACKET
  (∀ (x : MacIn) (k len y z : Nat) (body : List Byte) (s : State), (s.mac.inbox.find? fun y => y.st.isSome) = some x → 
    x.st = some k → s.bit (State.stA Reg.ST_CFG k) 1 = true → beAt x.data 0 1 % 16 = 0 → beAt x.data 1 1 < 128 → 
    stRows 4 (x.data.drop 14) = ([(len, false, y, z)], body) → 
    (s.stSt k).ts = some (BitVec.ofNat 32 (beAt x.data 4 4)) → (s.stSt k).dropped = false → 
    (s.stSt k).seq = some (BitVec.ofNat 32 (beAt x.data 12 2 * 65536 + beAt x.data 2 2) - 1) → 
    y < s.fld (State.stA Reg.ST_SIZE k) 27 16 → Runs .st2110Packet s fun t =>
    t.bytes ((s.buf (s.fld (State.stA Reg.ST_BUF k) 11 0)).base + (s.buf (s.fld (State.stA Reg.ST_BUF k) 11 0)).slotOf (s.reg (State.stA Reg.ST_GEN k)) * (s.buf (s.fld (State.stA Reg.ST_BUF k) 11 0)).slotSize + y * s.fld (State.stA Reg.ST_STRIDE k) 19 0 + 6 * z) (6 * ((stPixels (s.fld (State.stA Reg.ST_CFG k) 3 2) (body.take len)).take (s.fld (State.stA Reg.ST_SIZE k) 11 0 - z)).length) = (((stPixels (s.fld (State.stA Reg.ST_CFG k) 3 2) (body.take len)).take (s.fld (State.stA Reg.ST_SIZE k) 11 0 - z)).flatMap fun c => leBytes 2 c.1 ++ leBytes 2 c.2.1 ++ leBytes 2 c.2.2) ∧ (t.stSt k).seq = some (BitVec.ofNat 32 (beAt x.data 12 2 * 65536 + beAt x.data 2 2)) ∧ t.reg (State.stA Reg.ST_LOSS_CNT k) = s.reg (State.stA Reg.ST_LOSS_CNT k)) ∧
  -- ST_CFG_WRITE
  (
    ∀ (ag : Agent) (u : Fin 4) (k : Fin 16) (w : Word) (s : State), s.canWrite ag (State.stA Reg.ST_CFG (16 * u.val + k.val)) → 
    s.bit (State.stA Reg.ST_CFG (16 * u.val + k.val)) 0 = true → wfld w 0 0 = 1 → exec (.stCfgWrite ag u k w) s = .next s) ∧
  -- ST_CFG_WRITE
  (
    ∀ (ag : Agent) (u : Fin 4) (k : Fin 16) (w : Word) (s : State), s.canWrite ag (State.stA Reg.ST_CFG (16 * u.val + k.val)) → 
    s.bit (State.stA Reg.ST_CFG (16 * u.val + k.val)) 0 = true → wfld w 0 0 = 0 → Runs (.stCfgWrite ag u k w) s fun t =>
    t.bit (State.stA Reg.ST_CFG (16 * u.val + k.val)) 0 = false ∧ t.stSt (16 * u.val + k.val) = {}) ∧
  -- ST_CFG_WRITE
  (
    ∀ (ag : Agent) (u : Fin 4) (k : Fin 16) (w : Word) (s : State), s.canWrite ag (State.stA Reg.ST_CFG (16 * u.val + k.val)) → 
    s.bit (State.stA Reg.ST_CFG (16 * u.val + k.val)) 0 = false → wfld w 1 0 = 3 → 
    s.stCfgRefused (16 * u.val + k.val) w = true → s.faultRoom → Runs (.stCfgWrite ag u k w) s fun t =>
    t.bit (State.stA Reg.ST_CFG (16 * u.val + k.val)) 0 = false ∧ t.faultQueued Code.MAC_CFG_ERR (32 + u.val))

/-- The legacy bridge sends level packets, carries RDM transactions and tunnel requests, discovers devices and sends the failsafe image. -/
def Obligations.BridgePortsSendAndCarryRdm : Prop :=
  -- DMX_BREAK
  (∀ (a : Act) (d n src at' : Nat) (s : State), (s.issued.find? fun x => actCode x.act == 4) = some a → 
    actTarget a.act % 16 = d → wfld a.a0 9 0 = n → (0 < n ∧ n ≤ 512) → wfld a.a0 16 16 = 0 → 
    s.bit (State.dA d Reg.DMX_CFG) 0 = true → s.dOpen = true → s.under = 3 → (s.dport d).act = 1 → 
    s.regAddr (State.dA d Reg.DMX_SRC_LO) / 512 * 512 = src → 
    src + 0x200 * (1 + (s.memWord src).toNat % max 1 (s.fld (State.dA d Reg.DMX_SRC_CFG) 2 0)) = at' → 
    s.hasUe src 4 = false → s.hasUe at' n = false → Runs .dmxBreak s fun t =>
    (t.dport d).act = 2 ∧ (t.dport d).sent = BitVec.ofNat 8 (s.fld (State.dA d Reg.DMX_CFG) 23 16) :: s.bytes at' n ∧ (t.dport d).endAt = s.mono + s.packetNs d (n + 1) ∧ t.reg (State.dA d Reg.DMX_PKT_CNT) = s.reg (State.dA d Reg.DMX_PKT_CNT) + 1 ∧ t.reg (State.dA d Reg.DMX_LAST_PUB) = s.memWord src ∧ t.issued = s.issued.erase a) ∧
  -- DMX_BREAK
  (∀ (a : Act) (d : Nat) (s : State), (s.issued.find? fun x => actCode x.act == 4) = some a → actTarget a.act % 16 = d → 
    wfld a.a0 16 16 = 0 → s.bit (State.dA d Reg.DMX_CFG) 0 = true → s.dOpen = true → s.under = 3 → 
    (s.dport d).act = 2 → Runs .dmxBreak s fun t =>
    t.dmx = s.dmx ∧ t.reg (State.dA d Reg.DMX_PBUSY_CNT) = s.reg (State.dA d Reg.DMX_PBUSY_CNT) + 1) ∧
  -- DMX_PACKET_END
  (∀ (d : DmxId) (s : State), (s.dport d.val).act = 2 → (s.dport d.val).endAt ≤ s.mono → (s.dport d.val).waiting = [] → 
    (s.dport d.val).fsWait = false → Runs (.dmxPacketEnd d) s fun t =>
    (t.dport d.val).act = 1 ∧ (t.dport d.val).lastEnd = some s.mono ∧ (t.dport d.val).queue = (s.dport d.val).queue) ∧
  -- DMX_PACKET_END
  (∀ (d : DmxId) (s : State), ((s.dport d.val).act ≠ 2 ∨ s.mono < (s.dport d.val).endAt) → exec (.dmxPacketEnd d) s = .next s) ∧
  -- RDM_TRANSACTION_START
  (∀ (d : DmxId) (q : DReq) (r : List DReq) (s : State), (s.dport d.val).queue = q :: r → s.rdmMay d.val q = true → Runs (.rdmTransactionStart d) s fun t =>
    (t.dport d.val).act = 3 ∧ (t.dport d.val).cur = some q ∧ (t.dport d.val).queue = r ∧ (t.dport d.val).tn = (s.dport d.val).tn + 1 ∧ (t.dport d.val).sent = s.reqMessage d.val q ((s.dport d.val).tn + 1) ∧ t.reg (State.dA d.val Reg.DMX_RDM_TX_CNT) = s.reg (State.dA d.val Reg.DMX_RDM_TX_CNT) + 1) ∧
  -- RDM_TRANSACTION_START
  (∀ (d : DmxId) (s : State), (s.dport d.val).queue = [] → exec (.rdmTransactionStart d) s = .next s) ∧
  -- RDM_RESPONSE
  (∀ (d : DmxId) (l : List Byte) (q : DReq) (s : State), (s.dport d.val).cur = some q → (s.dport d.val).act = 3 → 
    q.kind = 0 → (s.dport d.val).reqEnd ≤ s.mono → State.rdmMatches (s.dport d.val) q l = true → 
    (s.dport d.val).waiting = [] → (s.dport d.val).fsWait = false → Runs (.rdmResponse d l) s fun t =>
    (t.dpend.get {} q.entry).outcome = 1 ∧ (t.dpend.get {} q.entry).resp = l ∧ (t.dpend.get {} q.entry).endAt = s.mono ∧ (t.dport d.val).act = 1 ∧ (t.dport d.val).cur = none) ∧
  -- RDM_RESPONSE
  (∀ (d : DmxId) (l : List Byte) (s : State), (s.dport d.val).cur = none → exec (.rdmResponse d l) s = .next s) ∧
  -- RDM_RESPONSE_TIMEOUT
  (∀ (d : DmxId) (q : DReq) (s : State), (s.dport d.val).cur = some q → (s.dport d.val).act = 3 → q.kind = 0 → 
    (s.dport d.val).reqEnd + s.reqTmo d.val q ≤ s.mono → (s.dport d.val).waiting = [] → 
    (s.dport d.val).fsWait = false → q.tries < s.fld (State.dA d.val Reg.DMX_RDM) 19 16 → Runs (.rdmResponseTimeout d) s fun t =>
    (t.dport d.val).queue = { q with tries := q.tries + 1 } :: (s.dport d.val).queue ∧ (t.dport d.val).act = 1 ∧ t.dpend = s.dpend) ∧
  -- RDM_RESPONSE_TIMEOUT
  (∀ (d : DmxId) (q : DReq) (s : State), (s.dport d.val).cur = some q → (s.dport d.val).act = 3 → q.kind = 0 → 
    (s.dport d.val).reqEnd + s.reqTmo d.val q ≤ s.mono → (s.dport d.val).waiting = [] → 
    (s.dport d.val).fsWait = false → s.fld (State.dA d.val Reg.DMX_RDM) 19 16 ≤ q.tries → Runs (.rdmResponseTimeout d) s fun t =>
    (t.dpend.get {} q.entry).outcome = 2 ∧ t.reg (State.dA d.val Reg.DMX_RDM_TMO_CNT) = s.reg (State.dA d.val Reg.DMX_RDM_TMO_CNT) + 1 ∧ (t.dport d.val).act = 1) ∧
  -- TUNNEL_GET
  (∀ (e : Entry) (ok : Bool) (d i : Nat) (s : State), s.bit Reg.DMX_RINGS 16 = true → s.tunnelHead = some ([e], ok) → 
    wfld (entryWord e 1) 4 4 = 0 → wfld (entryWord e 1) 31 16 = 0 → State.tunnelBad [e] ok = false → 
    wfld (entryWord e 1) 3 0 = d → s.tunnelPort d = true → 
    ((List.range 64).find? fun i => !(s.dpend.get {} i).used) = some i → s.queued d < 32 → Runs .tunnelGet s fun t =>
    (t.dpend.get {} i).used = true ∧ (t.dpend.get {} i).port = d ∧ (t.dpend.get {} i).outcome = 0 ∧ ((t.dpend.get {} i).gen = if (s.dpend.get {} i).gen = 1023 then 1 else (s.dpend.get {} i).gen + 1) ∧ (t.dport d).queue = (s.dport d).queue ++ [{ (State.tunnelReq [e] []).1 with entry := i }] ∧ t.reg Reg.DMX_GET_CNT = s.reg Reg.DMX_GET_CNT + 1) ∧
  -- TUNNEL_GET
  (∀ (s : State), s.bit Reg.DMX_RINGS 16 = false → exec .tunnelGet s = .next s) ∧
  -- TUNNEL_COLLECT
  (∀ (e : Entry) (ok : Bool) (i : Nat) (s : State), s.bit Reg.DMX_RINGS 16 = true → s.tunnelHead = some ([e], ok) → 
    wfld (entryWord e 1) 4 4 = 0 → wfld (entryWord e 1) 31 16 ≠ 0 → State.tunnelBad [e] ok = false → 
    wfld (entryWord e 1) 31 16 % 64 = i → (s.dpend.get {} i).used = true → 
    (s.dpend.get {} i).gen = wfld (entryWord e 1) 31 16 / 64 → (s.dpend.get {} i).port = wfld (entryWord e 1) 3 0 → 
    (s.dpend.get {} i).outcome ≠ 0 → wfld (entryWord e 2) 12 0 ≠ s.ownId → Runs .tunnelCollect s fun t =>
    (t.dpend.get {} i).used = false ∧ (t.dpend.get {} i).gen = (s.dpend.get {} i).gen) ∧
  -- TUNNEL_COLLECT
  (∀ (e : Entry) (ok : Bool) (i : Nat) (s : State), s.bit Reg.DMX_RINGS 16 = true → s.tunnelHead = some ([e], ok) → 
    wfld (entryWord e 1) 4 4 = 0 → wfld (entryWord e 1) 31 16 ≠ 0 → State.tunnelBad [e] ok = false → 
    wfld (entryWord e 1) 31 16 % 64 = i → (s.dpend.get {} i).outcome = 0 → Runs .tunnelCollect s fun t =>
    t.dpend = s.dpend ∧ t.dmx = s.dmx) ∧
  -- TUNNEL_SET
  (∀ (e : Entry) (ok : Bool) (d : Nat) (s : State), s.bit Reg.DMX_RINGS 16 = true → s.tunnelHead = some ([e], ok) → 
    wfld (entryWord e 1) 4 4 = 1 → State.tunnelBad [e] ok = false → wfld (entryWord e 1) 3 0 = d → 
    s.tunnelPort d = true → s.queued d < 32 → Runs .tunnelSet s fun t =>
    (t.dport d).queue = (s.dport d).queue ++ [(State.tunnelReq [e] []).1] ∧ t.reg Reg.DMX_SET_CNT = s.reg Reg.DMX_SET_CNT + 1 ∧ t.dpend = s.dpend) ∧
  -- PENDING_DISCARD
  (∀ (i : Fin 64) (s : State), (s.dpend.get {} i.val).used = true → (s.dpend.get {} i.val).outcome ≠ 0 → 
    (s.dpend.get {} i.val).endAt + max 1 (s.fld Reg.DMX_BRIDGE 15 0) * 1000000 ≤ s.mono → s.faultRoom → Runs (.pendingDiscard i) s fun t =>
    (t.dpend.get {} i.val).used = false ∧ t.reg Reg.DMX_DISCARD_CNT = s.reg Reg.DMX_DISCARD_CNT + 1 ∧ t.faultQueued Code.BRIDGE_RSP_DISCARD (s.dpend.get {} i.val).port) ∧
  -- PENDING_DISCARD
  (∀ (i : Fin 64) (s : State), (s.dpend.get {} i.val).used = false → exec (.pendingDiscard i) s = .next s) ∧
  -- DISC_FULL
  (∀ (ag : Agent) (d : DmxId) (s : State), s.canWrite ag (State.dA d.val Reg.DMX_CMD) → (s.dport d.val).disc = none → Runs (.discFull ag d) s fun t =>
    t.bit (State.dA d.val Reg.DMX_CMD) 0 = true ∧ (t.dport d.val).disc = some ⟨true, [State.allUids], []⟩ ∧ (t.dport d.val).queue = ((s.dport d.val).queue.filter fun q => decide (q.kind < 2)) ++ [{ kind := 2 }]) ∧
  -- DISCOVERY_SWEEP
  (∀ (d : DmxId) (s : State), s.dRdmOn d.val = true → s.bit (State.dA d.val Reg.DMX_CFG) 12 = true → 
    (s.dport d.val).disc = none → 
    (s.dport d.val).sweepAt + max 1 (s.fld (State.dA d.val Reg.DMX_RDM) 31 24) * 1000000000 ≤ s.mono → Runs (.discoverySweep d) s fun t =>
    (t.dport d.val).sweepAt = s.mono ∧ (t.dport d.val).disc = some ⟨false, [(0, 2 ^ 48 - 2)], s.knownUids d.val⟩ ∧ (t.dport d.val).queue = (s.dport d.val).queue ++ [{ kind := 3, lo := 0, hi := 2 ^ 48 - 2, duid := 2 ^ 48 - 1 }]) ∧
  -- DISCOVERY_SWEEP
  (∀ (d : DmxId) (s : State), (s.dRdmOn d.val = false ∨ (s.dport d.val).disc.isSome = true) → exec (.discoverySweep d) s = .next s) ∧
  -- FAILSAFE_DMX_TICK
  (∀ (d : DmxId) (s : State), s.failsafeMode = true → s.mono / 25000000 ≠ (s.dport d.val).fsAt → s.dOpen = true → 
    (s.dport d.val).act = 1 → Runs (.failsafeDmxTick d) s fun t =>
    (t.dport d.val).fsAt = s.mono / 25000000 ∧ (t.dport d.val).act = 2 ∧ (t.dport d.val).sent = 0 :: s.fsSlots d.val ∧ t.reg (State.dA d.val Reg.DMX_PKT_CNT) = s.reg (State.dA d.val Reg.DMX_PKT_CNT) + 1) ∧
  -- FAILSAFE_DMX_TICK
  (∀ (d : DmxId) (s : State), s.failsafeMode = false → exec (.failsafeDmxTick d) s = .next s) ∧
  -- FAILSAFE_SACN_TICK
  (
    ∀ (p : Fin 32) (b : Nat) (s : State), s.fld Reg.SYS_FS_BASE_HI 7 0 * 2 ^ 32 + s.fld Reg.SYS_FS_BASE_LO 31 12 * 4096 = b → 
    s.failsafeMode = true → s.bit Reg.SYS_FS_STAT 0 = true → (s.memWord (b + 8)).getLsbD p.val = true → 
    s.macUp p.val = true → s.once.get none (2 ^ 48 + p.val) ≠ some (s.mono / 100000000) → Runs (.failsafeSacnTick p) s fun t =>
    ((t.mport p.val).queue 7).length = ((s.mport p.val).queue 7).length + min 64 (s.memNat (b + 6) 2) ∧ t.once.get none (2 ^ 48 + p.val) = some (s.mono / 100000000) ∧ t.freeCtr = s.freeCtr + 1) ∧
  -- FAILSAFE_SACN_TICK
  (∀ (p : Fin 32) (s : State), s.failsafeMode = false → exec (.failsafeSacnTick p) s = .next s)

/-- A panel sample updates every input and the safety inputs, and stuck, rearmed, asserted, released and long inputs change as the spec says. -/
def Obligations.PanelInputsFollowTheirSamples : Prop :=
  -- PANEL_SAMPLE
  (∀ (pins : Word) (em dk : Bool) (s : State), Runs (.panelSample pins em dk) s fun t =>
    t.sampleAt = s.mono ∧ (∀ i, i < 32 → t.bit Reg.PANEL_RAW i = (pins.getLsbD i == s.bit Reg.PANEL_POL i)) ∧ (∀ i, i < 32 → s.bit Reg.PANEL_EN i = false → t.pnlState i = 0) ∧ (t.safeIn 0).low = !em ∧ (t.safeIn 1).low = !dk) ∧
  -- PANEL_SAMPLE
  (∀ (pins : Word) (em dk : Bool) (i : Fin 32) (s : State), s.bit Reg.PANEL_EN i.val = true → s.pnlState i.val = 1 → 
    (s.pnl i.val).edges = [] → (s.pnl i.val).runAt + s.debNs ≤ s.mono → s.bit Reg.PANEL_RAW i.val = true → 
    (pins.getLsbD i.val == s.bit Reg.PANEL_POL i.val) = true → Runs (.panelSample pins em dk) s fun t =>
    t.pnlState i.val = 2 ∧ t.bit Reg.PANEL_LEVEL i.val = true ∧ (t.pnl i.val).activeAt = s.mono) ∧
  -- PANEL_STUCK
  (∀ (i : Fin 32) (s : State), s.pnlState i.val = 2 → (s.pnl i.val).edges = [] → s.bit Reg.PANEL_MAINT i.val = false → 
    (s.pnl i.val).activeAt + s.stuckNs ≤ s.sampleAt → s.bit Reg.PANEL_RAW i.val = true → s.faultQ.length + 1 < 256 → Runs (.panelStuck i) s fun t =>
    t.pnlState i.val = 3 ∧ t.faultQueued Code.PANEL_PANEL_STUCK i.val) ∧
  -- PANEL_STUCK
  (∀ (i : Fin 32) (s : State), s.pnlState i.val ≠ 2 → (s.pnl i.val).edges = [] → exec (.panelStuck i) s = .next s) ∧
  -- PANEL_REARM
  (∀ (ag : Agent) (w : Word) (i : Fin 32) (s : State), s.canWrite ag Reg.PANEL_REARM → w.getLsbD i.val = true → 
    s.pnlState i.val = 4 → (s.pnl i.val).edges = [] → s.pnlStable i.val = true → s.bit Reg.PANEL_RAW i.val = false → Runs (.panelRearm ag w) s fun t =>
    t.pnlState i.val = 1 ∧ t.pnl i.val = s.pnl i.val) ∧
  -- EMERG_ASSERT
  (∀ (s : State), s.safeState 0 = 0 → (s.safeIn 0).low = true → (s.safeIn 0).runAt + 1000000 ≤ s.sampleAt → 
    s.faultQ.length + 1 < 256 → Runs .emergAssert s fun t =>
    t.safeState 0 = 1 ∧ (t.safeIn 0).assertAt = s.sampleAt ∧ t.faultQueued Code.PANEL_EMERG_ASSERT 32) ∧
  -- EMERG_ASSERT
  (∀ (s : State), (s.safeState 0 ≠ 0 ∨ (s.safeIn 0).low = false) → exec .emergAssert s = .next s) ∧
  -- DARK_ASSERT
  (∀ (s : State), s.safeState 1 = 0 → (s.safeIn 1).low = true → (s.safeIn 1).runAt + 1000000 ≤ s.sampleAt → 
    s.faultQ.length + 1 < 256 → Runs .darkAssert s fun t =>
    t.safeState 1 = 1 ∧ (t.safeIn 1).assertAt = s.sampleAt ∧ t.faultQueued Code.PANEL_DARK_ASSERT 33) ∧
  -- DARK_ASSERT
  (∀ (s : State), (s.safeState 1 ≠ 0 ∨ (s.safeIn 1).low = false) → exec .darkAssert s = .next s) ∧
  -- EMERG_RELEASE
  (∀ (s : State), s.safeState 0 = 1 → (s.safeIn 0).low = false → 
    (s.safeIn 0).runAt + s.fld Reg.PANEL_SAFE 31 16 * 1000000 ≤ s.sampleAt → Runs .emergRelease s fun t =>
    t.safeState 0 = 0 ∧ t.safeState 1 = s.safeState 1) ∧
  -- DARK_RELEASE
  (∀ (s : State), s.safeState 1 = 1 → (s.safeIn 1).low = false → 
    (s.safeIn 1).runAt + s.fld Reg.PANEL_SAFE 31 16 * 1000000 ≤ s.sampleAt → Runs .darkRelease s fun t =>
    t.safeState 1 = 0 ∧ t.safeState 0 = s.safeState 0) ∧
  -- SAFE_LONG
  (∀ (i : Fin 2) (s : State), s.safeState i.val ≠ 0 → (s.safeIn i.val).long = false → 
    (s.safeIn i.val).assertAt + s.stuckNs ≤ s.sampleAt → s.faultRoom → Runs (.safeLong i) s fun t =>
    (t.safeIn i.val).long = true ∧ t.faultQueued Code.PANEL_SAFE_LONG (32 + i.val) ∧ t.safeState i.val = s.safeState i.val) ∧
  -- SAFE_LONG
  (∀ (i : Fin 2) (s : State), (s.safeState i.val = 0 ∨ (s.safeIn i.val).long = true) → exec (.safeLong i) s = .next s)

/-- Twin ownership: heartbeats, the peer pin, the gate, handback, enable and the time clock move the twin state as the spec says. -/
def Obligations.TwinOwnershipFollowsItsEvents : Prop :=
  -- HEARTBEAT_TICK
  (∀ (s : State), s.twOwns = true → s.twin.hbOut = none → Runs .heartbeatTick s fun t =>
    t.twin.hbOut = some s.mono ∧ t.regs = s.regs) ∧
  -- HEARTBEAT_TICK
  (∀ (s : State), s.twOwns = false → exec .heartbeatTick s = .next s) ∧
  -- HEARTBEAT_RECEIVED
  (∀ (s : State), s.twEn = true → (s.twState = 1 ∨ (s.twState = 4 ∧ s.twHeld = false)) → Runs .heartbeatReceived s fun t =>
    t.twState = 3 ∧ t.twin.hbAt = s.mono ∧ t.twin.since = s.mono) ∧
  -- HEARTBEAT_RECEIVED
  (∀ (s : State), s.twEn = false → exec .heartbeatReceived s = .next s) ∧
  -- HEARTBEAT_LOSS
  (∀ (s : State), s.twState = 1 → s.hbLost = true → s.twHeld = false → s.bit Reg.TWIN_STATUS 4 = false → 
    s.twin.since + s.missN * s.hbPeriod + (if s.bit Reg.TWIN_CTRL 1 then s.fld Reg.TWIN_HB 31 24 * 1000000 else 0) ≤ s.mono → 
    Runs .heartbeatLoss s fun t =>
    t.twState = 2 ∧ t.bit Reg.TWIN_STATUS 3 = true ∧ t.twin.ownAt = s.mono ∧ t.twin.byFault = false) ∧
  -- HEARTBEAT_LOSS
  (∀ (s : State), s.twState = 3 → s.hbLost = true → s.twHeld = false → 
    (s.bit Reg.TWIN_CTRL 7 = true ∨ s.bit Reg.TWIN_HEALTH 0 = true) → s.bit Reg.TWIN_STATUS 4 = false → s.faultRoom → Runs .heartbeatLoss s fun t =>
    t.twState = 2 ∧ t.reg Reg.TWIN_TAKE_CNT = s.reg Reg.TWIN_TAKE_CNT + 1 ∧ t.twin.byFault = true ∧ t.faultQueued Code.TWIN_HB_LOST s.peerNode) ∧
  -- HEARTBEAT_LOSS
  (∀ (s : State), s.twState = 4 → s.twHeld = false → s.bit Reg.TWIN_STATUS 4 = false → 
    s.twin.hbAt + s.missN * s.hbPeriod ≤ s.mono → Runs .heartbeatLoss s fun t =>
    t.twState = 2 ∧ t.bit Reg.TWIN_STATUS 3 = true ∧ t.twin.ownAt = s.mono ∧ t.twin.byFault = true) ∧
  -- HEARTBEAT_LOSS
  (∀ (s : State), (s.twState ≠ 1 ∧ s.twState ≠ 3 ∧ s.twState ≠ 4) → exec .heartbeatLoss s = .next s) ∧
  -- PEER_ASSERT
  (∀ (s : State), s.bit Reg.TWIN_STATUS 4 = false → s.twEn = true → Runs .peerAssert s fun t =>
    t.bit Reg.TWIN_STATUS 4 = true ∧ t.bit Reg.TWIN_STATUS 5 = false) ∧
  -- PEER_ASSERT
  (∀ (s : State), s.bit Reg.TWIN_STATUS 4 = false → s.twState = 2 → s.bit Reg.TWIN_CTRL 1 = true → s.faultRoom → Runs .peerAssert s fun t =>
    t.twState = 3 ∧ t.bit Reg.TWIN_STATUS 3 = false ∧ t.faultQueued Code.TWIN_CONTEND s.peerNode) ∧
  -- PEER_ASSERT
  (∀ (s : State), s.bit Reg.TWIN_STATUS 4 = true → exec .peerAssert s = .next s) ∧
  -- PEER_NEGATE
  (∀ (s : State), s.bit Reg.TWIN_STATUS 4 = true → s.twState = 4 → s.twin.hbAt + s.missN * s.hbPeriod ≤ s.mono → 
    s.twHeld = false → Runs .peerNegate s fun t =>
    t.bit Reg.TWIN_STATUS 4 = false ∧ t.twState = 2 ∧ t.twin.peerAt = s.mono) ∧
  -- PEER_NEGATE
  (∀ (j : Bool) (s : State), s.bit Reg.TWIN_STATUS 4 = true → s.twState = 3 → s.twin.take = some j → s.twHeld = false → Runs .peerNegate s fun t =>
    t.bit Reg.TWIN_STATUS 4 = false ∧ t.twState = 2 ∧ t.twin.byFault = j) ∧
  -- PEER_NEGATE
  (∀ (s : State), s.bit Reg.TWIN_STATUS 4 = false → exec .peerNegate s = .next s) ∧
  -- GATE_OPEN
  (∀ (s : State), s.twOwns = true → s.bit Reg.TWIN_STATUS 4 = false → max s.twin.ownAt s.twin.peerAt + 1000 ≤ s.mono → Runs .gateOpen s fun t =>
    t.bit Reg.TWIN_STATUS 5 = true ∧ t.twState = s.twState ∧ t.twin = s.twin) ∧
  -- GATE_OPEN
  (∀ (s : State), (s.twOwns = false ∨ s.bit Reg.TWIN_STATUS 4 = true) → exec .gateOpen s = .next s) ∧
  -- TYIELD_RECEIVE
  (∀ (n : Word) (sf : Fin 8) (s : State), s.twEn = true → s.twinLinkUp = true → s.twState = 3 → 
    s.bit Reg.TWIN_STATUS 4 = false → s.twHeld = false → s.faultRoom → Runs (.tyieldReceive n sf) s fun t =>
    t.twState = 2 ∧ t.twin.byFault = false ∧ t.faultQueued Code.TWIN_HANDBACK s.peerNode) ∧
  -- TYIELD_RECEIVE
  (∀ (n : Word) (sf : Fin 8) (s : State), s.twEn = true → s.twinLinkUp = true → s.twState = 3 → 
    s.bit Reg.TWIN_STATUS 4 = true → s.twHeld = false → Runs (.tyieldReceive n sf) s fun t =>
    t.twState = 3 ∧ t.twin.take = some false) ∧
  -- TWIN_YIELD
  (∀ (ag : Agent) (s : State), s.canWrite ag Reg.TWIN_CMD → s.yieldOk = true → s.faultRoom → Runs (.twinYield ag) s fun t =>
    t.twState = 5 ∧ t.twin.yield = some s.yieldName ∧ t.faultQueued Code.TWIN_HANDBACK s.peerNode) ∧
  -- TWIN_YIELD
  (∀ (ag : Agent) (s : State), s.canWrite ag Reg.TWIN_CMD → s.yieldOk = false → s.faultRoom → Runs (.twinYield ag) s fun t =>
    t.twState = s.twState ∧ t.twin = s.twin ∧ t.faultQueued Code.TWIN_CFG_ERR 0) ∧
  -- YIELD_DONE
  (∀ (n sf : Nat) (s : State), s.twin.yield = some (n, sf) → s.twState = 5 → 
    s.gatedPorts.all (fun p => s.yieldLeft p n sf) = true → Runs .yieldDone s fun t =>
    t.twState = 3 ∧ t.bit Reg.TWIN_STATUS 3 = false ∧ t.bit Reg.TWIN_STATUS 5 = false ∧ t.twin.yield = none) ∧
  -- YIELD_DONE
  (∀ (s : State), s.twin.yield = none → exec .yieldDone s = .next s) ∧
  -- AUTO_RETURN
  (∀ (x : Nat) (s : State), s.twin.readyAt = some x → s.bit Reg.TWIN_CTRL 6 = true → s.twin.byFault = true → 
    s.yieldOk = true → x + 10000000000 ≤ s.mono → Runs .autoReturn s fun t =>
    t.twState = 5 ∧ t.twin.yield = some s.yieldName) ∧
  -- AUTO_RETURN
  (∀ (s : State), s.twin.readyAt = none → exec .autoReturn s = .next s) ∧
  -- TWIN_ENABLE
  (∀ (ag : Agent) (w : Word) (s : State), s.canWrite ag Reg.TWIN_CTRL → s.bit Reg.TWIN_CTRL 31 = false → s.twEn = false → 
    wfld w 0 0 = 1 → Runs (.twinEnable ag w) s fun t =>
    t.twEn = true ∧ t.twState = 1 ∧ t.bit Reg.TWIN_STATUS 5 = false ∧ t.twin.since = s.mono) ∧
  -- TWIN_ENABLE
  (∀ (ag : Agent) (w : Word) (s : State), s.canWrite ag Reg.TWIN_CTRL → s.bit Reg.TWIN_CTRL 31 = false → s.twEn = true → 
    wfld w 0 0 = 0 → Runs (.twinEnable ag w) s fun t =>
    t.twEn = false ∧ t.twState = 0 ∧ t.bit Reg.TWIN_STATUS 5 = true ∧ t.twin.items = []) ∧
  -- TWIN_LINK_DOWN
  (∀ (s : State), s.twEn = true → s.twin.linkSeen = true → s.twinLinkUp = false → s.faultRoom → Runs .twinLinkDown s fun t =>
    t.twin.linkSeen = false ∧ t.twin.items = [] ∧ t.faultQueued Code.TWIN_TWIN_LINK_DOWN s.peerNode) ∧
  -- TWIN_LINK_DOWN
  (∀ (s : State), s.twin.linkSeen = false → exec .twinLinkDown s = .next s) ∧
  -- TIME_CLOCK_UNLOCK
  (∀ (s : State), s.tclkOk = true → s.faultRoom → Runs .timeClockUnlock s fun t =>
    t.tclkOk = false ∧ t.bit Reg.SYS_MODE 10 = true ∧ t.twOwns = false ∧ t.faultQueued Code.CLK_TCLK_UNLOCK 0) ∧
  -- TIME_CLOCK_UNLOCK
  (∀ (s : State), s.tclkOk = false → exec .timeClockUnlock s = .next s) ∧
  -- TIME_CLOCK_RELOCK
  (∀ (s : State), Runs .timeClockRelock s fun t =>
    t.tclkOk = true ∧ t.regs = s.regs ∧ t.twin = s.twin)

/-- The twin unit compares CRCs, judges, notes cuts, publishes health and steps its self-test as the spec says. -/
def Obligations.TwinComparesJudgesAndPublishes : Prop :=
  -- TCRC_RECEIVE
  (∀ (x : TcrcEntry) (s : State), s.twEn = true → s.twinLinkUp = true → s.twin.items = [] → Runs (.tcrcReceive [x]) s fun t =>
    t.twin.items = [{ kind := x.kind.toNat, port := x.port.toNat, s := x.s.val, a := x.a, b := x.b, at' := s.mono, peer := some x.crc }] ∧ t.regs = s.regs) ∧
  -- TCRC_RECEIVE
  (∀ (x : TcrcEntry) (y : TItem) (s : State), s.twEn = true → s.twinLinkUp = true → s.twin.items = [y] → 
    (y.kind = 1 ∧ x.kind = 1) → (y.port = x.port.toNat ∧ y.s = x.s.val ∧ y.a = x.a ∧ y.b = x.b) → y.own = some x.crc → 
    y.aligned = true → Runs (.tcrcReceive [x]) s fun t =>
    t.twin.items = [] ∧ t.reg Reg.TWIN_CMP_CNT = s.reg Reg.TWIN_CMP_CNT + 1 ∧ t.reg Reg.TWIN_MISM_CNT = s.reg Reg.TWIN_MISM_CNT ∧ t.twin.run.get 0 y.port = 0) ∧
  -- TCRC_RECEIVE
  (∀ (x : TcrcEntry) (y : TItem) (o : Word) (s : State), s.twEn = true → s.twinLinkUp = true → s.twin.items = [y] → 
    (y.kind = 1 ∧ x.kind = 1) → (y.port = x.port.toNat ∧ y.s = x.s.val ∧ y.a = x.a ∧ y.b = x.b) → y.own = some o → 
    o ≠ x.crc → y.aligned = true → Runs (.tcrcReceive [x]) s fun t =>
    t.twin.items = [] ∧ t.reg Reg.TWIN_MISM_CNT = s.reg Reg.TWIN_MISM_CNT + 1 ∧ t.reg Reg.TWIN_LAST_MISM_FRAME = x.a ∧ t.twin.good.get 0 y.port = 0) ∧
  -- TCRC_RECEIVE
  (∀ (es : List TcrcEntry) (s : State), (s.twEn = false ∨ s.twinLinkUp = false) → exec (.tcrcReceive es) s = .next s) ∧
  -- TCRC_TIMEOUT
  (∀ (s : State), Runs .tcrcTimeout s fun t =>
    t.twin.items = s.twin.items.filter fun x => decide (s.mono < x.at' + s.cmpNs) ∧ t.reg Reg.TWIN_MISS_CNT = s.reg Reg.TWIN_MISS_CNT + BitVec.ofNat 32 (s.twin.items.filter fun x => decide (x.at' + s.cmpNs ≤ s.mono) && x.own.isSome).length ∧ t.twin.judge = s.twin.judge) ∧
  -- TJUDGE_RECEIVE
  (∀ (p : PortId) (sf : Fin 8) (n : Word) (dis : Bool) (re crc : Word) (j : Judge) (s : State), s.twEn = true → 
    s.twinLinkUp = true → s.twin.judge = some j → (j.port = p.val ∧ j.s = sf.val ∧ j.n = n) → j.own = !dis → Runs (.tjudgeReceive p sf n dis re crc) s fun t =>
    t.twin.judge = none ∧ t.bit Reg.TWIN_STATUS 8 = false ∧ t.bit Reg.TWIN_STATUS 9 = true ∧ t.reg Reg.TWIN_UNDEC_CNT = s.reg Reg.TWIN_UNDEC_CNT + 1) ∧
  -- TJUDGE_RECEIVE
  (∀ (p : PortId) (sf : Fin 8) (n : Word) (re crc : Word) (j : Judge) (s : State), s.twEn = true → s.twinLinkUp = true → 
    s.twin.judge = some j → (j.port = p.val ∧ j.s = sf.val ∧ j.n = n) → j.own = true → s.twState = 3 → 
    s.twHeld = false → s.bit Reg.TWIN_STATUS 4 = false → s.faultRoom → Runs (.tjudgeReceive p sf n true re crc) s fun t =>
    t.twin.judge = none ∧ t.twState = 2 ∧ t.twin.byFault = true ∧ t.faultQueued Code.TWIN_TAKEOVER s.peerNode) ∧
  -- TJUDGE_RECEIVE
  (∀ (p : PortId) (sf : Fin 8) (n : Word) (dis : Bool) (re crc : Word) (s : State), s.twEn = true → s.twinLinkUp = true → 
    s.twin.judge = none → Runs (.tjudgeReceive p sf n dis re crc) s fun t =>
    t.twin.early = some (p.val, sf.val, n, !dis) ∧ t.regs = s.regs) ∧
  -- JUDGE_TIMEOUT
  (∀ (j : Judge) (s : State), s.twin.judge = some j → j.at' + 100000 ≤ s.mono → Runs .judgeTimeout s fun t =>
    t.twin.judge = none ∧ t.bit Reg.TWIN_STATUS 9 = true ∧ t.reg Reg.TWIN_UNDEC_CNT = s.reg Reg.TWIN_UNDEC_CNT + 1) ∧
  -- JUDGE_TIMEOUT
  (∀ (s : State), s.twin.judge = none → exec .judgeTimeout s = .next s) ∧
  -- TCUT_RECEIVE
  (∀ (p : PortId) (sf : Fin 8) (n k : Word) (l : List (Word × Word)) (s : State), s.twEn = true → s.twinLinkUp = true → Runs (.tcutReceive p sf n k l) s fun t =>
    t.occ p.val = { s.occ p.val with tcut := some ⟨n.toNat, sf.val, k.toNat, l⟩ } ∧ t.regs = s.regs) ∧
  -- THEALTH_RECEIVE
  (∀ (a b d : Word) (s : State), s.twEn = true → s.twinLinkUp = true → Runs (.thealthReceive a b d) s fun t =>
    t.reg Reg.TWIN_PEER_HEALTH = a ∧ t.twin.peerFrame = some s.frame ∧ t.twState = s.twState) ∧
  -- HEALTH_PUBLISH
  (∀ (s : State), s.stopped = false → bits s.phase 31 31 = 1 → s.twin.pubFrame ≠ some s.frame → Runs .healthPublish s fun t =>
    t.reg Reg.TWIN_HEALTH = s.healthWord ∧ t.twin.pubFrame = some s.frame) ∧
  -- HEALTH_PUBLISH
  (∀ (s : State), (s.stopped = true ∨ bits s.phase 31 31 = 0) → exec .healthPublish s = .next s) ∧
  -- STANDBY_LOST
  (∀ (f : Nat) (s : State), s.twin.peerFrame = some f → s.twOwns = true → 
    3 ≤ (BitVec.ofNat 32 s.frame - BitVec.ofNat 32 f).toInt → s.faultRoom → Runs .standbyLost s fun t =>
    t.reg Reg.TWIN_PEER_HEALTH = 0 ∧ t.twin.peerFrame = none ∧ t.faultQueued Code.TWIN_STANDBY_LOST s.peerNode) ∧
  -- STANDBY_LOST
  (∀ (s : State), s.twin.peerFrame = none → exec .standbyLost s = .next s) ∧
  -- TWIN_UNDEC_CLR
  (∀ (ag : Agent) (s : State), s.canWrite ag Reg.TWIN_CMD → Runs (.twinUndecClr ag) s fun t =>
    t.bit Reg.TWIN_STATUS 9 = false ∧ (∀ p, p < 4 → t.minSrc.get 0 p = s.minSrc.get 0 p &&& 1) ∧ (∀ p, p < 4 → t.bit (Reg.OCC_STATUS + State.pOfs p) 2 = decide (s.minSrc.get 0 p &&& 1 ≠ 0))) ∧
  -- SELFTEST_STEP
  (∀ (k : Fin 3) (n : Fin 65536) (s : State), s.twState = 3 → s.faultRoom → Runs (.selftestStep k n false) s fun t =>
    k.val * 65536 + n.val ∈ t.twin.failed ∧ t.faultQueued Code.TWIN_SELFTEST_FAIL 0) ∧
  -- SELFTEST_STEP
  (∀ (k : Fin 3) (n : Fin 65536) (s : State), s.twState = 3 → Runs (.selftestStep k n true) s fun t =>
    k.val * 65536 + n.val ∉ t.twin.failed ∧ t.twin.tests = s.twin.tests + 1 ∧ t.regs = s.regs) ∧
  -- SELFTEST_STEP
  (∀ (k : Fin 3) (n : Fin 65536) (b : Bool) (s : State), s.twState ≠ 3 → exec (.selftestStep k n b) s = .next s)

/-- Almanac commands queue with their agent's operands and end with the result their case has; an append adds its record to flash and index. -/
def Obligations.AlmanacCommandsQueueAndEnd : Prop :=
  -- ALM_APPEND
  (∀ (ag : Agent) (s : State), s.canWrite ag Reg.ALM_CMD → wfld (s.areg (agIdx ag) Reg.ALM_RES) 4 4 = 0 → Runs (.almAppend ag) s fun t =>
    t.alm = { s.alm with queue := s.alm.queue ++ [{ who := agIdx ag, op := 1, key := s.areg (agIdx ag) Reg.ALM_KEY, addr := (s.areg64 (agIdx ag) Reg.ALM_ADDR_LO).toNat % 2 ^ 40, len := s.afld (agIdx ag) Reg.ALM_LEN 16 0, del := s.afld (agIdx ag) Reg.ALM_LEN 23 23 == 1 }] } ∧ wfld (t.areg (agIdx ag) Reg.ALM_RES) 4 4 = 1 ∧ t.regs = s.regs) ∧
  -- ALM_APPEND
  (∀ (ag : Agent) (s : State), s.canWrite ag Reg.ALM_CMD → wfld (s.areg (agIdx ag) Reg.ALM_RES) 4 4 = 1 → exec (.almAppend ag) s = .next (s.raise Code.ALM_CFG_ERR 0)) ∧
  -- ALM_READ
  (∀ (ag : Agent) (s : State), s.canWrite ag Reg.ALM_CMD → wfld (s.areg (agIdx ag) Reg.ALM_RES) 4 4 = 0 → Runs (.almRead ag) s fun t =>
    t.alm = { s.alm with queue := s.alm.queue ++ [{ who := agIdx ag, op := 2, key := s.areg (agIdx ag) Reg.ALM_KEY, addr := (s.areg64 (agIdx ag) Reg.ALM_ADDR_LO).toNat % 2 ^ 40, len := s.afld (agIdx ag) Reg.ALM_LEN 16 0, del := s.afld (agIdx ag) Reg.ALM_LEN 23 23 == 1 }] } ∧ wfld (t.areg (agIdx ag) Reg.ALM_RES) 4 4 = 1 ∧ t.regs = s.regs) ∧
  -- ALM_COMPACT
  (∀ (ag : Agent) (s : State), s.canWrite ag Reg.ALM_CMD → wfld (s.areg (agIdx ag) Reg.ALM_RES) 4 4 = 0 → Runs (.almCompact ag) s fun t =>
    t.alm.queue.map AlmCmd.op = s.alm.queue.map AlmCmd.op ++ [3] ∧ wfld (t.areg (agIdx ag) Reg.ALM_RES) 4 4 = 1 ∧ t.regs = s.regs) ∧
  -- ALM_SCRUB
  (∀ (ag : Agent) (s : State), s.canWrite ag Reg.ALM_CMD → wfld (s.areg (agIdx ag) Reg.ALM_RES) 4 4 = 0 → Runs (.almScrub ag) s fun t =>
    t.alm.queue.map AlmCmd.op = s.alm.queue.map AlmCmd.op ++ [4] ∧ wfld (t.areg (agIdx ag) Reg.ALM_RES) 4 4 = 1 ∧ t.regs = s.regs) ∧
  -- ALM_BADOP
  (∀ (ag : Agent) (k : Fin 4) (s : State), s.canWrite ag Reg.ALM_CMD → wfld (s.areg (agIdx ag) Reg.ALM_RES) 4 4 = 0 → Runs (.almBadop ag k) s fun t =>
    (t.alm.queue.map AlmCmd.op = s.alm.queue.map AlmCmd.op ++ [if k.val = 0 then 0 else 4 + k.val]) ∧ wfld (t.areg (agIdx ag) Reg.ALM_RES) 4 4 = 1 ∧ t.regs = s.regs) ∧
  -- ALM_COMMAND_DONE
  (∀ (fs : List FlashFail) (s : State), s.alm.queue = [] → exec (.almCommandDone fs) s = .next s) ∧
  -- ALM_COMMAND_DONE
  (∀ (fs : List FlashFail) (a : AlmCmd) (q : List AlmCmd) (s : State), s.alm.queue = a :: q → a.who < 8 → s.almState < 2 → Runs (.almCommandDone fs) s fun t =>
    t.areg a.who Reg.ALM_RES = 6 ∧ t.alm = { s.alm with queue := q } ∧ t.regs = s.regs) ∧
  -- ALM_COMMAND_DONE
  (∀ (fs : List FlashFail) (a : AlmCmd) (q : List AlmCmd) (s : State), s.alm.queue = a :: q → a.who < 8 → 2 ≤ s.almState → 
    a.op = 2 → almAddrOk a.addr a.len = true → (0 < wfld a.key 31 24 ∧ wfld a.key 31 24 < 8) → s.almFind a.key = none → Runs (.almCommandDone fs) s fun t =>
    t.areg a.who Reg.ALM_RES = 1 ∧ t.alm = { s.alm with queue := q } ∧ t.mem = s.mem) ∧
  -- ALM_COMMAND_DONE
  (∀ (fs : List FlashFail) (a : AlmCmd) (q : List AlmCmd) (y : AlmRec) (s : State), s.alm.queue = a :: q → a.who < 8 → 
    2 ≤ s.almState → a.op = 2 → almAddrOk a.addr a.len = true → (0 < wfld a.key 31 24 ∧ wfld a.key 31 24 < 8) → 
    s.almFind a.key = some y → a.len < y.len → Runs (.almCommandDone fs) s fun t =>
    t.areg a.who Reg.ALM_RES = 7 ∧ t.areg a.who Reg.ALM_RLEN = BitVec.ofNat 32 y.len ∧ t.alm = { s.alm with queue := q } ∧ t.mem = s.mem) ∧
  -- ALM_COMMAND_DONE
  (∀ (fs : List FlashFail) (a : AlmCmd) (q : List AlmCmd) (y : AlmRec) (s : State), s.alm.queue = a :: q → a.who < 8 → 
    2 ≤ s.almState → a.op = 2 → almAddrOk a.addr a.len = true → (0 < wfld a.key 31 24 ∧ wfld a.key 31 24 < 8) → 
    s.almFind a.key = some y → y.len ≤ a.len → Runs (.almCommandDone fs) s fun t =>
    t.areg a.who Reg.ALM_RES = 0 ∧ t.areg a.who Reg.ALM_RLEN = BitVec.ofNat 32 y.len ∧ t.areg a.who Reg.ALM_RSEQ = y.seq ∧ t.bytes a.addr y.len = s.recPayload y ∧ t.reg Reg.ALM_READ_CNT = s.reg Reg.ALM_READ_CNT + 1 ∧ t.alm = { s.alm with queue := q } ∧ (∀ x, x < a.addr ∨ a.addr + y.len ≤ x → t.byte x = s.byte x)) ∧
  -- ALM_COMMAND_DONE
  (∀ (fs : List FlashFail) (a : AlmCmd) (q : List AlmCmd) (s : State), s.alm.queue = a :: q → a.who < 8 → 2 ≤ s.almState → 
    a.op = 1 → 
    (spaceOk a.who a.key = false ∨ 65536 < a.len ∨ (a.del = true ∧ a.len ≠ 0) ∨ (a.del = false ∧ almAddrOk a.addr a.len = false)) → 
    Runs (.almCommandDone fs) s fun t =>
    t.areg a.who Reg.ALM_RES = 3 ∧ t.alm = { s.alm with queue := q } ∧ t.flash = s.flash) ∧
  -- ALM_COMMAND_DONE
  (∀ (fs : List FlashFail) (a : AlmCmd) (q : List AlmCmd) (s : State), s.alm.queue = a :: q → a.who < 8 → 2 ≤ s.almState → 
    a.op = 1 → (spaceOk a.who a.key = true ∧ a.len ≤ 65536) → 
    if a.del = true then a.len = 0 else almAddrOk a.addr a.len = true → s.almPf = true → Runs (.almCommandDone fs) s fun t =>
    t.areg a.who Reg.ALM_RES = 4 ∧ t.reg Reg.ALM_PF_ABORT_CNT = s.reg Reg.ALM_PF_ABORT_CNT + 1 ∧ t.alm = { s.alm with queue := q } ∧ t.flash = s.flash) ∧
  -- ALM_COMMAND_DONE
  (∀ (a : AlmCmd) (q : List AlmCmd) (s : State), s.alm.queue = a :: q → a.who < 8 → 2 ≤ s.almState → a.op = 1 → 
    (spaceOk a.who a.key = true ∧ a.len ≤ 65536) → if a.del = true then a.len = 0 else almAddrOk a.addr a.len = true → 
    s.almPf = false → s.almKeys < 32768 → s.fits a.len = true → s.hasUe a.addr a.len = false → s.alm.retired = [] → 
    s.bit Reg.ALM_CTRL 2 = false → 12 ≤ s.almLog → (s.alm.blocks.Nodup ∧ (s.alm.blocks.all fun b => b.isSome) = true) → Runs (.almCommandDone []) s fun t =>
    t.areg a.who Reg.ALM_RES = 0 ∧ t.areg a.who Reg.ALM_RSEQ = s.reg Reg.ALM_SEQ ∧ t.reg Reg.ALM_SEQ = s.reg Reg.ALM_SEQ + 1 ∧ t.reg Reg.ALM_APPEND_CNT = s.reg Reg.ALM_APPEND_CNT + 1 ∧ t.reg Reg.ALM_APPEND_PT = s.reg Reg.ALM_APPEND_PT + BitVec.ofNat 32 (recSpan a.len) ∧ (t.almFind a.key = if a.del = true then none else some ⟨(s.reg Reg.ALM_APPEND_PT).toNat, s.reg Reg.ALM_SEQ, a.len⟩) ∧ t.alm.queue = q ∧ t.mem = s.mem ∧ (∀ i x, i < a.len → s.jAddr s.alm.blocks ((s.reg Reg.ALM_APPEND_PT).toNat + 16 + i) = some x → t.flashByte x = s.flashByte x &&& s.byte (a.addr + i))) ∧
  -- ALM_COMMAND_DONE
  (∀ (fs : List FlashFail) (a : AlmCmd) (q : List AlmCmd) (s : State), s.alm.queue = a :: q → a.who < 8 → 2 ≤ s.almState → 
    a.op = 4 → Runs (.almCommandDone fs) s fun t =>
    t.areg a.who Reg.ALM_RES = 0 ∧ t.alm = { s.alm with queue := q, scrubNow := true } ∧ t.regs = s.regs) ∧
  -- ALM_COMMAND_DONE
  (∀ (fs : List FlashFail) (a : AlmCmd) (q : List AlmCmd) (s : State), s.alm.queue = a :: q → a.who < 8 → 2 ≤ s.almState → 
    (a.op = 0 ∨ 4 < a.op) → Runs (.almCommandDone fs) s fun t =>
    t.areg a.who Reg.ALM_RES = 3 ∧ t.alm = { s.alm with queue := q } ∧ t.regs = s.regs)

/-- The mailbox poll, the replay, a compaction's commit, PWRFAIL and the scrub pass act on the Almanac as the spec says. -/
def Obligations.AlmanacReplaysCompactsAndKeepsPowerLoss : Prop :=
  -- MAILBOX_POLL
  (∀ (s : State), s.mono < s.alm.pollAt + 1000000 → exec .mailboxPoll s = .next s) ∧
  -- MAILBOX_POLL
  (∀ (s : State), s.alm.pollAt + 1000000 ≤ s.mono → regionOf s.mboxBase = .supUser → s.mboxBase + 512 ≤ 0x1300400000 → 
    (s.mode ≠ 0 ∧ s.mode ≠ 0xA) → Runs .mailboxPoll s fun t =>
    (t.alm = { s.alm with pollAt := s.mono, queue := s.alm.queue ++ (List.range 8).filterMap fun i => if wfld (s.memWord (s.mboxBase + 64 * i)) 1 0 = 1 then some { who := 8 + i, op := if wfld (s.memWord (s.mboxBase + 64 * i)) 7 4 = 1 ∨ wfld (s.memWord (s.mboxBase + 64 * i)) 7 4 = 2 then wfld (s.memWord (s.mboxBase + 64 * i)) 7 4 else 0, key := s.memWord (s.mboxBase + 64 * i + 4), addr := (s.memWord (s.mboxBase + 64 * i + 8)).toNat + wfld (s.memWord (s.mboxBase + 64 * i + 12)) 7 0 * 2 ^ 32, len := wfld (s.memWord (s.mboxBase + 64 * i + 16)) 16 0, del := wfld (s.memWord (s.mboxBase + 64 * i + 16)) 23 23 == 1 } else none }) ∧ (∀ i, i < 8 → t.memWord (s.mboxBase + 64 * i) = if wfld (s.memWord (s.mboxBase + 64 * i)) 1 0 = 1 then wset (s.memWord (s.mboxBase + 64 * i)) 1 0 2 else s.memWord (s.mboxBase + 64 * i))) ∧
  -- ALM_REPLAY
  (∀ (ag : Agent) (v : Word) (fs : List FlashFail) (g : Word) (s : State), s.canWrite ag Reg.ALM_CTRL → wfld v 0 0 = 1 → 
    s.bit Reg.ALM_CTRL 0 = false → s.almGeomOk = true → s.activeGen (List.range s.almNblk) = some g → Runs (.almReplay ag v [] fs) s fun t =>
    t.bit Reg.ALM_CTRL 0 = true ∧ t.fld Reg.ALM_CTRL 2 1 = wfld v 2 1 ∧ t.almState = 1 ∧ t.reg Reg.ALM_RGEN = g ∧ t.reg Reg.ALM_KEYS = 0 ∧ t.alm.blocks = s.regionBlocks (List.range s.almNblk) g ∧ t.alm.index = {}) ∧
  -- ALM_REPLAY
  (∀ (ag : Agent) (v : Word) (un : List Nat) (fs : List FlashFail) (s : State), s.canWrite ag Reg.ALM_CTRL → 
    wfld v 0 0 = 1 → s.bit Reg.ALM_CTRL 0 = false → s.almGeomOk = true → 
    s.activeGen ((List.range s.almNblk).filter fun b => !un.contains b) = none → s.faultRoom → Runs (.almReplay ag v un fs) s fun t =>
    t.bit Reg.ALM_CTRL 0 = true ∧ t.almState = 1 ∧ t.faultQueued Code.ALM_NO_JOURNAL 0) ∧
  -- ALM_REPLAY
  (∀ (ag : Agent) (v : Word) (un : List Nat) (fs : List FlashFail) (s : State), s.canWrite ag Reg.ALM_CTRL → 
    wfld v 0 0 = 1 → s.bit Reg.ALM_CTRL 0 = false → s.almGeomOk = false → s.faultRoom → Runs (.almReplay ag v un fs) s fun t =>
    t.bit Reg.ALM_CTRL 0 = false ∧ t.alm = s.alm ∧ t.faultQueued Code.ALM_CFG_ERR 0) ∧
  -- ALM_REPLAY
  (∀ (ag : Agent) (v : Word) (un : List Nat) (fs : List FlashFail) (s : State), s.canWrite ag Reg.ALM_CTRL → 
    (wfld v 0 0 = 0 ∨ s.bit Reg.ALM_CTRL 0 = true) → exec (.almReplay ag v un fs) s = .next s) ∧
  -- REPLAY_DONE
  (∀ (fs : List FlashFail) (pl : List ProgPlace) (s : State), s.almState ≠ 1 → exec (.replayDone fs pl) s = .next s) ∧
  -- REPLAY_DONE
  (∀ (fs : List FlashFail) (pl : List ProgPlace) (s : State), s.almState = 1 → s.mode ≠ 1 → s.alm.retired = [] → 
    s.bit Reg.ALM_CTRL 2 = false → (s.walkAll.torn = [] ∧ s.walkAll.damage = 0) → s.faultRoom → Runs (.replayDone fs pl) s fun t =>
    t.almState = 2 ∧ t.reg Reg.ALM_APPEND_PT = BitVec.ofNat 32 (upTo 16 s.lastUsed) ∧ t.reg Reg.ALM_SEQ = s.walkAll.last.getD 0 + 1 ∧ t.faultQueued Code.ALM_REPLAY_DONE 0 ∧ t.flash = s.flash) ∧
  -- COMPACTION_COMMIT
  (∀ (fs : List FlashFail) (s : State), (s.alm.target = none ∨ s.almState ≠ 3) → exec (.compactionCommit fs) s = .next s) ∧
  -- COMPACTION_COMMIT
  (∀ (bs : List Nat) (p : Nat) (m : SMap (Option AlmRec)) (s : State), s.alm.target = some bs → s.almState = 3 → 
    (s.copyLive (bs.map some) [] s.liveRecs 0 {}).1 = some (p, m) → s.alm.retired = [] → s.faultRoom → Runs (.compactionCommit []) s fun t =>
    t.almState = 2 ∧ t.alm.blocks = bs.map some ∧ t.alm.index = m ∧ t.alm.target = none ∧ t.reg Reg.ALM_RGEN = s.reg Reg.ALM_RGEN + 1 ∧ t.reg Reg.ALM_APPEND_PT = BitVec.ofNat 32 p ∧ t.reg Reg.ALM_COMPACT_CNT = s.reg Reg.ALM_COMPACT_CNT + 1 ∧ t.faultQueued Code.ALM_COMPACTED 0) ∧
  -- PWRFAIL_ASSERT
  (∀ (left : Option Nat) (s : State), s.almPf = false → s.faultRoom → Runs (.pwrfailAssert left) s fun t =>
    t.almPf = true ∧ t.almState ≠ 3 ∧ t.alm.pfAt = s.mono ∧ t.faultQueued Code.ALM_PWRFAIL 0) ∧
  -- PWRFAIL_ASSERT
  (∀ (s : State), s.almPf = true → s.almState ≠ 3 → exec (.pwrfailAssert none) s = .next (s.setAlm { s.alm with pfAt := s.mono })) ∧
  -- PWRFAIL_RELEASE
  (∀ (w : DWord) (s : State), s.almPf = true → s.alm.pfAt ≤ w.toNat → 
    w.toNat + s.fld Reg.ALM_PF 31 16 * 1000000 ≤ s.mono → exec (.pwrfailRelease w) s = .next (s.setBit Reg.ALM_STATUS 3 false)) ∧
  -- PWRFAIL_RELEASE
  (
    ∀ (w : DWord) (s : State), (s.almPf = false ∨ w.toNat < s.alm.pfAt ∨ s.mono < w.toNat + s.fld Reg.ALM_PF 31 16 * 1000000) → 
    exec (.pwrfailRelease w) s = .next s) ∧
  -- ALM_SCRUB_TICK
  (
    ∀ (ch : List (Nat × Byte)) (so : List Word) (fs : List FlashFail) (s : State), (s.bit Reg.ALM_CTRL 1 = false ∨ s.almState < 2 ∨ (s.alm.scrubNow = false ∧ s.mono < s.alm.scrubAt + max 1 (s.fld Reg.ALM_SCRUB 7 0) * 3600000000000)) → 
    exec (.almScrubTick ch so fs) s = .next s) ∧
  -- ALM_SCRUB_TICK
  (∀ (so : List Word) (fs : List FlashFail) (s : State), s.bit Reg.ALM_CTRL 1 = true → 2 ≤ s.almState → 
    (s.alm.scrubNow = true ∨ s.alm.scrubAt + max 1 (s.fld Reg.ALM_SCRUB 7 0) * 3600000000000 ≤ s.mono) → Runs (.almScrubTick [] so fs) s fun t =>
    t.alm.scrubAt = s.mono ∧ t.alm.scrubNow = false ∧ t.mem = s.mem) ∧
  -- ALM_SCRUB_TICK
  (∀ (so : List Word) (fs : List FlashFail) (key : Nat) (y : AlmRec) (s : State), s.bit Reg.ALM_CTRL 1 = true → 
    2 ≤ s.almState → s.alm.scrubNow = true → s.liveRecs = [(key, y)] → s.recPasses key y = false → s.faultRoom → Runs (.almScrubTick [] so fs) s fun t =>
    t.reg Reg.ALM_LOST_CNT = s.reg Reg.ALM_LOST_CNT + 1 ∧ t.faultQueued Code.ALM_RECORD_LOST 0) ∧
  -- ALM_SCRUB_TICK
  (∀ (so : List Word) (key : Nat) (y : AlmRec) (s : State), s.bit Reg.ALM_CTRL 1 = true → 2 ≤ s.almState → 
    s.alm.scrubNow = true → s.liveRecs = [(key, y)] → s.recPasses key y = true → 
    so.contains (BitVec.ofNat 32 key) = true → s.almPf = false → s.fits y.len = true → s.faultRoom → Runs (.almScrubTick [] so []) s fun t =>
    t.reg Reg.ALM_REFRESH_CNT = s.reg Reg.ALM_REFRESH_CNT + 1 ∧ t.faultQueued Code.ALM_REFRESHED 0)

/-- Temperature samples, broken sensors, limits, the throttle and compensation steps act as the Seeing monitor's rules say. -/
def Obligations.SensorsLimitsAndThrottleFollowSamples : Prop :=
  -- THERM_SAMPLE
  (∀ (cs : List Word) (s : State), (s.mode = 0 ∨ s.mono < s.therm.sampleAt + s.samplePeriod) → exec (.thermSample cs) s = .next s) ∧
  -- THERM_SAMPLE
  (∀ (cs : List Word) (s : State), s.mode ≠ 0 → s.therm.sampleAt + s.samplePeriod ≤ s.mono → Runs (.thermSample cs) s fun t =>
    (∀ n, n < 64 → s.broken n = false → t.sensorT n = (s.sensorRaws cs).1.getD n 0) ∧ (∀ n, n < 64 → sext 16 (wfld (s.otpRead (0x100 + 4 * n)) 31 16) ≠ 0 → (s.sensorRaws cs).1.getD n 0 = clampI (-32768) 32767 (400 + sdiv (8192 * (((cs.getD n 0).toNat : Int) - wfld (s.otpRead (0x100 + 4 * n)) 15 0) + sext 16 (wfld (s.otpRead (0x100 + 4 * n)) 31 16)) (2 * sext 16 (wfld (s.otpRead (0x100 + 4 * n)) 31 16)) + s.calUserI (0x40 + n))) ∧ (∀ n v, n < 64 → s.broken n = true → s.nearMedian (s.sensorRaws cs).1 n = some v → t.sensorT n = v) ∧ (∀ n m, n < 64 → s.broken n = false → s.nearMedian (s.sensorRaws cs).1 n = some m → t.fld (Reg.THERM_S + 4 * n) 31 24 = if (s.fld Reg.THERM_CTRL 31 24 : Int) < ((s.sensorRaws cs).1.getD n 0 - m).natAbs then min 255 (s.fld (Reg.THERM_S + 4 * n) 31 24 + 1) else 0) ∧ t.reg Reg.THERM_TMAX = BitVec.ofNat 32 (unsigned 16 t.hottest.1 + t.hottest.2 * 2 ^ 16) ∧ sext 16 (t.fld Reg.THERM_PEAK 15 0) = max (sext 16 (s.fld Reg.THERM_PEAK 15 0)) t.hottest.1 ∧ t.therm.last = some t.hottest.1 ∧ t.reg Reg.THERM_SAMPLE_CNT = s.reg Reg.THERM_SAMPLE_CNT + 1 ∧ t.therm.sampleAt = s.mono) ∧
  -- SENSOR_BROKEN
  (∀ (n : Fin 64) (s : State), max 1 (s.fld Reg.THERM_CTRL 23 16) ≤ s.fld (Reg.THERM_S + 4 * n.val) 31 24 → 
    s.broken n.val = false → s.faultRoom → Runs (.sensorBroken n) s fun t =>
    t.broken n.val = true ∧ t.bit (Reg.THERM_S + 4 * n.val) 16 = true ∧ t.fld Reg.THERM_STATUS 22 16 = (s.fld Reg.THERM_STATUS 22 16 + 1) % 128 ∧ t.faultQueued Code.THERM_SENSOR_BROKEN n.val) ∧
  -- SENSOR_BROKEN
  (
    ∀ (n : Fin 64) (s : State), (s.broken n.val = true ∨ s.fld (Reg.THERM_S + 4 * n.val) 31 24 < max 1 (s.fld Reg.THERM_CTRL 23 16)) → 
    exec (.sensorBroken n) s = .next s) ∧
  -- THERM_LIMIT_CHANGE
  (∀ (k : Fin 4) (s : State), s.thermDwell k.val ≤ s.therm.hot.getD k.val 0 → s.limActive k.val = false → 
    s.faultQ.length + 16 < 256 → Runs .thermLimitChange s fun t =>
    t.limActive k.val = true ∧ t.fld Reg.THERM_STATUS 2 0 = t.thermLevel ∧ t.faultQueued ([Code.THERM_THERM_WARN, Code.THERM_THERM_THROTTLE, Code.THERM_THERM_CRIT, Code.THERM_THERM_TRIP].getD k.val 0) 0 ∧ (∀ p, p < 4 → k.val = 3 → s.bit (Reg.PLATE_CTRL + p * 0x4000) 0 = true → t.bit (Reg.PLATE_CTRL + p * 0x4000) 12 = true)) ∧
  -- THERM_LIMIT_CHANGE
  (∀ (k : Fin 4) (s : State), s.therm.hot.getD k.val 0 < s.thermDwell k.val → 
    s.thermDwell k.val ≤ s.therm.cool.getD k.val 0 → k.val ≠ 1 → Runs .thermLimitChange s fun t =>
    t.limActive k.val = false ∧ t.fld Reg.THERM_STATUS 2 0 = t.thermLevel) ∧
  -- THERM_LIMIT_CHANGE
  (∀ (s : State), s.fld Reg.THERM_STATUS 2 0 ≠ 0 → 
    (∀ k : Fin 4, s.therm.hot.getD k.val 0 < s.thermDwell k.val ∧ s.thermDwell k.val ≤ s.therm.cool.getD k.val 0) → 
    s.fld Reg.THERM_STATUS 22 16 ≤ s.fld Reg.THERM_CTRL 15 8 → s.faultRoom → Runs .thermLimitChange s fun t =>
    t.fld Reg.THERM_STATUS 2 0 = 0 ∧ t.faultQueued Code.THERM_THERM_CLEAR 0) ∧
  -- THROTTLE_STEP_CHANGE
  (∀ (s : State), (s.limActive 2 = true ∨ s.limActive 3 = true) → Runs .throttleStepChange s fun t =>
    t.fld Reg.THERM_STATUS 7 4 = 15 ∧ t.bit Reg.THERM_STATUS 8 = true ∧ t.bit Reg.THERM_STATUS 9 = true ∧ t.bit Reg.TILE_SHED_STATUS 0 = true) ∧
  -- THROTTLE_STEP_CHANGE
  (∀ (s : State), (s.limActive 1 = true ∧ s.limActive 2 = false ∧ s.limActive 3 = false) → 
    s.bit Reg.THERM_STATUS 8 = true → s.therm.shedAt + s.fld Reg.THERM_STEP 31 24 * 1000000 ≤ s.mono → 
    s.therm.changeAt + max 1 (s.fld Reg.THERM_STEP 7 0) * 1000000 ≤ s.mono → s.thermLim 1 ≤ s.therm.last.getD 0 → 
    s.fld Reg.THERM_STATUS 7 4 < s.fld Reg.THERM_STEP 19 16 → s.fld Reg.THERM_STEP 23 20 ≤ s.fld Reg.THERM_STATUS 7 4 → Runs .throttleStepChange s fun t =>
    t.fld Reg.THERM_STATUS 7 4 = s.fld Reg.THERM_STATUS 7 4 + 1 ∧ t.bit Reg.THERM_STATUS 8 = true ∧ t.bit Reg.THERM_STATUS 9 = true ∧ t.therm.changeAt = s.mono) ∧
  -- THROTTLE_STEP_CHANGE
  (∀ (s : State), (s.limActive 1 = false ∧ s.limActive 2 = false ∧ s.limActive 3 = false) → 
    s.fld Reg.THERM_STEP 23 20 < s.fld Reg.THERM_STATUS 7 4 → 
    max s.therm.changeAt s.therm.inactiveAt + max 1 (s.fld Reg.THERM_STEP 15 8) * 1000000 ≤ s.mono → Runs .throttleStepChange s fun t =>
    t.fld Reg.THERM_STATUS 7 4 = s.fld Reg.THERM_STATUS 7 4 - 1 ∧ t.bit Reg.THERM_STATUS 8 = (s.bit Reg.THERM_STATUS 8 && decide (s.fld Reg.THERM_STEP 23 20 + 1 < s.fld Reg.THERM_STATUS 7 4)) ∧ t.therm.changeAt = s.mono) ∧
  -- THERM_LIM_WRITE
  (∀ (ag : Agent) (k : Fin 4) (v : Word) (s : State), s.canWrite ag (Reg.THERM_LIM0 + 4 * k.val) → 
    s.bit Reg.THERM_LOCK 0 = true → exec (.thermLimWrite ag k v) s = .next s) ∧
  -- THERM_LIM_WRITE
  (∀ (ag : Agent) (k : Fin 4) (v : Word) (u : Fin 4 → Int) (s : State), s.canWrite ag (Reg.THERM_LIM0 + 4 * k.val) → 
    s.bit Reg.THERM_LOCK 0 = false → (∀ j : Fin 4, u j = if j = k then sext 16 (wfld v 15 0) else s.thermLim j.val) → 
    (u 0 < u 1 ∧ u 1 < u 2 ∧ u 2 < u 3 ∧ u 3 ≤ 2000) → Runs (.thermLimWrite ag k v) s fun t =>
    t.reg (Reg.THERM_LIM0 + 4 * k.val) = v ∧ t.therm = { s.therm with hot := s.therm.hot.set k.val 0, cool := s.therm.cool.set k.val 0 } ∧ t.faultQ = s.faultQ) ∧
  -- THERM_LIM_WRITE
  (∀ (ag : Agent) (k : Fin 4) (v : Word) (u : Fin 4 → Int) (s : State), s.canWrite ag (Reg.THERM_LIM0 + 4 * k.val) → 
    s.bit Reg.THERM_LOCK 0 = false → (∀ j : Fin 4, u j = if j = k then sext 16 (wfld v 15 0) else s.thermLim j.val) → 
    (¬(u 0 < u 1 ∧ u 1 < u 2 ∧ u 2 < u 3 ∧ u 3 ≤ 2000)) → s.faultRoom → Runs (.thermLimWrite ag k v) s fun t =>
    t.regs.get 0 (Reg.THERM_LIM0 + 4 * k.val) = s.regs.get 0 (Reg.THERM_LIM0 + 4 * k.val) ∧ t.therm = s.therm ∧ t.faultQueued Code.THERM_CFG_ERR 0) ∧
  -- SENSOR_CLR
  (∀ (ag : Agent) (s : State), s.canWrite ag Reg.THERM_CMD → Runs (.sensorClr ag) s fun t =>
    (∀ n, n < 64 → t.broken n = false ∧ t.fld (Reg.THERM_S + 4 * n) 31 16 = 0 ∧ t.sensorT n = s.sensorT n) ∧ t.fld Reg.THERM_STATUS 22 16 = 0 ∧ t.faultQ = s.faultQ) ∧
  -- PEAK_CLR
  (∀ (ag : Agent) (s : State), s.canWrite ag Reg.THERM_CMD → exec (.peakClr ag) s = .next (s.setFld Reg.THERM_PEAK 15 0 (s.fld Reg.THERM_TMAX 15 0))) ∧
  -- COMP_STEP
  (∀ (s : State), s.mono < s.cal.stepAt + 1000000 → exec .compStep s = .next s) ∧
  -- COMP_STEP
  (∀ (s : State), s.cal.stepAt + 1000000 ≤ s.mono → Runs .compStep s fun t =>
    (∀ id, id ∈ [0, 1, 0x180, 0x181, 0x182, 0x183] → t.cal.applied.get 0 id = if s.cal.applied.get 0 id < s.calEffective id then s.cal.applied.get 0 id + 1 else if s.calEffective id < s.cal.applied.get 0 id then s.cal.applied.get 0 id - 1 else s.cal.applied.get 0 id) ∧ t.regs = s.regs ∧ t.cal.stepAt = s.mono)

/-- Calibration targets queue in order, and a run ends OK when two readings agree, FAULT after three attempts without, or deferred. -/
def Obligations.CalibrationRunsByRepeatAndAgree : Prop :=
  -- CAL_RUN
  (∀ (ag : Agent) (s : State), s.canWrite ag Reg.CAL_CMD → calKind (s.afld (agIdx ag) Reg.CAL_SEL 15 0) < 2 → Runs (.calRun ag) s fun t =>
    t.cal = { s.cal with tstat := s.cal.tstat.put 0 (s.afld (agIdx ag) Reg.CAL_SEL 15 0) 5 } ∧ t.regs = s.regs) ∧
  -- CAL_RUN
  (∀ (ag : Agent) (s : State), s.canWrite ag Reg.CAL_CMD → 2 ≤ calKind (s.afld (agIdx ag) Reg.CAL_SEL 15 0) → 
    (s.cal.running = none ∧ s.cal.queue = [] ∧ s.cal.deferred = []) → exec (.calRun ag) s = .next { s with cal := { s.cal with running := some (s.afld (agIdx ag) Reg.CAL_SEL 15 0) } }) ∧
  -- CAL_RUN
  (∀ (ag : Agent) (y : Nat) (s : State), s.canWrite ag Reg.CAL_CMD → 2 ≤ calKind (s.afld (agIdx ag) Reg.CAL_SEL 15 0) → 
    s.cal.running = some y → y ≠ s.afld (agIdx ag) Reg.CAL_SEL 15 0 → exec (.calRun ag) s = .next { s with cal := { s.cal with queue := insTarget (s.afld (agIdx ag) Reg.CAL_SEL 15 0) s.cal.queue } }) ∧
  -- CAL_ALL
  (∀ (ag : Agent) (s : State), s.canWrite ag Reg.CAL_CMD → 
    (s.cal.running = none ∧ s.cal.queue = [] ∧ s.cal.deferred = []) → Runs (.calAll ag) s fun t =>
    t.cal.running = some 0x10 ∧ t.cal.queue.length = 164 ∧ (∀ x, x ∈ 0xA0 :: selectTargets → x ≠ 0x10 → x ∈ t.cal.queue) ∧ t.regs = s.regs) ∧
  -- CAL_RUN_DONE
  (∀ (rs : List (List Int)) (s : State), (s.cal.running = none ∧ s.cal.queue = [] ∧ s.cal.deferred = []) → exec (.calRunDone rs) s = .next s) ∧
  -- CAL_RUN_DONE
  (∀ (rs : List (List Int)) (id : Nat) (s : State), s.cal.running = some id → s.calCan id = true → 
    calAgree id (calRunRes id (rs.getD 0 [])) (calRunRes id (rs.getD 1 [])) = true → Runs (.calRunDone rs) s fun t =>
    t.cal.tstat.get 0 id = 17 ∧ t.cal.count.get 0 id = s.cal.count.get 0 id + 1 ∧ t.reg Reg.CAL_RUN_CNT = s.reg Reg.CAL_RUN_CNT + 2 ∧ (0x30 ≤ id ∧ id ≠ 0xA0 → t.cal.sel.get 0 id = (calRunRes id (rs.getD 1 [])).res.getD 0) ∧ (0x100 ≤ id ∧ id < 0x144 → t.fld (Reg.SERDES_TERM + 0x800 * (id - 0x100)) 4 0 = (calRunRes id (rs.getD 1 [])).res.getD 0)) ∧
  -- CAL_RUN_DONE
  (∀ (rs : List (List Int)) (id : Nat) (s : State), s.cal.running = some id → s.calCan id = true → 
    (∀ i : Fin 3, calAgree id (calRunRes id (rs.getD (2 * i.val) [])) (calRunRes id (rs.getD (2 * i.val + 1) [])) = false) → 
    s.faultQ.length + 16 < 256 → Runs (.calRunDone rs) s fun t =>
    t.cal.tstat.get 0 id = 51 ∧ t.reg Reg.CAL_RUN_CNT = s.reg Reg.CAL_RUN_CNT + 6 ∧ t.reg Reg.CAL_FAULT_CNT = s.reg Reg.CAL_FAULT_CNT + 1 ∧ t.faultQueued Code.CAL_CAL_FAULT id ∧ t.cal.sel = s.cal.sel) ∧
  -- CAL_RUN_DONE
  (∀ (rs : List (List Int)) (id : Nat) (s : State), s.cal.running = some id → s.calCan id = false → Runs (.calRunDone rs) s fun t =>
    t.cal.tstat.get 0 id = 2 ∧ t.reg Reg.CAL_DEFER_CNT = s.reg Reg.CAL_DEFER_CNT + 1 ∧ id ∈ t.cal.deferred ∧ t.cal.sel = s.cal.sel) ∧
  -- CAL_AUTO_TICK
  (
    ∀ (s : State), (s.bit Reg.CAL_CTRL 0 = false ∨ s.mono < s.cal.autoAt + max 1 (s.fld Reg.CAL_CTRL 31 16) * 60000000000) → 
    exec .calAutoTick s = .next s) ∧
  -- CAL_AUTO_TICK
  (∀ (s : State), s.bit Reg.CAL_CTRL 0 = true → s.cal.autoAt + max 1 (s.fld Reg.CAL_CTRL 31 16) * 60000000000 ≤ s.mono → 
    (s.cal.running = none ∧ s.cal.queue = [] ∧ s.cal.deferred = []) → Runs .calAutoTick s fun t =>
    t.cal.running = some 0x10 ∧ t.cal.queue.length = 99 ∧ (∀ x, x ∈ spanOf 0x10 32 ++ spanOf 0x100 68 → x ≠ 0x10 → x ∈ t.cal.queue) ∧ t.cal.autoAt = s.mono)

/-- Mode requests, resolution, isolation, the failsafe image, the mailbox and DORMANT act as the modes chapter says. -/
def Obligations.ModesResolveFromRequestsAndConditions : Prop :=
  -- SYS_MODE_REQ_WRITE
  (∀ (ag : Agent) (v : Word) (s : State), s.canWrite ag Reg.SYS_MODE_REQ → wfld v 3 0 ∈ [2, 3, 4, 6, 7, 8] → exec (.sysModeReqWrite ag v) s = .next (s.setFld Reg.SYS_MODE_REQ 3 0 (wfld v 3 0))) ∧
  -- SYS_MODE_REQ_WRITE
  (∀ (ag : Agent) (v : Word) (s : State), s.canWrite ag Reg.SYS_MODE_REQ → wfld v 3 0 = 10 → (s.under = 2 ∨ s.under = 8) → 
    (s.twState = 0 ∨ s.twState = 3) → Runs (.sysModeReqWrite ag v) s fun t =>
    t.reg Reg.SYS_MODE_REQ = wset (s.reg Reg.SYS_MODE_REQ) 3 0 10 ∧ t.sys = { s.sys with dormUnder := s.under } ∧ t.faultQ = s.faultQ) ∧
  -- SYS_MODE_REQ_WRITE
  (∀ (ag : Agent) (v : Word) (s : State), s.canWrite ag Reg.SYS_MODE_REQ → wfld v 3 0 ∉ [2, 3, 4, 6, 7, 8] → 
    (¬(wfld v 3 0 = 10 ∧ (s.under = 2 ∨ s.under = 8) ∧ (s.twState = 0 ∨ s.twState = 3))) → exec (.sysModeReqWrite ag v) s = .next (s.raise Code.SYS_CFG_ERR 0)) ∧
  -- MODE_RESOLVE
  (∀ (s : State), s.running = false → exec .modeResolve s = .next s) ∧
  -- MODE_RESOLVE
  (∀ (s : State), s.running = true → Runs .modeResolve s fun t =>
    t.mode = t.resolveMode t.under ∧ (t.reg Reg.SYS_MODE_CNT = if t.under = s.under ∧ t.mode = s.mode then s.reg Reg.SYS_MODE_CNT else s.reg Reg.SYS_MODE_CNT + 1) ∧ t.reg Reg.SYS_MODE_REQ = s.reg Reg.SYS_MODE_REQ) ∧
  -- MODE_RESOLVE
  (∀ (s : State), s.running = true → (s.safeState 0 ≠ 0 ∨ s.bit Reg.SYS_MODE 10 = true) → s.under ≠ 6 → s.faultRoom → Runs .modeResolve s fun t =>
    t.under = 6 ∧ t.bit Reg.SYS_MODE 8 = decide (s.safeState 0 ≠ 0) ∧ t.faultQueued Code.SYS_FAILSAFE_ENTER 0) ∧
  -- MODE_RESOLVE
  (∀ (s : State), s.running = true → (s.safeState 0 = 0 ∧ s.bit Reg.SYS_MODE 10 = false) → s.safeState 1 ≠ 0 → Runs .modeResolve s fun t =>
    t.under = 2 ∧ t.bit Reg.SYS_MODE 9 = true) ∧
  -- MODE_RESOLVE
  (∀ (s : State), s.running = true → (s.safeState 0 = 0 ∧ s.bit Reg.SYS_MODE 10 = false ∧ s.safeState 1 = 0) → 
    (s.bit Reg.SYS_MODE 11 = false ∨ s.bit Reg.SYS_CTRL 0 = false) → s.modeReq ≠ 10 → Runs .modeResolve s fun t =>
    (t.under = if s.modeReq = 3 ∧ s.constrained = true then 9 else s.modeReq) ∧ t.bit Reg.SYS_MODE 12 = (decide (s.modeReq = 3) && s.constrained)) ∧
  -- MODE_RESOLVE
  (∀ (s : State), s.running = true → (s.safeState 0 = 0 ∧ s.bit Reg.SYS_MODE 10 = false ∧ s.safeState 1 = 0) → 
    (s.bit Reg.SYS_MODE 11 = true ∧ s.bit Reg.SYS_CTRL 0 = true) → s.fabricLinks = [] → 
    (s.modeReq = 3 ∨ s.modeReq = 4) → Runs .modeResolve s fun t =>
    t.under = 0xB) ∧
  -- ISOLATION_TIMEOUT
  (∀ (u : Nat) (s : State), s.transit.downAt = some u → s.bit Reg.SYS_CTRL 0 = true → s.transit.everUp = true → 
    u + s.isoNs ≤ s.mono → exec .isolationTimeout s = .next (s.setBit Reg.SYS_MODE 11 true)) ∧
  -- ISOLATION_TIMEOUT
  (
    ∀ (s : State), (s.transit.downAt = none ∨ s.bit Reg.SYS_CTRL 0 = false ∨ s.transit.everUp = false ∨ s.mono < s.transit.downAt.getD 0 + s.isoNs) → 
    exec .isolationTimeout s = .next s) ∧
  -- FS_CLR
  (∀ (ag : Agent) (s : State), s.canWrite ag Reg.SYS_CMD → exec (.fsClr ag) s = .next (s.setBit Reg.SYS_MODE 10 false)) ∧
  -- FS_LOAD
  (∀ (ag : Agent) (s : State), s.canWrite ag Reg.SYS_CMD → inPlate (s.regAddr Reg.SYS_FS_BASE_LO) 0xA200 = true → 
    s.hasUe (s.regAddr Reg.SYS_FS_BASE_LO) 0xA200 = false → 
    (s.memNat (s.regAddr Reg.SYS_FS_BASE_LO) 4 = 0x4B4C5346 ∧ s.memNat (s.regAddr Reg.SYS_FS_BASE_LO + 4) 2 = 1) → 
    s.memNat (s.regAddr Reg.SYS_FS_BASE_LO + 6) 2 ≤ 64 → s.fsRange (s.regAddr Reg.SYS_FS_BASE_LO) = true → exec (.fsLoad ag) s = .next (s.setBit Reg.SYS_FS_STAT 0 true)) ∧
  -- FS_LOAD
  (∀ (ag : Agent) (s : State), s.canWrite ag Reg.SYS_CMD → 
    (inPlate (s.regAddr Reg.SYS_FS_BASE_LO) 0xA200 = false ∨ s.memNat (s.regAddr Reg.SYS_FS_BASE_LO) 4 ≠ 0x4B4C5346) → 
    s.hasUe (s.regAddr Reg.SYS_FS_BASE_LO) 0xA200 = false → s.faultRoom → Runs (.fsLoad ag) s fun t =>
    t.bit Reg.SYS_FS_STAT 0 = false ∧ t.faultQueued Code.SYS_FS_NOLOOK 0 ∧ t.mem = s.mem) ∧
  -- MODE_MAILBOX_POLL
  (∀ (s : State), (s.mono < s.sys.pollAt + 1000000 ∨ s.mode = 0 ∨ s.mode = 0xA) → exec .modeMailboxPoll s = .next s) ∧
  -- MODE_MAILBOX_POLL
  (∀ (s : State), s.sys.pollAt + 1000000 ≤ s.mono → regionOf (s.regAddr Reg.SYS_PMBOX_LO) = .supUser → 
    (s.mode ≠ 0 ∧ s.mode ≠ 0xA) → wfld (s.memWord (s.regAddr Reg.SYS_PMBOX_LO)) 1 0 ≠ 1 → exec .modeMailboxPoll s = .next (s.updSys fun x => { x with pollAt := s.mono })) ∧
  -- MODE_MAILBOX_POLL
  (∀ (s : State), s.sys.pollAt + 1000000 ≤ s.mono → regionOf (s.regAddr Reg.SYS_PMBOX_LO) = .supUser → 
    (s.mode ≠ 0 ∧ s.mode ≠ 0xA) → wfld (s.memWord (s.regAddr Reg.SYS_PMBOX_LO)) 1 0 = 1 → 
    wfld (s.memWord (s.regAddr Reg.SYS_PMBOX_LO)) 7 4 ∈ [2, 3, 4, 6, 7, 8] → Runs .modeMailboxPoll s fun t =>
    t.fld Reg.SYS_MODE_REQ 3 0 = wfld (s.memWord (s.regAddr Reg.SYS_PMBOX_LO)) 7 4 ∧ t.memWord (s.regAddr Reg.SYS_PMBOX_LO) = wset (wset (s.memWord (s.regAddr Reg.SYS_PMBOX_LO)) 11 8 0) 1 0 3) ∧
  -- DORMANT_ENTER
  (
    ∀ (as : List PortId) (rs : List (Fin 65 × List (List Int))) (s : State), (s.running = false ∨ s.modeReq ≠ 10 ∨ (s.under ≠ 2 ∧ s.under ≠ 8)) → 
    exec (.dormantEnter as rs) s = .next s) ∧
  -- DORMANT_ENTER
  (∀ (as : List PortId) (rs : List (Fin 65 × List (List Int))) (s : State), s.running = true → s.modeReq = 10 → 
    (s.under = 2 ∨ s.under = 8) → Runs (.dormantEnter as rs) s fun t =>
    t.mode = 0xA ∧ t.under = 0xA ∧ t.sidState = 0 ∧ t.reg Reg.SYS_MODE_CNT = s.reg Reg.SYS_MODE_CNT + 1 ∧ (∀ p : PortId, s.lState p.val = 5 → p ∈ as → t.lState p.val = 8) ∧ (∀ p : PortId, s.lState p.val ≠ 5 ∨ p ∉ as → t.lState p.val = s.lState p.val)) ∧
  -- DORMANT_WAKE
  (∀ (src : Fin 6) (s : State), (s.mode ≠ 0xA ∨ s.wakeDue src.val = false) → exec (.dormantWake src) s = .next s) ∧
  -- DORMANT_WAKE
  (∀ (src : Fin 6) (s : State), s.mode = 0xA → s.wakeDue src.val = true → s.faultRoom → Runs (.dormantWake src) s fun t =>
    t.reg Reg.SYS_WAKE_CAUSE = BitVec.ofNat 32 (2 ^ src.val) ∧ t.fld Reg.SYS_MODE_REQ 3 0 = 2 ∧ (t.under = if s.safeState 0 ≠ 0 ∨ s.bit Reg.SYS_MODE 10 = true then 6 else 2) ∧ t.faultQueued Code.SYS_WAKE 0 ∧ t.therm.sampleAt = s.mono)

/-- Cold and warm resets keep what they must and clear the rest; boot starts cores 0 and 1; the watchdog, BOOT_DONE and debug unlock. -/
def Obligations.ResetsBootWatchdogAndDebugUnlock : Prop :=
  -- PORST_ASSERT
  (∀ (s : State), Runs .porstAssert s fun t =>
    t.mode = 0 ∧ (t.reg Reg.SYS_RESET_CAUSE = if s.mode = 0 ∧ s.mono = 0 then BitVec.ofNat 32 (min 1 (s.fld Reg.SYS_RESET_CAUSE 2 0)) else 1) ∧ t.mem = [] ∧ t.otp = s.otp ∧ t.flash = s.flash ∧ t.faultQ = [] ∧ t.mono = 0 ∧ (∀ a, a ≠ Reg.SYS_MODE → a ≠ Reg.SYS_RESET_CAUSE → t.reg a = State.reset.reg a)) ∧
  -- SUPPLY_UNDERVOLTAGE
  (∀ (s : State), Runs .supplyUndervoltage s fun t =>
    t.mode = 0 ∧ t.reg Reg.SYS_RESET_CAUSE = 0 ∧ t.mem = [] ∧ t.otp = s.otp ∧ t.flash = s.flash ∧ (∀ a, a ≠ Reg.SYS_MODE → a ≠ Reg.SYS_RESET_CAUSE → t.reg a = State.reset.reg a)) ∧
  -- SYSRST_ASSERT
  (∀ (s : State), Runs .sysrstAssert s fun t =>
    t.mode = 0 ∧ (t.reg Reg.SYS_RESET_CAUSE = if s.mode = 0 ∧ s.mono = 0 then BitVec.ofNat 32 (min 2 (s.fld Reg.SYS_RESET_CAUSE 2 0)) else 2) ∧ t.otp = s.otp ∧ t.flash = s.flash ∧ (∀ a, t.byte a = if a < 0x0700000000 then s.byte a else 0) ∧ (∀ a, a ≠ Reg.SYS_MODE → a ≠ Reg.SYS_RESET_CAUSE → t.reg a = State.reset.reg a)) ∧
  -- SYS_RESET_SYSTEM
  (∀ (ag : Agent) (s : State), s.canWrite ag Reg.SYS_RESET → Runs (.sysResetSystem ag) s fun t =>
    t.mode = 0 ∧ t.reg Reg.SYS_RESET_CAUSE = 3 ∧ t.otp = s.otp ∧ t.flash = s.flash ∧ (∀ a, t.byte a = if a < 0x0700000000 then s.byte a else 0) ∧ (∀ a, a ≠ Reg.SYS_MODE → a ≠ Reg.SYS_RESET_CAUSE → t.reg a = State.reset.reg a)) ∧
  -- SYS_RESET_WARM
  (∀ (ag : Agent) (un : List (Fin 2)) (s : State), s.canWrite ag Reg.SYS_RESET → (s.regs.entries.map Prod.fst).Nodup → Runs (.sysResetWarm ag un) s fun t =>
    t.mode = 1 ∧ t.reg Reg.SYS_RESET_CAUSE = BitVec.ofNat 32 (4 + 256 * min 255 (s.fld Reg.SYS_RESET_CAUSE 15 8 + 1)) ∧ t.mono = s.mono ∧ t.acc = s.acc ∧ t.sid = s.sid ∧ t.ptp = s.ptp ∧ t.otp = s.otp ∧ t.flash = s.flash ∧ t.rings = State.reset.rings ∧ (∀ a, 0x10000 ≤ a ∧ a < 0x20000 → t.reg a = s.reg a) ∧ (∀ i, i < 4 → t.reg (Reg.SYS_SCRATCH + 4 * i) = s.reg (Reg.SYS_SCRATCH + 4 * i))) ∧
  -- WDOG_KICK
  (∀ (ag : Agent) (s : State), s.canWrite ag Reg.SYS_WDOG_KICK → exec (.wdogKick ag) s = .next (s.updSys fun x => { x with wdogAt := s.mono })) ∧
  -- WDOG_EXPIRE
  (
    ∀ (un : List (Fin 2)) (s : State), (s.bit Reg.SYS_WDOG 16 = false ∨ s.mono < s.sys.wdogAt + max 1 (s.fld Reg.SYS_WDOG 15 0) * 1000000 ∨ s.mode = 0 ∨ s.mode = 0xA) → 
    exec (.wdogExpire un) s = .next s) ∧
  -- WDOG_EXPIRE
  (∀ (un : List (Fin 2)) (s : State), s.bit Reg.SYS_WDOG 16 = true → 
    s.sys.wdogAt + max 1 (s.fld Reg.SYS_WDOG 15 0) * 1000000 ≤ s.mono → (s.mode ≠ 0 ∧ s.mode ≠ 0xA) → Runs (.wdogExpire un) s fun t =>
    t.mode = 1 ∧ t.reg Reg.SYS_RESET_CAUSE = BitVec.ofNat 32 (5 + 256 * min 255 (s.fld Reg.SYS_RESET_CAUSE 15 8 + 1)) ∧ t.faultQueued Code.SYS_WDOG_RESET 0 ∧ t.mono = s.mono) ∧
  -- COLD_EXIT
  (∀ (sel : Fin 8) (un : List (Fin 2)) (bad : List (Fin 2048)) (s : State), s.mode ≠ 0 → exec (.coldExit sel un bad) s = .next s) ∧
  -- COLD_EXIT
  (∀ (sel : Fin 8) (un : List (Fin 2)) (bad : List (Fin 2048)) (s : State), s.mode = 0 → Runs (.coldExit sel un bad) s fun t =>
    t.mode = 1 ∧ t.fld Reg.SYS_BOOT 2 0 = sel.val ∧ (t.reg Reg.TRANSIT_UID_LO = if 0 ∈ bad then 0xFFFFFFFF else s.otpRead 0) ∧ (t.reg (Reg.TRANSIT_UID_LO + 4) = if 1 ∈ bad then 0xFFFFFFFF else s.otpRead 4) ∧ (sel.val ≠ 5 → (t.core 256).run = .run ∧ (t.core 257).run = .run) ∧ (sel.val = 5 → t.cores = s.cores)) ∧
  -- COLD_EXIT
  (∀ (s : State), s.mode = 0 → 0x300000 < fieldAt (s.flashBytes 0 288) 0xC 4 → s.faultRoom → Runs (.coldExit 0 [] []) s fun t =>
    t.fld Reg.SYS_BOOT 11 8 = 1 ∧ t.fld Reg.SYS_BOOT 4 3 = 3 ∧ t.faultQueued Code.SYS_BOOT_SLOT_BAD 0 ∧ t.mem = s.mem) ∧
  -- BOOT_DONE
  (∀ (ag : Agent) (s : State), s.canWrite ag Reg.SYS_CMD → s.mode ≠ 1 → exec (.bootDone ag) s = .next s) ∧
  -- BOOT_DONE
  (∀ (ag : Agent) (s : State), s.canWrite ag Reg.SYS_CMD → s.mode = 1 → Runs (.bootDone ag) s fun t =>
    t.running = true ∧ t.fld Reg.SYS_MODE_REQ 3 0 = 2 ∧ t.warmW = none ∧ t.transit.everUp = false ∧ t.mono = s.mono) ∧
  -- DBG_AUTH_READ
  (∀ (s : State), (s.mode ≠ 0 ∧ s.mode ≠ 0xA) → exec .dbgAuthRead s = .next ((s.updSys fun x => { x with nonce := some (s.free 128) }).drawn)) ∧
  -- DBG_AUTH_READ
  (∀ (s : State), (s.mode = 0 ∨ s.mode = 0xA) → exec .dbgAuthRead s = .next s) ∧
  -- DBG_AUTH_TOKEN
  (∀ (tk : List Byte) (s : State), (s.mode ≠ 0 ∧ s.mode ≠ 0xA) → s.sys.authFails < 3 → s.faultRoom → Runs (.dbgAuthToken tk) s fun t =>
    t.sys.nonce = none ∧ (t.sys.authFails = if s.tokenOk tk = true then s.sys.authFails else s.sys.authFails + 1) ∧ t.bit Reg.SYS_BOOT 6 = (s.bit Reg.SYS_BOOT 6 || s.tokenOk tk) ∧ (t.faultQueued (if s.tokenOk tk = true then Code.SYS_DEBUG_UNLOCK else Code.SYS_DEBUG_DENY) 0)) ∧
  -- DBG_AUTH_TOKEN
  (∀ (tk : List Byte) (s : State), (s.mode = 0 ∨ s.mode = 0xA ∨ 3 ≤ s.sys.authFails) → exec (.dbgAuthToken tk) s = .next s)

/-- Fault records enter the fault ring in order, captures and safety sources clear on command, scrubbers and the background window report. -/
def Obligations.FaultRecordsCapturesAndScrubbersAct : Prop :=
  -- FAULT_RECORD_PUSH
  (∀ (s : State), s.faultQ = [] → s.faultLost = none → exec .faultRecordPush s = .next s) ∧
  -- FAULT_RECORD_PUSH
  (∀ (f : FaultRec) (q : List FaultRec) (s : State), s.faultQ = f :: q → 
    (s.faultLost.filter fun l => l.before == 0) = none → s.ringRoom s.faultRing (faultEntries f).length = false → exec .faultRecordPush s = .next s) ∧
  -- FAULT_RECORD_PUSH
  (∀ (f : FaultRec) (q : List FaultRec) (s : State), s.faultQ = f :: q → f.args.length ≤ 2 → 
    (s.faultLost.filter fun l => l.before == 0) = none → s.ringRoom s.faultRing 1 = true → Runs .faultRecordPush s fun t =>
    t.faultQ = q ∧ (t.ring s.faultRing).head ++ (t.ring s.faultRing).spill ++ (t.ring s.faultRing).tail = (s.ring s.faultRing).head ++ (s.ring s.faultRing).spill ++ (s.ring s.faultRing).tail ++ [entryWithSeq (entryOfWords [entryHead 0x10 true true false false, BitVec.ofNat 32 (f.code + f.inst * 65536), BitVec.ofNat 32 (f.mono % 2 ^ 32), BitVec.ofNat 32 (f.mono / 2 ^ 32), f.phase.extractLsb' 0 32, f.phase.extractLsb' 32 32, f.args.getD 0 0, f.args.getD 1 0]) (s.ring s.faultRing).pushSeq] ∧ t.fld Reg.FAULT_STATUS 24 16 = q.length % 512 ∧ t.reg (Reg.RING_PUSH_CNT + 0x100 * s.faultRing) = s.reg (Reg.RING_PUSH_CNT + 0x100 * s.faultRing) + 1) ∧
  -- FAULT_RECORD_PUSH
  (∀ (f : FaultRec) (q : List FaultRec) (s : State), s.faultQ = f :: q → 2 < f.args.length → 
    (s.faultLost.filter fun l => l.before == 0) = none → s.ringRoom s.faultRing 2 = true → Runs .faultRecordPush s fun t =>
    t.faultQ = q ∧ (t.ring s.faultRing).count = (s.ring s.faultRing).count + 2) ∧
  -- FAULT_RECORD_PUSH
  (∀ (l : LostRec) (s : State), s.faultLost = some l → l.before = 0 → s.ringRoom s.faultRing 1 = true → Runs .faultRecordPush s fun t =>
    t.faultLost = none ∧ t.faultQ = s.faultQ ∧ (t.ring s.faultRing).count = (s.ring s.faultRing).count + 1) ∧
  -- FAULT_RELEASE
  (∀ (ag : Agent) (s : State), s.canWrite ag Reg.FAULT_CMD → Runs (.faultRelease ag) s fun t =>
    (∀ i, i < 16 → t.reg (Reg.FAULT_FIRST_CODE + 4 * i) = 0) ∧ t.fld Reg.FAULT_STATUS 5 4 = 0 ∧ t.faultQ = s.faultQ) ∧
  -- SAFE_CLR
  (∀ (ag : Agent) (s : State), s.canWrite ag Reg.FAULT_CMD → Runs (.safeClr ag) s fun t =>
    (∀ p, p < 4 → t.minSrc.get 0 p = if s.bit Reg.FAULT_STATUS (8 + p) = true then s.minSrc.get 0 p &&& 2 else s.minSrc.get 0 p) ∧ (∀ p, p < 4 → s.bit Reg.FAULT_STATUS (8 + p) = true → t.bit (Reg.OCC_STATUS + p * 0x4000) 2 = decide (s.minSrc.get 0 p &&& 2 ≠ 0)) ∧ t.fld Reg.FAULT_STATUS 11 8 = 0) ∧
  -- SCRUB_PASS_COMPLETE
  (∀ (dram : Bool) (s : State), s.scrubOn dram = true → s.scrubAt dram ≤ s.mono → 
    7 * s.scrubNs dram ≤ 8 * s.scrubTime dram → exec (.scrubPassComplete dram [] []) s = .next ((s.inc (if dram = true then Reg.SCRUB_DRAM_PASS_CNT else Reg.SCRUB_SRAM_PASS_CNT)).setScrub dram (max s.mono (s.scrubAt dram + s.scrubNs dram)) false)) ∧
  -- SCRUB_PASS_COMPLETE
  (∀ (dram : Bool) (ce ue : List Nat) (s : State), (s.scrubOn dram = false ∨ 8 * s.scrubTime dram < 7 * s.scrubNs dram) → exec (.scrubPassComplete dram ce ue) s = .next s) ∧
  -- SCRUB_PASS_COMPLETE
  (∀ (dram : Bool) (a : Nat) (s : State), s.scrubOn dram = true → s.scrubAt dram ≤ s.mono → 
    7 * s.scrubNs dram ≤ 8 * s.scrubTime dram → (eccMem a == 4) = dram → Runs (.scrubPassComplete dram [a] []) s fun t =>
    t.reg (Reg.ECC_CE_CNT + 16 * eccMem a) = s.reg (Reg.ECC_CE_CNT + 16 * eccMem a) + 1 ∧ t.ue = s.ue) ∧
  -- SCRUB_PASS_COMPLETE
  (∀ (dram : Bool) (a : Nat) (s : State), s.scrubOn dram = true → s.scrubAt dram ≤ s.mono → 
    7 * s.scrubNs dram ≤ 8 * s.scrubTime dram → (eccMem a == 4) = dram → 
    s.onceOk ((if dram = true then Code.DRAM_DRAM_UE else Code.SYS_SRAM_UE) + 65536 * eccMem a) 1000000000 = true → 
    s.faultRoom → Runs (.scrubPassComplete dram [] [a]) s fun t =>
    t.ue.get false (a / 8 * 8) = true ∧ t.reg (Reg.ECC_UE_CNT + 16 * eccMem a) = s.reg (Reg.ECC_UE_CNT + 16 * eccMem a) + 1 ∧ (t.faultQueued (if dram = true then Code.DRAM_DRAM_UE else Code.SYS_SRAM_UE) (eccMem a))) ∧
  -- SCRUB_LATE
  (∀ (dram : Bool) (s : State), s.scrubOn dram = true → (if dram = true then s.flt.dramLate else s.flt.sramLate) = false → 
    s.scrubAt dram + s.scrubNs dram ≤ s.mono → s.faultRoom → Runs (.scrubLate dram) s fun t =>
    (t.flt = if dram = true then { s.flt with dramLate := true } else { s.flt with sramLate := true }) ∧ t.reg Reg.SCRUB_LATE_CNT = s.reg Reg.SCRUB_LATE_CNT + 1 ∧ (t.faultQueued Code.SYS_SCRUB_LATE (if dram = true then 4 else 0))) ∧
  -- SCRUB_LATE
  (
    ∀ (dram : Bool) (s : State), (s.scrubOn dram = false ∨ (if dram = true then s.flt.dramLate else s.flt.sramLate) = true ∨ s.mono < s.scrubAt dram + s.scrubNs dram) → 
    exec (.scrubLate dram) s = .next s) ∧
  -- BG_WINDOW
  (∀ (u : Fin 10001) (d : Nat) (s : State), s.mono < s.flt.bgAt + max 1 (s.fld Reg.BG_CTRL 15 8) * 1000000 → exec (.bgWindow u d) s = .next s) ∧
  -- BG_WINDOW
  (∀ (u : Fin 10001) (d : Nat) (s : State), s.flt.bgAt + max 1 (s.fld Reg.BG_CTRL 15 8) * 1000000 ≤ s.mono → Runs (.bgWindow u d) s fun t =>
    t.flt = { s.flt with bgAt := s.mono } ∧ t.fld Reg.BG_USED 15 0 = min u.val (100 * s.fld Reg.BG_CTRL 7 0) ∧ t.reg Reg.BG_DEFER_CNT = s.reg Reg.BG_DEFER_CNT + BitVec.ofNat 32 d)

/-- A telemetry snapshot fills the bank of its number and copies out where asked; one whose bank is still copied is skipped and counted. -/
def Obligations.SnapshotsFillTheirBank : Prop :=
  -- TELEM_SNAP
  (∀ (s : State), (s.issued.find? fun a => actCode a.act == 7) = none → exec .telemSnap s = .next s) ∧
  -- TELEM_SNAP
  (∀ (a : Act) (s : State), (s.issued.find? fun a => actCode a.act == 7) = some a → 
    s.flt.copying.contains ((s.reg Reg.TELEM_SNAP_CNT + 1).toNat % 2) = false → Runs .telemSnap s fun t =>
    t.flt.banks.get [] ((s.reg Reg.TELEM_SNAP_CNT + 1).toNat % 2) = s.telemImage a.a0 (s.reg Reg.TELEM_SNAP_CNT + 1).toNat true ∧ t.reg Reg.TELEM_SNAP_CNT = s.reg Reg.TELEM_SNAP_CNT + 1 ∧ t.bit Reg.TELEM_STATUS 0 = ((s.reg Reg.TELEM_SNAP_CNT + 1).toNat % 2 == 1) ∧ (t.flt.copying = if s.bit Reg.TELEM_CTRL 0 = true then s.flt.copying ++ [(s.reg Reg.TELEM_SNAP_CNT + 1).toNat % 2] else s.flt.copying) ∧ t.issued = s.issued.erase a) ∧
  -- TELEM_SNAP
  (∀ (a : Act) (s : State), (s.issued.find? fun a => actCode a.act == 7) = some a → 
    s.flt.copying.contains ((s.reg Reg.TELEM_SNAP_CNT + 1).toNat % 2) = true → Runs .telemSnap s fun t =>
    t.flt = s.flt ∧ t.reg Reg.TELEM_SKIP_CNT = s.reg Reg.TELEM_SKIP_CNT + 1 ∧ t.reg Reg.TELEM_SNAP_CNT = s.reg Reg.TELEM_SNAP_CNT) ∧
  -- TELEM_CMD_SNAP
  (∀ (ag : Agent) (s : State), s.canWrite ag Reg.TELEM_CMD → 
    s.flt.copying.contains ((s.reg Reg.TELEM_SNAP_CNT + 1).toNat % 2) = false → Runs (.telemCmdSnap ag) s fun t =>
    t.flt.banks.get [] ((s.reg Reg.TELEM_SNAP_CNT + 1).toNat % 2) = s.telemImage (s.reg Reg.TELEM_SNAP_ID) (s.reg Reg.TELEM_SNAP_CNT + 1).toNat false ∧ t.reg Reg.TELEM_SNAP_CNT = s.reg Reg.TELEM_SNAP_CNT + 1 ∧ t.bit Reg.TELEM_STATUS 0 = ((s.reg Reg.TELEM_SNAP_CNT + 1).toNat % 2 == 1) ∧ (t.flt.copying = if s.bit Reg.TELEM_CTRL 0 = true then s.flt.copying ++ [(s.reg Reg.TELEM_SNAP_CNT + 1).toNat % 2] else s.flt.copying) ∧ t.mem = s.mem) ∧
  -- TELEM_CMD_SNAP
  (∀ (ag : Agent) (s : State), s.canWrite ag Reg.TELEM_CMD → 
    s.flt.copying.contains ((s.reg Reg.TELEM_SNAP_CNT + 1).toNat % 2) = true → Runs (.telemCmdSnap ag) s fun t =>
    t.flt = s.flt ∧ t.reg Reg.TELEM_SKIP_CNT = s.reg Reg.TELEM_SKIP_CNT + 1) ∧
  -- TELEM_COPY_DONE
  (∀ (s : State), s.flt.copying = [] → exec .telemCopyDone s = .next s) ∧
  -- TELEM_COPY_DONE
  (∀ (b : Nat) (q : List Nat) (s : State), s.flt.copying = b :: q → 
    inDram (s.regAddr Reg.TELEM_DEST_LO + b * 0x4000) (4 * (s.flt.banks.get [] b).length) = true → Runs .telemCopyDone s fun t =>
    t.flt = { s.flt with copying := q } ∧ t.bit Reg.TELEM_STATUS 1 = !q.isEmpty ∧ t.bytes (s.regAddr Reg.TELEM_DEST_LO + b * 0x4000) (4 * (s.flt.banks.get [] b).length) = (s.flt.banks.get [] b).flatMap (fun w => leBytes 4 w.toNat))

/-- A reference clock that stops unlocks its lanes; lane settings are checked; a management bus transaction runs and ends with its result. -/
def Obligations.ReferenceClocksLanesAndManagementBus : Prop :=
  -- REF_CLOCK_LOSS
  (∀ (k : Fin 4) (s : State), s.bit Reg.SERDES_REF_STAT k.val = false → exec (.refClockLoss k) s = .next s) ∧
  -- REF_CLOCK_LOSS
  (∀ (k : Fin 4) (s : State), s.bit Reg.SERDES_REF_STAT k.val = true → s.faultRoom → Runs (.refClockLoss k) s fun t =>
    t.bit Reg.SERDES_REF_STAT k.val = false ∧ t.faultQueued Code.SERDES_REF_LOST (96 + k.val) ∧ (∀ n, n < 68 → t.reg (Reg.SERDES_UNLOCK_CNT + 0x800 * n) = if laneRef n = k.val ∧ s.lanePll n = true then s.reg (Reg.SERDES_UNLOCK_CNT + 0x800 * n) + 1 else s.reg (Reg.SERDES_UNLOCK_CNT + 0x800 * n)) ∧ (∀ l, l < 16 → k.val = 0 → s.lanePll l = true → t.bit (Reg.TRANSIT_STATUS + 0x1000 * l) 2 = false) ∧ (∀ p, p < 36 → laneRef (p + 16) = k.val → s.lanePll (p + 16) = true → t.mbit p Reg.MAC_STATUS 0 = false)) ∧
  -- REF_CLOCK_RETURN
  (∀ (k : Fin 4) (s : State), exec (.refClockReturn k) s = .next (s.setBit Reg.SERDES_REF_STAT k.val true)) ∧
  -- SERDES_CTRL_WRITE
  (∀ (ag : Agent) (n : Fin 68) (v : Word) (s : State), s.canWrite ag (Reg.SERDES_CTRL + 0x800 * n.val) → 
    wfld v 7 4 + wfld v 12 8 ≤ 24 → 
    (s.laneUsed n.val = false ∨ wfld v 1 0 = s.fld (Reg.SERDES_CTRL + 0x800 * n.val) 1 0) → Runs (.serdesCtrlWrite ag n v) s fun t =>
    t.reg (Reg.SERDES_CTRL + 0x800 * n.val) = (v &&& 0x3FFFF3) ||| (s.reg (Reg.SERDES_CTRL + 0x800 * n.val) &&& ~~~0x3FFFF3) ∧ t.faultQ = s.faultQ) ∧
  -- SERDES_CTRL_WRITE
  (∀ (ag : Agent) (n : Fin 68) (v : Word) (s : State), s.canWrite ag (Reg.SERDES_CTRL + 0x800 * n.val) → 
    (24 < wfld v 7 4 + wfld v 12 8 ∨ (s.laneUsed n.val = true ∧ wfld v 1 0 ≠ s.fld (Reg.SERDES_CTRL + 0x800 * n.val) 1 0)) → 
    exec (.serdesCtrlWrite ag n v) s = .next (s.raise Code.SERDES_CFG_ERR n.val)) ∧
  -- SMB_START
  (∀ (ag : Agent) (m : Fin 2) (s : State), s.canWrite ag (Reg.SMB_GO + 0x100 * m.val) → 
    s.bit (Reg.SMB_STATUS + 0x100 * m.val) 0 = false → exec (.smbStart ag m) s = .next ((s.setBit (Reg.SMB_STATUS + 0x100 * m.val) 0 true).setBit (Reg.SMB_GO + 0x100 * m.val) 0 true)) ∧
  -- SMB_START
  (∀ (ag : Agent) (m : Fin 2) (s : State), s.canWrite ag (Reg.SMB_GO + 0x100 * m.val) → 
    s.bit (Reg.SMB_STATUS + 0x100 * m.val) 0 = true → exec (.smbStart ag m) s = .next (s.raise Code.SERDES_CFG_ERR (128 + m.val))) ∧
  -- SMB_DONE
  (∀ (m : Fin 2) (z : Fin 6) (n : Fin 64) (d : List Byte) (s : State), s.bit (Reg.SMB_STATUS + 0x100 * m.val) 0 = false → exec (.smbDone m z n d) s = .next s) ∧
  -- SMB_DONE
  (∀ (m : Fin 2) (z : Fin 6) (n : Fin 64) (d : List Byte) (s : State), s.bit (Reg.SMB_STATUS + 0x100 * m.val) 0 = true → 
    d.length ≤ 32 → Runs (.smbDone m z n d) s fun t =>
    t.reg (Reg.SMB_STATUS + 0x100 * m.val) = BitVec.ofNat 32 (z.val * 2 + n.val * 256) ∧ t.bit (Reg.SMB_GO + 0x100 * m.val) 0 = false ∧ (∀ i, i < min (s.fld (Reg.SMB_XFER + 0x100 * m.val) 29 24) d.length → t.fld (Reg.SMB_DATA + 0x100 * m.val + 4 * (i / 4)) (8 * (i % 4) + 7) (8 * (i % 4)) = (d.getD i 0).toNat)) ∧
  -- SMB_DONE
  (∀ (m : Fin 2) (z : Fin 6) (n : Fin 64) (d : List Byte) (s : State), s.bit (Reg.SMB_STATUS + 0x100 * m.val) 0 = true → 
    z.val ≠ 0 → s.onceOk (Code.SERDES_SMB_FAIL + 65536 * (128 + m.val)) 1000000000 = true → s.faultRoom → Runs (.smbDone m z n d) s fun t =>
    t.faultQueued Code.SERDES_SMB_FAIL (128 + m.val))

/-- A step takes the front command of the queue and runs it on the rest; on an empty queue the block idles, the model's choice (log entry 1). -/
def Obligations.StepTakesTheFrontCommand : Prop :=
  (∀ (c : Instr) (q : List Instr) (s : State), s.pending = c :: q → step s = exec c { s with pending := q }) ∧
  ∀ s : State, s.pending = [] → step s = .next s

/-- Every step goes on; memory keeps its canonical form, and the fault unit queues up to 256 records (R687). -/
def Obligations.EveryStepKeepsTheInvariant : Prop := ∀ s : State, s.sound → ∃ t, step s = .next t ∧ t.sound

/-- The state after reset (R13, R745). -/
def Obligations.ResetMeetsTheInvariant : Prop :=
  State.reset.sound ∧ State.reset.pending = [] ∧ State.reset.mem = [] ∧ State.reset.faultQ = [] ∧ State.reset.mono = 0 ∧
    State.reset.mode = 1 ∧ ∀ a, State.reset.reg a = resetWord a

/-- What every command leaves alone. -/
def Obligations.CommandsLeaveQueueOtpMemoryFlashAndTime : Prop :=
  ∀ (c : Instr) (s t : State), exec c s = .next t →
    t.pending = s.pending ∧ t.otp = s.otp ∧ (storesMemory c = false → t.mem = s.mem) ∧
    (writesFlash c = false → t.flash = s.flash) ∧ (passesTime c = false → t.mono = s.mono)

/-- R34, R37, R38 for command registers of the blocks that user cores may only read. -/
def Obligations.ForbiddenWritesAreBusErrors : Prop :=
  ∀ (s : State) (ag : Agent) (v : Word) (k : Fin 4) (n : Fin 68) (m : Fin 2) (un : List (Fin 2)),
    let out := fun (a : Nat) =>
      (Host.Outcome.next (if s.agentLive ag = true then s.busError (agInst ag) (ctrlBase + a) true else s) : Host.Outcome State Fault Refusal)
    (ag = .sup 2 ∨ ag = .sup 3 ∨ (ag = .jtag ∧ s.debugOpen = false)) →
    exec (.sysModeReqWrite ag v) s = out Reg.SYS_MODE_REQ ∧
    exec (.sysResetSystem ag) s = out Reg.SYS_RESET ∧
    exec (.sysResetWarm ag un) s = out Reg.SYS_RESET ∧
    exec (.wdogKick ag) s = out Reg.SYS_WDOG_KICK ∧
    exec (.bootDone ag) s = out Reg.SYS_CMD ∧
    exec (.fsClr ag) s = out Reg.SYS_CMD ∧
    exec (.fsLoad ag) s = out Reg.SYS_CMD ∧
    exec (.thermLimWrite ag k v) s = out (Reg.THERM_LIM0 + 4 * k.val) ∧
    exec (.sensorClr ag) s = out Reg.THERM_CMD ∧
    exec (.peakClr ag) s = out Reg.THERM_CMD ∧
    exec (.calRun ag) s = out Reg.CAL_CMD ∧
    exec (.calAll ag) s = out Reg.CAL_CMD ∧
    exec (.faultRelease ag) s = out Reg.FAULT_CMD ∧
    exec (.safeClr ag) s = out Reg.FAULT_CMD ∧
    exec (.almAppend ag) s = out Reg.ALM_CMD ∧
    exec (.almRead ag) s = out Reg.ALM_CMD ∧
    exec (.almCompact ag) s = out Reg.ALM_CMD ∧
    exec (.almScrub ag) s = out Reg.ALM_CMD ∧
    exec (.twinUndecClr ag) s = out Reg.TWIN_CMD ∧
    exec (.serdesCtrlWrite ag n v) s = out (Reg.SERDES_CTRL + 0x800 * n.val) ∧
    exec (.smbStart ag m) s = out (Reg.SMB_GO + 0x100 * m.val)

/-- A write to SID_INC_NOM outside its range is ignored and raises CFG_ERR; one inside it is taken. -/
def Obligations.IncrementOutOfRangeIsIgnored : Prop :=
  -- SID_INC_NOM_WRITE
  (∀ (ag : Agent) (v : DWord) (s : State), s.canWrite ag Reg.SID_INC_NOM_LO → 
    (v.toNat < 0x0000_0067_1447_70E9 ∨ 0x0000_080D_9594_D235 < v.toNat) → exec (.sidIncNomWrite ag v) s = .next (s.raise Code.CLK_CFG_ERR 0)) ∧
  -- SID_INC_NOM_WRITE
  (∀ (ag : Agent) (v : DWord) (s : State), s.canWrite ag Reg.SID_INC_NOM_LO → 
    (v.toNat < 0x0000_0067_1447_70E9 ∨ 0x0000_080D_9594_D235 < v.toNat) → s.faultRoom → Runs (.sidIncNomWrite ag v) s fun t =>
    t.faultQueued Code.CLK_CFG_ERR 0 ∧ t.reg64 Reg.SID_INC_NOM_LO = s.reg64 Reg.SID_INC_NOM_LO) ∧
  -- SID_INC_NOM_WRITE
  (∀ (ag : Agent) (v : DWord) (s : State), s.canWrite ag Reg.SID_INC_NOM_LO → 
    (0x0000_0067_1447_70E9 ≤ v.toNat ∧ v.toNat ≤ 0x0000_080D_9594_D235) → Runs (.sidIncNomWrite ag v) s fun t =>
    t.reg64 Reg.SID_INC_NOM_LO = v)

/-- R102. -/
def Obligations.RegisterZeroReadsZeroAndDiscardsWrites : Prop :=
  (∀ (k : Core) (v : DWord) (d r : GReg), k.gr 0 = 0 ∧ k.setG 0 v = k ∧
    (k.setG d v).gr r = if d ≠ 0 ∧ r = d then v else k.gr r) ∧
  ∀ (s : State) (c : CoreId) (a b d : GReg) (p : PReg), s.canIssue c [a.val, b.val] [d.val] → s.canIssue c [a.val, b.val] [0] →
    s.canIssue c [0, b.val] [d.val] → bits ((s.core c.val).pr p) 0 0 = 1 →
    exec (.sAdd c 0 a b p) s = .next (s.commits c (s.core c.val)) ∧
    exec (.sSub c 0 a b p) s = .next (s.commits c (s.core c.val)) ∧
    exec (.sAdd c d 0 b p) s = .next (s.commits c ((s.core c.val).setG d ((s.core c.val).gr b))) ∧
    exec (.sSub c d 0 b p) s = .next (s.commits c ((s.core c.val).setG d (0 - (s.core c.val).gr b)))

/-- RDPH returns the phase; WAITPH too far ahead, a ring outside the tile's mask and a ninth pin raise their exceptions. -/
def Obligations.PhaseRangeRingMaskAndPinLimit : Prop :=
  -- RDPH
  (∀ (c : CoreId) (d : GReg) (s : State), s.canIssue c [] [d.val] → exec (.sRdph c d) s = .next (s.commits c ((s.core c.val).setG d s.phase))) ∧
  -- WAITPH
  (∀ (c : CoreId) (a : GReg) (s : State), s.canIssue c [a.val] [] → 
    2 ^ 30 * 2 ^ 32 < phaseDiff ((s.core c.val).gr a) s.phase → exec (.sWaitph c a) s = .next (s.exc c.val Code.TILE_PHASE_RANGE (encR 0x1A 0 a 0 0 1))) ∧
  -- RPUSH
  (∀ (c : CoreId) (d : GReg) (u : VReg) (ring : RingId) (rr : Bool) (g : GReg) (s : State), c.val < 256 → 
    (u.val % 2 = 0 ∧ (rr = true ∨ g = 0)) → s.canIssue c [32 + u.val, 32 + (vNext u).val, g.val] [d.val] → 
    s.bit (State.tileReg Reg.TILE_RING_MASK_LO c.val + ringSel (s.core c.val) ring rr g / 32 * 4) (ringSel (s.core c.val) ring rr g % 32) = false → 
    exec (.sRpush c d u ring rr g) s = .next (s.exc c.val Code.TILE_ACCESS (encQ d u ring 0 (b2n rr) g))) ∧
  -- RPOP
  (∀ (c : CoreId) (d : GReg) (u : VReg) (ring : RingId) (rr : Bool) (g : GReg) (s : State), c.val < 256 → 
    (u.val % 2 = 0 ∧ (rr = true ∨ g = 0)) → s.canIssue c [g.val] [d.val, 32 + u.val, 32 + (vNext u).val] → 
    s.bit (State.tileReg Reg.TILE_RING_MASK_LO c.val + ringSel (s.core c.val) ring rr g / 32 * 4) (ringSel (s.core c.val) ring rr g % 32) = false → 
    exec (.sRpop c d u ring rr g) s = .next (s.exc c.val Code.TILE_ACCESS (encQ d u ring 1 (b2n rr) g))) ∧
  -- RDROP
  (∀ (c : CoreId) (d : GReg) (ring : RingId) (rr : Bool) (g : GReg) (s : State), c.val < 256 → (rr = true ∨ g = 0) → 
    s.canIssue c [g.val] [d.val] → 
    s.bit (State.tileReg Reg.TILE_RING_MASK_LO c.val + ringSel (s.core c.val) ring rr g / 32 * 4) (ringSel (s.core c.val) ring rr g % 32) = false → 
    exec (.sRdrop c d ring rr g) s = .next (s.exc c.val Code.TILE_ACCESS (encQ d 0 ring 2 (b2n rr) g))) ∧
  -- PIN
  (∀ (c : CoreId) (d a : GReg) (s : State), c.val < 256 → s.canIssue c [a.val] [d.val] → 
    bits ((s.core c.val).gr a) 31 12 = 0 → 
    (s.buf (bits ((s.core c.val).gr a) 11 0)).holds (((s.core c.val).gr a).extractLsb' 32 32) [1, 2] = true → 
    8 ≤ (s.core c.val).pins.length → exec (.sPin c d a) s = .next (s.exc c.val Code.TILE_PIN_LIMIT (encR 0x1B d a 0 0 1))) ∧
  -- PIN
  (∀ (c : CoreId) (d a : GReg) (s : State), (s.core c.val).pins.length ≤ 8 → Runs (.sPin c d a) s fun t =>
    (t.core c.val).pins.length ≤ 8)

/-- While SHED is 1, a launch with OPT = 1 reaches no core, counts once without a fault, and posts its KDONE with both counts 0 where NOTIFY = 1. -/
def Obligations.ShedLaunchIsCountedAndNotDistributed : Prop :=
  -- LAUNCH
  (∀ (a : Act) (kd : Nat) (s : State), (s.issued.find? fun x => actCode x.act == 1) = some a → 
    kd = a.a1.toNat + a.a2.toNat * 2 ^ 32 → s.kdescBad kd = false → s.bit Reg.TILE_SHED_STATUS 0 = true → 
    wfld (s.memWord kd) 24 24 = 1 → wfld (s.memWord kd) 26 26 = 0 → Runs .launch s fun t =>
    t.cores = s.cores ∧ t.groups = s.groups ∧ t.reg Reg.TILE_SHED_CNT = s.reg Reg.TILE_SHED_CNT + 1 ∧ t.faultQ = s.faultQ ∧ t.rings = s.rings ∧ t.issued = s.issued.erase a) ∧
  -- LAUNCH
  (∀ (a : Act) (kd : Nat) (r : Nat) (s : State), (s.issued.find? fun x => actCode x.act == 1) = some a → 
    kd = a.a1.toNat + a.a2.toNat * 2 ^ 32 → s.kdescBad kd = false → s.bit Reg.TILE_SHED_STATUS 0 = true → 
    wfld (s.memWord kd) 24 24 = 1 → wfld (s.memWord kd) 26 26 = 1 → r = wfld (s.memWord (kd + 16)) 5 0 → 
    s.ringRoom r 1 = true → Runs .launch s fun t =>
    t.cores = s.cores ∧ t.groups = s.groups ∧ t.reg Reg.TILE_SHED_CNT = s.reg Reg.TILE_SHED_CNT + 1 ∧ t.faultQ = s.faultQ ∧ (t.ring r).head ++ (t.ring r).spill ++ (t.ring r).tail = (s.ring r).head ++ (s.ring r).spill ++ (s.ring r).tail ++ [entryWithSeq (entryOfWords [entryHead 0x30 true true false false, a.a3, BitVec.ofNat 32 kd, BitVec.ofNat 32 (kd / 2 ^ 32), a.fire.extractLsb' 0 32, a.fire.extractLsb' 32 32, 0, BitVec.ofNat 32 s.mono]) (s.ring r).pushSeq]) ∧
  -- LAUNCH
  (∀ (a : Act) (kd : Nat) (r : Nat) (s : State), (s.issued.find? fun x => actCode x.act == 1) = some a → 
    kd = a.a1.toNat + a.a2.toNat * 2 ^ 32 → s.kdescBad kd = false → 
    (s.bit Reg.TILE_SHED_STATUS 0 = false ∨ wfld (s.memWord kd) 24 24 = 0) → s.groups.length < 256 → 
    s.selected a.a0 = [] → r = wfld (s.memWord (kd + 16)) 5 0 → wfld (s.memWord kd) 26 26 = 1 → s.ringRoom r 1 = true → Runs .launch s fun t =>
    t.cores = s.cores ∧ t.groups = s.groups ∧ (t.ring r).head ++ (t.ring r).spill ++ (t.ring r).tail = (s.ring r).head ++ (s.ring r).spill ++ (s.ring r).tail ++ [entryWithSeq (entryOfWords [entryHead 0x30 true true false false, a.a3, BitVec.ofNat 32 kd, BitVec.ofNat 32 (kd / 2 ^ 32), a.fire.extractLsb' 0 32, a.fire.extractLsb' 32 32, 0, BitVec.ofNat 32 s.mono]) (s.ring r).pushSeq]) ∧
  -- LAUNCH
  (∀ (a : Act) (kd : Nat) (s : State), (s.issued.find? fun x => actCode x.act == 1) = some a → 
    kd = a.a1.toNat + a.a2.toNat * 2 ^ 32 → s.kdescBad kd = false → 
    (s.bit Reg.TILE_SHED_STATUS 0 = false ∨ wfld (s.memWord kd) 24 24 = 0) → s.groups.length < 256 → 
    s.selected a.a0 = [] → wfld (s.memWord kd) 26 26 = 0 → exec .launch s = .next { s with issued := s.issued.erase a })
end

