-- ==== Sys2Proof/Laws/Data.lean ====
section
/-!
SUPPORT. Read after write, and the canonical form, of the sparse data that the state is made of.
-/
namespace Sys2Proof

variable {α : Type} {d v : α} {k j : Nat} {l : List (Nat × α)}

theorem AList.find_drop_same : AList.find d k (AList.drop k l) = d := by
  induction l with
  | nil => rfl
  | cons x r ih => unfold AList.drop; split <;> simp_all [AList.find]

theorem AList.find_drop_ne (h : j ≠ k) : AList.find d j (AList.drop k l) = AList.find d j l := by
  induction l with
  | nil => rfl
  | cons x r ih => unfold AList.drop; split <;> simp_all [AList.find] ; intro e; exact absurd e.symm h

theorem AList.find_ins_ne (h : j ≠ k) : AList.find d j (AList.ins k v l) = AList.find d j l := by
  induction l with
  | nil => simp [AList.ins, AList.find, h.symm]
  | cons x r ih => unfold AList.ins; split <;> simp_all [AList.find]; intro e; exact absurd e.symm h

/-- A written key reads as written. -/
theorem AList.find_put_same [DecidableEq α] : AList.find d k (AList.put d k v l) = v := by
  unfold AList.put; split
  · next h => rw [AList.find_drop_same, h]
  · induction l with
    | nil => simp [AList.drop, AList.ins, AList.find]
    | cons x r ih =>
      unfold AList.drop; split
      · exact ih
      · unfold AList.ins; split <;> simp_all [AList.find]

/-- Every other key reads as before. -/
theorem AList.find_put_ne [DecidableEq α] {e : α} (h : j ≠ k) : AList.find e j (AList.put d k v l) = AList.find e j l := by
  unfold AList.put; split
  · exact AList.find_drop_ne h
  · rw [AList.find_ins_ne h, AList.find_drop_ne h]

/-- Every listed key is above `b`. -/
def AList.above (b : Nat) (l : List (Nat × α)) : Prop := ∀ x ∈ l, b < x.1

theorem AList.canonical_cons [DecidableEq α] {x : Nat × α} {r : List (Nat × α)} :
    AList.canonical d (x :: r) = true ↔ x.2 ≠ d ∧ AList.above x.1 r ∧ AList.canonical d r = true := by
  induction r generalizing x with
  | nil => simp [AList.canonical, AList.above]
  | cons y r ih =>
    have := @ih y
    simp only [AList.canonical, AList.above, Bool.and_eq_true, bne_iff_ne, decide_eq_true_eq, List.mem_cons, forall_eq_or_imp] at *
    constructor
    · rintro ⟨⟨a, b⟩, c⟩
      exact ⟨a, ⟨b, fun z hz => Nat.lt_trans b ((this.1 c).2.1 z hz)⟩, c⟩
    · rintro ⟨a, b, c⟩
      exact ⟨⟨a, b.1⟩, c⟩

theorem AList.above_drop {b : Nat} (h : AList.above b l) : AList.above b (AList.drop k l) := by
  induction l with
  | nil => exact h
  | cons x r ih =>
    have hx := h x (by simp); have hr : AList.above b r := fun y hy => h y (by simp [hy])
    unfold AList.drop; split
    · exact ih hr
    · intro y hy
      rcases List.mem_cons.1 hy with e | e
      · exact e ▸ hx
      · exact ih hr y e

theorem AList.canonical_drop [DecidableEq α] (h : AList.canonical d l = true) : AList.canonical d (AList.drop k l) = true := by
  induction l with
  | nil => rfl
  | cons x r ih =>
    obtain ⟨hx, ha, hr⟩ := AList.canonical_cons.1 h
    unfold AList.drop; split
    · exact ih hr
    · exact AList.canonical_cons.2 ⟨hx, AList.above_drop ha, ih hr⟩

theorem AList.drop_no_key {x : Nat × α} (h : x ∈ AList.drop k l) : x.1 ≠ k := by
  induction l with
  | nil => simp [AList.drop] at h
  | cons y r ih =>
    unfold AList.drop at h; split at h
    · exact ih h
    · rcases List.mem_cons.1 h with e | e
      · subst e; assumption
      · exact ih e

theorem AList.above_ins {b : Nat} (h : AList.above b l) (hk : b < k) : AList.above b (AList.ins k v l) := by
  induction l with
  | nil => intro y hy; simp [AList.ins] at hy; simp [hy, hk]
  | cons x r ih =>
    have hx := h x (by simp); have hr : AList.above b r := fun y hy => h y (by simp [hy])
    unfold AList.ins; split
    · intro y hy
      rcases List.mem_cons.1 hy with e | e
      · subst e; exact hk
      · exact h y e
    · intro y hy
      rcases List.mem_cons.1 hy with e | e
      · exact e ▸ hx
      · exact ih hr y e

theorem AList.canonical_ins [DecidableEq α] (h : AList.canonical d l = true) (hn : ∀ x ∈ l, x.1 ≠ k) (hv : v ≠ d) :
    AList.canonical d (AList.ins k v l) = true := by
  induction l with
  | nil => exact AList.canonical_cons.2 ⟨hv, fun y hy => by simp at hy, rfl⟩
  | cons x r ih =>
    obtain ⟨hx, ha, hr⟩ := AList.canonical_cons.1 h
    unfold AList.ins; split
    · next hlt =>
      refine AList.canonical_cons.2 ⟨hv, fun y hy => ?_, h⟩
      rcases List.mem_cons.1 hy with e | e
      · exact e ▸ hlt
      · exact Nat.lt_trans hlt (ha y e)
    · next hlt =>
      have hne := hn x (by simp)
      exact AList.canonical_cons.2 ⟨hx, AList.above_ins ha (by omega),
        ih hr fun y hy => hn y (by simp [hy])⟩

/-- A write keeps the canonical form. -/
theorem AList.canonical_put [DecidableEq α] (h : AList.canonical d l = true) : AList.canonical d (AList.put d k v l) = true := by
  unfold AList.put; split
  · exact AList.canonical_drop h
  · next hv => exact AList.canonical_ins (AList.canonical_drop h) (fun _ hx => AList.drop_no_key hx) hv

/-- The entries that pass a test keep the canonical form. -/
theorem AList.canonical_filter [DecidableEq α] {f : Nat × α → Bool} (h : AList.canonical d l = true) : AList.canonical d (l.filter f) = true := by
  induction l with
  | nil => rfl
  | cons x r ih =>
    obtain ⟨hx, ha, hr⟩ := AList.canonical_cons.1 h
    simp only [List.filter_cons]; split
    · exact AList.canonical_cons.2 ⟨hx, fun y hy => ha y (List.mem_filter.1 hy).1, ih hr⟩
    · exact ih hr

namespace SMap

variable [DecidableEq α] {m : SMap α}

@[simp] theorem get_put_same : (m.put d k v).get d k = v := AList.find_put_same
theorem get_put_ne (h : j ≠ k) : (m.put d k v).get d j = m.get d j := AList.find_put_ne h
theorem get_put : (m.put d k v).get d j = if j = k then v else m.get d j := by
  split
  · next h => rw [h, get_put_same]
  · next h => rw [get_put_ne h]
theorem wf_put (h : m.wf d = true) : (m.put d k v).wf d = true := AList.canonical_put h

end SMap

end Sys2Proof
end

