-- ==== Sys2Proof/Laws/Exec.lean ====
section
/-!
SUPPORT. Every arm of exec: the command is its meaning. A proof about one command cites its lemma instead of unfolding exec.
-/
namespace Sys2Proof.Machine

open Sys2Proof

variable (s : State)

theorem exec_registerWrite (ag : Agent) (a : BitVec 24) (v : Word) : exec (.registerWrite ag a v) s = execRegisterWrite ag a v s := by rfl
theorem exec_pairLowRead (ag : Agent) (a : BitVec 24) : exec (.pairLowRead ag a) s = execPairLowRead ag a s := by rfl
theorem exec_pairLowWrite (ag : Agent) (a : BitVec 24) (v : Word) : exec (.pairLowWrite ag a v) s = execPairLowWrite ag a v s := by rfl
theorem exec_pairHighWrite (ag : Agent) (a : BitVec 24) (v : Word) : exec (.pairHighWrite ag a v) s = execPairHighWrite ag a v s := by rfl
theorem exec_siderealTick (n : Nat) : exec (.siderealTick n) s = execSiderealTick n s := by rfl
theorem exec_monoTick (n : Nat) : exec (.monoTick n) s = execMonoTick n s := by rfl
theorem exec_ptpClockTick (n : Nat) : exec (.ptpClockTick n) s = execPtpClockTick n s := by rfl
theorem exec_ptpSampleTick : exec (.ptpSampleTick) s = execPtpSampleTick s := by rfl
theorem exec_siderealLockChange : exec (.siderealLockChange) s = execSiderealLockChange s := by rfl
theorem exec_ltcSyncWord (ok : Bool) (hh mm ss ff : Nat) : exec (.ltcSyncWord ok hh mm ss ff) s = execLtcSyncWord ok hh mm ss ff s := by rfl
theorem exec_mediaRtpPacket (uplink stream : Nat) (rtp : Word) (agoNs : Nat) : exec (.mediaRtpPacket uplink stream rtp agoNs) s = execMediaRtpPacket uplink stream rtp agoNs s := by rfl
theorem exec_mainsZcEdge (rising : Bool) : exec (.mainsZcEdge rising) s = execMainsZcEdge rising s := by rfl
theorem exec_ppsInEdge (rising : Bool) : exec (.ppsInEdge rising) s = execPpsInEdge rising s := by rfl
theorem exec_ppsEdgeMissing : exec (.ppsEdgeMissing) s = execPpsEdgeMissing s := by rfl
theorem exec_referenceLossTimeout : exec (.referenceLossTimeout) s = execReferenceLossTimeout s := by rfl
theorem exec_referenceQualified : exec (.referenceQualified) s = execReferenceQualified s := by rfl
theorem exec_sidCtrlWrite (ag : Agent) (v : Word) : exec (.sidCtrlWrite ag v) s = execSidCtrlWrite ag v s := by rfl
theorem exec_sidJam (ag : Agent) : exec (.sidJam ag) s = execSidJam ag s := by rfl
theorem exec_sidApply (ag : Agent) : exec (.sidApply ag) s = execSidApply ag s := by rfl
theorem exec_siderealStep : exec (.siderealStep) s = execSiderealStep s := by rfl
theorem exec_sidIncNomWrite (ag : Agent) (v : DWord) : exec (.sidIncNomWrite ag v) s = execSidIncNomWrite ag v s := by rfl
theorem exec_ptpSet (ag : Agent) : exec (.ptpSet ag) s = execPtpSet ag s := by rfl
theorem exec_ptpStep (ag : Agent) : exec (.ptpStep ag) s = execPtpStep ag s := by rfl
theorem exec_ptpAdjWrite (ag : Agent) (v : Word) : exec (.ptpAdjWrite ag v) s = execPtpAdjWrite ag v s := by rfl
theorem exec_ptpTimeNsRead (ag : Agent) : exec (.ptpTimeNsRead ag) s = execPtpTimeNsRead ag s := by rfl
theorem exec_ephPostWordWrite (ag : Agent) (i : Fin 7) (v : Word) : exec (.ephPostWordWrite ag n v) s = execEphPostWordWrite ag n v s := by rfl
theorem exec_ephPost (ag : Agent) (v : Word) : exec (.ephPost ag v) s = execEphPost ag v s := by rfl
theorem exec_ephCancel (ag : Agent) (tag : Word) : exec (.ephCancel ag tag) s = execEphCancel ag tag s := by rfl
theorem exec_ephClear (ag : Agent) : exec (.ephClear ag) s = execEphClear ag s := by rfl
theorem exec_ephClearDone : exec (.ephClearDone) s = execEphClearDone s := by rfl
theorem exec_entryFire : exec (.entryFire) s = execEntryFire s := by rfl
theorem exec_ringPost : exec (.ringPost) s = execRingPost s := by rfl
theorem exec_gpioAction : exec (.gpioAction) s = execGpioAction s := by rfl
theorem exec_launch : exec (.launch) s = execLaunch s := by rfl
theorem exec_sEnd (c : CoreId) : exec (.sEnd c) s = execSEnd c s := by rfl
theorem exec_fieldException (t c : Fin 16) (w : Word) : exec (.fieldException t c w) s = execFieldException t c w s := by rfl
theorem exec_budgetExpiry (t c : Fin 16) : exec (.budgetExpiry t c) s = execBudgetExpiry t c s := by rfl
theorem exec_tileAbort (ag : Agent) (t : Fin 16) (v : Word) : exec (.tileAbort ag t v) s = execTileAbort ag t v s := by rfl
theorem exec_tileRelease (ag : Agent) (t : Fin 16) (v : Word) : exec (.tileRelease ag t v) s = execTileRelease ag t v s := by rfl
theorem exec_tileCtrlWrite (ag : Agent) (t : Fin 16) (v : Word) : exec (.tileCtrlWrite ag t v) s = execTileCtrlWrite ag t v s := by rfl
theorem exec_tileIcinv (ag : Agent) (t : Fin 16) : exec (.tileIcinv ag t) s = execTileIcinv ag t s := by rfl
theorem exec_icinvDone (t : Fin 16) : exec (.icinvDone t) s = execIcinvDone t s := by rfl
theorem exec_supStart (ag : Agent) (n : Fin 4) : exec (.supStart ag n) s = execSupStart ag n s := by rfl
theorem exec_supStop (ag : Agent) (n : Fin 4) : exec (.supStop ag n) s = execSupStop ag n s := by rfl
theorem exec_supException (n : Fin 4) (w : Word) : exec (.supException n w) s = execSupException n w s := by rfl
theorem exec_ringInterrupt (n : Fin 4) : exec (.ringInterrupt n) s = execRingInterrupt n s := by rfl
theorem exec_loadReturn (c : CoreId) (i : Fin 8) : exec (.loadReturn c n) s = execLoadReturn c n s := by rfl
theorem exec_remoteResponse (i : Byte) : exec (.remoteResponse n) s = execRemoteResponse n s := by rfl
theorem exec_remoteReissue (i : Byte) : exec (.remoteReissue n) s = execRemoteReissue n s := by rfl
theorem exec_waitphRelease (c : CoreId) : exec (.waitphRelease c) s = execWaitphRelease c s := by rfl
theorem exec_barrierComplete (c : CoreId) : exec (.barrierComplete c) s = execBarrierComplete c s := by rfl
theorem exec_fenceComplete (c : CoreId) : exec (.fenceComplete c) s = execFenceComplete c s := by rfl
theorem exec_sAdd (c : CoreId) (d a b : GReg) (p : PReg) : exec (.sAdd c d a b p) s = execSAdd c d a b p s := by rfl
theorem exec_sSub (c : CoreId) (d a b : GReg) (p : PReg) : exec (.sSub c d a b p) s = execSSub c d a b p s := by rfl
theorem exec_sAnd (c : CoreId) (d a b : GReg) (p : PReg) : exec (.sAnd c d a b p) s = execSAnd c d a b p s := by rfl
theorem exec_sOr (c : CoreId) (d a b : GReg) (p : PReg) : exec (.sOr c d a b p) s = execSOr c d a b p s := by rfl
theorem exec_sXor (c : CoreId) (d a b : GReg) (p : PReg) : exec (.sXor c d a b p) s = execSXor c d a b p s := by rfl
theorem exec_sAndn (c : CoreId) (d a b : GReg) (p : PReg) : exec (.sAndn c d a b p) s = execSAndn c d a b p s := by rfl
theorem exec_sShl (c : CoreId) (d a b : GReg) (p : PReg) : exec (.sShl c d a b p) s = execSShl c d a b p s := by rfl
theorem exec_sShr (c : CoreId) (d a b : GReg) (p : PReg) : exec (.sShr c d a b p) s = execSShr c d a b p s := by rfl
theorem exec_sSra (c : CoreId) (d a b : GReg) (p : PReg) : exec (.sSra c d a b p) s = execSSra c d a b p s := by rfl
theorem exec_sRor (c : CoreId) (d a b : GReg) (p : PReg) : exec (.sRor c d a b p) s = execSRor c d a b p s := by rfl
theorem exec_sMin (c : CoreId) (d a b : GReg) (p : PReg) : exec (.sMin c d a b p) s = execSMin c d a b p s := by rfl
theorem exec_sMax (c : CoreId) (d a b : GReg) (p : PReg) : exec (.sMax c d a b p) s = execSMax c d a b p s := by rfl
theorem exec_sMinu (c : CoreId) (d a b : GReg) (p : PReg) : exec (.sMinu c d a b p) s = execSMinu c d a b p s := by rfl
theorem exec_sMaxu (c : CoreId) (d a b : GReg) (p : PReg) : exec (.sMaxu c d a b p) s = execSMaxu c d a b p s := by rfl
theorem exec_sSel (c : CoreId) (d a b : GReg) (p : PReg) : exec (.sSel c d a b p) s = execSSel c d a b p s := by rfl
theorem exec_sClz (c : CoreId) (d a : GReg) (p : PReg) : exec (.sClz c d a p) s = execSClz c d a p s := by rfl
theorem exec_sPopc (c : CoreId) (d a : GReg) (p : PReg) : exec (.sPopc c d a p) s = execSPopc c d a p s := by rfl
theorem exec_sSextB (c : CoreId) (d a : GReg) (p : PReg) : exec (.sSextB c d a p) s = execSSextB c d a p s := by rfl
theorem exec_sSextH (c : CoreId) (d a : GReg) (p : PReg) : exec (.sSextH c d a p) s = execSSextH c d a p s := by rfl
theorem exec_sSextW (c : CoreId) (d a : GReg) (p : PReg) : exec (.sSextW c d a p) s = execSSextW c d a p s := by rfl
theorem exec_sZextB (c : CoreId) (d a : GReg) (p : PReg) : exec (.sZextB c d a p) s = execSZextB c d a p s := by rfl
theorem exec_sZextH (c : CoreId) (d a : GReg) (p : PReg) : exec (.sZextH c d a p) s = execSZextH c d a p s := by rfl
theorem exec_sZextW (c : CoreId) (d a : GReg) (p : PReg) : exec (.sZextW c d a p) s = execSZextW c d a p s := by rfl
theorem exec_sAddw (c : CoreId) (d a b : GReg) (p : PReg) : exec (.sAddw c d a b p) s = execSAddw c d a b p s := by rfl
theorem exec_sAddi (c : CoreId) (d a : GReg) (imm : BitVec 16) : exec (.sAddi c d a imm) s = execSAddi c d a imm s := by rfl
theorem exec_sAndi (c : CoreId) (d a : GReg) (imm : BitVec 16) : exec (.sAndi c d a imm) s = execSAndi c d a imm s := by rfl
theorem exec_sOri (c : CoreId) (d a : GReg) (imm : BitVec 16) : exec (.sOri c d a imm) s = execSOri c d a imm s := by rfl
theorem exec_sXori (c : CoreId) (d a : GReg) (imm : BitVec 16) : exec (.sXori c d a imm) s = execSXori c d a imm s := by rfl
theorem exec_sShi (c : CoreId) (d a : GReg) (kind : Fin 4) (n : Fin 64) : exec (.sShi c d a kind n) s = execSShi c d a kind n s := by rfl
theorem exec_sMul (c : CoreId) (d a b : GReg) (p : PReg) : exec (.sMul c d a b p) s = execSMul c d a b p s := by rfl
theorem exec_sMulh (c : CoreId) (d a b : GReg) (p : PReg) : exec (.sMulh c d a b p) s = execSMulh c d a b p s := by rfl
theorem exec_sMulhu (c : CoreId) (d a b : GReg) (p : PReg) : exec (.sMulhu c d a b p) s = execSMulhu c d a b p s := by rfl
theorem exec_sDiv (c : CoreId) (d a b : GReg) (p : PReg) : exec (.sDiv c d a b p) s = execSDiv c d a b p s := by rfl
theorem exec_sDivu (c : CoreId) (d a b : GReg) (p : PReg) : exec (.sDivu c d a b p) s = execSDivu c d a b p s := by rfl
theorem exec_sRem (c : CoreId) (d a b : GReg) (p : PReg) : exec (.sRem c d a b p) s = execSRem c d a b p s := by rfl
theorem exec_sRemu (c : CoreId) (d a b : GReg) (p : PReg) : exec (.sRemu c d a b p) s = execSRemu c d a b p s := by rfl
theorem exec_sMovl (c : CoreId) (d : GReg) (imm : BitVec 16) : exec (.sMovl c d imm) s = execSMovl c d imm s := by rfl
theorem exec_sMovh (c : CoreId) (d : GReg) (hw : Fin 4) (imm : BitVec 16) : exec (.sMovh c d hw imm) s = execSMovh c d hw imm s := by rfl
theorem exec_sCmp (c : CoreId) (d : PReg) (a b : GReg) (p : PReg) (cond : Fin 8) : exec (.sCmp c d a b p cond) s = execSCmp c d a b p cond s := by rfl
theorem exec_sCmpi (c : CoreId) (d : PReg) (cond : Fin 8) (a : GReg) (imm : BitVec 15) : exec (.sCmpi c d cond a imm) s = execSCmpi c d cond a imm s := by rfl
theorem exec_sVcmp (c : CoreId) (d : PReg) (a b : VReg) (p : PReg) (fp wide : Bool) (cond : Fin 8) : exec (.sVcmp c d a b p fp wide cond) s = execSVcmp c d a b p fp wide cond s := by rfl
theorem exec_sPand (c : CoreId) (d a b : PReg) : exec (.sPand c d a b) s = execSPand c d a b s := by rfl
theorem exec_sPor (c : CoreId) (d a b : PReg) : exec (.sPor c d a b) s = execSPor c d a b s := by rfl
theorem exec_sPxor (c : CoreId) (d a b : PReg) : exec (.sPxor c d a b) s = execSPxor c d a b s := by rfl
theorem exec_sPandn (c : CoreId) (d a b : PReg) : exec (.sPandn c d a b) s = execSPandn c d a b s := by rfl
theorem exec_sPnot (c : CoreId) (d a : PReg) : exec (.sPnot c d a) s = execSPnot c d a s := by rfl
theorem exec_sPmovg (c : CoreId) (d : PReg) (a : GReg) : exec (.sPmovg c d a) s = execSPmovg c d a s := by rfl
theorem exec_sGmovp (c : CoreId) (d : GReg) (a : PReg) : exec (.sGmovp c d a) s = execSGmovp c d a s := by rfl
theorem exec_sB (c : CoreId) (off : BitVec 26) : exec (.sB c off) s = execSB c off s := by rfl
theorem exec_sBl (c : CoreId) (off : BitVec 26) : exec (.sBl c off) s = execSBl c off s := by rfl
theorem exec_sBc (c : CoreId) (p : PReg) (test : Fin 4) (off : BitVec 21) : exec (.sBc c p test off) s = execSBc c p test off s := by rfl
theorem exec_sDbnz (c : CoreId) (g : GReg) (off : BitVec 21) : exec (.sDbnz c g off) s = execSDbnz c g off s := by rfl
theorem exec_sJr (c : CoreId) (a : GReg) (p : PReg) : exec (.sJr c a p) s = execSJr c a p s := by rfl
theorem exec_sJlr (c : CoreId) (d a : GReg) (p : PReg) : exec (.sJlr c d a p) s = execSJlr c d a p s := by rfl
theorem exec_sLdb (c : CoreId) (d a : GReg) (off : BitVec 13) (ecc : Fin 3) : exec (.sLdb c d a off ecc) s = execSLdb c d a off ecc s := by rfl
theorem exec_sLdbu (c : CoreId) (d a : GReg) (off : BitVec 13) (ecc : Fin 3) : exec (.sLdbu c d a off ecc) s = execSLdbu c d a off ecc s := by rfl
theorem exec_sLdh (c : CoreId) (d a : GReg) (off : BitVec 13) (ecc : Fin 3) : exec (.sLdh c d a off ecc) s = execSLdh c d a off ecc s := by rfl
theorem exec_sLdhu (c : CoreId) (d a : GReg) (off : BitVec 13) (ecc : Fin 3) : exec (.sLdhu c d a off ecc) s = execSLdhu c d a off ecc s := by rfl
theorem exec_sLdw (c : CoreId) (d a : GReg) (off : BitVec 13) (ecc : Fin 3) : exec (.sLdw c d a off ecc) s = execSLdw c d a off ecc s := by rfl
theorem exec_sLdwu (c : CoreId) (d a : GReg) (off : BitVec 13) (ecc : Fin 3) : exec (.sLdwu c d a off ecc) s = execSLdwu c d a off ecc s := by rfl
theorem exec_sLdd (c : CoreId) (d a : GReg) (off : BitVec 13) (ecc : Fin 3) : exec (.sLdd c d a off ecc) s = execSLdd c d a off ecc s := by rfl
theorem exec_sStb (c : CoreId) (t a : GReg) (off : BitVec 13) : exec (.sStb c t a off) s = execSStb c t a off s := by rfl
theorem exec_sSth (c : CoreId) (t a : GReg) (off : BitVec 13) : exec (.sSth c t a off) s = execSSth c t a off s := by rfl
theorem exec_sStw (c : CoreId) (t a : GReg) (off : BitVec 13) : exec (.sStw c t a off) s = execSStw c t a off s := by rfl
theorem exec_sStd (c : CoreId) (t a : GReg) (off : BitVec 13) : exec (.sStd c t a off) s = execSStd c t a off s := by rfl
theorem exec_sVld (c : CoreId) (d : VReg) (a : GReg) (p : PReg) (off : BitVec 13) (ecc : Fin 3) : exec (.sVld c d a p off ecc) s = execSVld c d a p off ecc s := by rfl
theorem exec_sVst (c : CoreId) (t : VReg) (a : GReg) (p : PReg) (off : BitVec 13) : exec (.sVst c t a p off) s = execSVst c t a p off s := by rfl
theorem exec_sAaddW (c : CoreId) (d a b : GReg) (p : PReg) (ecc : Fin 3) : exec (.sAaddW c d a b p ecc) s = execSAaddW c d a b p ecc s := by rfl
theorem exec_sAaddD (c : CoreId) (d a b : GReg) (p : PReg) (ecc : Fin 3) : exec (.sAaddD c d a b p ecc) s = execSAaddD c d a b p ecc s := by rfl
theorem exec_sAswpW (c : CoreId) (d a b : GReg) (p : PReg) (ecc : Fin 3) : exec (.sAswpW c d a b p ecc) s = execSAswpW c d a b p ecc s := by rfl
theorem exec_sAswpD (c : CoreId) (d a b : GReg) (p : PReg) (ecc : Fin 3) : exec (.sAswpD c d a b p ecc) s = execSAswpD c d a b p ecc s := by rfl
theorem exec_sAcasW (c : CoreId) (d a b : GReg) (p : PReg) (ecc : Fin 3) : exec (.sAcasW c d a b p ecc) s = execSAcasW c d a b p ecc s := by rfl
theorem exec_sAcasD (c : CoreId) (d a b : GReg) (p : PReg) (ecc : Fin 3) : exec (.sAcasD c d a b p ecc) s = execSAcasD c d a b p ecc s := by rfl
theorem exec_sRldw (c : CoreId) (d a b : GReg) (p : PReg) : exec (.sRldw c d a b p) s = execSRldw c d a b p s := by rfl
theorem exec_sRldd (c : CoreId) (d a b : GReg) (p : PReg) : exec (.sRldd c d a b p) s = execSRldd c d a b p s := by rfl
theorem exec_sRvld (c : CoreId) (d : VReg) (a b : GReg) (p : PReg) : exec (.sRvld c d a b p) s = execSRvld c d a b p s := by rfl
theorem exec_sRstw (c : CoreId) (d a b : GReg) (p : PReg) : exec (.sRstw c d a b p) s = execSRstw c d a b p s := by rfl
theorem exec_sRstd (c : CoreId) (d a b : GReg) (p : PReg) : exec (.sRstd c d a b p) s = execSRstd c d a b p s := by rfl
theorem exec_sRvst (c : CoreId) (d : VReg) (a b : GReg) (p : PReg) : exec (.sRvst c d a b p) s = execSRvst c d a b p s := by rfl
theorem exec_sRfaddw (c : CoreId) (d a b : GReg) (p : PReg) : exec (.sRfaddw c d a b p) s = execSRfaddw c d a b p s := by rfl
theorem exec_sRfaddd (c : CoreId) (d a b : GReg) (p : PReg) : exec (.sRfaddd c d a b p) s = execSRfaddd c d a b p s := by rfl
theorem exec_sRput (c : CoreId) (d a b : GReg) (p : PReg) (m : Fin 16) : exec (.sRput c d a b p m) s = execSRput c d a b p m s := by rfl
theorem exec_sRmput (c : CoreId) (d a b : GReg) (p : PReg) (m : Fin 16) : exec (.sRmput c d a b p m) s = execSRmput c d a b p m s := by rfl
theorem exec_sVadd (c : CoreId) (d a b : VReg) (p : PReg) (wide : Bool) : exec (.sVadd c d a b p wide) s = execSVadd c d a b p wide s := by rfl
theorem exec_sVsub (c : CoreId) (d a b : VReg) (p : PReg) (wide : Bool) : exec (.sVsub c d a b p wide) s = execSVsub c d a b p wide s := by rfl
theorem exec_sVaddL (c : CoreId) (d a b : VReg) (p : PReg) (wide : Bool) : exec (.sVaddL c d a b p wide) s = execSVaddL c d a b p wide s := by rfl
theorem exec_sVsubL (c : CoreId) (d a b : VReg) (p : PReg) (wide : Bool) : exec (.sVsubL c d a b p wide) s = execSVsubL c d a b p wide s := by rfl
theorem exec_sVadds (c : CoreId) (d a b : VReg) (p : PReg) (wide : Bool) : exec (.sVadds c d a b p wide) s = execSVadds c d a b p wide s := by rfl
theorem exec_sVsubs (c : CoreId) (d a b : VReg) (p : PReg) (wide : Bool) : exec (.sVsubs c d a b p wide) s = execSVsubs c d a b p wide s := by rfl
theorem exec_sVmul (c : CoreId) (d a b : VReg) (p : PReg) (wide : Bool) : exec (.sVmul c d a b p wide) s = execSVmul c d a b p wide s := by rfl
theorem exec_sVmulL (c : CoreId) (d a b : VReg) (p : PReg) (wide : Bool) : exec (.sVmulL c d a b p wide) s = execSVmulL c d a b p wide s := by rfl
theorem exec_sVmulQ12 (c : CoreId) (d a b : VReg) (p : PReg) (wide : Bool) : exec (.sVmulQ12 c d a b p wide) s = execSVmulQ12 c d a b p wide s := by rfl
theorem exec_sVmulU15 (c : CoreId) (d a b : VReg) (p : PReg) (wide : Bool) : exec (.sVmulU15 c d a b p wide) s = execSVmulU15 c d a b p wide s := by rfl
theorem exec_sVminu (c : CoreId) (d a b : VReg) (p : PReg) (wide : Bool) : exec (.sVminu c d a b p wide) s = execSVminu c d a b p wide s := by rfl
theorem exec_sVmaxu (c : CoreId) (d a b : VReg) (p : PReg) (wide : Bool) : exec (.sVmaxu c d a b p wide) s = execSVmaxu c d a b p wide s := by rfl
theorem exec_sVmins (c : CoreId) (d a b : VReg) (p : PReg) (wide : Bool) : exec (.sVmins c d a b p wide) s = execSVmins c d a b p wide s := by rfl
theorem exec_sVmaxs (c : CoreId) (d a b : VReg) (p : PReg) (wide : Bool) : exec (.sVmaxs c d a b p wide) s = execSVmaxs c d a b p wide s := by rfl
theorem exec_sVand (c : CoreId) (d a b : VReg) (p : PReg) (wide : Bool) : exec (.sVand c d a b p wide) s = execSVand c d a b p wide s := by rfl
theorem exec_sVor (c : CoreId) (d a b : VReg) (p : PReg) (wide : Bool) : exec (.sVor c d a b p wide) s = execSVor c d a b p wide s := by rfl
theorem exec_sVxor (c : CoreId) (d a b : VReg) (p : PReg) (wide : Bool) : exec (.sVxor c d a b p wide) s = execSVxor c d a b p wide s := by rfl
theorem exec_sVshl (c : CoreId) (d a b : VReg) (p : PReg) (wide : Bool) : exec (.sVshl c d a b p wide) s = execSVshl c d a b p wide s := by rfl
theorem exec_sVshr (c : CoreId) (d a b : VReg) (p : PReg) (wide : Bool) : exec (.sVshr c d a b p wide) s = execSVshr c d a b p wide s := by rfl
theorem exec_sVsra (c : CoreId) (d a b : VReg) (p : PReg) (wide : Bool) : exec (.sVsra c d a b p wide) s = execSVsra c d a b p wide s := by rfl
theorem exec_sVfadd (c : CoreId) (d a b : VReg) (p : PReg) : exec (.sVfadd c d a b p) s = execSVfadd c d a b p s := by rfl
theorem exec_sVfsub (c : CoreId) (d a b : VReg) (p : PReg) : exec (.sVfsub c d a b p) s = execSVfsub c d a b p s := by rfl
theorem exec_sVfmul (c : CoreId) (d a b : VReg) (p : PReg) : exec (.sVfmul c d a b p) s = execSVfmul c d a b p s := by rfl
theorem exec_sVfma (c : CoreId) (d a b : VReg) (p : PReg) : exec (.sVfma c d a b p) s = execSVfma c d a b p s := by rfl
theorem exec_sVfmin (c : CoreId) (d a b : VReg) (p : PReg) : exec (.sVfmin c d a b p) s = execSVfmin c d a b p s := by rfl
theorem exec_sVfmax (c : CoreId) (d a b : VReg) (p : PReg) : exec (.sVfmax c d a b p) s = execSVfmax c d a b p s := by rfl
theorem exec_sVfabs (c : CoreId) (d a : VReg) (p : PReg) : exec (.sVfabs c d a p) s = execSVfabs c d a p s := by rfl
theorem exec_sVfneg (c : CoreId) (d a : VReg) (p : PReg) : exec (.sVfneg c d a p) s = execSVfneg c d a p s := by rfl
theorem exec_sL16F16 (c : CoreId) (d a : VReg) (p : PReg) : exec (.sL16F16 c d a p) s = execSL16F16 c d a p s := by rfl
theorem exec_sF16L16 (c : CoreId) (d a : VReg) (p : PReg) : exec (.sF16L16 c d a p) s = execSF16L16 c d a p s := by rfl
theorem exec_sQ12F16 (c : CoreId) (d a : VReg) (p : PReg) : exec (.sQ12F16 c d a p) s = execSQ12F16 c d a p s := by rfl
theorem exec_sF16Q12 (c : CoreId) (d a : VReg) (p : PReg) : exec (.sF16Q12 c d a p) s = execSF16Q12 c d a p s := by rfl
theorem exec_sU15F16 (c : CoreId) (d a : VReg) (p : PReg) : exec (.sU15F16 c d a p) s = execSU15F16 c d a p s := by rfl
theorem exec_sF16U15 (c : CoreId) (d a : VReg) (p : PReg) : exec (.sF16U15 c d a p) s = execSF16U15 c d a p s := by rfl
theorem exec_sL16U15 (c : CoreId) (d a : VReg) (p : PReg) : exec (.sL16U15 c d a p) s = execSL16U15 c d a p s := by rfl
theorem exec_sU15L16 (c : CoreId) (d a : VReg) (p : PReg) : exec (.sU15L16 c d a p) s = execSU15L16 c d a p s := by rfl
theorem exec_sVmov (c : CoreId) (d a : VReg) (p : PReg) : exec (.sVmov c d a p) s = execSVmov c d a p s := by rfl
theorem exec_sVsel (c : CoreId) (d a b : VReg) (p : PReg) : exec (.sVsel c d a b p) s = execSVsel c d a b p s := by rfl
theorem exec_sVperm (c : CoreId) (d a b : VReg) : exec (.sVperm c d a b) s = execSVperm c d a b s := by rfl
theorem exec_sVsplatH (c : CoreId) (d : VReg) (a : GReg) : exec (.sVsplatH c d a) s = execSVsplatH c d a s := by rfl
theorem exec_sVsplatW (c : CoreId) (d : VReg) (a : GReg) : exec (.sVsplatW c d a) s = execSVsplatW c d a s := by rfl
theorem exec_sVextH (c : CoreId) (d : GReg) (a : VReg) (b : Fin 8) : exec (.sVextH c d a b) s = execSVextH c d a b s := by rfl
theorem exec_sVinsH (c : CoreId) (d : VReg) (a : GReg) (b : Fin 8) : exec (.sVinsH c d a b) s = execSVinsH c d a b s := by rfl
theorem exec_sVpackB (c : CoreId) (d a b : VReg) : exec (.sVpackB c d a b) s = execSVpackB c d a b s := by rfl
theorem exec_sVunpkLo (c : CoreId) (d a : VReg) : exec (.sVunpkLo c d a) s = execSVunpkLo c d a s := by rfl
theorem exec_sVunpkHi (c : CoreId) (d a : VReg) : exec (.sVunpkHi c d a) s = execSVunpkHi c d a s := by rfl
theorem exec_sVmovg (c : CoreId) (d : VReg) (a b : GReg) : exec (.sVmovg c d a b) s = execSVmovg c d a b s := by rfl
theorem exec_sVextD (c : CoreId) (d : GReg) (a : VReg) (b : Fin 2) : exec (.sVextD c d a b) s = execSVextD c d a b s := by rfl
theorem exec_sLut (c : CoreId) (d a : VReg) (b : GReg) (p : PReg) (big linear : Bool) : exec (.sLut c d a b p big linear) s = execSLut c d a b p big linear s := by rfl
theorem exec_sMix (c : CoreId) (d a b : VReg) (p : PReg) (four : Bool) : exec (.sMix c d a b p four) s = execSMix c d a b p four s := by rfl
theorem exec_sBlend (c : CoreId) (d a b o : VReg) (p : PReg) (mode : Fin 4) : exec (.sBlend c d a b o p mode) s = execSBlend c d a b o p mode s := by rfl
theorem exec_sFade (c : CoreId) (d a b t : VReg) (p : PReg) (curve : Fin 4) : exec (.sFade c d a b t p curve) s = execSFade c d a b t p curve s := by rfl
theorem exec_sRpush (c : CoreId) (d : GReg) (v : VReg) (ring : RingId) (rr : Bool) (gr : GReg) : exec (.sRpush c d v ring rr gr) s = execSRpush c d v ring rr gr s := by rfl
theorem exec_sRpop (c : CoreId) (d : GReg) (v : VReg) (ring : RingId) (rr : Bool) (gr : GReg) : exec (.sRpop c d v ring rr gr) s = execSRpop c d v ring rr gr s := by rfl
theorem exec_sRdrop (c : CoreId) (d : GReg) (ring : RingId) (rr : Bool) (gr : GReg) : exec (.sRdrop c d ring rr gr) s = execSRdrop c d ring rr gr s := by rfl
theorem exec_sRdph (c : CoreId) (d : GReg) : exec (.sRdph c d) s = execSRdph c d s := by rfl
theorem exec_sWaitph (c : CoreId) (a : GReg) : exec (.sWaitph c a) s = execSWaitph c a s := by rfl
theorem exec_sWaitphK (c : CoreId) (a : GReg) : exec (.sWaitphK c a) s = execSWaitphK c a s := by rfl
theorem exec_sSched (c : CoreId) (d : GReg) (a : VReg) : exec (.sSched c d a) s = execSSched c d a s := by rfl
theorem exec_sPst (c : CoreId) (d : VReg) (a b : GReg) (p : PReg) : exec (.sPst c d a b p) s = execSPst c d a b p s := by rfl
theorem exec_sPin (c : CoreId) (d a : GReg) : exec (.sPin c d a) s = execSPin c d a s := by rfl
theorem exec_sUnpin (c : CoreId) (d a : GReg) : exec (.sUnpin c d a) s = execSUnpin c d a s := by rfl
theorem exec_sNop (c : CoreId) : exec (.sNop c) s = execSNop c s := by rfl
theorem exec_sFenceT (c : CoreId) : exec (.sFenceT c) s = execSFenceT c s := by rfl
theorem exec_sFenceD (c : CoreId) : exec (.sFenceD c) s = execSFenceD c s := by rfl
theorem exec_sFenceF (c : CoreId) : exec (.sFenceF c) s = execSFenceF c s := by rfl
theorem exec_sBarT (c : CoreId) : exec (.sBarT c) s = execSBarT c s := by rfl
theorem exec_sBarG (c : CoreId) : exec (.sBarG c) s = execSBarG c s := by rfl
theorem exec_sTrap (c : CoreId) (imm : BitVec 16) : exec (.sTrap c imm) s = execSTrap c imm s := by rfl
theorem exec_sMvs (c : CoreId) (d : GReg) (sr : BitVec 12) : exec (.sMvs c d sr) s = execSMvs c d sr s := by rfl
theorem exec_sMvt (c : CoreId) (a : GReg) (sr : BitVec 12) : exec (.sMvt c a sr) s = execSMvt c a sr s := by rfl
theorem exec_sEret (c : CoreId) : exec (.sEret c) s = execSEret c s := by rfl
theorem exec_sWfi (c : CoreId) : exec (.sWfi c) s = execSWfi c s := by rfl
theorem exec_wfiWake (n : Fin 4) : exec (.wfiWake n) s = execWfiWake n s := by rfl
theorem exec_subframeStart (p : PortId) (alter : List (Nat × Nat × Nat)) : exec (.subframeStart p alter) s = execSubframeStart p alter s := by rfl
theorem exec_subframeLatch (p : PortId) (done : Bool) : exec (.subframeLatch p done) s = execSubframeLatch p done s := by rfl
theorem exec_lateLeSend (p : PortId) : exec (.lateLeSend p) s = execLateLeSend p s := by rfl
theorem exec_subframeAbandon (p : PortId) : exec (.subframeAbandon p) s = execSubframeAbandon p s := by rfl
theorem exec_bufConfig (ag : Agent) : exec (.bufConfig ag) s = execBufConfig ag s := by rfl
theorem exec_bufInit (ag : Agent) : exec (.bufInit ag) s = execBufInit ag s := by rfl
theorem exec_bufOpen (ag : Agent) : exec (.bufOpen ag) s = execBufOpen ag s := by rfl
theorem exec_bufSeal (ag : Agent) : exec (.bufSeal ag) s = execBufSeal ag s := by rfl
theorem exec_bufFree (ag : Agent) : exec (.bufFree ag) s = execBufFree ag s := by rfl
theorem exec_bufReset (ag : Agent) : exec (.bufReset ag) s = execBufReset ag s := by rfl
theorem exec_bufBadop (ag : Agent) (seven : Bool) : exec (.bufBadop ag seven) s = execBufBadop ag seven s := by rfl
theorem exec_plateLatch : exec (.plateLatch) s = execPlateLatch s := by rfl
theorem exec_plateEnable (ag : Agent) (p : PortId) (v : Word) : exec (.plateEnable ag p v) s = execPlateEnable ag p v s := by rfl
theorem exec_plateDisable (ag : Agent) (p : PortId) (v : Word) : exec (.plateDisable ag p v) s = execPlateDisable ag p v s := by rfl
theorem exec_plateStop (p : PortId) : exec (.plateStop p) s = execPlateStop p s := by rfl
theorem exec_plateCommit (ag : Agent) (p : PortId) : exec (.plateCommit ag p) s = execPlateCommit ag p s := by rfl
theorem exec_lcReceived (p : PortId) (good : Bool) (n : Word) (sf : Fin 8) (status : Fin 4) (crc : Word) : exec (.lcReceived p good n sf status crc) s = execLcReceived p good n sf status crc s := by rfl
theorem exec_srReceived (p : PortId) (good : Bool) (kind : Fin 4) (tag qcode : Byte) (data : List DWord) : exec (.srReceived p good kind tag qcode data) s = execSrReceived p good kind tag qcode data s := by rfl
theorem exec_fmChunk (p : PortId) (good : Bool) (mapseq : BitVec 16) (offset : Word) (data : List Byte) : exec (.fmChunk p good mapseq offset data) s = execFmChunk p good mapseq offset data s := by rfl
theorem exec_trReceived (p : PortId) (good : Bool) (temps : List (BitVec 16)) : exec (.trReceived p good temps) s = execTrReceived p good temps s := by rfl
theorem exec_upstreamAlign (p : PortId) (lcode : Fin 4) (lmask : Fin 16) : exec (.upstreamAlign p lcode lmask) s = execUpstreamAlign p lcode lmask s := by rfl
theorem exec_teEdge (p : PortId) : exec (.teEdge p) s = execTeEdge p s := by rfl
theorem exec_teTimeout (p : PortId) : exec (.teTimeout p) s = execTeTimeout p s := by rfl
theorem exec_linkStall (p : PortId) : exec (.linkStall p) s = execLinkStall p s := by rfl
theorem exec_engDetAssert (p : PortId) : exec (.engDetAssert p) s = execEngDetAssert p s := by rfl
theorem exec_engDetDebounce (p : PortId) : exec (.engDetDebounce p) s = execEngDetDebounce p s := by rfl
theorem exec_engDetNegate (p : PortId) : exec (.engDetNegate p) s = execEngDetNegate p s := by rfl
theorem exec_engDetLoss (p : PortId) : exec (.engDetLoss p) s = execEngDetLoss p s := by rfl
theorem exec_trainTimeout (p : PortId) : exec (.trainTimeout p) s = execTrainTimeout p s := by rfl
theorem exec_identTimeout (p : PortId) : exec (.identTimeout p) s = execIdentTimeout p s := by rfl
theorem exec_rxLockLoss (p : PortId) : exec (.rxLockLoss p) s = execRxLockLoss p s := by rfl
theorem exec_linkCtrlWrite (ag : Agent) (p : PortId) (v : Word) : exec (.linkCtrlWrite ag p v) s = execLinkCtrlWrite ag p v s := by rfl
theorem exec_linkRetrain (ag : Agent) (p : PortId) : exec (.linkRetrain ag p) s = execLinkRetrain ag p s := by rfl
theorem exec_lcRelease (ag : Agent) (p : PortId) : exec (.lcRelease ag p) s = execLcRelease ag p s := by rfl
theorem exec_sqStatusTick (p : PortId) : exec (.sqStatusTick p) s = execSqStatusTick p s := by rfl
theorem exec_lightExitTimeout (p : PortId) : exec (.lightExitTimeout p) s = execLightExitTimeout p s := by rfl
theorem exec_deepWakeEnd (p : PortId) : exec (.deepWakeEnd p) s = execDeepWakeEnd p s := by rfl
theorem exec_pwrNoAck (p : PortId) : exec (.pwrNoAck p) s = execPwrNoAck p s := by rfl
theorem exec_linkTestWrite (ag : Agent) (p : PortId) (v : Word) : exec (.linkTestWrite ag p v) s = execLinkTestWrite ag p v s := by rfl
theorem exec_farEndLoopEnd (p : PortId) (errs : List Word) : exec (.farEndLoopEnd p errs) s = execFarEndLoopEnd p errs s := by rfl
theorem exec_occCut (p : PortId) (mismatch : Option (Fin 256)) (parity : Bool) : exec (.occCut p mismatch parity) s = execOccCut p mismatch parity s := by rfl
theorem exec_feedRecord (mac : MacId) (ip : Word) (payload : List Byte) : exec (.feedRecord mac ip payload) s = execFeedRecord mac ip payload s := by rfl
theorem exec_feedSourceExpire : exec (.feedSourceExpire) s = execFeedSourceExpire s := by rfl
theorem exec_rgnWrite (ag : Agent) : exec (.rgnWrite ag) s = execRgnWrite ag s := by rfl
theorem exec_rgnArm (ag : Agent) : exec (.rgnArm ag) s = execRgnArm ag s := by rfl
theorem exec_rgnDisarm (ag : Agent) : exec (.rgnDisarm ag) s = execRgnDisarm ag s := by rfl
theorem exec_rgnRefresh (ag : Agent) : exec (.rgnRefresh ag) s = execRgnRefresh ag s := by rfl
theorem exec_rgnRead (ag : Agent) : exec (.rgnRead ag) s = execRgnRead ag s := by rfl
theorem exec_rgnBadop (ag : Agent) (op : Fin 3) : exec (.rgnBadop ag op) s = execRgnBadop ag op s := by rfl
theorem exec_guardRelease (ag : Agent) (p : PortId) : exec (.guardRelease ag p) s = execGuardRelease ag p s := by rfl
theorem exec_minEnter (ag : Agent) (p : PortId) : exec (.minEnter ag p) s = execMinEnter ag p s := by rfl
theorem exec_minExit (ag : Agent) (p : PortId) : exec (.minExit ag p) s = execMinExit ag p s := by rfl
theorem exec_xfCommit (ag : Agent) (p : PortId) : exec (.xfCommit ag p) s = execXfCommit ag p s := by rfl
theorem exec_glyphCommit (ag : Agent) (second : Bool) : exec (.glyphCommit ag second) s = execGlyphCommit ag second s := by rfl
theorem exec_retInstanceCommit (ag : Agent) (p : PortId) (k : Fin 256) (v : Word) : exec (.retInstanceCommit ag p k v) s = execRetInstanceCommit ag p k v s := by rfl
theorem exec_pwmPeriodStart (n : StrId) : exec (.pwmPeriodStart n) s = execPwmPeriodStart n s := by rfl
theorem exec_senseConversion (n : StrId) (mv : BitVec 16) : exec (.senseConversion n mv) s = execSenseConversion n mv s := by rfl
theorem exec_ntcConversion (i : Fin 8) (r : Fin 65537) : exec (.ntcConversion n r) s = execNtcConversion n r s := by rfl
theorem exec_strThermal (n : StrId) : exec (.strThermal n) s = execStrThermal n s := by rfl
theorem exec_strSet : exec (.strSet) s = execStrSet s := by rfl
theorem exec_fadeStart : exec (.fadeStart) s = execFadeStart s := by rfl
theorem exec_fadeFrameEval : exec (.fadeFrameEval) s = execFadeFrameEval s := by rfl
theorem exec_stringUnverified (n : StrId) : exec (.stringUnverified n) s = execStringUnverified n s := by rfl
theorem exec_probeDue (n : StrId) : exec (.probeDue n) s = execProbeDue n s := by rfl
theorem exec_strUnverified (n : StrId) : exec (.strUnverified n) s = execStrUnverified n s := by rfl
theorem exec_strClear (ag : Agent) (n : StrId) : exec (.strClear ag n) s = execStrClear ag n s := by rfl
theorem exec_strCfgWrite (ag : Agent) (n : StrId) (v : Word) : exec (.strCfgWrite ag n v) s = execStrCfgWrite ag n v s := by rfl
theorem exec_engTempLost (p : PortId) : exec (.engTempLost p) s = execEngTempLost p s := by rfl
theorem exec_strdiagInit (ag : Agent) (p : PortId) : exec (.strdiagInit ag p) s = execStrdiagInit ag p s := by rfl
theorem exec_strdiagInitDone (p : PortId) : exec (.strdiagInitDone p) s = execStrdiagInitDone p s := by rfl
theorem exec_stuckClr (ag : Agent) (p : PortId) : exec (.stuckClr ag p) s = execStuckClr ag p s := by rfl
theorem exec_linkPacketReceive (l : LinkId) (lseq : BitVec 12) (good : Bool) (k : Pkt) : exec (.linkPacketReceive l lseq good k) s = execLinkPacketReceive l lseq good k s := by rfl
theorem exec_llcReceive (l : LinkId) (cr : BitVec 32) (ack : BitVec 12) (nak : Bool) : exec (.llcReceive l cr ack nak) s = execLlcReceive l cr ack nak s := by rfl
theorem exec_replayTimeout (l : LinkId) : exec (.replayTimeout l) s = execReplayTimeout l s := by rfl
theorem exec_linkBlockLock (l : LinkId) : exec (.linkBlockLock l) s = execLinkBlockLock l s := by rfl
theorem exec_helloTick (l : LinkId) : exec (.helloTick l) s = execHelloTick l s := by rfl
theorem exec_helloReceive (l : LinkId) (h : Hello) : exec (.helloReceive l h) s = execHelloReceive l h s := by rfl
theorem exec_linkDeadTimeout (l : LinkId) : exec (.linkDeadTimeout l) s = execLinkDeadTimeout l s := by rfl
theorem exec_transitLinkCfgWrite (ag : Agent) (l : LinkId) (v : Word) : exec (.transitLinkCfgWrite ag l v) s = execTransitLinkCfgWrite ag l v s := by rfl
theorem exec_transitRetrain (ag : Agent) (l : LinkId) : exec (.transitRetrain ag l) s = execTransitRetrain ag l s := by rfl
theorem exec_routerForward : exec (.routerForward) s = execRouterForward s := by rfl
theorem exec_wrRequest : exec (.wrRequest) s = execWrRequest s := by rfl
theorem exec_rdRequest (busy : Fin 129) : exec (.rdRequest busy) s = execRdRequest busy s := by rfl
theorem exec_faddRequest (busy : Fin 129) : exec (.faddRequest busy) s = execFaddRequest busy s := by rfl
theorem exec_flushRequest : exec (.flushRequest) s = execFlushRequest s := by rfl
theorem exec_streamRequest : exec (.streamRequest) s = execStreamRequest s := by rfl
theorem exec_msgRequest : exec (.msgRequest) s = execMsgRequest s := by rfl
theorem exec_rspReceive : exec (.rspReceive) s = execRspReceive s := by rfl
theorem exec_lateReceive : exec (.lateReceive) s = execLateReceive s := by rfl
theorem exec_transactionTimeout (i : Byte) : exec (.transactionTimeout n) s = execTransactionTimeout n s := by rfl
theorem exec_flushReissue (i : Byte) : exec (.flushReissue n) s = execFlushReissue n s := by rfl
theorem exec_lsaReceive (l : LinkId) (a : Lsa) : exec (.lsaReceive l a) s = execLsaReceive l a s := by rfl
theorem exec_grpReceive (l : LinkId) (g : Grp) : exec (.grpReceive l g) s = execGrpReceive l g s := by rfl
theorem exec_lsaRefreshTick : exec (.lsaRefreshTick) s = execLsaRefreshTick s := by rfl
theorem exec_lsaExpire : exec (.lsaExpire) s = execLsaExpire s := by rfl
theorem exec_routeTableUpdate : exec (.routeTableUpdate) s = execRouteTableUpdate s := by rfl
theorem exec_idClaimTimeout : exec (.idClaimTimeout) s = execIdClaimTimeout s := by rfl
theorem exec_phaseMasterElect : exec (.phaseMasterElect) s = execPhaseMasterElect s := by rfl
theorem exec_phaseSendTick : exec (.phaseSendTick) s = execPhaseSendTick s := by rfl
theorem exec_phasePacketReceive (l : LinkId) (k : PhasePkt) (resid : Word) : exec (.phasePacketReceive l k resid) s = execPhasePacketReceive l k resid s := by rfl
theorem exec_ctrlRx (l : LinkId) (op : BitVec 4) (data : List Byte) : exec (.ctrlRx l op data) s = execCtrlRx l op data s := by rfl
theorem exec_ctrlTx : exec (.ctrlTx) s = execCtrlTx s := by rfl
theorem exec_msgTx : exec (.msgTx) s = execMsgTx s := by rfl
theorem exec_targetStateRequest : exec (.targetStateRequest) s = execTargetStateRequest s := by rfl
theorem exec_tgtClrLate (ag : Agent) : exec (.tgtClrLate ag) s = execTgtClrLate ag s := by rfl
theorem exec_itemPut (src : OSrc) : exec (.itemPut src) s = execItemPut src s := by rfl
theorem exec_nodeSet : exec (.nodeSet) s = execNodeSet s := by rfl
theorem exec_inventoryReceive (l : LinkId) (i : Inv) : exec (.inventoryReceive l n) s = execInventoryReceive l n s := by rfl
theorem exec_coordChange (replica : List (Nat × OItem)) : exec (.coordChange replica) s = execCoordChange replica s := by rfl
theorem exec_rebalanceTick : exec (.rebalanceTick) s = execRebalanceTick s := by rfl
theorem exec_migratePrepare (msg : Option (Nat × OItem)) : exec (.migratePrepare msg) s = execMigratePrepare msg s := by rfl
theorem exec_prepareDone (node : BitVec 13) (id : BitVec 14) : exec (.prepareDone node id) s = execPrepareDone node id s := by rfl
theorem exec_migrateCommit (msg : Option (List (Nat × OItem) × Word)) : exec (.migrateCommit msg) s = execMigrateCommit msg s := by rfl
theorem exec_cframeReached : exec (.cframeReached) s = execCframeReached s := by rfl
theorem exec_finalCopy (id : BitVec 14) (ended : Bool) : exec (.finalCopy id ended) s = execFinalCopy id ended s := by rfl
theorem exec_retireExpire : exec (.retireExpire) s = execRetireExpire s := by rfl
theorem exec_nodeLoss (n : BitVec 13) (hello : DWord) : exec (.nodeLoss n hello) s = execNodeLoss n hello s := by rfl
theorem exec_txDescriptor : exec (.txDescriptor) s = execTxDescriptor s := by rfl
theorem exec_frameSelect (p : MacId) : exec (.frameSelect p) s = execFrameSelect p s := by rfl
theorem exec_txFrameDone (p : MacId) : exec (.txFrameDone p) s = execTxFrameDone p s := by rfl
theorem exec_pfcReceive (p : MacId) (en : Byte) (quanta : BitVec 128) : exec (.pfcReceive p en quanta) s = execPfcReceive p en quanta s := by rfl
theorem exec_pauseReceive (p : MacId) (quanta : BitVec 16) : exec (.pauseReceive p quanta) s = execPauseReceive p quanta s := by rfl
theorem exec_pauseTimerExpire (p : MacId) (q : Fin 8) : exec (.pauseTimerExpire p q) s = execPauseTimerExpire p q s := by rfl
theorem exec_pfcXoff (p : MacId) : exec (.pfcXoff p) s = execPfcXoff p s := by rfl
theorem exec_pfcRefresh (p : MacId) : exec (.pfcRefresh p) s = execPfcRefresh p s := by rfl
theorem exec_pfcXon (p : MacId) : exec (.pfcXon p) s = execPfcXon p s := by rfl
theorem exec_pauseLong (p : MacId) (q : Fin 8) : exec (.pauseLong p q) s = execPauseLong p q s := by rfl
theorem exec_rxFrame (p : MacId) (frame : List Byte) (agoNs : Nat) : exec (.rxFrame p frame agoNs) s = execRxFrame p frame agoNs s := by rfl
theorem exec_rxFrameStore (p : MacId) : exec (.rxFrameStore p) s = execRxFrameStore p s := by rfl
theorem exec_rxFreeBuffer : exec (.rxFreeBuffer) s = execRxFreeBuffer s := by rfl
theorem exec_macLinkUp (p : MacId) (an : Option (BitVec 16)) : exec (.macLinkUp p an) s = execMacLinkUp p an s := by rfl
theorem exec_macLinkLoss (p : MacId) : exec (.macLinkLoss p) s = execMacLinkLoss p s := by rfl
theorem exec_macCtrlWrite (ag : Agent) (p : MacId) (v : Word) : exec (.macCtrlWrite ag p v) s = execMacCtrlWrite ag p v s := by rfl
theorem exec_netLaunch : exec (.netLaunch) s = execNetLaunch s := by rfl
theorem exec_lpiEnter (p : MacId) : exec (.lpiEnter p) s = execLpiEnter p s := by rfl
theorem exec_lpiWake (p : MacId) : exec (.lpiWake p) s = execLpiWake p s := by rfl
theorem exec_sacnDataReceive : exec (.sacnDataReceive) s = execSacnDataReceive s := by rfl
theorem exec_sacnSyncReceive : exec (.sacnSyncReceive) s = execSacnSyncReceive s := by rfl
theorem exec_sacnSourceTimeout (n : Fin 1024) : exec (.sacnSourceTimeout n) s = execSacnSourceTimeout n s := by rfl
theorem exec_st2110Packet : exec (.st2110Packet) s = execSt2110Packet s := by rfl
theorem exec_stCfgWrite (ag : Agent) (u : Fin 4) (k : Fin 16) (v : Word) : exec (.stCfgWrite ag u k v) s = execStCfgWrite ag u k v s := by rfl
theorem exec_ringPushStage (ag : Agent) (r : RingId) (i : Fin 7) (v : Word) : exec (.ringPushStage ag r n v) s = execRingPushStage ag r n v s := by rfl
theorem exec_ringWindowPush (ag : Agent) (r : RingId) (v : Word) : exec (.ringWindowPush ag r v) s = execRingWindowPush ag r v s := by rfl
theorem exec_ringWindowPop (ag : Agent) (r : RingId) : exec (.ringWindowPop ag r) s = execRingWindowPop ag r s := by rfl
theorem exec_ringWindowPeek (ag : Agent) (r : RingId) : exec (.ringWindowPeek ag r) s = execRingWindowPeek ag r s := by rfl
theorem exec_ringWindowDrop (ag : Agent) (r : RingId) : exec (.ringWindowDrop ag r) s = execRingWindowDrop ag r s := by rfl
theorem exec_unitRingPush (w : UPush) : exec (.unitRingPush w) s = execUnitRingPush w s := by rfl
theorem exec_ringRefill (r : RingId) (lost : BitVec 16) : exec (.ringRefill r lost) s = execRingRefill r lost s := by rfl
theorem exec_ringReset (ag : Agent) (r : RingId) : exec (.ringReset ag r) s = execRingReset ag r s := by rfl
theorem exec_ringCtrlWrite (ag : Agent) (r : RingId) (v : Word) : exec (.ringCtrlWrite ag r v) s = execRingCtrlWrite ag r v s := by rfl
theorem exec_dmxBreak : exec (.dmxBreak) s = execDmxBreak s := by rfl
theorem exec_dmxPacketEnd (d : DmxId) : exec (.dmxPacketEnd d) s = execDmxPacketEnd d s := by rfl
theorem exec_rdmTransactionStart (d : DmxId) : exec (.rdmTransactionStart d) s = execRdmTransactionStart d s := by rfl
theorem exec_rdmResponse (d : DmxId) (data : List Byte) : exec (.rdmResponse d data) s = execRdmResponse d data s := by rfl
theorem exec_rdmResponseTimeout (d : DmxId) : exec (.rdmResponseTimeout d) s = execRdmResponseTimeout d s := by rfl
theorem exec_tunnelGet : exec (.tunnelGet) s = execTunnelGet s := by rfl
theorem exec_tunnelCollect : exec (.tunnelCollect) s = execTunnelCollect s := by rfl
theorem exec_tunnelSet : exec (.tunnelSet) s = execTunnelSet s := by rfl
theorem exec_pendingDiscard (i : Fin 64) : exec (.pendingDiscard n) s = execPendingDiscard n s := by rfl
theorem exec_discFull (ag : Agent) (d : DmxId) : exec (.discFull ag d) s = execDiscFull ag d s := by rfl
theorem exec_discoverySweep (d : DmxId) : exec (.discoverySweep d) s = execDiscoverySweep d s := by rfl
theorem exec_panelSample (pins : Word) (emergL darkL : Bool) : exec (.panelSample pins emergL darkL) s = execPanelSample pins emergL darkL s := by rfl
theorem exec_panelStuck (i : Fin 32) : exec (.panelStuck n) s = execPanelStuck n s := by rfl
theorem exec_panelRearm (ag : Agent) (v : Word) : exec (.panelRearm ag v) s = execPanelRearm ag v s := by rfl
theorem exec_emergAssert : exec (.emergAssert) s = execEmergAssert s := by rfl
theorem exec_emergRelease : exec (.emergRelease) s = execEmergRelease s := by rfl
theorem exec_darkAssert : exec (.darkAssert) s = execDarkAssert s := by rfl
theorem exec_darkRelease : exec (.darkRelease) s = execDarkRelease s := by rfl
theorem exec_safeLong (i : Fin 2) : exec (.safeLong n) s = execSafeLong n s := by rfl
theorem exec_failsafeDmxTick (d : DmxId) : exec (.failsafeDmxTick d) s = execFailsafeDmxTick d s := by rfl
theorem exec_failsafeSacnTick (p : Fin 32) : exec (.failsafeSacnTick p) s = execFailsafeSacnTick p s := by rfl
theorem exec_heartbeatTick : exec (.heartbeatTick) s = execHeartbeatTick s := by rfl
theorem exec_heartbeatReceived : exec (.heartbeatReceived) s = execHeartbeatReceived s := by rfl
theorem exec_heartbeatLoss : exec (.heartbeatLoss) s = execHeartbeatLoss s := by rfl
theorem exec_peerAssert : exec (.peerAssert) s = execPeerAssert s := by rfl
theorem exec_peerNegate : exec (.peerNegate) s = execPeerNegate s := by rfl
theorem exec_gateOpen : exec (.gateOpen) s = execGateOpen s := by rfl
theorem exec_tcrcReceive (es : List TcrcEntry) : exec (.tcrcReceive es) s = execTcrcReceive es s := by rfl
theorem exec_tcrcTimeout : exec (.tcrcTimeout) s = execTcrcTimeout s := by rfl
theorem exec_tjudgeReceive (p : PortId) (sf : Fin 8) (n : Word) (disagree : Bool) (re crc : Word) : exec (.tjudgeReceive p sf n disagree re crc) s = execTjudgeReceive p sf n disagree re crc s := by rfl
theorem exec_judgeTimeout : exec (.judgeTimeout) s = execJudgeTimeout s := by rfl
theorem exec_tcutReceive (p : PortId) (sf : Fin 8) (n count : Word) (seqs : List (Word × Word)) : exec (.tcutReceive p sf n count seqs) s = execTcutReceive p sf n count seqs s := by rfl
theorem exec_thealthReceive (health frame status : Word) : exec (.thealthReceive health frame status) s = execThealthReceive health frame status s := by rfl
theorem exec_healthPublish : exec (.healthPublish) s = execHealthPublish s := by rfl
theorem exec_standbyLost : exec (.standbyLost) s = execStandbyLost s := by rfl
theorem exec_tyieldReceive (frame : Word) (sf : Fin 8) : exec (.tyieldReceive frame sf) s = execTyieldReceive frame sf s := by rfl
theorem exec_twinYield (ag : Agent) : exec (.twinYield ag) s = execTwinYield ag s := by rfl
theorem exec_yieldDone : exec (.yieldDone) s = execYieldDone s := by rfl
theorem exec_autoReturn : exec (.autoReturn) s = execAutoReturn s := by rfl
theorem exec_twinUndecClr (ag : Agent) : exec (.twinUndecClr ag) s = execTwinUndecClr ag s := by rfl
theorem exec_twinEnable (ag : Agent) (v : Word) : exec (.twinEnable ag v) s = execTwinEnable ag v s := by rfl
theorem exec_selftestStep (test : Fin 3) (element : Fin 65536) (pass : Bool) : exec (.selftestStep test element pass) s = execSelftestStep test element pass s := by rfl
theorem exec_twinLinkDown : exec (.twinLinkDown) s = execTwinLinkDown s := by rfl
theorem exec_almAppend (ag : Agent) : exec (.almAppend ag) s = execAlmAppend ag s := by rfl
theorem exec_almRead (ag : Agent) : exec (.almRead ag) s = execAlmRead ag s := by rfl
theorem exec_almCompact (ag : Agent) : exec (.almCompact ag) s = execAlmCompact ag s := by rfl
theorem exec_almScrub (ag : Agent) : exec (.almScrub ag) s = execAlmScrub ag s := by rfl
theorem exec_almBadop (ag : Agent) (k : Fin 4) : exec (.almBadop ag k) s = execAlmBadop ag k s := by rfl
theorem exec_almCommandDone (fails : List FlashFail) : exec (.almCommandDone fails) s = execAlmCommandDone fails s := by rfl
theorem exec_mailboxPoll : exec (.mailboxPoll) s = execMailboxPoll s := by rfl
theorem exec_almReplay (ag : Agent) (v : Word) (unread : List Nat) (fails : List FlashFail) : exec (.almReplay ag v unread fails) s = execAlmReplay ag v unread fails s := by rfl
theorem exec_replayDone (fails : List FlashFail) (places : List ProgPlace) : exec (.replayDone fails places) s = execReplayDone fails places s := by rfl
theorem exec_compactionCommit (fails : List FlashFail) : exec (.compactionCommit fails) s = execCompactionCommit fails s := by rfl
theorem exec_pwrfailAssert (left : Option Nat) : exec (.pwrfailAssert left) s = execPwrfailAssert left s := by rfl
theorem exec_pwrfailRelease (since : DWord) : exec (.pwrfailRelease since) s = execPwrfailRelease since s := by rfl
theorem exec_almScrubTick (changed : List (Nat × Byte)) (soft : List Word) (fails : List FlashFail) : exec (.almScrubTick changed soft fails) s = execAlmScrubTick changed soft fails s := by rfl
theorem exec_thermSample (counts : List Word) : exec (.thermSample counts) s = execThermSample counts s := by rfl
theorem exec_sensorBroken (n : Fin 64) : exec (.sensorBroken n) s = execSensorBroken n s := by rfl
theorem exec_thermLimitChange : exec (.thermLimitChange) s = execThermLimitChange s := by rfl
theorem exec_throttleStepChange : exec (.throttleStepChange) s = execThrottleStepChange s := by rfl
theorem exec_thermLimWrite (ag : Agent) (k : Fin 4) (v : Word) : exec (.thermLimWrite ag k v) s = execThermLimWrite ag k v s := by rfl
theorem exec_sensorClr (ag : Agent) : exec (.sensorClr ag) s = execSensorClr ag s := by rfl
theorem exec_peakClr (ag : Agent) : exec (.peakClr ag) s = execPeakClr ag s := by rfl
theorem exec_compStep : exec (.compStep) s = execCompStep s := by rfl
theorem exec_calRun (ag : Agent) : exec (.calRun ag) s = execCalRun ag s := by rfl
theorem exec_calAll (ag : Agent) : exec (.calAll ag) s = execCalAll ag s := by rfl
theorem exec_calRunDone (runs : List (List Int)) : exec (.calRunDone runs) s = execCalRunDone runs s := by rfl
theorem exec_calAutoTick : exec (.calAutoTick) s = execCalAutoTick s := by rfl
theorem exec_modeResolve : exec (.modeResolve) s = execModeResolve s := by rfl
theorem exec_sysModeReqWrite (ag : Agent) (v : Word) : exec (.sysModeReqWrite ag v) s = execSysModeReqWrite ag v s := by rfl
theorem exec_isolationTimeout : exec (.isolationTimeout) s = execIsolationTimeout s := by rfl
theorem exec_fsClr (ag : Agent) : exec (.fsClr ag) s = execFsClr ag s := by rfl
theorem exec_fsLoad (ag : Agent) : exec (.fsLoad ag) s = execFsLoad ag s := by rfl
theorem exec_bootDone (ag : Agent) : exec (.bootDone ag) s = execBootDone ag s := by rfl
theorem exec_sysResetWarm (ag : Agent) (unread : List (Fin 2)) : exec (.sysResetWarm ag unread) s = execSysResetWarm ag unread s := by rfl
theorem exec_sysResetSystem (ag : Agent) : exec (.sysResetSystem ag) s = execSysResetSystem ag s := by rfl
theorem exec_wdogKick (ag : Agent) : exec (.wdogKick ag) s = execWdogKick ag s := by rfl
theorem exec_wdogExpire (unread : List (Fin 2)) : exec (.wdogExpire unread) s = execWdogExpire unread s := by rfl
theorem exec_porstAssert : exec (.porstAssert) s = execPorstAssert s := by rfl
theorem exec_sysrstAssert : exec (.sysrstAssert) s = execSysrstAssert s := by rfl
theorem exec_supplyUndervoltage : exec (.supplyUndervoltage) s = execSupplyUndervoltage s := by rfl
theorem exec_coldExit (sel : Fin 8) (unread : List (Fin 2)) (otpBad : List (Fin 2048)) : exec (.coldExit sel unread otpBad) s = execColdExit sel unread otpBad s := by rfl
theorem exec_dbgAuthRead : exec (.dbgAuthRead) s = execDbgAuthRead s := by rfl
theorem exec_dbgAuthToken (token : List Byte) : exec (.dbgAuthToken token) s = execDbgAuthToken token s := by rfl
theorem exec_dormantEnter (acks : List PortId) (runs : List (Fin 65 × List (List Int))) : exec (.dormantEnter acks runs) s = execDormantEnter acks runs s := by rfl
theorem exec_dormantWake (src : Fin 6) : exec (.dormantWake src) s = execDormantWake src s := by rfl
theorem exec_modeMailboxPoll : exec (.modeMailboxPoll) s = execModeMailboxPoll s := by rfl
theorem exec_faultRecordPush : exec (.faultRecordPush) s = execFaultRecordPush s := by rfl
theorem exec_faultRelease (ag : Agent) : exec (.faultRelease ag) s = execFaultRelease ag s := by rfl
theorem exec_safeClr (ag : Agent) : exec (.safeClr ag) s = execSafeClr ag s := by rfl
theorem exec_scrubPassComplete (dram : Bool) (ce ue : List Nat) : exec (.scrubPassComplete dram ce ue) s = execScrubPassComplete dram ce ue s := by rfl
theorem exec_scrubLate (dram : Bool) : exec (.scrubLate dram) s = execScrubLate dram s := by rfl
theorem exec_bgWindow (used : Fin 10001) (deferred : Nat) : exec (.bgWindow used deferred) s = execBgWindow used deferred s := by rfl
theorem exec_telemSnap : exec (.telemSnap) s = execTelemSnap s := by rfl
theorem exec_telemCmdSnap (ag : Agent) : exec (.telemCmdSnap ag) s = execTelemCmdSnap ag s := by rfl
theorem exec_telemCopyDone : exec (.telemCopyDone) s = execTelemCopyDone s := by rfl
theorem exec_smbStart (ag : Agent) (m : Fin 2) : exec (.smbStart ag m) s = execSmbStart ag m s := by rfl
theorem exec_smbDone (m : Fin 2) (result : Fin 6) (count : Fin 64) (data : List Byte) : exec (.smbDone m result count data) s = execSmbDone m result count data s := by rfl
theorem exec_refClockLoss (k : Fin 4) : exec (.refClockLoss k) s = execRefClockLoss k s := by rfl
theorem exec_serdesCtrlWrite (ag : Agent) (lane : Fin 68) (v : Word) : exec (.serdesCtrlWrite ag lane v) s = execSerdesCtrlWrite ag lane v s := by rfl
theorem exec_timeClockUnlock : exec (.timeClockUnlock) s = execTimeClockUnlock s := by rfl
theorem exec_timeClockRelock : exec (.timeClockRelock) s = execTimeClockRelock s := by rfl
theorem exec_refClockReturn (k : Fin 4) : exec (.refClockReturn k) s = execRefClockReturn k s := by rfl
theorem exec_transitBlockLockLoss (l : LinkId) : exec (.transitBlockLockLoss l) s = execTransitBlockLockLoss l s := by rfl

end Sys2Proof.Machine
end

