-- ==== Sys2Proof/Laws/State.lean ====
section
/-!
SUPPORT. What each small update of the state leaves alone, one lemma per field, so that no proof unfolds a record update.
-/
namespace Sys2Proof.Machine.State

open Sys2Proof

variable (s : State)

/-! ### setReg -/

@[simp] theorem setReg_pending (a : Nat) (w : Word) : (s.setReg a w).pending = s.pending := by rfl
@[simp] theorem setReg_freeCtr (a : Nat) (w : Word) : (s.setReg a w).freeCtr = s.freeCtr := by rfl
@[simp] theorem setReg_aregs (a : Nat) (w : Word) : (s.setReg a w).aregs = s.aregs := by rfl
@[simp] theorem setReg_latch (a : Nat) (w : Word) : (s.setReg a w).latch = s.latch := by rfl
@[simp] theorem setReg_stage (a : Nat) (w : Word) : (s.setReg a w).stage = s.stage := by rfl
@[simp] theorem setReg_mem (a : Nat) (w : Word) : (s.setReg a w).mem = s.mem := by rfl
@[simp] theorem setReg_ue (a : Nat) (w : Word) : (s.setReg a w).ue = s.ue := by rfl
@[simp] theorem setReg_otp (a : Nat) (w : Word) : (s.setReg a w).otp = s.otp := by rfl
@[simp] theorem setReg_mono (a : Nat) (w : Word) : (s.setReg a w).mono = s.mono := by rfl
@[simp] theorem setReg_acc (a : Nat) (w : Word) : (s.setReg a w).acc = s.acc := by rfl
@[simp] theorem setReg_faultQ (a : Nat) (w : Word) : (s.setReg a w).faultQ = s.faultQ := by rfl
@[simp] theorem setReg_faultLost (a : Nat) (w : Word) : (s.setReg a w).faultLost = s.faultLost := by rfl
@[simp] theorem setReg_once (a : Nat) (w : Word) : (s.setReg a w).once = s.once := by rfl
@[simp] theorem setReg_rings (a : Nat) (w : Word) : (s.setReg a w).rings = s.rings := by rfl
@[simp] theorem setReg_ringWins (a : Nat) (w : Word) : (s.setReg a w).ringWins = s.ringWins := by rfl
@[simp] theorem setReg_minSrc (a : Nat) (w : Word) : (s.setReg a w).minSrc = s.minSrc := by rfl
@[simp] theorem setReg_monoFrac (a : Nat) (w : Word) : (s.setReg a w).monoFrac = s.monoFrac := by rfl
@[simp] theorem setReg_sid (a : Nat) (w : Word) : (s.setReg a w).sid = s.sid := by rfl
@[simp] theorem setReg_ptp (a : Nat) (w : Word) : (s.setReg a w).ptp = s.ptp := by rfl
@[simp] theorem setReg_eph (a : Nat) (w : Word) : (s.setReg a w).eph = s.eph := by rfl
@[simp] theorem setReg_ephSpan (a : Nat) (w : Word) : (s.setReg a w).ephSpan = s.ephSpan := by rfl
@[simp] theorem setReg_ephSpanCnt (a : Nat) (w : Word) : (s.setReg a w).ephSpanCnt = s.ephSpanCnt := by rfl
@[simp] theorem setReg_ephLast (a : Nat) (w : Word) : (s.setReg a w).ephLast = s.ephLast := by rfl
@[simp] theorem setReg_issued (a : Nat) (w : Word) : (s.setReg a w).issued = s.issued := by rfl
@[simp] theorem setReg_warmW (a : Nat) (w : Word) : (s.setReg a w).warmW = s.warmW := by rfl
@[simp] theorem setReg_tclkOk (a : Nat) (w : Word) : (s.setReg a w).tclkOk = s.tclkOk := by rfl
@[simp] theorem setReg_cores (a : Nat) (w : Word) : (s.setReg a w).cores = s.cores := by rfl
@[simp] theorem setReg_groups (a : Nat) (w : Word) : (s.setReg a w).groups = s.groups := by rfl
@[simp] theorem setReg_bufs (a : Nat) (w : Word) : (s.setReg a w).bufs = s.bufs := by rfl
@[simp] theorem setReg_ports (a : Nat) (w : Word) : (s.setReg a w).ports = s.ports := by rfl
@[simp] theorem setReg_occs (a : Nat) (w : Word) : (s.setReg a w).occs = s.occs := by rfl
@[simp] theorem setReg_rgns (a : Nat) (w : Word) : (s.setReg a w).rgns = s.rgns := by rfl
@[simp] theorem setReg_rgnsCut (a : Nat) (w : Word) : (s.setReg a w).rgnsCut = s.rgnsCut := by rfl
@[simp] theorem setReg_insts (a : Nat) (w : Word) : (s.setReg a w).insts = s.insts := by rfl
@[simp] theorem setReg_feedSrcs (a : Nat) (w : Word) : (s.setReg a w).feedSrcs = s.feedSrcs := by rfl
@[simp] theorem setReg_stuckOn (a : Nat) (w : Word) : (s.setReg a w).stuckOn = s.stuckOn := by rfl
@[simp] theorem setReg_arrayCur (a : Nat) (w : Word) : (s.setReg a w).arrayCur = s.arrayCur := by rfl
@[simp] theorem setReg_strBind (a : Nat) (w : Word) : (s.setReg a w).strBind = s.strBind := by rfl
@[simp] theorem setReg_strs (a : Nat) (w : Word) : (s.setReg a w).strs = s.strs := by rfl
@[simp] theorem setReg_fades (a : Nat) (w : Word) : (s.setReg a w).fades = s.fades := by rfl
@[simp] theorem setReg_ntcs (a : Nat) (w : Word) : (s.setReg a w).ntcs = s.ntcs := by rfl
@[simp] theorem setReg_diags (a : Nat) (w : Word) : (s.setReg a w).diags = s.diags := by rfl
@[simp] theorem setReg_fadeFrame (a : Nat) (w : Word) : (s.setReg a w).fadeFrame = s.fadeFrame := by rfl
@[simp] theorem setReg_links (a : Nat) (w : Word) : (s.setReg a w).links = s.links := by rfl
@[simp] theorem setReg_tslots (a : Nat) (w : Word) : (s.setReg a w).tslots = s.tslots := by rfl
@[simp] theorem setReg_tgts (a : Nat) (w : Word) : (s.setReg a w).tgts = s.tgts := by rfl
@[simp] theorem setReg_transit (a : Nat) (w : Word) : (s.setReg a w).transit = s.transit := by rfl
@[simp] theorem setReg_orr (a : Nat) (w : Word) : (s.setReg a w).orr = s.orr := by rfl
@[simp] theorem setReg_macs (a : Nat) (w : Word) : (s.setReg a w).macs = s.macs := by rfl
@[simp] theorem setReg_mac (a : Nat) (w : Word) : (s.setReg a w).mac = s.mac := by rfl
@[simp] theorem setReg_dmx (a : Nat) (w : Word) : (s.setReg a w).dmx = s.dmx := by rfl
@[simp] theorem setReg_dpend (a : Nat) (w : Word) : (s.setReg a w).dpend = s.dpend := by rfl
@[simp] theorem setReg_panel (a : Nat) (w : Word) : (s.setReg a w).panel = s.panel := by rfl
@[simp] theorem setReg_safe (a : Nat) (w : Word) : (s.setReg a w).safe = s.safe := by rfl
@[simp] theorem setReg_sampleAt (a : Nat) (w : Word) : (s.setReg a w).sampleAt = s.sampleAt := by rfl
@[simp] theorem setReg_twin (a : Nat) (w : Word) : (s.setReg a w).twin = s.twin := by rfl
@[simp] theorem setReg_alm (a : Nat) (w : Word) : (s.setReg a w).alm = s.alm := by rfl
@[simp] theorem setReg_flash (a : Nat) (w : Word) : (s.setReg a w).flash = s.flash := by rfl
@[simp] theorem setReg_therm (a : Nat) (w : Word) : (s.setReg a w).therm = s.therm := by rfl
@[simp] theorem setReg_cal (a : Nat) (w : Word) : (s.setReg a w).cal = s.cal := by rfl
@[simp] theorem setReg_sys (a : Nat) (w : Word) : (s.setReg a w).sys = s.sys := by rfl
@[simp] theorem setReg_flt (a : Nat) (w : Word) : (s.setReg a w).flt = s.flt := by rfl

/-! ### setFld -/

@[simp] theorem setFld_pending (a hi lo v : Nat) : (s.setFld a hi lo v).pending = s.pending := by rfl
@[simp] theorem setFld_freeCtr (a hi lo v : Nat) : (s.setFld a hi lo v).freeCtr = s.freeCtr := by rfl
@[simp] theorem setFld_aregs (a hi lo v : Nat) : (s.setFld a hi lo v).aregs = s.aregs := by rfl
@[simp] theorem setFld_latch (a hi lo v : Nat) : (s.setFld a hi lo v).latch = s.latch := by rfl
@[simp] theorem setFld_stage (a hi lo v : Nat) : (s.setFld a hi lo v).stage = s.stage := by rfl
@[simp] theorem setFld_mem (a hi lo v : Nat) : (s.setFld a hi lo v).mem = s.mem := by rfl
@[simp] theorem setFld_ue (a hi lo v : Nat) : (s.setFld a hi lo v).ue = s.ue := by rfl
@[simp] theorem setFld_otp (a hi lo v : Nat) : (s.setFld a hi lo v).otp = s.otp := by rfl
@[simp] theorem setFld_mono (a hi lo v : Nat) : (s.setFld a hi lo v).mono = s.mono := by rfl
@[simp] theorem setFld_acc (a hi lo v : Nat) : (s.setFld a hi lo v).acc = s.acc := by rfl
@[simp] theorem setFld_faultQ (a hi lo v : Nat) : (s.setFld a hi lo v).faultQ = s.faultQ := by rfl
@[simp] theorem setFld_faultLost (a hi lo v : Nat) : (s.setFld a hi lo v).faultLost = s.faultLost := by rfl
@[simp] theorem setFld_once (a hi lo v : Nat) : (s.setFld a hi lo v).once = s.once := by rfl
@[simp] theorem setFld_rings (a hi lo v : Nat) : (s.setFld a hi lo v).rings = s.rings := by rfl
@[simp] theorem setFld_ringWins (a hi lo v : Nat) : (s.setFld a hi lo v).ringWins = s.ringWins := by rfl
@[simp] theorem setFld_minSrc (a hi lo v : Nat) : (s.setFld a hi lo v).minSrc = s.minSrc := by rfl
@[simp] theorem setFld_monoFrac (a hi lo v : Nat) : (s.setFld a hi lo v).monoFrac = s.monoFrac := by rfl
@[simp] theorem setFld_sid (a hi lo v : Nat) : (s.setFld a hi lo v).sid = s.sid := by rfl
@[simp] theorem setFld_ptp (a hi lo v : Nat) : (s.setFld a hi lo v).ptp = s.ptp := by rfl
@[simp] theorem setFld_eph (a hi lo v : Nat) : (s.setFld a hi lo v).eph = s.eph := by rfl
@[simp] theorem setFld_ephSpan (a hi lo v : Nat) : (s.setFld a hi lo v).ephSpan = s.ephSpan := by rfl
@[simp] theorem setFld_ephSpanCnt (a hi lo v : Nat) : (s.setFld a hi lo v).ephSpanCnt = s.ephSpanCnt := by rfl
@[simp] theorem setFld_ephLast (a hi lo v : Nat) : (s.setFld a hi lo v).ephLast = s.ephLast := by rfl
@[simp] theorem setFld_issued (a hi lo v : Nat) : (s.setFld a hi lo v).issued = s.issued := by rfl
@[simp] theorem setFld_warmW (a hi lo v : Nat) : (s.setFld a hi lo v).warmW = s.warmW := by rfl
@[simp] theorem setFld_tclkOk (a hi lo v : Nat) : (s.setFld a hi lo v).tclkOk = s.tclkOk := by rfl
@[simp] theorem setFld_cores (a hi lo v : Nat) : (s.setFld a hi lo v).cores = s.cores := by rfl
@[simp] theorem setFld_groups (a hi lo v : Nat) : (s.setFld a hi lo v).groups = s.groups := by rfl
@[simp] theorem setFld_bufs (a hi lo v : Nat) : (s.setFld a hi lo v).bufs = s.bufs := by rfl
@[simp] theorem setFld_ports (a hi lo v : Nat) : (s.setFld a hi lo v).ports = s.ports := by rfl
@[simp] theorem setFld_occs (a hi lo v : Nat) : (s.setFld a hi lo v).occs = s.occs := by rfl
@[simp] theorem setFld_rgns (a hi lo v : Nat) : (s.setFld a hi lo v).rgns = s.rgns := by rfl
@[simp] theorem setFld_rgnsCut (a hi lo v : Nat) : (s.setFld a hi lo v).rgnsCut = s.rgnsCut := by rfl
@[simp] theorem setFld_insts (a hi lo v : Nat) : (s.setFld a hi lo v).insts = s.insts := by rfl
@[simp] theorem setFld_feedSrcs (a hi lo v : Nat) : (s.setFld a hi lo v).feedSrcs = s.feedSrcs := by rfl
@[simp] theorem setFld_stuckOn (a hi lo v : Nat) : (s.setFld a hi lo v).stuckOn = s.stuckOn := by rfl
@[simp] theorem setFld_arrayCur (a hi lo v : Nat) : (s.setFld a hi lo v).arrayCur = s.arrayCur := by rfl
@[simp] theorem setFld_strBind (a hi lo v : Nat) : (s.setFld a hi lo v).strBind = s.strBind := by rfl
@[simp] theorem setFld_strs (a hi lo v : Nat) : (s.setFld a hi lo v).strs = s.strs := by rfl
@[simp] theorem setFld_fades (a hi lo v : Nat) : (s.setFld a hi lo v).fades = s.fades := by rfl
@[simp] theorem setFld_ntcs (a hi lo v : Nat) : (s.setFld a hi lo v).ntcs = s.ntcs := by rfl
@[simp] theorem setFld_diags (a hi lo v : Nat) : (s.setFld a hi lo v).diags = s.diags := by rfl
@[simp] theorem setFld_fadeFrame (a hi lo v : Nat) : (s.setFld a hi lo v).fadeFrame = s.fadeFrame := by rfl
@[simp] theorem setFld_links (a hi lo v : Nat) : (s.setFld a hi lo v).links = s.links := by rfl
@[simp] theorem setFld_tslots (a hi lo v : Nat) : (s.setFld a hi lo v).tslots = s.tslots := by rfl
@[simp] theorem setFld_tgts (a hi lo v : Nat) : (s.setFld a hi lo v).tgts = s.tgts := by rfl
@[simp] theorem setFld_transit (a hi lo v : Nat) : (s.setFld a hi lo v).transit = s.transit := by rfl
@[simp] theorem setFld_orr (a hi lo v : Nat) : (s.setFld a hi lo v).orr = s.orr := by rfl
@[simp] theorem setFld_macs (a hi lo v : Nat) : (s.setFld a hi lo v).macs = s.macs := by rfl
@[simp] theorem setFld_mac (a hi lo v : Nat) : (s.setFld a hi lo v).mac = s.mac := by rfl
@[simp] theorem setFld_dmx (a hi lo v : Nat) : (s.setFld a hi lo v).dmx = s.dmx := by rfl
@[simp] theorem setFld_dpend (a hi lo v : Nat) : (s.setFld a hi lo v).dpend = s.dpend := by rfl
@[simp] theorem setFld_panel (a hi lo v : Nat) : (s.setFld a hi lo v).panel = s.panel := by rfl
@[simp] theorem setFld_safe (a hi lo v : Nat) : (s.setFld a hi lo v).safe = s.safe := by rfl
@[simp] theorem setFld_sampleAt (a hi lo v : Nat) : (s.setFld a hi lo v).sampleAt = s.sampleAt := by rfl
@[simp] theorem setFld_twin (a hi lo v : Nat) : (s.setFld a hi lo v).twin = s.twin := by rfl
@[simp] theorem setFld_alm (a hi lo v : Nat) : (s.setFld a hi lo v).alm = s.alm := by rfl
@[simp] theorem setFld_flash (a hi lo v : Nat) : (s.setFld a hi lo v).flash = s.flash := by rfl
@[simp] theorem setFld_therm (a hi lo v : Nat) : (s.setFld a hi lo v).therm = s.therm := by rfl
@[simp] theorem setFld_cal (a hi lo v : Nat) : (s.setFld a hi lo v).cal = s.cal := by rfl
@[simp] theorem setFld_sys (a hi lo v : Nat) : (s.setFld a hi lo v).sys = s.sys := by rfl
@[simp] theorem setFld_flt (a hi lo v : Nat) : (s.setFld a hi lo v).flt = s.flt := by rfl

/-! ### setBit -/

@[simp] theorem setBit_pending (a i : Nat) (b : Bool) : (s.setBit a i b).pending = s.pending := by rfl
@[simp] theorem setBit_freeCtr (a i : Nat) (b : Bool) : (s.setBit a i b).freeCtr = s.freeCtr := by rfl
@[simp] theorem setBit_aregs (a i : Nat) (b : Bool) : (s.setBit a i b).aregs = s.aregs := by rfl
@[simp] theorem setBit_latch (a i : Nat) (b : Bool) : (s.setBit a i b).latch = s.latch := by rfl
@[simp] theorem setBit_stage (a i : Nat) (b : Bool) : (s.setBit a i b).stage = s.stage := by rfl
@[simp] theorem setBit_mem (a i : Nat) (b : Bool) : (s.setBit a i b).mem = s.mem := by rfl
@[simp] theorem setBit_ue (a i : Nat) (b : Bool) : (s.setBit a i b).ue = s.ue := by rfl
@[simp] theorem setBit_otp (a i : Nat) (b : Bool) : (s.setBit a i b).otp = s.otp := by rfl
@[simp] theorem setBit_mono (a i : Nat) (b : Bool) : (s.setBit a i b).mono = s.mono := by rfl
@[simp] theorem setBit_acc (a i : Nat) (b : Bool) : (s.setBit a i b).acc = s.acc := by rfl
@[simp] theorem setBit_faultQ (a i : Nat) (b : Bool) : (s.setBit a i b).faultQ = s.faultQ := by rfl
@[simp] theorem setBit_faultLost (a i : Nat) (b : Bool) : (s.setBit a i b).faultLost = s.faultLost := by rfl
@[simp] theorem setBit_once (a i : Nat) (b : Bool) : (s.setBit a i b).once = s.once := by rfl
@[simp] theorem setBit_rings (a i : Nat) (b : Bool) : (s.setBit a i b).rings = s.rings := by rfl
@[simp] theorem setBit_ringWins (a i : Nat) (b : Bool) : (s.setBit a i b).ringWins = s.ringWins := by rfl
@[simp] theorem setBit_minSrc (a i : Nat) (b : Bool) : (s.setBit a i b).minSrc = s.minSrc := by rfl
@[simp] theorem setBit_monoFrac (a i : Nat) (b : Bool) : (s.setBit a i b).monoFrac = s.monoFrac := by rfl
@[simp] theorem setBit_sid (a i : Nat) (b : Bool) : (s.setBit a i b).sid = s.sid := by rfl
@[simp] theorem setBit_ptp (a i : Nat) (b : Bool) : (s.setBit a i b).ptp = s.ptp := by rfl
@[simp] theorem setBit_eph (a i : Nat) (b : Bool) : (s.setBit a i b).eph = s.eph := by rfl
@[simp] theorem setBit_ephSpan (a i : Nat) (b : Bool) : (s.setBit a i b).ephSpan = s.ephSpan := by rfl
@[simp] theorem setBit_ephSpanCnt (a i : Nat) (b : Bool) : (s.setBit a i b).ephSpanCnt = s.ephSpanCnt := by rfl
@[simp] theorem setBit_ephLast (a i : Nat) (b : Bool) : (s.setBit a i b).ephLast = s.ephLast := by rfl
@[simp] theorem setBit_issued (a i : Nat) (b : Bool) : (s.setBit a i b).issued = s.issued := by rfl
@[simp] theorem setBit_warmW (a i : Nat) (b : Bool) : (s.setBit a i b).warmW = s.warmW := by rfl
@[simp] theorem setBit_tclkOk (a i : Nat) (b : Bool) : (s.setBit a i b).tclkOk = s.tclkOk := by rfl
@[simp] theorem setBit_cores (a i : Nat) (b : Bool) : (s.setBit a i b).cores = s.cores := by rfl
@[simp] theorem setBit_groups (a i : Nat) (b : Bool) : (s.setBit a i b).groups = s.groups := by rfl
@[simp] theorem setBit_bufs (a i : Nat) (b : Bool) : (s.setBit a i b).bufs = s.bufs := by rfl
@[simp] theorem setBit_ports (a i : Nat) (b : Bool) : (s.setBit a i b).ports = s.ports := by rfl
@[simp] theorem setBit_occs (a i : Nat) (b : Bool) : (s.setBit a i b).occs = s.occs := by rfl
@[simp] theorem setBit_rgns (a i : Nat) (b : Bool) : (s.setBit a i b).rgns = s.rgns := by rfl
@[simp] theorem setBit_rgnsCut (a i : Nat) (b : Bool) : (s.setBit a i b).rgnsCut = s.rgnsCut := by rfl
@[simp] theorem setBit_insts (a i : Nat) (b : Bool) : (s.setBit a i b).insts = s.insts := by rfl
@[simp] theorem setBit_feedSrcs (a i : Nat) (b : Bool) : (s.setBit a i b).feedSrcs = s.feedSrcs := by rfl
@[simp] theorem setBit_stuckOn (a i : Nat) (b : Bool) : (s.setBit a i b).stuckOn = s.stuckOn := by rfl
@[simp] theorem setBit_arrayCur (a i : Nat) (b : Bool) : (s.setBit a i b).arrayCur = s.arrayCur := by rfl
@[simp] theorem setBit_strBind (a i : Nat) (b : Bool) : (s.setBit a i b).strBind = s.strBind := by rfl
@[simp] theorem setBit_strs (a i : Nat) (b : Bool) : (s.setBit a i b).strs = s.strs := by rfl
@[simp] theorem setBit_fades (a i : Nat) (b : Bool) : (s.setBit a i b).fades = s.fades := by rfl
@[simp] theorem setBit_ntcs (a i : Nat) (b : Bool) : (s.setBit a i b).ntcs = s.ntcs := by rfl
@[simp] theorem setBit_diags (a i : Nat) (b : Bool) : (s.setBit a i b).diags = s.diags := by rfl
@[simp] theorem setBit_fadeFrame (a i : Nat) (b : Bool) : (s.setBit a i b).fadeFrame = s.fadeFrame := by rfl
@[simp] theorem setBit_links (a i : Nat) (b : Bool) : (s.setBit a i b).links = s.links := by rfl
@[simp] theorem setBit_tslots (a i : Nat) (b : Bool) : (s.setBit a i b).tslots = s.tslots := by rfl
@[simp] theorem setBit_tgts (a i : Nat) (b : Bool) : (s.setBit a i b).tgts = s.tgts := by rfl
@[simp] theorem setBit_transit (a i : Nat) (b : Bool) : (s.setBit a i b).transit = s.transit := by rfl
@[simp] theorem setBit_orr (a i : Nat) (b : Bool) : (s.setBit a i b).orr = s.orr := by rfl
@[simp] theorem setBit_macs (a i : Nat) (b : Bool) : (s.setBit a i b).macs = s.macs := by rfl
@[simp] theorem setBit_mac (a i : Nat) (b : Bool) : (s.setBit a i b).mac = s.mac := by rfl
@[simp] theorem setBit_dmx (a i : Nat) (b : Bool) : (s.setBit a i b).dmx = s.dmx := by rfl
@[simp] theorem setBit_dpend (a i : Nat) (b : Bool) : (s.setBit a i b).dpend = s.dpend := by rfl
@[simp] theorem setBit_panel (a i : Nat) (b : Bool) : (s.setBit a i b).panel = s.panel := by rfl
@[simp] theorem setBit_safe (a i : Nat) (b : Bool) : (s.setBit a i b).safe = s.safe := by rfl
@[simp] theorem setBit_sampleAt (a i : Nat) (b : Bool) : (s.setBit a i b).sampleAt = s.sampleAt := by rfl
@[simp] theorem setBit_twin (a i : Nat) (b : Bool) : (s.setBit a i b).twin = s.twin := by rfl
@[simp] theorem setBit_alm (a i : Nat) (b : Bool) : (s.setBit a i b).alm = s.alm := by rfl
@[simp] theorem setBit_flash (a i : Nat) (b : Bool) : (s.setBit a i b).flash = s.flash := by rfl
@[simp] theorem setBit_therm (a i : Nat) (b : Bool) : (s.setBit a i b).therm = s.therm := by rfl
@[simp] theorem setBit_cal (a i : Nat) (b : Bool) : (s.setBit a i b).cal = s.cal := by rfl
@[simp] theorem setBit_sys (a i : Nat) (b : Bool) : (s.setBit a i b).sys = s.sys := by rfl
@[simp] theorem setBit_flt (a i : Nat) (b : Bool) : (s.setBit a i b).flt = s.flt := by rfl

/-! ### incBy -/

@[simp] theorem incBy_pending (a n : Nat) : (s.incBy a n).pending = s.pending := by rfl
@[simp] theorem incBy_freeCtr (a n : Nat) : (s.incBy a n).freeCtr = s.freeCtr := by rfl
@[simp] theorem incBy_aregs (a n : Nat) : (s.incBy a n).aregs = s.aregs := by rfl
@[simp] theorem incBy_latch (a n : Nat) : (s.incBy a n).latch = s.latch := by rfl
@[simp] theorem incBy_stage (a n : Nat) : (s.incBy a n).stage = s.stage := by rfl
@[simp] theorem incBy_mem (a n : Nat) : (s.incBy a n).mem = s.mem := by rfl
@[simp] theorem incBy_ue (a n : Nat) : (s.incBy a n).ue = s.ue := by rfl
@[simp] theorem incBy_otp (a n : Nat) : (s.incBy a n).otp = s.otp := by rfl
@[simp] theorem incBy_mono (a n : Nat) : (s.incBy a n).mono = s.mono := by rfl
@[simp] theorem incBy_acc (a n : Nat) : (s.incBy a n).acc = s.acc := by rfl
@[simp] theorem incBy_faultQ (a n : Nat) : (s.incBy a n).faultQ = s.faultQ := by rfl
@[simp] theorem incBy_faultLost (a n : Nat) : (s.incBy a n).faultLost = s.faultLost := by rfl
@[simp] theorem incBy_once (a n : Nat) : (s.incBy a n).once = s.once := by rfl
@[simp] theorem incBy_rings (a n : Nat) : (s.incBy a n).rings = s.rings := by rfl
@[simp] theorem incBy_ringWins (a n : Nat) : (s.incBy a n).ringWins = s.ringWins := by rfl
@[simp] theorem incBy_minSrc (a n : Nat) : (s.incBy a n).minSrc = s.minSrc := by rfl
@[simp] theorem incBy_monoFrac (a n : Nat) : (s.incBy a n).monoFrac = s.monoFrac := by rfl
@[simp] theorem incBy_sid (a n : Nat) : (s.incBy a n).sid = s.sid := by rfl
@[simp] theorem incBy_ptp (a n : Nat) : (s.incBy a n).ptp = s.ptp := by rfl
@[simp] theorem incBy_eph (a n : Nat) : (s.incBy a n).eph = s.eph := by rfl
@[simp] theorem incBy_ephSpan (a n : Nat) : (s.incBy a n).ephSpan = s.ephSpan := by rfl
@[simp] theorem incBy_ephSpanCnt (a n : Nat) : (s.incBy a n).ephSpanCnt = s.ephSpanCnt := by rfl
@[simp] theorem incBy_ephLast (a n : Nat) : (s.incBy a n).ephLast = s.ephLast := by rfl
@[simp] theorem incBy_issued (a n : Nat) : (s.incBy a n).issued = s.issued := by rfl
@[simp] theorem incBy_warmW (a n : Nat) : (s.incBy a n).warmW = s.warmW := by rfl
@[simp] theorem incBy_tclkOk (a n : Nat) : (s.incBy a n).tclkOk = s.tclkOk := by rfl
@[simp] theorem incBy_cores (a n : Nat) : (s.incBy a n).cores = s.cores := by rfl
@[simp] theorem incBy_groups (a n : Nat) : (s.incBy a n).groups = s.groups := by rfl
@[simp] theorem incBy_bufs (a n : Nat) : (s.incBy a n).bufs = s.bufs := by rfl
@[simp] theorem incBy_ports (a n : Nat) : (s.incBy a n).ports = s.ports := by rfl
@[simp] theorem incBy_occs (a n : Nat) : (s.incBy a n).occs = s.occs := by rfl
@[simp] theorem incBy_rgns (a n : Nat) : (s.incBy a n).rgns = s.rgns := by rfl
@[simp] theorem incBy_rgnsCut (a n : Nat) : (s.incBy a n).rgnsCut = s.rgnsCut := by rfl
@[simp] theorem incBy_insts (a n : Nat) : (s.incBy a n).insts = s.insts := by rfl
@[simp] theorem incBy_feedSrcs (a n : Nat) : (s.incBy a n).feedSrcs = s.feedSrcs := by rfl
@[simp] theorem incBy_stuckOn (a n : Nat) : (s.incBy a n).stuckOn = s.stuckOn := by rfl
@[simp] theorem incBy_arrayCur (a n : Nat) : (s.incBy a n).arrayCur = s.arrayCur := by rfl
@[simp] theorem incBy_strBind (a n : Nat) : (s.incBy a n).strBind = s.strBind := by rfl
@[simp] theorem incBy_strs (a n : Nat) : (s.incBy a n).strs = s.strs := by rfl
@[simp] theorem incBy_fades (a n : Nat) : (s.incBy a n).fades = s.fades := by rfl
@[simp] theorem incBy_ntcs (a n : Nat) : (s.incBy a n).ntcs = s.ntcs := by rfl
@[simp] theorem incBy_diags (a n : Nat) : (s.incBy a n).diags = s.diags := by rfl
@[simp] theorem incBy_fadeFrame (a n : Nat) : (s.incBy a n).fadeFrame = s.fadeFrame := by rfl
@[simp] theorem incBy_links (a n : Nat) : (s.incBy a n).links = s.links := by rfl
@[simp] theorem incBy_tslots (a n : Nat) : (s.incBy a n).tslots = s.tslots := by rfl
@[simp] theorem incBy_tgts (a n : Nat) : (s.incBy a n).tgts = s.tgts := by rfl
@[simp] theorem incBy_transit (a n : Nat) : (s.incBy a n).transit = s.transit := by rfl
@[simp] theorem incBy_orr (a n : Nat) : (s.incBy a n).orr = s.orr := by rfl
@[simp] theorem incBy_macs (a n : Nat) : (s.incBy a n).macs = s.macs := by rfl
@[simp] theorem incBy_mac (a n : Nat) : (s.incBy a n).mac = s.mac := by rfl
@[simp] theorem incBy_dmx (a n : Nat) : (s.incBy a n).dmx = s.dmx := by rfl
@[simp] theorem incBy_dpend (a n : Nat) : (s.incBy a n).dpend = s.dpend := by rfl
@[simp] theorem incBy_panel (a n : Nat) : (s.incBy a n).panel = s.panel := by rfl
@[simp] theorem incBy_safe (a n : Nat) : (s.incBy a n).safe = s.safe := by rfl
@[simp] theorem incBy_sampleAt (a n : Nat) : (s.incBy a n).sampleAt = s.sampleAt := by rfl
@[simp] theorem incBy_twin (a n : Nat) : (s.incBy a n).twin = s.twin := by rfl
@[simp] theorem incBy_alm (a n : Nat) : (s.incBy a n).alm = s.alm := by rfl
@[simp] theorem incBy_flash (a n : Nat) : (s.incBy a n).flash = s.flash := by rfl
@[simp] theorem incBy_therm (a n : Nat) : (s.incBy a n).therm = s.therm := by rfl
@[simp] theorem incBy_cal (a n : Nat) : (s.incBy a n).cal = s.cal := by rfl
@[simp] theorem incBy_sys (a n : Nat) : (s.incBy a n).sys = s.sys := by rfl
@[simp] theorem incBy_flt (a n : Nat) : (s.incBy a n).flt = s.flt := by rfl

/-! ### inc -/

@[simp] theorem inc_pending (a : Nat) : (s.inc a).pending = s.pending := by rfl
@[simp] theorem inc_freeCtr (a : Nat) : (s.inc a).freeCtr = s.freeCtr := by rfl
@[simp] theorem inc_aregs (a : Nat) : (s.inc a).aregs = s.aregs := by rfl
@[simp] theorem inc_latch (a : Nat) : (s.inc a).latch = s.latch := by rfl
@[simp] theorem inc_stage (a : Nat) : (s.inc a).stage = s.stage := by rfl
@[simp] theorem inc_mem (a : Nat) : (s.inc a).mem = s.mem := by rfl
@[simp] theorem inc_ue (a : Nat) : (s.inc a).ue = s.ue := by rfl
@[simp] theorem inc_otp (a : Nat) : (s.inc a).otp = s.otp := by rfl
@[simp] theorem inc_mono (a : Nat) : (s.inc a).mono = s.mono := by rfl
@[simp] theorem inc_acc (a : Nat) : (s.inc a).acc = s.acc := by rfl
@[simp] theorem inc_faultQ (a : Nat) : (s.inc a).faultQ = s.faultQ := by rfl
@[simp] theorem inc_faultLost (a : Nat) : (s.inc a).faultLost = s.faultLost := by rfl
@[simp] theorem inc_once (a : Nat) : (s.inc a).once = s.once := by rfl
@[simp] theorem inc_rings (a : Nat) : (s.inc a).rings = s.rings := by rfl
@[simp] theorem inc_ringWins (a : Nat) : (s.inc a).ringWins = s.ringWins := by rfl
@[simp] theorem inc_minSrc (a : Nat) : (s.inc a).minSrc = s.minSrc := by rfl
@[simp] theorem inc_monoFrac (a : Nat) : (s.inc a).monoFrac = s.monoFrac := by rfl
@[simp] theorem inc_sid (a : Nat) : (s.inc a).sid = s.sid := by rfl
@[simp] theorem inc_ptp (a : Nat) : (s.inc a).ptp = s.ptp := by rfl
@[simp] theorem inc_eph (a : Nat) : (s.inc a).eph = s.eph := by rfl
@[simp] theorem inc_ephSpan (a : Nat) : (s.inc a).ephSpan = s.ephSpan := by rfl
@[simp] theorem inc_ephSpanCnt (a : Nat) : (s.inc a).ephSpanCnt = s.ephSpanCnt := by rfl
@[simp] theorem inc_ephLast (a : Nat) : (s.inc a).ephLast = s.ephLast := by rfl
@[simp] theorem inc_issued (a : Nat) : (s.inc a).issued = s.issued := by rfl
@[simp] theorem inc_warmW (a : Nat) : (s.inc a).warmW = s.warmW := by rfl
@[simp] theorem inc_tclkOk (a : Nat) : (s.inc a).tclkOk = s.tclkOk := by rfl
@[simp] theorem inc_cores (a : Nat) : (s.inc a).cores = s.cores := by rfl
@[simp] theorem inc_groups (a : Nat) : (s.inc a).groups = s.groups := by rfl
@[simp] theorem inc_bufs (a : Nat) : (s.inc a).bufs = s.bufs := by rfl
@[simp] theorem inc_ports (a : Nat) : (s.inc a).ports = s.ports := by rfl
@[simp] theorem inc_occs (a : Nat) : (s.inc a).occs = s.occs := by rfl
@[simp] theorem inc_rgns (a : Nat) : (s.inc a).rgns = s.rgns := by rfl
@[simp] theorem inc_rgnsCut (a : Nat) : (s.inc a).rgnsCut = s.rgnsCut := by rfl
@[simp] theorem inc_insts (a : Nat) : (s.inc a).insts = s.insts := by rfl
@[simp] theorem inc_feedSrcs (a : Nat) : (s.inc a).feedSrcs = s.feedSrcs := by rfl
@[simp] theorem inc_stuckOn (a : Nat) : (s.inc a).stuckOn = s.stuckOn := by rfl
@[simp] theorem inc_arrayCur (a : Nat) : (s.inc a).arrayCur = s.arrayCur := by rfl
@[simp] theorem inc_strBind (a : Nat) : (s.inc a).strBind = s.strBind := by rfl
@[simp] theorem inc_strs (a : Nat) : (s.inc a).strs = s.strs := by rfl
@[simp] theorem inc_fades (a : Nat) : (s.inc a).fades = s.fades := by rfl
@[simp] theorem inc_ntcs (a : Nat) : (s.inc a).ntcs = s.ntcs := by rfl
@[simp] theorem inc_diags (a : Nat) : (s.inc a).diags = s.diags := by rfl
@[simp] theorem inc_fadeFrame (a : Nat) : (s.inc a).fadeFrame = s.fadeFrame := by rfl
@[simp] theorem inc_links (a : Nat) : (s.inc a).links = s.links := by rfl
@[simp] theorem inc_tslots (a : Nat) : (s.inc a).tslots = s.tslots := by rfl
@[simp] theorem inc_tgts (a : Nat) : (s.inc a).tgts = s.tgts := by rfl
@[simp] theorem inc_transit (a : Nat) : (s.inc a).transit = s.transit := by rfl
@[simp] theorem inc_orr (a : Nat) : (s.inc a).orr = s.orr := by rfl
@[simp] theorem inc_macs (a : Nat) : (s.inc a).macs = s.macs := by rfl
@[simp] theorem inc_mac (a : Nat) : (s.inc a).mac = s.mac := by rfl
@[simp] theorem inc_dmx (a : Nat) : (s.inc a).dmx = s.dmx := by rfl
@[simp] theorem inc_dpend (a : Nat) : (s.inc a).dpend = s.dpend := by rfl
@[simp] theorem inc_panel (a : Nat) : (s.inc a).panel = s.panel := by rfl
@[simp] theorem inc_safe (a : Nat) : (s.inc a).safe = s.safe := by rfl
@[simp] theorem inc_sampleAt (a : Nat) : (s.inc a).sampleAt = s.sampleAt := by rfl
@[simp] theorem inc_twin (a : Nat) : (s.inc a).twin = s.twin := by rfl
@[simp] theorem inc_alm (a : Nat) : (s.inc a).alm = s.alm := by rfl
@[simp] theorem inc_flash (a : Nat) : (s.inc a).flash = s.flash := by rfl
@[simp] theorem inc_therm (a : Nat) : (s.inc a).therm = s.therm := by rfl
@[simp] theorem inc_cal (a : Nat) : (s.inc a).cal = s.cal := by rfl
@[simp] theorem inc_sys (a : Nat) : (s.inc a).sys = s.sys := by rfl
@[simp] theorem inc_flt (a : Nat) : (s.inc a).flt = s.flt := by rfl

/-! ### setReg64 -/

@[simp] theorem setReg64_pending (a : Nat) (v : DWord) : (s.setReg64 a v).pending = s.pending := by rfl
@[simp] theorem setReg64_freeCtr (a : Nat) (v : DWord) : (s.setReg64 a v).freeCtr = s.freeCtr := by rfl
@[simp] theorem setReg64_aregs (a : Nat) (v : DWord) : (s.setReg64 a v).aregs = s.aregs := by rfl
@[simp] theorem setReg64_latch (a : Nat) (v : DWord) : (s.setReg64 a v).latch = s.latch := by rfl
@[simp] theorem setReg64_stage (a : Nat) (v : DWord) : (s.setReg64 a v).stage = s.stage := by rfl
@[simp] theorem setReg64_mem (a : Nat) (v : DWord) : (s.setReg64 a v).mem = s.mem := by rfl
@[simp] theorem setReg64_ue (a : Nat) (v : DWord) : (s.setReg64 a v).ue = s.ue := by rfl
@[simp] theorem setReg64_otp (a : Nat) (v : DWord) : (s.setReg64 a v).otp = s.otp := by rfl
@[simp] theorem setReg64_mono (a : Nat) (v : DWord) : (s.setReg64 a v).mono = s.mono := by rfl
@[simp] theorem setReg64_acc (a : Nat) (v : DWord) : (s.setReg64 a v).acc = s.acc := by rfl
@[simp] theorem setReg64_faultQ (a : Nat) (v : DWord) : (s.setReg64 a v).faultQ = s.faultQ := by rfl
@[simp] theorem setReg64_faultLost (a : Nat) (v : DWord) : (s.setReg64 a v).faultLost = s.faultLost := by rfl
@[simp] theorem setReg64_once (a : Nat) (v : DWord) : (s.setReg64 a v).once = s.once := by rfl
@[simp] theorem setReg64_rings (a : Nat) (v : DWord) : (s.setReg64 a v).rings = s.rings := by rfl
@[simp] theorem setReg64_ringWins (a : Nat) (v : DWord) : (s.setReg64 a v).ringWins = s.ringWins := by rfl
@[simp] theorem setReg64_minSrc (a : Nat) (v : DWord) : (s.setReg64 a v).minSrc = s.minSrc := by rfl
@[simp] theorem setReg64_monoFrac (a : Nat) (v : DWord) : (s.setReg64 a v).monoFrac = s.monoFrac := by rfl
@[simp] theorem setReg64_sid (a : Nat) (v : DWord) : (s.setReg64 a v).sid = s.sid := by rfl
@[simp] theorem setReg64_ptp (a : Nat) (v : DWord) : (s.setReg64 a v).ptp = s.ptp := by rfl
@[simp] theorem setReg64_eph (a : Nat) (v : DWord) : (s.setReg64 a v).eph = s.eph := by rfl
@[simp] theorem setReg64_ephSpan (a : Nat) (v : DWord) : (s.setReg64 a v).ephSpan = s.ephSpan := by rfl
@[simp] theorem setReg64_ephSpanCnt (a : Nat) (v : DWord) : (s.setReg64 a v).ephSpanCnt = s.ephSpanCnt := by rfl
@[simp] theorem setReg64_ephLast (a : Nat) (v : DWord) : (s.setReg64 a v).ephLast = s.ephLast := by rfl
@[simp] theorem setReg64_issued (a : Nat) (v : DWord) : (s.setReg64 a v).issued = s.issued := by rfl
@[simp] theorem setReg64_warmW (a : Nat) (v : DWord) : (s.setReg64 a v).warmW = s.warmW := by rfl
@[simp] theorem setReg64_tclkOk (a : Nat) (v : DWord) : (s.setReg64 a v).tclkOk = s.tclkOk := by rfl
@[simp] theorem setReg64_cores (a : Nat) (v : DWord) : (s.setReg64 a v).cores = s.cores := by rfl
@[simp] theorem setReg64_groups (a : Nat) (v : DWord) : (s.setReg64 a v).groups = s.groups := by rfl
@[simp] theorem setReg64_bufs (a : Nat) (v : DWord) : (s.setReg64 a v).bufs = s.bufs := by rfl
@[simp] theorem setReg64_ports (a : Nat) (v : DWord) : (s.setReg64 a v).ports = s.ports := by rfl
@[simp] theorem setReg64_occs (a : Nat) (v : DWord) : (s.setReg64 a v).occs = s.occs := by rfl
@[simp] theorem setReg64_rgns (a : Nat) (v : DWord) : (s.setReg64 a v).rgns = s.rgns := by rfl
@[simp] theorem setReg64_rgnsCut (a : Nat) (v : DWord) : (s.setReg64 a v).rgnsCut = s.rgnsCut := by rfl
@[simp] theorem setReg64_insts (a : Nat) (v : DWord) : (s.setReg64 a v).insts = s.insts := by rfl
@[simp] theorem setReg64_feedSrcs (a : Nat) (v : DWord) : (s.setReg64 a v).feedSrcs = s.feedSrcs := by rfl
@[simp] theorem setReg64_stuckOn (a : Nat) (v : DWord) : (s.setReg64 a v).stuckOn = s.stuckOn := by rfl
@[simp] theorem setReg64_arrayCur (a : Nat) (v : DWord) : (s.setReg64 a v).arrayCur = s.arrayCur := by rfl
@[simp] theorem setReg64_strBind (a : Nat) (v : DWord) : (s.setReg64 a v).strBind = s.strBind := by rfl
@[simp] theorem setReg64_strs (a : Nat) (v : DWord) : (s.setReg64 a v).strs = s.strs := by rfl
@[simp] theorem setReg64_fades (a : Nat) (v : DWord) : (s.setReg64 a v).fades = s.fades := by rfl
@[simp] theorem setReg64_ntcs (a : Nat) (v : DWord) : (s.setReg64 a v).ntcs = s.ntcs := by rfl
@[simp] theorem setReg64_diags (a : Nat) (v : DWord) : (s.setReg64 a v).diags = s.diags := by rfl
@[simp] theorem setReg64_fadeFrame (a : Nat) (v : DWord) : (s.setReg64 a v).fadeFrame = s.fadeFrame := by rfl
@[simp] theorem setReg64_links (a : Nat) (v : DWord) : (s.setReg64 a v).links = s.links := by rfl
@[simp] theorem setReg64_tslots (a : Nat) (v : DWord) : (s.setReg64 a v).tslots = s.tslots := by rfl
@[simp] theorem setReg64_tgts (a : Nat) (v : DWord) : (s.setReg64 a v).tgts = s.tgts := by rfl
@[simp] theorem setReg64_transit (a : Nat) (v : DWord) : (s.setReg64 a v).transit = s.transit := by rfl
@[simp] theorem setReg64_orr (a : Nat) (v : DWord) : (s.setReg64 a v).orr = s.orr := by rfl
@[simp] theorem setReg64_macs (a : Nat) (v : DWord) : (s.setReg64 a v).macs = s.macs := by rfl
@[simp] theorem setReg64_mac (a : Nat) (v : DWord) : (s.setReg64 a v).mac = s.mac := by rfl
@[simp] theorem setReg64_dmx (a : Nat) (v : DWord) : (s.setReg64 a v).dmx = s.dmx := by rfl
@[simp] theorem setReg64_dpend (a : Nat) (v : DWord) : (s.setReg64 a v).dpend = s.dpend := by rfl
@[simp] theorem setReg64_panel (a : Nat) (v : DWord) : (s.setReg64 a v).panel = s.panel := by rfl
@[simp] theorem setReg64_safe (a : Nat) (v : DWord) : (s.setReg64 a v).safe = s.safe := by rfl
@[simp] theorem setReg64_sampleAt (a : Nat) (v : DWord) : (s.setReg64 a v).sampleAt = s.sampleAt := by rfl
@[simp] theorem setReg64_twin (a : Nat) (v : DWord) : (s.setReg64 a v).twin = s.twin := by rfl
@[simp] theorem setReg64_alm (a : Nat) (v : DWord) : (s.setReg64 a v).alm = s.alm := by rfl
@[simp] theorem setReg64_flash (a : Nat) (v : DWord) : (s.setReg64 a v).flash = s.flash := by rfl
@[simp] theorem setReg64_therm (a : Nat) (v : DWord) : (s.setReg64 a v).therm = s.therm := by rfl
@[simp] theorem setReg64_cal (a : Nat) (v : DWord) : (s.setReg64 a v).cal = s.cal := by rfl
@[simp] theorem setReg64_sys (a : Nat) (v : DWord) : (s.setReg64 a v).sys = s.sys := by rfl
@[simp] theorem setReg64_flt (a : Nat) (v : DWord) : (s.setReg64 a v).flt = s.flt := by rfl

/-! ### setAreg -/

@[simp] theorem setAreg_pending (ag a : Nat) (w : Word) : (s.setAreg ag a w).pending = s.pending := by rfl
@[simp] theorem setAreg_freeCtr (ag a : Nat) (w : Word) : (s.setAreg ag a w).freeCtr = s.freeCtr := by rfl
@[simp] theorem setAreg_regs (ag a : Nat) (w : Word) : (s.setAreg ag a w).regs = s.regs := by rfl
@[simp] theorem setAreg_latch (ag a : Nat) (w : Word) : (s.setAreg ag a w).latch = s.latch := by rfl
@[simp] theorem setAreg_stage (ag a : Nat) (w : Word) : (s.setAreg ag a w).stage = s.stage := by rfl
@[simp] theorem setAreg_mem (ag a : Nat) (w : Word) : (s.setAreg ag a w).mem = s.mem := by rfl
@[simp] theorem setAreg_ue (ag a : Nat) (w : Word) : (s.setAreg ag a w).ue = s.ue := by rfl
@[simp] theorem setAreg_otp (ag a : Nat) (w : Word) : (s.setAreg ag a w).otp = s.otp := by rfl
@[simp] theorem setAreg_mono (ag a : Nat) (w : Word) : (s.setAreg ag a w).mono = s.mono := by rfl
@[simp] theorem setAreg_acc (ag a : Nat) (w : Word) : (s.setAreg ag a w).acc = s.acc := by rfl
@[simp] theorem setAreg_faultQ (ag a : Nat) (w : Word) : (s.setAreg ag a w).faultQ = s.faultQ := by rfl
@[simp] theorem setAreg_faultLost (ag a : Nat) (w : Word) : (s.setAreg ag a w).faultLost = s.faultLost := by rfl
@[simp] theorem setAreg_once (ag a : Nat) (w : Word) : (s.setAreg ag a w).once = s.once := by rfl
@[simp] theorem setAreg_rings (ag a : Nat) (w : Word) : (s.setAreg ag a w).rings = s.rings := by rfl
@[simp] theorem setAreg_ringWins (ag a : Nat) (w : Word) : (s.setAreg ag a w).ringWins = s.ringWins := by rfl
@[simp] theorem setAreg_minSrc (ag a : Nat) (w : Word) : (s.setAreg ag a w).minSrc = s.minSrc := by rfl
@[simp] theorem setAreg_monoFrac (ag a : Nat) (w : Word) : (s.setAreg ag a w).monoFrac = s.monoFrac := by rfl
@[simp] theorem setAreg_sid (ag a : Nat) (w : Word) : (s.setAreg ag a w).sid = s.sid := by rfl
@[simp] theorem setAreg_ptp (ag a : Nat) (w : Word) : (s.setAreg ag a w).ptp = s.ptp := by rfl
@[simp] theorem setAreg_eph (ag a : Nat) (w : Word) : (s.setAreg ag a w).eph = s.eph := by rfl
@[simp] theorem setAreg_ephSpan (ag a : Nat) (w : Word) : (s.setAreg ag a w).ephSpan = s.ephSpan := by rfl
@[simp] theorem setAreg_ephSpanCnt (ag a : Nat) (w : Word) : (s.setAreg ag a w).ephSpanCnt = s.ephSpanCnt := by rfl
@[simp] theorem setAreg_ephLast (ag a : Nat) (w : Word) : (s.setAreg ag a w).ephLast = s.ephLast := by rfl
@[simp] theorem setAreg_issued (ag a : Nat) (w : Word) : (s.setAreg ag a w).issued = s.issued := by rfl
@[simp] theorem setAreg_warmW (ag a : Nat) (w : Word) : (s.setAreg ag a w).warmW = s.warmW := by rfl
@[simp] theorem setAreg_tclkOk (ag a : Nat) (w : Word) : (s.setAreg ag a w).tclkOk = s.tclkOk := by rfl
@[simp] theorem setAreg_cores (ag a : Nat) (w : Word) : (s.setAreg ag a w).cores = s.cores := by rfl
@[simp] theorem setAreg_groups (ag a : Nat) (w : Word) : (s.setAreg ag a w).groups = s.groups := by rfl
@[simp] theorem setAreg_bufs (ag a : Nat) (w : Word) : (s.setAreg ag a w).bufs = s.bufs := by rfl
@[simp] theorem setAreg_ports (ag a : Nat) (w : Word) : (s.setAreg ag a w).ports = s.ports := by rfl
@[simp] theorem setAreg_occs (ag a : Nat) (w : Word) : (s.setAreg ag a w).occs = s.occs := by rfl
@[simp] theorem setAreg_rgns (ag a : Nat) (w : Word) : (s.setAreg ag a w).rgns = s.rgns := by rfl
@[simp] theorem setAreg_rgnsCut (ag a : Nat) (w : Word) : (s.setAreg ag a w).rgnsCut = s.rgnsCut := by rfl
@[simp] theorem setAreg_insts (ag a : Nat) (w : Word) : (s.setAreg ag a w).insts = s.insts := by rfl
@[simp] theorem setAreg_feedSrcs (ag a : Nat) (w : Word) : (s.setAreg ag a w).feedSrcs = s.feedSrcs := by rfl
@[simp] theorem setAreg_stuckOn (ag a : Nat) (w : Word) : (s.setAreg ag a w).stuckOn = s.stuckOn := by rfl
@[simp] theorem setAreg_arrayCur (ag a : Nat) (w : Word) : (s.setAreg ag a w).arrayCur = s.arrayCur := by rfl
@[simp] theorem setAreg_strBind (ag a : Nat) (w : Word) : (s.setAreg ag a w).strBind = s.strBind := by rfl
@[simp] theorem setAreg_strs (ag a : Nat) (w : Word) : (s.setAreg ag a w).strs = s.strs := by rfl
@[simp] theorem setAreg_fades (ag a : Nat) (w : Word) : (s.setAreg ag a w).fades = s.fades := by rfl
@[simp] theorem setAreg_ntcs (ag a : Nat) (w : Word) : (s.setAreg ag a w).ntcs = s.ntcs := by rfl
@[simp] theorem setAreg_diags (ag a : Nat) (w : Word) : (s.setAreg ag a w).diags = s.diags := by rfl
@[simp] theorem setAreg_fadeFrame (ag a : Nat) (w : Word) : (s.setAreg ag a w).fadeFrame = s.fadeFrame := by rfl
@[simp] theorem setAreg_links (ag a : Nat) (w : Word) : (s.setAreg ag a w).links = s.links := by rfl
@[simp] theorem setAreg_tslots (ag a : Nat) (w : Word) : (s.setAreg ag a w).tslots = s.tslots := by rfl
@[simp] theorem setAreg_tgts (ag a : Nat) (w : Word) : (s.setAreg ag a w).tgts = s.tgts := by rfl
@[simp] theorem setAreg_transit (ag a : Nat) (w : Word) : (s.setAreg ag a w).transit = s.transit := by rfl
@[simp] theorem setAreg_orr (ag a : Nat) (w : Word) : (s.setAreg ag a w).orr = s.orr := by rfl
@[simp] theorem setAreg_macs (ag a : Nat) (w : Word) : (s.setAreg ag a w).macs = s.macs := by rfl
@[simp] theorem setAreg_mac (ag a : Nat) (w : Word) : (s.setAreg ag a w).mac = s.mac := by rfl
@[simp] theorem setAreg_dmx (ag a : Nat) (w : Word) : (s.setAreg ag a w).dmx = s.dmx := by rfl
@[simp] theorem setAreg_dpend (ag a : Nat) (w : Word) : (s.setAreg ag a w).dpend = s.dpend := by rfl
@[simp] theorem setAreg_panel (ag a : Nat) (w : Word) : (s.setAreg ag a w).panel = s.panel := by rfl
@[simp] theorem setAreg_safe (ag a : Nat) (w : Word) : (s.setAreg ag a w).safe = s.safe := by rfl
@[simp] theorem setAreg_sampleAt (ag a : Nat) (w : Word) : (s.setAreg ag a w).sampleAt = s.sampleAt := by rfl
@[simp] theorem setAreg_twin (ag a : Nat) (w : Word) : (s.setAreg ag a w).twin = s.twin := by rfl
@[simp] theorem setAreg_alm (ag a : Nat) (w : Word) : (s.setAreg ag a w).alm = s.alm := by rfl
@[simp] theorem setAreg_flash (ag a : Nat) (w : Word) : (s.setAreg ag a w).flash = s.flash := by rfl
@[simp] theorem setAreg_therm (ag a : Nat) (w : Word) : (s.setAreg ag a w).therm = s.therm := by rfl
@[simp] theorem setAreg_cal (ag a : Nat) (w : Word) : (s.setAreg ag a w).cal = s.cal := by rfl
@[simp] theorem setAreg_sys (ag a : Nat) (w : Word) : (s.setAreg ag a w).sys = s.sys := by rfl
@[simp] theorem setAreg_flt (ag a : Nat) (w : Word) : (s.setAreg ag a w).flt = s.flt := by rfl

/-! ### setByte -/

@[simp] theorem setByte_pending (a : Nat) (b : Byte) : (s.setByte a b).pending = s.pending := by rfl
@[simp] theorem setByte_freeCtr (a : Nat) (b : Byte) : (s.setByte a b).freeCtr = s.freeCtr := by rfl
@[simp] theorem setByte_regs (a : Nat) (b : Byte) : (s.setByte a b).regs = s.regs := by rfl
@[simp] theorem setByte_aregs (a : Nat) (b : Byte) : (s.setByte a b).aregs = s.aregs := by rfl
@[simp] theorem setByte_latch (a : Nat) (b : Byte) : (s.setByte a b).latch = s.latch := by rfl
@[simp] theorem setByte_stage (a : Nat) (b : Byte) : (s.setByte a b).stage = s.stage := by rfl
@[simp] theorem setByte_ue (a : Nat) (b : Byte) : (s.setByte a b).ue = s.ue := by rfl
@[simp] theorem setByte_otp (a : Nat) (b : Byte) : (s.setByte a b).otp = s.otp := by rfl
@[simp] theorem setByte_mono (a : Nat) (b : Byte) : (s.setByte a b).mono = s.mono := by rfl
@[simp] theorem setByte_acc (a : Nat) (b : Byte) : (s.setByte a b).acc = s.acc := by rfl
@[simp] theorem setByte_faultQ (a : Nat) (b : Byte) : (s.setByte a b).faultQ = s.faultQ := by rfl
@[simp] theorem setByte_faultLost (a : Nat) (b : Byte) : (s.setByte a b).faultLost = s.faultLost := by rfl
@[simp] theorem setByte_once (a : Nat) (b : Byte) : (s.setByte a b).once = s.once := by rfl
@[simp] theorem setByte_rings (a : Nat) (b : Byte) : (s.setByte a b).rings = s.rings := by rfl
@[simp] theorem setByte_ringWins (a : Nat) (b : Byte) : (s.setByte a b).ringWins = s.ringWins := by rfl
@[simp] theorem setByte_minSrc (a : Nat) (b : Byte) : (s.setByte a b).minSrc = s.minSrc := by rfl
@[simp] theorem setByte_monoFrac (a : Nat) (b : Byte) : (s.setByte a b).monoFrac = s.monoFrac := by rfl
@[simp] theorem setByte_sid (a : Nat) (b : Byte) : (s.setByte a b).sid = s.sid := by rfl
@[simp] theorem setByte_ptp (a : Nat) (b : Byte) : (s.setByte a b).ptp = s.ptp := by rfl
@[simp] theorem setByte_eph (a : Nat) (b : Byte) : (s.setByte a b).eph = s.eph := by rfl
@[simp] theorem setByte_ephSpan (a : Nat) (b : Byte) : (s.setByte a b).ephSpan = s.ephSpan := by rfl
@[simp] theorem setByte_ephSpanCnt (a : Nat) (b : Byte) : (s.setByte a b).ephSpanCnt = s.ephSpanCnt := by rfl
@[simp] theorem setByte_ephLast (a : Nat) (b : Byte) : (s.setByte a b).ephLast = s.ephLast := by rfl
@[simp] theorem setByte_issued (a : Nat) (b : Byte) : (s.setByte a b).issued = s.issued := by rfl
@[simp] theorem setByte_warmW (a : Nat) (b : Byte) : (s.setByte a b).warmW = s.warmW := by rfl
@[simp] theorem setByte_tclkOk (a : Nat) (b : Byte) : (s.setByte a b).tclkOk = s.tclkOk := by rfl
@[simp] theorem setByte_cores (a : Nat) (b : Byte) : (s.setByte a b).cores = s.cores := by rfl
@[simp] theorem setByte_groups (a : Nat) (b : Byte) : (s.setByte a b).groups = s.groups := by rfl
@[simp] theorem setByte_bufs (a : Nat) (b : Byte) : (s.setByte a b).bufs = s.bufs := by rfl
@[simp] theorem setByte_ports (a : Nat) (b : Byte) : (s.setByte a b).ports = s.ports := by rfl
@[simp] theorem setByte_occs (a : Nat) (b : Byte) : (s.setByte a b).occs = s.occs := by rfl
@[simp] theorem setByte_rgns (a : Nat) (b : Byte) : (s.setByte a b).rgns = s.rgns := by rfl
@[simp] theorem setByte_rgnsCut (a : Nat) (b : Byte) : (s.setByte a b).rgnsCut = s.rgnsCut := by rfl
@[simp] theorem setByte_insts (a : Nat) (b : Byte) : (s.setByte a b).insts = s.insts := by rfl
@[simp] theorem setByte_feedSrcs (a : Nat) (b : Byte) : (s.setByte a b).feedSrcs = s.feedSrcs := by rfl
@[simp] theorem setByte_stuckOn (a : Nat) (b : Byte) : (s.setByte a b).stuckOn = s.stuckOn := by rfl
@[simp] theorem setByte_arrayCur (a : Nat) (b : Byte) : (s.setByte a b).arrayCur = s.arrayCur := by rfl
@[simp] theorem setByte_strBind (a : Nat) (b : Byte) : (s.setByte a b).strBind = s.strBind := by rfl
@[simp] theorem setByte_strs (a : Nat) (b : Byte) : (s.setByte a b).strs = s.strs := by rfl
@[simp] theorem setByte_fades (a : Nat) (b : Byte) : (s.setByte a b).fades = s.fades := by rfl
@[simp] theorem setByte_ntcs (a : Nat) (b : Byte) : (s.setByte a b).ntcs = s.ntcs := by rfl
@[simp] theorem setByte_diags (a : Nat) (b : Byte) : (s.setByte a b).diags = s.diags := by rfl
@[simp] theorem setByte_fadeFrame (a : Nat) (b : Byte) : (s.setByte a b).fadeFrame = s.fadeFrame := by rfl
@[simp] theorem setByte_links (a : Nat) (b : Byte) : (s.setByte a b).links = s.links := by rfl
@[simp] theorem setByte_tslots (a : Nat) (b : Byte) : (s.setByte a b).tslots = s.tslots := by rfl
@[simp] theorem setByte_tgts (a : Nat) (b : Byte) : (s.setByte a b).tgts = s.tgts := by rfl
@[simp] theorem setByte_transit (a : Nat) (b : Byte) : (s.setByte a b).transit = s.transit := by rfl
@[simp] theorem setByte_orr (a : Nat) (b : Byte) : (s.setByte a b).orr = s.orr := by rfl
@[simp] theorem setByte_macs (a : Nat) (b : Byte) : (s.setByte a b).macs = s.macs := by rfl
@[simp] theorem setByte_mac (a : Nat) (b : Byte) : (s.setByte a b).mac = s.mac := by rfl
@[simp] theorem setByte_dmx (a : Nat) (b : Byte) : (s.setByte a b).dmx = s.dmx := by rfl
@[simp] theorem setByte_dpend (a : Nat) (b : Byte) : (s.setByte a b).dpend = s.dpend := by rfl
@[simp] theorem setByte_panel (a : Nat) (b : Byte) : (s.setByte a b).panel = s.panel := by rfl
@[simp] theorem setByte_safe (a : Nat) (b : Byte) : (s.setByte a b).safe = s.safe := by rfl
@[simp] theorem setByte_sampleAt (a : Nat) (b : Byte) : (s.setByte a b).sampleAt = s.sampleAt := by rfl
@[simp] theorem setByte_twin (a : Nat) (b : Byte) : (s.setByte a b).twin = s.twin := by rfl
@[simp] theorem setByte_alm (a : Nat) (b : Byte) : (s.setByte a b).alm = s.alm := by rfl
@[simp] theorem setByte_flash (a : Nat) (b : Byte) : (s.setByte a b).flash = s.flash := by rfl
@[simp] theorem setByte_therm (a : Nat) (b : Byte) : (s.setByte a b).therm = s.therm := by rfl
@[simp] theorem setByte_cal (a : Nat) (b : Byte) : (s.setByte a b).cal = s.cal := by rfl
@[simp] theorem setByte_sys (a : Nat) (b : Byte) : (s.setByte a b).sys = s.sys := by rfl
@[simp] theorem setByte_flt (a : Nat) (b : Byte) : (s.setByte a b).flt = s.flt := by rfl

/-! ### setUe -/

@[simp] theorem setUe_pending (a : Nat) (b : Bool) : (s.setUe a b).pending = s.pending := by rfl
@[simp] theorem setUe_freeCtr (a : Nat) (b : Bool) : (s.setUe a b).freeCtr = s.freeCtr := by rfl
@[simp] theorem setUe_regs (a : Nat) (b : Bool) : (s.setUe a b).regs = s.regs := by rfl
@[simp] theorem setUe_aregs (a : Nat) (b : Bool) : (s.setUe a b).aregs = s.aregs := by rfl
@[simp] theorem setUe_latch (a : Nat) (b : Bool) : (s.setUe a b).latch = s.latch := by rfl
@[simp] theorem setUe_stage (a : Nat) (b : Bool) : (s.setUe a b).stage = s.stage := by rfl
@[simp] theorem setUe_mem (a : Nat) (b : Bool) : (s.setUe a b).mem = s.mem := by rfl
@[simp] theorem setUe_otp (a : Nat) (b : Bool) : (s.setUe a b).otp = s.otp := by rfl
@[simp] theorem setUe_mono (a : Nat) (b : Bool) : (s.setUe a b).mono = s.mono := by rfl
@[simp] theorem setUe_acc (a : Nat) (b : Bool) : (s.setUe a b).acc = s.acc := by rfl
@[simp] theorem setUe_faultQ (a : Nat) (b : Bool) : (s.setUe a b).faultQ = s.faultQ := by rfl
@[simp] theorem setUe_faultLost (a : Nat) (b : Bool) : (s.setUe a b).faultLost = s.faultLost := by rfl
@[simp] theorem setUe_once (a : Nat) (b : Bool) : (s.setUe a b).once = s.once := by rfl
@[simp] theorem setUe_rings (a : Nat) (b : Bool) : (s.setUe a b).rings = s.rings := by rfl
@[simp] theorem setUe_ringWins (a : Nat) (b : Bool) : (s.setUe a b).ringWins = s.ringWins := by rfl
@[simp] theorem setUe_minSrc (a : Nat) (b : Bool) : (s.setUe a b).minSrc = s.minSrc := by rfl
@[simp] theorem setUe_monoFrac (a : Nat) (b : Bool) : (s.setUe a b).monoFrac = s.monoFrac := by rfl
@[simp] theorem setUe_sid (a : Nat) (b : Bool) : (s.setUe a b).sid = s.sid := by rfl
@[simp] theorem setUe_ptp (a : Nat) (b : Bool) : (s.setUe a b).ptp = s.ptp := by rfl
@[simp] theorem setUe_eph (a : Nat) (b : Bool) : (s.setUe a b).eph = s.eph := by rfl
@[simp] theorem setUe_ephSpan (a : Nat) (b : Bool) : (s.setUe a b).ephSpan = s.ephSpan := by rfl
@[simp] theorem setUe_ephSpanCnt (a : Nat) (b : Bool) : (s.setUe a b).ephSpanCnt = s.ephSpanCnt := by rfl
@[simp] theorem setUe_ephLast (a : Nat) (b : Bool) : (s.setUe a b).ephLast = s.ephLast := by rfl
@[simp] theorem setUe_issued (a : Nat) (b : Bool) : (s.setUe a b).issued = s.issued := by rfl
@[simp] theorem setUe_warmW (a : Nat) (b : Bool) : (s.setUe a b).warmW = s.warmW := by rfl
@[simp] theorem setUe_tclkOk (a : Nat) (b : Bool) : (s.setUe a b).tclkOk = s.tclkOk := by rfl
@[simp] theorem setUe_cores (a : Nat) (b : Bool) : (s.setUe a b).cores = s.cores := by rfl
@[simp] theorem setUe_groups (a : Nat) (b : Bool) : (s.setUe a b).groups = s.groups := by rfl
@[simp] theorem setUe_bufs (a : Nat) (b : Bool) : (s.setUe a b).bufs = s.bufs := by rfl
@[simp] theorem setUe_ports (a : Nat) (b : Bool) : (s.setUe a b).ports = s.ports := by rfl
@[simp] theorem setUe_occs (a : Nat) (b : Bool) : (s.setUe a b).occs = s.occs := by rfl
@[simp] theorem setUe_rgns (a : Nat) (b : Bool) : (s.setUe a b).rgns = s.rgns := by rfl
@[simp] theorem setUe_rgnsCut (a : Nat) (b : Bool) : (s.setUe a b).rgnsCut = s.rgnsCut := by rfl
@[simp] theorem setUe_insts (a : Nat) (b : Bool) : (s.setUe a b).insts = s.insts := by rfl
@[simp] theorem setUe_feedSrcs (a : Nat) (b : Bool) : (s.setUe a b).feedSrcs = s.feedSrcs := by rfl
@[simp] theorem setUe_stuckOn (a : Nat) (b : Bool) : (s.setUe a b).stuckOn = s.stuckOn := by rfl
@[simp] theorem setUe_arrayCur (a : Nat) (b : Bool) : (s.setUe a b).arrayCur = s.arrayCur := by rfl
@[simp] theorem setUe_strBind (a : Nat) (b : Bool) : (s.setUe a b).strBind = s.strBind := by rfl
@[simp] theorem setUe_strs (a : Nat) (b : Bool) : (s.setUe a b).strs = s.strs := by rfl
@[simp] theorem setUe_fades (a : Nat) (b : Bool) : (s.setUe a b).fades = s.fades := by rfl
@[simp] theorem setUe_ntcs (a : Nat) (b : Bool) : (s.setUe a b).ntcs = s.ntcs := by rfl
@[simp] theorem setUe_diags (a : Nat) (b : Bool) : (s.setUe a b).diags = s.diags := by rfl
@[simp] theorem setUe_fadeFrame (a : Nat) (b : Bool) : (s.setUe a b).fadeFrame = s.fadeFrame := by rfl
@[simp] theorem setUe_links (a : Nat) (b : Bool) : (s.setUe a b).links = s.links := by rfl
@[simp] theorem setUe_tslots (a : Nat) (b : Bool) : (s.setUe a b).tslots = s.tslots := by rfl
@[simp] theorem setUe_tgts (a : Nat) (b : Bool) : (s.setUe a b).tgts = s.tgts := by rfl
@[simp] theorem setUe_transit (a : Nat) (b : Bool) : (s.setUe a b).transit = s.transit := by rfl
@[simp] theorem setUe_orr (a : Nat) (b : Bool) : (s.setUe a b).orr = s.orr := by rfl
@[simp] theorem setUe_macs (a : Nat) (b : Bool) : (s.setUe a b).macs = s.macs := by rfl
@[simp] theorem setUe_mac (a : Nat) (b : Bool) : (s.setUe a b).mac = s.mac := by rfl
@[simp] theorem setUe_dmx (a : Nat) (b : Bool) : (s.setUe a b).dmx = s.dmx := by rfl
@[simp] theorem setUe_dpend (a : Nat) (b : Bool) : (s.setUe a b).dpend = s.dpend := by rfl
@[simp] theorem setUe_panel (a : Nat) (b : Bool) : (s.setUe a b).panel = s.panel := by rfl
@[simp] theorem setUe_safe (a : Nat) (b : Bool) : (s.setUe a b).safe = s.safe := by rfl
@[simp] theorem setUe_sampleAt (a : Nat) (b : Bool) : (s.setUe a b).sampleAt = s.sampleAt := by rfl
@[simp] theorem setUe_twin (a : Nat) (b : Bool) : (s.setUe a b).twin = s.twin := by rfl
@[simp] theorem setUe_alm (a : Nat) (b : Bool) : (s.setUe a b).alm = s.alm := by rfl
@[simp] theorem setUe_flash (a : Nat) (b : Bool) : (s.setUe a b).flash = s.flash := by rfl
@[simp] theorem setUe_therm (a : Nat) (b : Bool) : (s.setUe a b).therm = s.therm := by rfl
@[simp] theorem setUe_cal (a : Nat) (b : Bool) : (s.setUe a b).cal = s.cal := by rfl
@[simp] theorem setUe_sys (a : Nat) (b : Bool) : (s.setUe a b).sys = s.sys := by rfl
@[simp] theorem setUe_flt (a : Nat) (b : Bool) : (s.setUe a b).flt = s.flt := by rfl

/-! ### setRing -/

@[simp] theorem setRing_pending (r : Nat) (v : RingSt) : (s.setRing r v).pending = s.pending := by rfl
@[simp] theorem setRing_freeCtr (r : Nat) (v : RingSt) : (s.setRing r v).freeCtr = s.freeCtr := by rfl
@[simp] theorem setRing_regs (r : Nat) (v : RingSt) : (s.setRing r v).regs = s.regs := by rfl
@[simp] theorem setRing_aregs (r : Nat) (v : RingSt) : (s.setRing r v).aregs = s.aregs := by rfl
@[simp] theorem setRing_latch (r : Nat) (v : RingSt) : (s.setRing r v).latch = s.latch := by rfl
@[simp] theorem setRing_stage (r : Nat) (v : RingSt) : (s.setRing r v).stage = s.stage := by rfl
@[simp] theorem setRing_mem (r : Nat) (v : RingSt) : (s.setRing r v).mem = s.mem := by rfl
@[simp] theorem setRing_ue (r : Nat) (v : RingSt) : (s.setRing r v).ue = s.ue := by rfl
@[simp] theorem setRing_otp (r : Nat) (v : RingSt) : (s.setRing r v).otp = s.otp := by rfl
@[simp] theorem setRing_mono (r : Nat) (v : RingSt) : (s.setRing r v).mono = s.mono := by rfl
@[simp] theorem setRing_acc (r : Nat) (v : RingSt) : (s.setRing r v).acc = s.acc := by rfl
@[simp] theorem setRing_faultQ (r : Nat) (v : RingSt) : (s.setRing r v).faultQ = s.faultQ := by rfl
@[simp] theorem setRing_faultLost (r : Nat) (v : RingSt) : (s.setRing r v).faultLost = s.faultLost := by rfl
@[simp] theorem setRing_once (r : Nat) (v : RingSt) : (s.setRing r v).once = s.once := by rfl
@[simp] theorem setRing_ringWins (r : Nat) (v : RingSt) : (s.setRing r v).ringWins = s.ringWins := by rfl
@[simp] theorem setRing_minSrc (r : Nat) (v : RingSt) : (s.setRing r v).minSrc = s.minSrc := by rfl
@[simp] theorem setRing_monoFrac (r : Nat) (v : RingSt) : (s.setRing r v).monoFrac = s.monoFrac := by rfl
@[simp] theorem setRing_sid (r : Nat) (v : RingSt) : (s.setRing r v).sid = s.sid := by rfl
@[simp] theorem setRing_ptp (r : Nat) (v : RingSt) : (s.setRing r v).ptp = s.ptp := by rfl
@[simp] theorem setRing_eph (r : Nat) (v : RingSt) : (s.setRing r v).eph = s.eph := by rfl
@[simp] theorem setRing_ephSpan (r : Nat) (v : RingSt) : (s.setRing r v).ephSpan = s.ephSpan := by rfl
@[simp] theorem setRing_ephSpanCnt (r : Nat) (v : RingSt) : (s.setRing r v).ephSpanCnt = s.ephSpanCnt := by rfl
@[simp] theorem setRing_ephLast (r : Nat) (v : RingSt) : (s.setRing r v).ephLast = s.ephLast := by rfl
@[simp] theorem setRing_issued (r : Nat) (v : RingSt) : (s.setRing r v).issued = s.issued := by rfl
@[simp] theorem setRing_warmW (r : Nat) (v : RingSt) : (s.setRing r v).warmW = s.warmW := by rfl
@[simp] theorem setRing_tclkOk (r : Nat) (v : RingSt) : (s.setRing r v).tclkOk = s.tclkOk := by rfl
@[simp] theorem setRing_cores (r : Nat) (v : RingSt) : (s.setRing r v).cores = s.cores := by rfl
@[simp] theorem setRing_groups (r : Nat) (v : RingSt) : (s.setRing r v).groups = s.groups := by rfl
@[simp] theorem setRing_bufs (r : Nat) (v : RingSt) : (s.setRing r v).bufs = s.bufs := by rfl
@[simp] theorem setRing_ports (r : Nat) (v : RingSt) : (s.setRing r v).ports = s.ports := by rfl
@[simp] theorem setRing_occs (r : Nat) (v : RingSt) : (s.setRing r v).occs = s.occs := by rfl
@[simp] theorem setRing_rgns (r : Nat) (v : RingSt) : (s.setRing r v).rgns = s.rgns := by rfl
@[simp] theorem setRing_rgnsCut (r : Nat) (v : RingSt) : (s.setRing r v).rgnsCut = s.rgnsCut := by rfl
@[simp] theorem setRing_insts (r : Nat) (v : RingSt) : (s.setRing r v).insts = s.insts := by rfl
@[simp] theorem setRing_feedSrcs (r : Nat) (v : RingSt) : (s.setRing r v).feedSrcs = s.feedSrcs := by rfl
@[simp] theorem setRing_stuckOn (r : Nat) (v : RingSt) : (s.setRing r v).stuckOn = s.stuckOn := by rfl
@[simp] theorem setRing_arrayCur (r : Nat) (v : RingSt) : (s.setRing r v).arrayCur = s.arrayCur := by rfl
@[simp] theorem setRing_strBind (r : Nat) (v : RingSt) : (s.setRing r v).strBind = s.strBind := by rfl
@[simp] theorem setRing_strs (r : Nat) (v : RingSt) : (s.setRing r v).strs = s.strs := by rfl
@[simp] theorem setRing_fades (r : Nat) (v : RingSt) : (s.setRing r v).fades = s.fades := by rfl
@[simp] theorem setRing_ntcs (r : Nat) (v : RingSt) : (s.setRing r v).ntcs = s.ntcs := by rfl
@[simp] theorem setRing_diags (r : Nat) (v : RingSt) : (s.setRing r v).diags = s.diags := by rfl
@[simp] theorem setRing_fadeFrame (r : Nat) (v : RingSt) : (s.setRing r v).fadeFrame = s.fadeFrame := by rfl
@[simp] theorem setRing_links (r : Nat) (v : RingSt) : (s.setRing r v).links = s.links := by rfl
@[simp] theorem setRing_tslots (r : Nat) (v : RingSt) : (s.setRing r v).tslots = s.tslots := by rfl
@[simp] theorem setRing_tgts (r : Nat) (v : RingSt) : (s.setRing r v).tgts = s.tgts := by rfl
@[simp] theorem setRing_transit (r : Nat) (v : RingSt) : (s.setRing r v).transit = s.transit := by rfl
@[simp] theorem setRing_orr (r : Nat) (v : RingSt) : (s.setRing r v).orr = s.orr := by rfl
@[simp] theorem setRing_macs (r : Nat) (v : RingSt) : (s.setRing r v).macs = s.macs := by rfl
@[simp] theorem setRing_mac (r : Nat) (v : RingSt) : (s.setRing r v).mac = s.mac := by rfl
@[simp] theorem setRing_dmx (r : Nat) (v : RingSt) : (s.setRing r v).dmx = s.dmx := by rfl
@[simp] theorem setRing_dpend (r : Nat) (v : RingSt) : (s.setRing r v).dpend = s.dpend := by rfl
@[simp] theorem setRing_panel (r : Nat) (v : RingSt) : (s.setRing r v).panel = s.panel := by rfl
@[simp] theorem setRing_safe (r : Nat) (v : RingSt) : (s.setRing r v).safe = s.safe := by rfl
@[simp] theorem setRing_sampleAt (r : Nat) (v : RingSt) : (s.setRing r v).sampleAt = s.sampleAt := by rfl
@[simp] theorem setRing_twin (r : Nat) (v : RingSt) : (s.setRing r v).twin = s.twin := by rfl
@[simp] theorem setRing_alm (r : Nat) (v : RingSt) : (s.setRing r v).alm = s.alm := by rfl
@[simp] theorem setRing_flash (r : Nat) (v : RingSt) : (s.setRing r v).flash = s.flash := by rfl
@[simp] theorem setRing_therm (r : Nat) (v : RingSt) : (s.setRing r v).therm = s.therm := by rfl
@[simp] theorem setRing_cal (r : Nat) (v : RingSt) : (s.setRing r v).cal = s.cal := by rfl
@[simp] theorem setRing_sys (r : Nat) (v : RingSt) : (s.setRing r v).sys = s.sys := by rfl
@[simp] theorem setRing_flt (r : Nat) (v : RingSt) : (s.setRing r v).flt = s.flt := by rfl

/-! ### drawn -/

@[simp] theorem drawn_pending : (s.drawn).pending = s.pending := by rfl
@[simp] theorem drawn_regs : (s.drawn).regs = s.regs := by rfl
@[simp] theorem drawn_aregs : (s.drawn).aregs = s.aregs := by rfl
@[simp] theorem drawn_latch : (s.drawn).latch = s.latch := by rfl
@[simp] theorem drawn_stage : (s.drawn).stage = s.stage := by rfl
@[simp] theorem drawn_mem : (s.drawn).mem = s.mem := by rfl
@[simp] theorem drawn_ue : (s.drawn).ue = s.ue := by rfl
@[simp] theorem drawn_otp : (s.drawn).otp = s.otp := by rfl
@[simp] theorem drawn_mono : (s.drawn).mono = s.mono := by rfl
@[simp] theorem drawn_acc : (s.drawn).acc = s.acc := by rfl
@[simp] theorem drawn_faultQ : (s.drawn).faultQ = s.faultQ := by rfl
@[simp] theorem drawn_faultLost : (s.drawn).faultLost = s.faultLost := by rfl
@[simp] theorem drawn_once : (s.drawn).once = s.once := by rfl
@[simp] theorem drawn_rings : (s.drawn).rings = s.rings := by rfl
@[simp] theorem drawn_ringWins : (s.drawn).ringWins = s.ringWins := by rfl
@[simp] theorem drawn_minSrc : (s.drawn).minSrc = s.minSrc := by rfl
@[simp] theorem drawn_monoFrac : (s.drawn).monoFrac = s.monoFrac := by rfl
@[simp] theorem drawn_sid : (s.drawn).sid = s.sid := by rfl
@[simp] theorem drawn_ptp : (s.drawn).ptp = s.ptp := by rfl
@[simp] theorem drawn_eph : (s.drawn).eph = s.eph := by rfl
@[simp] theorem drawn_ephSpan : (s.drawn).ephSpan = s.ephSpan := by rfl
@[simp] theorem drawn_ephSpanCnt : (s.drawn).ephSpanCnt = s.ephSpanCnt := by rfl
@[simp] theorem drawn_ephLast : (s.drawn).ephLast = s.ephLast := by rfl
@[simp] theorem drawn_issued : (s.drawn).issued = s.issued := by rfl
@[simp] theorem drawn_warmW : (s.drawn).warmW = s.warmW := by rfl
@[simp] theorem drawn_tclkOk : (s.drawn).tclkOk = s.tclkOk := by rfl
@[simp] theorem drawn_cores : (s.drawn).cores = s.cores := by rfl
@[simp] theorem drawn_groups : (s.drawn).groups = s.groups := by rfl
@[simp] theorem drawn_bufs : (s.drawn).bufs = s.bufs := by rfl
@[simp] theorem drawn_ports : (s.drawn).ports = s.ports := by rfl
@[simp] theorem drawn_occs : (s.drawn).occs = s.occs := by rfl
@[simp] theorem drawn_rgns : (s.drawn).rgns = s.rgns := by rfl
@[simp] theorem drawn_rgnsCut : (s.drawn).rgnsCut = s.rgnsCut := by rfl
@[simp] theorem drawn_insts : (s.drawn).insts = s.insts := by rfl
@[simp] theorem drawn_feedSrcs : (s.drawn).feedSrcs = s.feedSrcs := by rfl
@[simp] theorem drawn_stuckOn : (s.drawn).stuckOn = s.stuckOn := by rfl
@[simp] theorem drawn_arrayCur : (s.drawn).arrayCur = s.arrayCur := by rfl
@[simp] theorem drawn_strBind : (s.drawn).strBind = s.strBind := by rfl
@[simp] theorem drawn_strs : (s.drawn).strs = s.strs := by rfl
@[simp] theorem drawn_fades : (s.drawn).fades = s.fades := by rfl
@[simp] theorem drawn_ntcs : (s.drawn).ntcs = s.ntcs := by rfl
@[simp] theorem drawn_diags : (s.drawn).diags = s.diags := by rfl
@[simp] theorem drawn_fadeFrame : (s.drawn).fadeFrame = s.fadeFrame := by rfl
@[simp] theorem drawn_links : (s.drawn).links = s.links := by rfl
@[simp] theorem drawn_tslots : (s.drawn).tslots = s.tslots := by rfl
@[simp] theorem drawn_tgts : (s.drawn).tgts = s.tgts := by rfl
@[simp] theorem drawn_transit : (s.drawn).transit = s.transit := by rfl
@[simp] theorem drawn_orr : (s.drawn).orr = s.orr := by rfl
@[simp] theorem drawn_macs : (s.drawn).macs = s.macs := by rfl
@[simp] theorem drawn_mac : (s.drawn).mac = s.mac := by rfl
@[simp] theorem drawn_dmx : (s.drawn).dmx = s.dmx := by rfl
@[simp] theorem drawn_dpend : (s.drawn).dpend = s.dpend := by rfl
@[simp] theorem drawn_panel : (s.drawn).panel = s.panel := by rfl
@[simp] theorem drawn_safe : (s.drawn).safe = s.safe := by rfl
@[simp] theorem drawn_sampleAt : (s.drawn).sampleAt = s.sampleAt := by rfl
@[simp] theorem drawn_twin : (s.drawn).twin = s.twin := by rfl
@[simp] theorem drawn_alm : (s.drawn).alm = s.alm := by rfl
@[simp] theorem drawn_flash : (s.drawn).flash = s.flash := by rfl
@[simp] theorem drawn_therm : (s.drawn).therm = s.therm := by rfl
@[simp] theorem drawn_cal : (s.drawn).cal = s.cal := by rfl
@[simp] theorem drawn_sys : (s.drawn).sys = s.sys := by rfl
@[simp] theorem drawn_flt : (s.drawn).flt = s.flt := by rfl

/-! ### setWin -/

@[simp] theorem setWin_pending (ag : Agent) (r : Nat) (w : RingWin) : (s.setWin ag r w).pending = s.pending := by rfl
@[simp] theorem setWin_freeCtr (ag : Agent) (r : Nat) (w : RingWin) : (s.setWin ag r w).freeCtr = s.freeCtr := by rfl
@[simp] theorem setWin_regs (ag : Agent) (r : Nat) (w : RingWin) : (s.setWin ag r w).regs = s.regs := by rfl
@[simp] theorem setWin_aregs (ag : Agent) (r : Nat) (w : RingWin) : (s.setWin ag r w).aregs = s.aregs := by rfl
@[simp] theorem setWin_latch (ag : Agent) (r : Nat) (w : RingWin) : (s.setWin ag r w).latch = s.latch := by rfl
@[simp] theorem setWin_stage (ag : Agent) (r : Nat) (w : RingWin) : (s.setWin ag r w).stage = s.stage := by rfl
@[simp] theorem setWin_mem (ag : Agent) (r : Nat) (w : RingWin) : (s.setWin ag r w).mem = s.mem := by rfl
@[simp] theorem setWin_ue (ag : Agent) (r : Nat) (w : RingWin) : (s.setWin ag r w).ue = s.ue := by rfl
@[simp] theorem setWin_otp (ag : Agent) (r : Nat) (w : RingWin) : (s.setWin ag r w).otp = s.otp := by rfl
@[simp] theorem setWin_mono (ag : Agent) (r : Nat) (w : RingWin) : (s.setWin ag r w).mono = s.mono := by rfl
@[simp] theorem setWin_acc (ag : Agent) (r : Nat) (w : RingWin) : (s.setWin ag r w).acc = s.acc := by rfl
@[simp] theorem setWin_faultQ (ag : Agent) (r : Nat) (w : RingWin) : (s.setWin ag r w).faultQ = s.faultQ := by rfl
@[simp] theorem setWin_faultLost (ag : Agent) (r : Nat) (w : RingWin) : (s.setWin ag r w).faultLost = s.faultLost := by rfl
@[simp] theorem setWin_once (ag : Agent) (r : Nat) (w : RingWin) : (s.setWin ag r w).once = s.once := by rfl
@[simp] theorem setWin_rings (ag : Agent) (r : Nat) (w : RingWin) : (s.setWin ag r w).rings = s.rings := by rfl
@[simp] theorem setWin_minSrc (ag : Agent) (r : Nat) (w : RingWin) : (s.setWin ag r w).minSrc = s.minSrc := by rfl
@[simp] theorem setWin_monoFrac (ag : Agent) (r : Nat) (w : RingWin) : (s.setWin ag r w).monoFrac = s.monoFrac := by rfl
@[simp] theorem setWin_sid (ag : Agent) (r : Nat) (w : RingWin) : (s.setWin ag r w).sid = s.sid := by rfl
@[simp] theorem setWin_ptp (ag : Agent) (r : Nat) (w : RingWin) : (s.setWin ag r w).ptp = s.ptp := by rfl
@[simp] theorem setWin_eph (ag : Agent) (r : Nat) (w : RingWin) : (s.setWin ag r w).eph = s.eph := by rfl
@[simp] theorem setWin_ephSpan (ag : Agent) (r : Nat) (w : RingWin) : (s.setWin ag r w).ephSpan = s.ephSpan := by rfl
@[simp] theorem setWin_ephSpanCnt (ag : Agent) (r : Nat) (w : RingWin) : (s.setWin ag r w).ephSpanCnt = s.ephSpanCnt := by rfl
@[simp] theorem setWin_ephLast (ag : Agent) (r : Nat) (w : RingWin) : (s.setWin ag r w).ephLast = s.ephLast := by rfl
@[simp] theorem setWin_issued (ag : Agent) (r : Nat) (w : RingWin) : (s.setWin ag r w).issued = s.issued := by rfl
@[simp] theorem setWin_warmW (ag : Agent) (r : Nat) (w : RingWin) : (s.setWin ag r w).warmW = s.warmW := by rfl
@[simp] theorem setWin_tclkOk (ag : Agent) (r : Nat) (w : RingWin) : (s.setWin ag r w).tclkOk = s.tclkOk := by rfl
@[simp] theorem setWin_cores (ag : Agent) (r : Nat) (w : RingWin) : (s.setWin ag r w).cores = s.cores := by rfl
@[simp] theorem setWin_groups (ag : Agent) (r : Nat) (w : RingWin) : (s.setWin ag r w).groups = s.groups := by rfl
@[simp] theorem setWin_bufs (ag : Agent) (r : Nat) (w : RingWin) : (s.setWin ag r w).bufs = s.bufs := by rfl
@[simp] theorem setWin_ports (ag : Agent) (r : Nat) (w : RingWin) : (s.setWin ag r w).ports = s.ports := by rfl
@[simp] theorem setWin_occs (ag : Agent) (r : Nat) (w : RingWin) : (s.setWin ag r w).occs = s.occs := by rfl
@[simp] theorem setWin_rgns (ag : Agent) (r : Nat) (w : RingWin) : (s.setWin ag r w).rgns = s.rgns := by rfl
@[simp] theorem setWin_rgnsCut (ag : Agent) (r : Nat) (w : RingWin) : (s.setWin ag r w).rgnsCut = s.rgnsCut := by rfl
@[simp] theorem setWin_insts (ag : Agent) (r : Nat) (w : RingWin) : (s.setWin ag r w).insts = s.insts := by rfl
@[simp] theorem setWin_feedSrcs (ag : Agent) (r : Nat) (w : RingWin) : (s.setWin ag r w).feedSrcs = s.feedSrcs := by rfl
@[simp] theorem setWin_stuckOn (ag : Agent) (r : Nat) (w : RingWin) : (s.setWin ag r w).stuckOn = s.stuckOn := by rfl
@[simp] theorem setWin_arrayCur (ag : Agent) (r : Nat) (w : RingWin) : (s.setWin ag r w).arrayCur = s.arrayCur := by rfl
@[simp] theorem setWin_strBind (ag : Agent) (r : Nat) (w : RingWin) : (s.setWin ag r w).strBind = s.strBind := by rfl
@[simp] theorem setWin_strs (ag : Agent) (r : Nat) (w : RingWin) : (s.setWin ag r w).strs = s.strs := by rfl
@[simp] theorem setWin_fades (ag : Agent) (r : Nat) (w : RingWin) : (s.setWin ag r w).fades = s.fades := by rfl
@[simp] theorem setWin_ntcs (ag : Agent) (r : Nat) (w : RingWin) : (s.setWin ag r w).ntcs = s.ntcs := by rfl
@[simp] theorem setWin_diags (ag : Agent) (r : Nat) (w : RingWin) : (s.setWin ag r w).diags = s.diags := by rfl
@[simp] theorem setWin_fadeFrame (ag : Agent) (r : Nat) (w : RingWin) : (s.setWin ag r w).fadeFrame = s.fadeFrame := by rfl
@[simp] theorem setWin_links (ag : Agent) (r : Nat) (w : RingWin) : (s.setWin ag r w).links = s.links := by rfl
@[simp] theorem setWin_tslots (ag : Agent) (r : Nat) (w : RingWin) : (s.setWin ag r w).tslots = s.tslots := by rfl
@[simp] theorem setWin_tgts (ag : Agent) (r : Nat) (w : RingWin) : (s.setWin ag r w).tgts = s.tgts := by rfl
@[simp] theorem setWin_transit (ag : Agent) (r : Nat) (w : RingWin) : (s.setWin ag r w).transit = s.transit := by rfl
@[simp] theorem setWin_orr (ag : Agent) (r : Nat) (w : RingWin) : (s.setWin ag r w).orr = s.orr := by rfl
@[simp] theorem setWin_macs (ag : Agent) (r : Nat) (w : RingWin) : (s.setWin ag r w).macs = s.macs := by rfl
@[simp] theorem setWin_mac (ag : Agent) (r : Nat) (w : RingWin) : (s.setWin ag r w).mac = s.mac := by rfl
@[simp] theorem setWin_dmx (ag : Agent) (r : Nat) (w : RingWin) : (s.setWin ag r w).dmx = s.dmx := by rfl
@[simp] theorem setWin_dpend (ag : Agent) (r : Nat) (w : RingWin) : (s.setWin ag r w).dpend = s.dpend := by rfl
@[simp] theorem setWin_panel (ag : Agent) (r : Nat) (w : RingWin) : (s.setWin ag r w).panel = s.panel := by rfl
@[simp] theorem setWin_safe (ag : Agent) (r : Nat) (w : RingWin) : (s.setWin ag r w).safe = s.safe := by rfl
@[simp] theorem setWin_sampleAt (ag : Agent) (r : Nat) (w : RingWin) : (s.setWin ag r w).sampleAt = s.sampleAt := by rfl
@[simp] theorem setWin_twin (ag : Agent) (r : Nat) (w : RingWin) : (s.setWin ag r w).twin = s.twin := by rfl
@[simp] theorem setWin_alm (ag : Agent) (r : Nat) (w : RingWin) : (s.setWin ag r w).alm = s.alm := by rfl
@[simp] theorem setWin_flash (ag : Agent) (r : Nat) (w : RingWin) : (s.setWin ag r w).flash = s.flash := by rfl
@[simp] theorem setWin_therm (ag : Agent) (r : Nat) (w : RingWin) : (s.setWin ag r w).therm = s.therm := by rfl
@[simp] theorem setWin_cal (ag : Agent) (r : Nat) (w : RingWin) : (s.setWin ag r w).cal = s.cal := by rfl
@[simp] theorem setWin_sys (ag : Agent) (r : Nat) (w : RingWin) : (s.setWin ag r w).sys = s.sys := by rfl
@[simp] theorem setWin_flt (ag : Agent) (r : Nat) (w : RingWin) : (s.setWin ag r w).flt = s.flt := by rfl

/-! ### setCore -/

@[simp] theorem setCore_pending (c : Nat) (k : Core) : (s.setCore c k).pending = s.pending := by rfl
@[simp] theorem setCore_freeCtr (c : Nat) (k : Core) : (s.setCore c k).freeCtr = s.freeCtr := by rfl
@[simp] theorem setCore_regs (c : Nat) (k : Core) : (s.setCore c k).regs = s.regs := by rfl
@[simp] theorem setCore_aregs (c : Nat) (k : Core) : (s.setCore c k).aregs = s.aregs := by rfl
@[simp] theorem setCore_latch (c : Nat) (k : Core) : (s.setCore c k).latch = s.latch := by rfl
@[simp] theorem setCore_stage (c : Nat) (k : Core) : (s.setCore c k).stage = s.stage := by rfl
@[simp] theorem setCore_mem (c : Nat) (k : Core) : (s.setCore c k).mem = s.mem := by rfl
@[simp] theorem setCore_ue (c : Nat) (k : Core) : (s.setCore c k).ue = s.ue := by rfl
@[simp] theorem setCore_otp (c : Nat) (k : Core) : (s.setCore c k).otp = s.otp := by rfl
@[simp] theorem setCore_mono (c : Nat) (k : Core) : (s.setCore c k).mono = s.mono := by rfl
@[simp] theorem setCore_acc (c : Nat) (k : Core) : (s.setCore c k).acc = s.acc := by rfl
@[simp] theorem setCore_faultQ (c : Nat) (k : Core) : (s.setCore c k).faultQ = s.faultQ := by rfl
@[simp] theorem setCore_faultLost (c : Nat) (k : Core) : (s.setCore c k).faultLost = s.faultLost := by rfl
@[simp] theorem setCore_once (c : Nat) (k : Core) : (s.setCore c k).once = s.once := by rfl
@[simp] theorem setCore_rings (c : Nat) (k : Core) : (s.setCore c k).rings = s.rings := by rfl
@[simp] theorem setCore_ringWins (c : Nat) (k : Core) : (s.setCore c k).ringWins = s.ringWins := by rfl
@[simp] theorem setCore_minSrc (c : Nat) (k : Core) : (s.setCore c k).minSrc = s.minSrc := by rfl
@[simp] theorem setCore_monoFrac (c : Nat) (k : Core) : (s.setCore c k).monoFrac = s.monoFrac := by rfl
@[simp] theorem setCore_sid (c : Nat) (k : Core) : (s.setCore c k).sid = s.sid := by rfl
@[simp] theorem setCore_ptp (c : Nat) (k : Core) : (s.setCore c k).ptp = s.ptp := by rfl
@[simp] theorem setCore_eph (c : Nat) (k : Core) : (s.setCore c k).eph = s.eph := by rfl
@[simp] theorem setCore_ephSpan (c : Nat) (k : Core) : (s.setCore c k).ephSpan = s.ephSpan := by rfl
@[simp] theorem setCore_ephSpanCnt (c : Nat) (k : Core) : (s.setCore c k).ephSpanCnt = s.ephSpanCnt := by rfl
@[simp] theorem setCore_ephLast (c : Nat) (k : Core) : (s.setCore c k).ephLast = s.ephLast := by rfl
@[simp] theorem setCore_issued (c : Nat) (k : Core) : (s.setCore c k).issued = s.issued := by rfl
@[simp] theorem setCore_warmW (c : Nat) (k : Core) : (s.setCore c k).warmW = s.warmW := by rfl
@[simp] theorem setCore_tclkOk (c : Nat) (k : Core) : (s.setCore c k).tclkOk = s.tclkOk := by rfl
@[simp] theorem setCore_groups (c : Nat) (k : Core) : (s.setCore c k).groups = s.groups := by rfl
@[simp] theorem setCore_bufs (c : Nat) (k : Core) : (s.setCore c k).bufs = s.bufs := by rfl
@[simp] theorem setCore_ports (c : Nat) (k : Core) : (s.setCore c k).ports = s.ports := by rfl
@[simp] theorem setCore_occs (c : Nat) (k : Core) : (s.setCore c k).occs = s.occs := by rfl
@[simp] theorem setCore_rgns (c : Nat) (k : Core) : (s.setCore c k).rgns = s.rgns := by rfl
@[simp] theorem setCore_rgnsCut (c : Nat) (k : Core) : (s.setCore c k).rgnsCut = s.rgnsCut := by rfl
@[simp] theorem setCore_insts (c : Nat) (k : Core) : (s.setCore c k).insts = s.insts := by rfl
@[simp] theorem setCore_feedSrcs (c : Nat) (k : Core) : (s.setCore c k).feedSrcs = s.feedSrcs := by rfl
@[simp] theorem setCore_stuckOn (c : Nat) (k : Core) : (s.setCore c k).stuckOn = s.stuckOn := by rfl
@[simp] theorem setCore_arrayCur (c : Nat) (k : Core) : (s.setCore c k).arrayCur = s.arrayCur := by rfl
@[simp] theorem setCore_strBind (c : Nat) (k : Core) : (s.setCore c k).strBind = s.strBind := by rfl
@[simp] theorem setCore_strs (c : Nat) (k : Core) : (s.setCore c k).strs = s.strs := by rfl
@[simp] theorem setCore_fades (c : Nat) (k : Core) : (s.setCore c k).fades = s.fades := by rfl
@[simp] theorem setCore_ntcs (c : Nat) (k : Core) : (s.setCore c k).ntcs = s.ntcs := by rfl
@[simp] theorem setCore_diags (c : Nat) (k : Core) : (s.setCore c k).diags = s.diags := by rfl
@[simp] theorem setCore_fadeFrame (c : Nat) (k : Core) : (s.setCore c k).fadeFrame = s.fadeFrame := by rfl
@[simp] theorem setCore_links (c : Nat) (k : Core) : (s.setCore c k).links = s.links := by rfl
@[simp] theorem setCore_tslots (c : Nat) (k : Core) : (s.setCore c k).tslots = s.tslots := by rfl
@[simp] theorem setCore_tgts (c : Nat) (k : Core) : (s.setCore c k).tgts = s.tgts := by rfl
@[simp] theorem setCore_transit (c : Nat) (k : Core) : (s.setCore c k).transit = s.transit := by rfl
@[simp] theorem setCore_orr (c : Nat) (k : Core) : (s.setCore c k).orr = s.orr := by rfl
@[simp] theorem setCore_macs (c : Nat) (k : Core) : (s.setCore c k).macs = s.macs := by rfl
@[simp] theorem setCore_mac (c : Nat) (k : Core) : (s.setCore c k).mac = s.mac := by rfl
@[simp] theorem setCore_dmx (c : Nat) (k : Core) : (s.setCore c k).dmx = s.dmx := by rfl
@[simp] theorem setCore_dpend (c : Nat) (k : Core) : (s.setCore c k).dpend = s.dpend := by rfl
@[simp] theorem setCore_panel (c : Nat) (k : Core) : (s.setCore c k).panel = s.panel := by rfl
@[simp] theorem setCore_safe (c : Nat) (k : Core) : (s.setCore c k).safe = s.safe := by rfl
@[simp] theorem setCore_sampleAt (c : Nat) (k : Core) : (s.setCore c k).sampleAt = s.sampleAt := by rfl
@[simp] theorem setCore_twin (c : Nat) (k : Core) : (s.setCore c k).twin = s.twin := by rfl
@[simp] theorem setCore_alm (c : Nat) (k : Core) : (s.setCore c k).alm = s.alm := by rfl
@[simp] theorem setCore_flash (c : Nat) (k : Core) : (s.setCore c k).flash = s.flash := by rfl
@[simp] theorem setCore_therm (c : Nat) (k : Core) : (s.setCore c k).therm = s.therm := by rfl
@[simp] theorem setCore_cal (c : Nat) (k : Core) : (s.setCore c k).cal = s.cal := by rfl
@[simp] theorem setCore_sys (c : Nat) (k : Core) : (s.setCore c k).sys = s.sys := by rfl
@[simp] theorem setCore_flt (c : Nat) (k : Core) : (s.setCore c k).flt = s.flt := by rfl

/-! ### setBuf -/

@[simp] theorem setBuf_pending (b : Nat) (v : PBuf) : (s.setBuf b v).pending = s.pending := by rfl
@[simp] theorem setBuf_freeCtr (b : Nat) (v : PBuf) : (s.setBuf b v).freeCtr = s.freeCtr := by rfl
@[simp] theorem setBuf_regs (b : Nat) (v : PBuf) : (s.setBuf b v).regs = s.regs := by rfl
@[simp] theorem setBuf_aregs (b : Nat) (v : PBuf) : (s.setBuf b v).aregs = s.aregs := by rfl
@[simp] theorem setBuf_latch (b : Nat) (v : PBuf) : (s.setBuf b v).latch = s.latch := by rfl
@[simp] theorem setBuf_stage (b : Nat) (v : PBuf) : (s.setBuf b v).stage = s.stage := by rfl
@[simp] theorem setBuf_mem (b : Nat) (v : PBuf) : (s.setBuf b v).mem = s.mem := by rfl
@[simp] theorem setBuf_ue (b : Nat) (v : PBuf) : (s.setBuf b v).ue = s.ue := by rfl
@[simp] theorem setBuf_otp (b : Nat) (v : PBuf) : (s.setBuf b v).otp = s.otp := by rfl
@[simp] theorem setBuf_mono (b : Nat) (v : PBuf) : (s.setBuf b v).mono = s.mono := by rfl
@[simp] theorem setBuf_acc (b : Nat) (v : PBuf) : (s.setBuf b v).acc = s.acc := by rfl
@[simp] theorem setBuf_faultQ (b : Nat) (v : PBuf) : (s.setBuf b v).faultQ = s.faultQ := by rfl
@[simp] theorem setBuf_faultLost (b : Nat) (v : PBuf) : (s.setBuf b v).faultLost = s.faultLost := by rfl
@[simp] theorem setBuf_once (b : Nat) (v : PBuf) : (s.setBuf b v).once = s.once := by rfl
@[simp] theorem setBuf_rings (b : Nat) (v : PBuf) : (s.setBuf b v).rings = s.rings := by rfl
@[simp] theorem setBuf_ringWins (b : Nat) (v : PBuf) : (s.setBuf b v).ringWins = s.ringWins := by rfl
@[simp] theorem setBuf_minSrc (b : Nat) (v : PBuf) : (s.setBuf b v).minSrc = s.minSrc := by rfl
@[simp] theorem setBuf_monoFrac (b : Nat) (v : PBuf) : (s.setBuf b v).monoFrac = s.monoFrac := by rfl
@[simp] theorem setBuf_sid (b : Nat) (v : PBuf) : (s.setBuf b v).sid = s.sid := by rfl
@[simp] theorem setBuf_ptp (b : Nat) (v : PBuf) : (s.setBuf b v).ptp = s.ptp := by rfl
@[simp] theorem setBuf_eph (b : Nat) (v : PBuf) : (s.setBuf b v).eph = s.eph := by rfl
@[simp] theorem setBuf_ephSpan (b : Nat) (v : PBuf) : (s.setBuf b v).ephSpan = s.ephSpan := by rfl
@[simp] theorem setBuf_ephSpanCnt (b : Nat) (v : PBuf) : (s.setBuf b v).ephSpanCnt = s.ephSpanCnt := by rfl
@[simp] theorem setBuf_ephLast (b : Nat) (v : PBuf) : (s.setBuf b v).ephLast = s.ephLast := by rfl
@[simp] theorem setBuf_issued (b : Nat) (v : PBuf) : (s.setBuf b v).issued = s.issued := by rfl
@[simp] theorem setBuf_warmW (b : Nat) (v : PBuf) : (s.setBuf b v).warmW = s.warmW := by rfl
@[simp] theorem setBuf_tclkOk (b : Nat) (v : PBuf) : (s.setBuf b v).tclkOk = s.tclkOk := by rfl
@[simp] theorem setBuf_cores (b : Nat) (v : PBuf) : (s.setBuf b v).cores = s.cores := by rfl
@[simp] theorem setBuf_groups (b : Nat) (v : PBuf) : (s.setBuf b v).groups = s.groups := by rfl
@[simp] theorem setBuf_ports (b : Nat) (v : PBuf) : (s.setBuf b v).ports = s.ports := by rfl
@[simp] theorem setBuf_occs (b : Nat) (v : PBuf) : (s.setBuf b v).occs = s.occs := by rfl
@[simp] theorem setBuf_rgns (b : Nat) (v : PBuf) : (s.setBuf b v).rgns = s.rgns := by rfl
@[simp] theorem setBuf_rgnsCut (b : Nat) (v : PBuf) : (s.setBuf b v).rgnsCut = s.rgnsCut := by rfl
@[simp] theorem setBuf_insts (b : Nat) (v : PBuf) : (s.setBuf b v).insts = s.insts := by rfl
@[simp] theorem setBuf_feedSrcs (b : Nat) (v : PBuf) : (s.setBuf b v).feedSrcs = s.feedSrcs := by rfl
@[simp] theorem setBuf_stuckOn (b : Nat) (v : PBuf) : (s.setBuf b v).stuckOn = s.stuckOn := by rfl
@[simp] theorem setBuf_arrayCur (b : Nat) (v : PBuf) : (s.setBuf b v).arrayCur = s.arrayCur := by rfl
@[simp] theorem setBuf_strBind (b : Nat) (v : PBuf) : (s.setBuf b v).strBind = s.strBind := by rfl
@[simp] theorem setBuf_strs (b : Nat) (v : PBuf) : (s.setBuf b v).strs = s.strs := by rfl
@[simp] theorem setBuf_fades (b : Nat) (v : PBuf) : (s.setBuf b v).fades = s.fades := by rfl
@[simp] theorem setBuf_ntcs (b : Nat) (v : PBuf) : (s.setBuf b v).ntcs = s.ntcs := by rfl
@[simp] theorem setBuf_diags (b : Nat) (v : PBuf) : (s.setBuf b v).diags = s.diags := by rfl
@[simp] theorem setBuf_fadeFrame (b : Nat) (v : PBuf) : (s.setBuf b v).fadeFrame = s.fadeFrame := by rfl
@[simp] theorem setBuf_links (b : Nat) (v : PBuf) : (s.setBuf b v).links = s.links := by rfl
@[simp] theorem setBuf_tslots (b : Nat) (v : PBuf) : (s.setBuf b v).tslots = s.tslots := by rfl
@[simp] theorem setBuf_tgts (b : Nat) (v : PBuf) : (s.setBuf b v).tgts = s.tgts := by rfl
@[simp] theorem setBuf_transit (b : Nat) (v : PBuf) : (s.setBuf b v).transit = s.transit := by rfl
@[simp] theorem setBuf_orr (b : Nat) (v : PBuf) : (s.setBuf b v).orr = s.orr := by rfl
@[simp] theorem setBuf_macs (b : Nat) (v : PBuf) : (s.setBuf b v).macs = s.macs := by rfl
@[simp] theorem setBuf_mac (b : Nat) (v : PBuf) : (s.setBuf b v).mac = s.mac := by rfl
@[simp] theorem setBuf_dmx (b : Nat) (v : PBuf) : (s.setBuf b v).dmx = s.dmx := by rfl
@[simp] theorem setBuf_dpend (b : Nat) (v : PBuf) : (s.setBuf b v).dpend = s.dpend := by rfl
@[simp] theorem setBuf_panel (b : Nat) (v : PBuf) : (s.setBuf b v).panel = s.panel := by rfl
@[simp] theorem setBuf_safe (b : Nat) (v : PBuf) : (s.setBuf b v).safe = s.safe := by rfl
@[simp] theorem setBuf_sampleAt (b : Nat) (v : PBuf) : (s.setBuf b v).sampleAt = s.sampleAt := by rfl
@[simp] theorem setBuf_twin (b : Nat) (v : PBuf) : (s.setBuf b v).twin = s.twin := by rfl
@[simp] theorem setBuf_alm (b : Nat) (v : PBuf) : (s.setBuf b v).alm = s.alm := by rfl
@[simp] theorem setBuf_flash (b : Nat) (v : PBuf) : (s.setBuf b v).flash = s.flash := by rfl
@[simp] theorem setBuf_therm (b : Nat) (v : PBuf) : (s.setBuf b v).therm = s.therm := by rfl
@[simp] theorem setBuf_cal (b : Nat) (v : PBuf) : (s.setBuf b v).cal = s.cal := by rfl
@[simp] theorem setBuf_sys (b : Nat) (v : PBuf) : (s.setBuf b v).sys = s.sys := by rfl
@[simp] theorem setBuf_flt (b : Nat) (v : PBuf) : (s.setBuf b v).flt = s.flt := by rfl

/-! ### setPort -/

@[simp] theorem setPort_pending (p : Nat) (v : PlatePort) : (s.setPort p v).pending = s.pending := by rfl
@[simp] theorem setPort_freeCtr (p : Nat) (v : PlatePort) : (s.setPort p v).freeCtr = s.freeCtr := by rfl
@[simp] theorem setPort_regs (p : Nat) (v : PlatePort) : (s.setPort p v).regs = s.regs := by rfl
@[simp] theorem setPort_aregs (p : Nat) (v : PlatePort) : (s.setPort p v).aregs = s.aregs := by rfl
@[simp] theorem setPort_latch (p : Nat) (v : PlatePort) : (s.setPort p v).latch = s.latch := by rfl
@[simp] theorem setPort_stage (p : Nat) (v : PlatePort) : (s.setPort p v).stage = s.stage := by rfl
@[simp] theorem setPort_mem (p : Nat) (v : PlatePort) : (s.setPort p v).mem = s.mem := by rfl
@[simp] theorem setPort_ue (p : Nat) (v : PlatePort) : (s.setPort p v).ue = s.ue := by rfl
@[simp] theorem setPort_otp (p : Nat) (v : PlatePort) : (s.setPort p v).otp = s.otp := by rfl
@[simp] theorem setPort_mono (p : Nat) (v : PlatePort) : (s.setPort p v).mono = s.mono := by rfl
@[simp] theorem setPort_acc (p : Nat) (v : PlatePort) : (s.setPort p v).acc = s.acc := by rfl
@[simp] theorem setPort_faultQ (p : Nat) (v : PlatePort) : (s.setPort p v).faultQ = s.faultQ := by rfl
@[simp] theorem setPort_faultLost (p : Nat) (v : PlatePort) : (s.setPort p v).faultLost = s.faultLost := by rfl
@[simp] theorem setPort_once (p : Nat) (v : PlatePort) : (s.setPort p v).once = s.once := by rfl
@[simp] theorem setPort_rings (p : Nat) (v : PlatePort) : (s.setPort p v).rings = s.rings := by rfl
@[simp] theorem setPort_ringWins (p : Nat) (v : PlatePort) : (s.setPort p v).ringWins = s.ringWins := by rfl
@[simp] theorem setPort_minSrc (p : Nat) (v : PlatePort) : (s.setPort p v).minSrc = s.minSrc := by rfl
@[simp] theorem setPort_monoFrac (p : Nat) (v : PlatePort) : (s.setPort p v).monoFrac = s.monoFrac := by rfl
@[simp] theorem setPort_sid (p : Nat) (v : PlatePort) : (s.setPort p v).sid = s.sid := by rfl
@[simp] theorem setPort_ptp (p : Nat) (v : PlatePort) : (s.setPort p v).ptp = s.ptp := by rfl
@[simp] theorem setPort_eph (p : Nat) (v : PlatePort) : (s.setPort p v).eph = s.eph := by rfl
@[simp] theorem setPort_ephSpan (p : Nat) (v : PlatePort) : (s.setPort p v).ephSpan = s.ephSpan := by rfl
@[simp] theorem setPort_ephSpanCnt (p : Nat) (v : PlatePort) : (s.setPort p v).ephSpanCnt = s.ephSpanCnt := by rfl
@[simp] theorem setPort_ephLast (p : Nat) (v : PlatePort) : (s.setPort p v).ephLast = s.ephLast := by rfl
@[simp] theorem setPort_issued (p : Nat) (v : PlatePort) : (s.setPort p v).issued = s.issued := by rfl
@[simp] theorem setPort_warmW (p : Nat) (v : PlatePort) : (s.setPort p v).warmW = s.warmW := by rfl
@[simp] theorem setPort_tclkOk (p : Nat) (v : PlatePort) : (s.setPort p v).tclkOk = s.tclkOk := by rfl
@[simp] theorem setPort_cores (p : Nat) (v : PlatePort) : (s.setPort p v).cores = s.cores := by rfl
@[simp] theorem setPort_groups (p : Nat) (v : PlatePort) : (s.setPort p v).groups = s.groups := by rfl
@[simp] theorem setPort_bufs (p : Nat) (v : PlatePort) : (s.setPort p v).bufs = s.bufs := by rfl
@[simp] theorem setPort_occs (p : Nat) (v : PlatePort) : (s.setPort p v).occs = s.occs := by rfl
@[simp] theorem setPort_rgns (p : Nat) (v : PlatePort) : (s.setPort p v).rgns = s.rgns := by rfl
@[simp] theorem setPort_rgnsCut (p : Nat) (v : PlatePort) : (s.setPort p v).rgnsCut = s.rgnsCut := by rfl
@[simp] theorem setPort_insts (p : Nat) (v : PlatePort) : (s.setPort p v).insts = s.insts := by rfl
@[simp] theorem setPort_feedSrcs (p : Nat) (v : PlatePort) : (s.setPort p v).feedSrcs = s.feedSrcs := by rfl
@[simp] theorem setPort_stuckOn (p : Nat) (v : PlatePort) : (s.setPort p v).stuckOn = s.stuckOn := by rfl
@[simp] theorem setPort_arrayCur (p : Nat) (v : PlatePort) : (s.setPort p v).arrayCur = s.arrayCur := by rfl
@[simp] theorem setPort_strBind (p : Nat) (v : PlatePort) : (s.setPort p v).strBind = s.strBind := by rfl
@[simp] theorem setPort_strs (p : Nat) (v : PlatePort) : (s.setPort p v).strs = s.strs := by rfl
@[simp] theorem setPort_fades (p : Nat) (v : PlatePort) : (s.setPort p v).fades = s.fades := by rfl
@[simp] theorem setPort_ntcs (p : Nat) (v : PlatePort) : (s.setPort p v).ntcs = s.ntcs := by rfl
@[simp] theorem setPort_diags (p : Nat) (v : PlatePort) : (s.setPort p v).diags = s.diags := by rfl
@[simp] theorem setPort_fadeFrame (p : Nat) (v : PlatePort) : (s.setPort p v).fadeFrame = s.fadeFrame := by rfl
@[simp] theorem setPort_links (p : Nat) (v : PlatePort) : (s.setPort p v).links = s.links := by rfl
@[simp] theorem setPort_tslots (p : Nat) (v : PlatePort) : (s.setPort p v).tslots = s.tslots := by rfl
@[simp] theorem setPort_tgts (p : Nat) (v : PlatePort) : (s.setPort p v).tgts = s.tgts := by rfl
@[simp] theorem setPort_transit (p : Nat) (v : PlatePort) : (s.setPort p v).transit = s.transit := by rfl
@[simp] theorem setPort_orr (p : Nat) (v : PlatePort) : (s.setPort p v).orr = s.orr := by rfl
@[simp] theorem setPort_macs (p : Nat) (v : PlatePort) : (s.setPort p v).macs = s.macs := by rfl
@[simp] theorem setPort_mac (p : Nat) (v : PlatePort) : (s.setPort p v).mac = s.mac := by rfl
@[simp] theorem setPort_dmx (p : Nat) (v : PlatePort) : (s.setPort p v).dmx = s.dmx := by rfl
@[simp] theorem setPort_dpend (p : Nat) (v : PlatePort) : (s.setPort p v).dpend = s.dpend := by rfl
@[simp] theorem setPort_panel (p : Nat) (v : PlatePort) : (s.setPort p v).panel = s.panel := by rfl
@[simp] theorem setPort_safe (p : Nat) (v : PlatePort) : (s.setPort p v).safe = s.safe := by rfl
@[simp] theorem setPort_sampleAt (p : Nat) (v : PlatePort) : (s.setPort p v).sampleAt = s.sampleAt := by rfl
@[simp] theorem setPort_twin (p : Nat) (v : PlatePort) : (s.setPort p v).twin = s.twin := by rfl
@[simp] theorem setPort_alm (p : Nat) (v : PlatePort) : (s.setPort p v).alm = s.alm := by rfl
@[simp] theorem setPort_flash (p : Nat) (v : PlatePort) : (s.setPort p v).flash = s.flash := by rfl
@[simp] theorem setPort_therm (p : Nat) (v : PlatePort) : (s.setPort p v).therm = s.therm := by rfl
@[simp] theorem setPort_cal (p : Nat) (v : PlatePort) : (s.setPort p v).cal = s.cal := by rfl
@[simp] theorem setPort_sys (p : Nat) (v : PlatePort) : (s.setPort p v).sys = s.sys := by rfl
@[simp] theorem setPort_flt (p : Nat) (v : PlatePort) : (s.setPort p v).flt = s.flt := by rfl

/-! ### updOcc -/

@[simp] theorem updOcc_pending (p : Nat) (f : OccPort → OccPort) : (s.updOcc p f).pending = s.pending := by rfl
@[simp] theorem updOcc_freeCtr (p : Nat) (f : OccPort → OccPort) : (s.updOcc p f).freeCtr = s.freeCtr := by rfl
@[simp] theorem updOcc_regs (p : Nat) (f : OccPort → OccPort) : (s.updOcc p f).regs = s.regs := by rfl
@[simp] theorem updOcc_aregs (p : Nat) (f : OccPort → OccPort) : (s.updOcc p f).aregs = s.aregs := by rfl
@[simp] theorem updOcc_latch (p : Nat) (f : OccPort → OccPort) : (s.updOcc p f).latch = s.latch := by rfl
@[simp] theorem updOcc_stage (p : Nat) (f : OccPort → OccPort) : (s.updOcc p f).stage = s.stage := by rfl
@[simp] theorem updOcc_mem (p : Nat) (f : OccPort → OccPort) : (s.updOcc p f).mem = s.mem := by rfl
@[simp] theorem updOcc_ue (p : Nat) (f : OccPort → OccPort) : (s.updOcc p f).ue = s.ue := by rfl
@[simp] theorem updOcc_otp (p : Nat) (f : OccPort → OccPort) : (s.updOcc p f).otp = s.otp := by rfl
@[simp] theorem updOcc_mono (p : Nat) (f : OccPort → OccPort) : (s.updOcc p f).mono = s.mono := by rfl
@[simp] theorem updOcc_acc (p : Nat) (f : OccPort → OccPort) : (s.updOcc p f).acc = s.acc := by rfl
@[simp] theorem updOcc_faultQ (p : Nat) (f : OccPort → OccPort) : (s.updOcc p f).faultQ = s.faultQ := by rfl
@[simp] theorem updOcc_faultLost (p : Nat) (f : OccPort → OccPort) : (s.updOcc p f).faultLost = s.faultLost := by rfl
@[simp] theorem updOcc_once (p : Nat) (f : OccPort → OccPort) : (s.updOcc p f).once = s.once := by rfl
@[simp] theorem updOcc_rings (p : Nat) (f : OccPort → OccPort) : (s.updOcc p f).rings = s.rings := by rfl
@[simp] theorem updOcc_ringWins (p : Nat) (f : OccPort → OccPort) : (s.updOcc p f).ringWins = s.ringWins := by rfl
@[simp] theorem updOcc_minSrc (p : Nat) (f : OccPort → OccPort) : (s.updOcc p f).minSrc = s.minSrc := by rfl
@[simp] theorem updOcc_monoFrac (p : Nat) (f : OccPort → OccPort) : (s.updOcc p f).monoFrac = s.monoFrac := by rfl
@[simp] theorem updOcc_sid (p : Nat) (f : OccPort → OccPort) : (s.updOcc p f).sid = s.sid := by rfl
@[simp] theorem updOcc_ptp (p : Nat) (f : OccPort → OccPort) : (s.updOcc p f).ptp = s.ptp := by rfl
@[simp] theorem updOcc_eph (p : Nat) (f : OccPort → OccPort) : (s.updOcc p f).eph = s.eph := by rfl
@[simp] theorem updOcc_ephSpan (p : Nat) (f : OccPort → OccPort) : (s.updOcc p f).ephSpan = s.ephSpan := by rfl
@[simp] theorem updOcc_ephSpanCnt (p : Nat) (f : OccPort → OccPort) : (s.updOcc p f).ephSpanCnt = s.ephSpanCnt := by rfl
@[simp] theorem updOcc_ephLast (p : Nat) (f : OccPort → OccPort) : (s.updOcc p f).ephLast = s.ephLast := by rfl
@[simp] theorem updOcc_issued (p : Nat) (f : OccPort → OccPort) : (s.updOcc p f).issued = s.issued := by rfl
@[simp] theorem updOcc_warmW (p : Nat) (f : OccPort → OccPort) : (s.updOcc p f).warmW = s.warmW := by rfl
@[simp] theorem updOcc_tclkOk (p : Nat) (f : OccPort → OccPort) : (s.updOcc p f).tclkOk = s.tclkOk := by rfl
@[simp] theorem updOcc_cores (p : Nat) (f : OccPort → OccPort) : (s.updOcc p f).cores = s.cores := by rfl
@[simp] theorem updOcc_groups (p : Nat) (f : OccPort → OccPort) : (s.updOcc p f).groups = s.groups := by rfl
@[simp] theorem updOcc_bufs (p : Nat) (f : OccPort → OccPort) : (s.updOcc p f).bufs = s.bufs := by rfl
@[simp] theorem updOcc_ports (p : Nat) (f : OccPort → OccPort) : (s.updOcc p f).ports = s.ports := by rfl
@[simp] theorem updOcc_rgns (p : Nat) (f : OccPort → OccPort) : (s.updOcc p f).rgns = s.rgns := by rfl
@[simp] theorem updOcc_rgnsCut (p : Nat) (f : OccPort → OccPort) : (s.updOcc p f).rgnsCut = s.rgnsCut := by rfl
@[simp] theorem updOcc_insts (p : Nat) (f : OccPort → OccPort) : (s.updOcc p f).insts = s.insts := by rfl
@[simp] theorem updOcc_feedSrcs (p : Nat) (f : OccPort → OccPort) : (s.updOcc p f).feedSrcs = s.feedSrcs := by rfl
@[simp] theorem updOcc_stuckOn (p : Nat) (f : OccPort → OccPort) : (s.updOcc p f).stuckOn = s.stuckOn := by rfl
@[simp] theorem updOcc_arrayCur (p : Nat) (f : OccPort → OccPort) : (s.updOcc p f).arrayCur = s.arrayCur := by rfl
@[simp] theorem updOcc_strBind (p : Nat) (f : OccPort → OccPort) : (s.updOcc p f).strBind = s.strBind := by rfl
@[simp] theorem updOcc_strs (p : Nat) (f : OccPort → OccPort) : (s.updOcc p f).strs = s.strs := by rfl
@[simp] theorem updOcc_fades (p : Nat) (f : OccPort → OccPort) : (s.updOcc p f).fades = s.fades := by rfl
@[simp] theorem updOcc_ntcs (p : Nat) (f : OccPort → OccPort) : (s.updOcc p f).ntcs = s.ntcs := by rfl
@[simp] theorem updOcc_diags (p : Nat) (f : OccPort → OccPort) : (s.updOcc p f).diags = s.diags := by rfl
@[simp] theorem updOcc_fadeFrame (p : Nat) (f : OccPort → OccPort) : (s.updOcc p f).fadeFrame = s.fadeFrame := by rfl
@[simp] theorem updOcc_links (p : Nat) (f : OccPort → OccPort) : (s.updOcc p f).links = s.links := by rfl
@[simp] theorem updOcc_tslots (p : Nat) (f : OccPort → OccPort) : (s.updOcc p f).tslots = s.tslots := by rfl
@[simp] theorem updOcc_tgts (p : Nat) (f : OccPort → OccPort) : (s.updOcc p f).tgts = s.tgts := by rfl
@[simp] theorem updOcc_transit (p : Nat) (f : OccPort → OccPort) : (s.updOcc p f).transit = s.transit := by rfl
@[simp] theorem updOcc_orr (p : Nat) (f : OccPort → OccPort) : (s.updOcc p f).orr = s.orr := by rfl
@[simp] theorem updOcc_macs (p : Nat) (f : OccPort → OccPort) : (s.updOcc p f).macs = s.macs := by rfl
@[simp] theorem updOcc_mac (p : Nat) (f : OccPort → OccPort) : (s.updOcc p f).mac = s.mac := by rfl
@[simp] theorem updOcc_dmx (p : Nat) (f : OccPort → OccPort) : (s.updOcc p f).dmx = s.dmx := by rfl
@[simp] theorem updOcc_dpend (p : Nat) (f : OccPort → OccPort) : (s.updOcc p f).dpend = s.dpend := by rfl
@[simp] theorem updOcc_panel (p : Nat) (f : OccPort → OccPort) : (s.updOcc p f).panel = s.panel := by rfl
@[simp] theorem updOcc_safe (p : Nat) (f : OccPort → OccPort) : (s.updOcc p f).safe = s.safe := by rfl
@[simp] theorem updOcc_sampleAt (p : Nat) (f : OccPort → OccPort) : (s.updOcc p f).sampleAt = s.sampleAt := by rfl
@[simp] theorem updOcc_twin (p : Nat) (f : OccPort → OccPort) : (s.updOcc p f).twin = s.twin := by rfl
@[simp] theorem updOcc_alm (p : Nat) (f : OccPort → OccPort) : (s.updOcc p f).alm = s.alm := by rfl
@[simp] theorem updOcc_flash (p : Nat) (f : OccPort → OccPort) : (s.updOcc p f).flash = s.flash := by rfl
@[simp] theorem updOcc_therm (p : Nat) (f : OccPort → OccPort) : (s.updOcc p f).therm = s.therm := by rfl
@[simp] theorem updOcc_cal (p : Nat) (f : OccPort → OccPort) : (s.updOcc p f).cal = s.cal := by rfl
@[simp] theorem updOcc_sys (p : Nat) (f : OccPort → OccPort) : (s.updOcc p f).sys = s.sys := by rfl
@[simp] theorem updOcc_flt (p : Nat) (f : OccPort → OccPort) : (s.updOcc p f).flt = s.flt := by rfl

/-! ### updStr -/

@[simp] theorem updStr_pending (n : Nat) (f : StrCh → StrCh) : (s.updStr n f).pending = s.pending := by rfl
@[simp] theorem updStr_freeCtr (n : Nat) (f : StrCh → StrCh) : (s.updStr n f).freeCtr = s.freeCtr := by rfl
@[simp] theorem updStr_regs (n : Nat) (f : StrCh → StrCh) : (s.updStr n f).regs = s.regs := by rfl
@[simp] theorem updStr_aregs (n : Nat) (f : StrCh → StrCh) : (s.updStr n f).aregs = s.aregs := by rfl
@[simp] theorem updStr_latch (n : Nat) (f : StrCh → StrCh) : (s.updStr n f).latch = s.latch := by rfl
@[simp] theorem updStr_stage (n : Nat) (f : StrCh → StrCh) : (s.updStr n f).stage = s.stage := by rfl
@[simp] theorem updStr_mem (n : Nat) (f : StrCh → StrCh) : (s.updStr n f).mem = s.mem := by rfl
@[simp] theorem updStr_ue (n : Nat) (f : StrCh → StrCh) : (s.updStr n f).ue = s.ue := by rfl
@[simp] theorem updStr_otp (n : Nat) (f : StrCh → StrCh) : (s.updStr n f).otp = s.otp := by rfl
@[simp] theorem updStr_mono (n : Nat) (f : StrCh → StrCh) : (s.updStr n f).mono = s.mono := by rfl
@[simp] theorem updStr_acc (n : Nat) (f : StrCh → StrCh) : (s.updStr n f).acc = s.acc := by rfl
@[simp] theorem updStr_faultQ (n : Nat) (f : StrCh → StrCh) : (s.updStr n f).faultQ = s.faultQ := by rfl
@[simp] theorem updStr_faultLost (n : Nat) (f : StrCh → StrCh) : (s.updStr n f).faultLost = s.faultLost := by rfl
@[simp] theorem updStr_once (n : Nat) (f : StrCh → StrCh) : (s.updStr n f).once = s.once := by rfl
@[simp] theorem updStr_rings (n : Nat) (f : StrCh → StrCh) : (s.updStr n f).rings = s.rings := by rfl
@[simp] theorem updStr_ringWins (n : Nat) (f : StrCh → StrCh) : (s.updStr n f).ringWins = s.ringWins := by rfl
@[simp] theorem updStr_minSrc (n : Nat) (f : StrCh → StrCh) : (s.updStr n f).minSrc = s.minSrc := by rfl
@[simp] theorem updStr_monoFrac (n : Nat) (f : StrCh → StrCh) : (s.updStr n f).monoFrac = s.monoFrac := by rfl
@[simp] theorem updStr_sid (n : Nat) (f : StrCh → StrCh) : (s.updStr n f).sid = s.sid := by rfl
@[simp] theorem updStr_ptp (n : Nat) (f : StrCh → StrCh) : (s.updStr n f).ptp = s.ptp := by rfl
@[simp] theorem updStr_eph (n : Nat) (f : StrCh → StrCh) : (s.updStr n f).eph = s.eph := by rfl
@[simp] theorem updStr_ephSpan (n : Nat) (f : StrCh → StrCh) : (s.updStr n f).ephSpan = s.ephSpan := by rfl
@[simp] theorem updStr_ephSpanCnt (n : Nat) (f : StrCh → StrCh) : (s.updStr n f).ephSpanCnt = s.ephSpanCnt := by rfl
@[simp] theorem updStr_ephLast (n : Nat) (f : StrCh → StrCh) : (s.updStr n f).ephLast = s.ephLast := by rfl
@[simp] theorem updStr_issued (n : Nat) (f : StrCh → StrCh) : (s.updStr n f).issued = s.issued := by rfl
@[simp] theorem updStr_warmW (n : Nat) (f : StrCh → StrCh) : (s.updStr n f).warmW = s.warmW := by rfl
@[simp] theorem updStr_tclkOk (n : Nat) (f : StrCh → StrCh) : (s.updStr n f).tclkOk = s.tclkOk := by rfl
@[simp] theorem updStr_cores (n : Nat) (f : StrCh → StrCh) : (s.updStr n f).cores = s.cores := by rfl
@[simp] theorem updStr_groups (n : Nat) (f : StrCh → StrCh) : (s.updStr n f).groups = s.groups := by rfl
@[simp] theorem updStr_bufs (n : Nat) (f : StrCh → StrCh) : (s.updStr n f).bufs = s.bufs := by rfl
@[simp] theorem updStr_ports (n : Nat) (f : StrCh → StrCh) : (s.updStr n f).ports = s.ports := by rfl
@[simp] theorem updStr_occs (n : Nat) (f : StrCh → StrCh) : (s.updStr n f).occs = s.occs := by rfl
@[simp] theorem updStr_rgns (n : Nat) (f : StrCh → StrCh) : (s.updStr n f).rgns = s.rgns := by rfl
@[simp] theorem updStr_rgnsCut (n : Nat) (f : StrCh → StrCh) : (s.updStr n f).rgnsCut = s.rgnsCut := by rfl
@[simp] theorem updStr_insts (n : Nat) (f : StrCh → StrCh) : (s.updStr n f).insts = s.insts := by rfl
@[simp] theorem updStr_feedSrcs (n : Nat) (f : StrCh → StrCh) : (s.updStr n f).feedSrcs = s.feedSrcs := by rfl
@[simp] theorem updStr_stuckOn (n : Nat) (f : StrCh → StrCh) : (s.updStr n f).stuckOn = s.stuckOn := by rfl
@[simp] theorem updStr_arrayCur (n : Nat) (f : StrCh → StrCh) : (s.updStr n f).arrayCur = s.arrayCur := by rfl
@[simp] theorem updStr_strBind (n : Nat) (f : StrCh → StrCh) : (s.updStr n f).strBind = s.strBind := by rfl
@[simp] theorem updStr_fades (n : Nat) (f : StrCh → StrCh) : (s.updStr n f).fades = s.fades := by rfl
@[simp] theorem updStr_ntcs (n : Nat) (f : StrCh → StrCh) : (s.updStr n f).ntcs = s.ntcs := by rfl
@[simp] theorem updStr_diags (n : Nat) (f : StrCh → StrCh) : (s.updStr n f).diags = s.diags := by rfl
@[simp] theorem updStr_fadeFrame (n : Nat) (f : StrCh → StrCh) : (s.updStr n f).fadeFrame = s.fadeFrame := by rfl
@[simp] theorem updStr_links (n : Nat) (f : StrCh → StrCh) : (s.updStr n f).links = s.links := by rfl
@[simp] theorem updStr_tslots (n : Nat) (f : StrCh → StrCh) : (s.updStr n f).tslots = s.tslots := by rfl
@[simp] theorem updStr_tgts (n : Nat) (f : StrCh → StrCh) : (s.updStr n f).tgts = s.tgts := by rfl
@[simp] theorem updStr_transit (n : Nat) (f : StrCh → StrCh) : (s.updStr n f).transit = s.transit := by rfl
@[simp] theorem updStr_orr (n : Nat) (f : StrCh → StrCh) : (s.updStr n f).orr = s.orr := by rfl
@[simp] theorem updStr_macs (n : Nat) (f : StrCh → StrCh) : (s.updStr n f).macs = s.macs := by rfl
@[simp] theorem updStr_mac (n : Nat) (f : StrCh → StrCh) : (s.updStr n f).mac = s.mac := by rfl
@[simp] theorem updStr_dmx (n : Nat) (f : StrCh → StrCh) : (s.updStr n f).dmx = s.dmx := by rfl
@[simp] theorem updStr_dpend (n : Nat) (f : StrCh → StrCh) : (s.updStr n f).dpend = s.dpend := by rfl
@[simp] theorem updStr_panel (n : Nat) (f : StrCh → StrCh) : (s.updStr n f).panel = s.panel := by rfl
@[simp] theorem updStr_safe (n : Nat) (f : StrCh → StrCh) : (s.updStr n f).safe = s.safe := by rfl
@[simp] theorem updStr_sampleAt (n : Nat) (f : StrCh → StrCh) : (s.updStr n f).sampleAt = s.sampleAt := by rfl
@[simp] theorem updStr_twin (n : Nat) (f : StrCh → StrCh) : (s.updStr n f).twin = s.twin := by rfl
@[simp] theorem updStr_alm (n : Nat) (f : StrCh → StrCh) : (s.updStr n f).alm = s.alm := by rfl
@[simp] theorem updStr_flash (n : Nat) (f : StrCh → StrCh) : (s.updStr n f).flash = s.flash := by rfl
@[simp] theorem updStr_therm (n : Nat) (f : StrCh → StrCh) : (s.updStr n f).therm = s.therm := by rfl
@[simp] theorem updStr_cal (n : Nat) (f : StrCh → StrCh) : (s.updStr n f).cal = s.cal := by rfl
@[simp] theorem updStr_sys (n : Nat) (f : StrCh → StrCh) : (s.updStr n f).sys = s.sys := by rfl
@[simp] theorem updStr_flt (n : Nat) (f : StrCh → StrCh) : (s.updStr n f).flt = s.flt := by rfl

/-! ### updDiag -/

@[simp] theorem updDiag_pending (p : Nat) (f : DiagSt → DiagSt) : (s.updDiag p f).pending = s.pending := by rfl
@[simp] theorem updDiag_freeCtr (p : Nat) (f : DiagSt → DiagSt) : (s.updDiag p f).freeCtr = s.freeCtr := by rfl
@[simp] theorem updDiag_regs (p : Nat) (f : DiagSt → DiagSt) : (s.updDiag p f).regs = s.regs := by rfl
@[simp] theorem updDiag_aregs (p : Nat) (f : DiagSt → DiagSt) : (s.updDiag p f).aregs = s.aregs := by rfl
@[simp] theorem updDiag_latch (p : Nat) (f : DiagSt → DiagSt) : (s.updDiag p f).latch = s.latch := by rfl
@[simp] theorem updDiag_stage (p : Nat) (f : DiagSt → DiagSt) : (s.updDiag p f).stage = s.stage := by rfl
@[simp] theorem updDiag_mem (p : Nat) (f : DiagSt → DiagSt) : (s.updDiag p f).mem = s.mem := by rfl
@[simp] theorem updDiag_ue (p : Nat) (f : DiagSt → DiagSt) : (s.updDiag p f).ue = s.ue := by rfl
@[simp] theorem updDiag_otp (p : Nat) (f : DiagSt → DiagSt) : (s.updDiag p f).otp = s.otp := by rfl
@[simp] theorem updDiag_mono (p : Nat) (f : DiagSt → DiagSt) : (s.updDiag p f).mono = s.mono := by rfl
@[simp] theorem updDiag_acc (p : Nat) (f : DiagSt → DiagSt) : (s.updDiag p f).acc = s.acc := by rfl
@[simp] theorem updDiag_faultQ (p : Nat) (f : DiagSt → DiagSt) : (s.updDiag p f).faultQ = s.faultQ := by rfl
@[simp] theorem updDiag_faultLost (p : Nat) (f : DiagSt → DiagSt) : (s.updDiag p f).faultLost = s.faultLost := by rfl
@[simp] theorem updDiag_once (p : Nat) (f : DiagSt → DiagSt) : (s.updDiag p f).once = s.once := by rfl
@[simp] theorem updDiag_rings (p : Nat) (f : DiagSt → DiagSt) : (s.updDiag p f).rings = s.rings := by rfl
@[simp] theorem updDiag_ringWins (p : Nat) (f : DiagSt → DiagSt) : (s.updDiag p f).ringWins = s.ringWins := by rfl
@[simp] theorem updDiag_minSrc (p : Nat) (f : DiagSt → DiagSt) : (s.updDiag p f).minSrc = s.minSrc := by rfl
@[simp] theorem updDiag_monoFrac (p : Nat) (f : DiagSt → DiagSt) : (s.updDiag p f).monoFrac = s.monoFrac := by rfl
@[simp] theorem updDiag_sid (p : Nat) (f : DiagSt → DiagSt) : (s.updDiag p f).sid = s.sid := by rfl
@[simp] theorem updDiag_ptp (p : Nat) (f : DiagSt → DiagSt) : (s.updDiag p f).ptp = s.ptp := by rfl
@[simp] theorem updDiag_eph (p : Nat) (f : DiagSt → DiagSt) : (s.updDiag p f).eph = s.eph := by rfl
@[simp] theorem updDiag_ephSpan (p : Nat) (f : DiagSt → DiagSt) : (s.updDiag p f).ephSpan = s.ephSpan := by rfl
@[simp] theorem updDiag_ephSpanCnt (p : Nat) (f : DiagSt → DiagSt) : (s.updDiag p f).ephSpanCnt = s.ephSpanCnt := by rfl
@[simp] theorem updDiag_ephLast (p : Nat) (f : DiagSt → DiagSt) : (s.updDiag p f).ephLast = s.ephLast := by rfl
@[simp] theorem updDiag_issued (p : Nat) (f : DiagSt → DiagSt) : (s.updDiag p f).issued = s.issued := by rfl
@[simp] theorem updDiag_warmW (p : Nat) (f : DiagSt → DiagSt) : (s.updDiag p f).warmW = s.warmW := by rfl
@[simp] theorem updDiag_tclkOk (p : Nat) (f : DiagSt → DiagSt) : (s.updDiag p f).tclkOk = s.tclkOk := by rfl
@[simp] theorem updDiag_cores (p : Nat) (f : DiagSt → DiagSt) : (s.updDiag p f).cores = s.cores := by rfl
@[simp] theorem updDiag_groups (p : Nat) (f : DiagSt → DiagSt) : (s.updDiag p f).groups = s.groups := by rfl
@[simp] theorem updDiag_bufs (p : Nat) (f : DiagSt → DiagSt) : (s.updDiag p f).bufs = s.bufs := by rfl
@[simp] theorem updDiag_ports (p : Nat) (f : DiagSt → DiagSt) : (s.updDiag p f).ports = s.ports := by rfl
@[simp] theorem updDiag_occs (p : Nat) (f : DiagSt → DiagSt) : (s.updDiag p f).occs = s.occs := by rfl
@[simp] theorem updDiag_rgns (p : Nat) (f : DiagSt → DiagSt) : (s.updDiag p f).rgns = s.rgns := by rfl
@[simp] theorem updDiag_rgnsCut (p : Nat) (f : DiagSt → DiagSt) : (s.updDiag p f).rgnsCut = s.rgnsCut := by rfl
@[simp] theorem updDiag_insts (p : Nat) (f : DiagSt → DiagSt) : (s.updDiag p f).insts = s.insts := by rfl
@[simp] theorem updDiag_feedSrcs (p : Nat) (f : DiagSt → DiagSt) : (s.updDiag p f).feedSrcs = s.feedSrcs := by rfl
@[simp] theorem updDiag_stuckOn (p : Nat) (f : DiagSt → DiagSt) : (s.updDiag p f).stuckOn = s.stuckOn := by rfl
@[simp] theorem updDiag_arrayCur (p : Nat) (f : DiagSt → DiagSt) : (s.updDiag p f).arrayCur = s.arrayCur := by rfl
@[simp] theorem updDiag_strBind (p : Nat) (f : DiagSt → DiagSt) : (s.updDiag p f).strBind = s.strBind := by rfl
@[simp] theorem updDiag_strs (p : Nat) (f : DiagSt → DiagSt) : (s.updDiag p f).strs = s.strs := by rfl
@[simp] theorem updDiag_fades (p : Nat) (f : DiagSt → DiagSt) : (s.updDiag p f).fades = s.fades := by rfl
@[simp] theorem updDiag_ntcs (p : Nat) (f : DiagSt → DiagSt) : (s.updDiag p f).ntcs = s.ntcs := by rfl
@[simp] theorem updDiag_fadeFrame (p : Nat) (f : DiagSt → DiagSt) : (s.updDiag p f).fadeFrame = s.fadeFrame := by rfl
@[simp] theorem updDiag_links (p : Nat) (f : DiagSt → DiagSt) : (s.updDiag p f).links = s.links := by rfl
@[simp] theorem updDiag_tslots (p : Nat) (f : DiagSt → DiagSt) : (s.updDiag p f).tslots = s.tslots := by rfl
@[simp] theorem updDiag_tgts (p : Nat) (f : DiagSt → DiagSt) : (s.updDiag p f).tgts = s.tgts := by rfl
@[simp] theorem updDiag_transit (p : Nat) (f : DiagSt → DiagSt) : (s.updDiag p f).transit = s.transit := by rfl
@[simp] theorem updDiag_orr (p : Nat) (f : DiagSt → DiagSt) : (s.updDiag p f).orr = s.orr := by rfl
@[simp] theorem updDiag_macs (p : Nat) (f : DiagSt → DiagSt) : (s.updDiag p f).macs = s.macs := by rfl
@[simp] theorem updDiag_mac (p : Nat) (f : DiagSt → DiagSt) : (s.updDiag p f).mac = s.mac := by rfl
@[simp] theorem updDiag_dmx (p : Nat) (f : DiagSt → DiagSt) : (s.updDiag p f).dmx = s.dmx := by rfl
@[simp] theorem updDiag_dpend (p : Nat) (f : DiagSt → DiagSt) : (s.updDiag p f).dpend = s.dpend := by rfl
@[simp] theorem updDiag_panel (p : Nat) (f : DiagSt → DiagSt) : (s.updDiag p f).panel = s.panel := by rfl
@[simp] theorem updDiag_safe (p : Nat) (f : DiagSt → DiagSt) : (s.updDiag p f).safe = s.safe := by rfl
@[simp] theorem updDiag_sampleAt (p : Nat) (f : DiagSt → DiagSt) : (s.updDiag p f).sampleAt = s.sampleAt := by rfl
@[simp] theorem updDiag_twin (p : Nat) (f : DiagSt → DiagSt) : (s.updDiag p f).twin = s.twin := by rfl
@[simp] theorem updDiag_alm (p : Nat) (f : DiagSt → DiagSt) : (s.updDiag p f).alm = s.alm := by rfl
@[simp] theorem updDiag_flash (p : Nat) (f : DiagSt → DiagSt) : (s.updDiag p f).flash = s.flash := by rfl
@[simp] theorem updDiag_therm (p : Nat) (f : DiagSt → DiagSt) : (s.updDiag p f).therm = s.therm := by rfl
@[simp] theorem updDiag_cal (p : Nat) (f : DiagSt → DiagSt) : (s.updDiag p f).cal = s.cal := by rfl
@[simp] theorem updDiag_sys (p : Nat) (f : DiagSt → DiagSt) : (s.updDiag p f).sys = s.sys := by rfl
@[simp] theorem updDiag_flt (p : Nat) (f : DiagSt → DiagSt) : (s.updDiag p f).flt = s.flt := by rfl

/-! ### setMport -/

@[simp] theorem setMport_pending (p : Nat) (v : MPort) : (s.setMport p v).pending = s.pending := by rfl
@[simp] theorem setMport_freeCtr (p : Nat) (v : MPort) : (s.setMport p v).freeCtr = s.freeCtr := by rfl
@[simp] theorem setMport_regs (p : Nat) (v : MPort) : (s.setMport p v).regs = s.regs := by rfl
@[simp] theorem setMport_aregs (p : Nat) (v : MPort) : (s.setMport p v).aregs = s.aregs := by rfl
@[simp] theorem setMport_latch (p : Nat) (v : MPort) : (s.setMport p v).latch = s.latch := by rfl
@[simp] theorem setMport_stage (p : Nat) (v : MPort) : (s.setMport p v).stage = s.stage := by rfl
@[simp] theorem setMport_mem (p : Nat) (v : MPort) : (s.setMport p v).mem = s.mem := by rfl
@[simp] theorem setMport_ue (p : Nat) (v : MPort) : (s.setMport p v).ue = s.ue := by rfl
@[simp] theorem setMport_otp (p : Nat) (v : MPort) : (s.setMport p v).otp = s.otp := by rfl
@[simp] theorem setMport_mono (p : Nat) (v : MPort) : (s.setMport p v).mono = s.mono := by rfl
@[simp] theorem setMport_acc (p : Nat) (v : MPort) : (s.setMport p v).acc = s.acc := by rfl
@[simp] theorem setMport_faultQ (p : Nat) (v : MPort) : (s.setMport p v).faultQ = s.faultQ := by rfl
@[simp] theorem setMport_faultLost (p : Nat) (v : MPort) : (s.setMport p v).faultLost = s.faultLost := by rfl
@[simp] theorem setMport_once (p : Nat) (v : MPort) : (s.setMport p v).once = s.once := by rfl
@[simp] theorem setMport_rings (p : Nat) (v : MPort) : (s.setMport p v).rings = s.rings := by rfl
@[simp] theorem setMport_ringWins (p : Nat) (v : MPort) : (s.setMport p v).ringWins = s.ringWins := by rfl
@[simp] theorem setMport_minSrc (p : Nat) (v : MPort) : (s.setMport p v).minSrc = s.minSrc := by rfl
@[simp] theorem setMport_monoFrac (p : Nat) (v : MPort) : (s.setMport p v).monoFrac = s.monoFrac := by rfl
@[simp] theorem setMport_sid (p : Nat) (v : MPort) : (s.setMport p v).sid = s.sid := by rfl
@[simp] theorem setMport_ptp (p : Nat) (v : MPort) : (s.setMport p v).ptp = s.ptp := by rfl
@[simp] theorem setMport_eph (p : Nat) (v : MPort) : (s.setMport p v).eph = s.eph := by rfl
@[simp] theorem setMport_ephSpan (p : Nat) (v : MPort) : (s.setMport p v).ephSpan = s.ephSpan := by rfl
@[simp] theorem setMport_ephSpanCnt (p : Nat) (v : MPort) : (s.setMport p v).ephSpanCnt = s.ephSpanCnt := by rfl
@[simp] theorem setMport_ephLast (p : Nat) (v : MPort) : (s.setMport p v).ephLast = s.ephLast := by rfl
@[simp] theorem setMport_issued (p : Nat) (v : MPort) : (s.setMport p v).issued = s.issued := by rfl
@[simp] theorem setMport_warmW (p : Nat) (v : MPort) : (s.setMport p v).warmW = s.warmW := by rfl
@[simp] theorem setMport_tclkOk (p : Nat) (v : MPort) : (s.setMport p v).tclkOk = s.tclkOk := by rfl
@[simp] theorem setMport_cores (p : Nat) (v : MPort) : (s.setMport p v).cores = s.cores := by rfl
@[simp] theorem setMport_groups (p : Nat) (v : MPort) : (s.setMport p v).groups = s.groups := by rfl
@[simp] theorem setMport_bufs (p : Nat) (v : MPort) : (s.setMport p v).bufs = s.bufs := by rfl
@[simp] theorem setMport_ports (p : Nat) (v : MPort) : (s.setMport p v).ports = s.ports := by rfl
@[simp] theorem setMport_occs (p : Nat) (v : MPort) : (s.setMport p v).occs = s.occs := by rfl
@[simp] theorem setMport_rgns (p : Nat) (v : MPort) : (s.setMport p v).rgns = s.rgns := by rfl
@[simp] theorem setMport_rgnsCut (p : Nat) (v : MPort) : (s.setMport p v).rgnsCut = s.rgnsCut := by rfl
@[simp] theorem setMport_insts (p : Nat) (v : MPort) : (s.setMport p v).insts = s.insts := by rfl
@[simp] theorem setMport_feedSrcs (p : Nat) (v : MPort) : (s.setMport p v).feedSrcs = s.feedSrcs := by rfl
@[simp] theorem setMport_stuckOn (p : Nat) (v : MPort) : (s.setMport p v).stuckOn = s.stuckOn := by rfl
@[simp] theorem setMport_arrayCur (p : Nat) (v : MPort) : (s.setMport p v).arrayCur = s.arrayCur := by rfl
@[simp] theorem setMport_strBind (p : Nat) (v : MPort) : (s.setMport p v).strBind = s.strBind := by rfl
@[simp] theorem setMport_strs (p : Nat) (v : MPort) : (s.setMport p v).strs = s.strs := by rfl
@[simp] theorem setMport_fades (p : Nat) (v : MPort) : (s.setMport p v).fades = s.fades := by rfl
@[simp] theorem setMport_ntcs (p : Nat) (v : MPort) : (s.setMport p v).ntcs = s.ntcs := by rfl
@[simp] theorem setMport_diags (p : Nat) (v : MPort) : (s.setMport p v).diags = s.diags := by rfl
@[simp] theorem setMport_fadeFrame (p : Nat) (v : MPort) : (s.setMport p v).fadeFrame = s.fadeFrame := by rfl
@[simp] theorem setMport_links (p : Nat) (v : MPort) : (s.setMport p v).links = s.links := by rfl
@[simp] theorem setMport_tslots (p : Nat) (v : MPort) : (s.setMport p v).tslots = s.tslots := by rfl
@[simp] theorem setMport_tgts (p : Nat) (v : MPort) : (s.setMport p v).tgts = s.tgts := by rfl
@[simp] theorem setMport_transit (p : Nat) (v : MPort) : (s.setMport p v).transit = s.transit := by rfl
@[simp] theorem setMport_orr (p : Nat) (v : MPort) : (s.setMport p v).orr = s.orr := by rfl
@[simp] theorem setMport_mac (p : Nat) (v : MPort) : (s.setMport p v).mac = s.mac := by rfl
@[simp] theorem setMport_dmx (p : Nat) (v : MPort) : (s.setMport p v).dmx = s.dmx := by rfl
@[simp] theorem setMport_dpend (p : Nat) (v : MPort) : (s.setMport p v).dpend = s.dpend := by rfl
@[simp] theorem setMport_panel (p : Nat) (v : MPort) : (s.setMport p v).panel = s.panel := by rfl
@[simp] theorem setMport_safe (p : Nat) (v : MPort) : (s.setMport p v).safe = s.safe := by rfl
@[simp] theorem setMport_sampleAt (p : Nat) (v : MPort) : (s.setMport p v).sampleAt = s.sampleAt := by rfl
@[simp] theorem setMport_twin (p : Nat) (v : MPort) : (s.setMport p v).twin = s.twin := by rfl
@[simp] theorem setMport_alm (p : Nat) (v : MPort) : (s.setMport p v).alm = s.alm := by rfl
@[simp] theorem setMport_flash (p : Nat) (v : MPort) : (s.setMport p v).flash = s.flash := by rfl
@[simp] theorem setMport_therm (p : Nat) (v : MPort) : (s.setMport p v).therm = s.therm := by rfl
@[simp] theorem setMport_cal (p : Nat) (v : MPort) : (s.setMport p v).cal = s.cal := by rfl
@[simp] theorem setMport_sys (p : Nat) (v : MPort) : (s.setMport p v).sys = s.sys := by rfl
@[simp] theorem setMport_flt (p : Nat) (v : MPort) : (s.setMport p v).flt = s.flt := by rfl

/-! ### setPnl -/

@[simp] theorem setPnl_pending (i : Nat) (v : PanelIn) : (s.setPnl i v).pending = s.pending := by rfl
@[simp] theorem setPnl_freeCtr (i : Nat) (v : PanelIn) : (s.setPnl i v).freeCtr = s.freeCtr := by rfl
@[simp] theorem setPnl_regs (i : Nat) (v : PanelIn) : (s.setPnl i v).regs = s.regs := by rfl
@[simp] theorem setPnl_aregs (i : Nat) (v : PanelIn) : (s.setPnl i v).aregs = s.aregs := by rfl
@[simp] theorem setPnl_latch (i : Nat) (v : PanelIn) : (s.setPnl i v).latch = s.latch := by rfl
@[simp] theorem setPnl_stage (i : Nat) (v : PanelIn) : (s.setPnl i v).stage = s.stage := by rfl
@[simp] theorem setPnl_mem (i : Nat) (v : PanelIn) : (s.setPnl i v).mem = s.mem := by rfl
@[simp] theorem setPnl_ue (i : Nat) (v : PanelIn) : (s.setPnl i v).ue = s.ue := by rfl
@[simp] theorem setPnl_otp (i : Nat) (v : PanelIn) : (s.setPnl i v).otp = s.otp := by rfl
@[simp] theorem setPnl_mono (i : Nat) (v : PanelIn) : (s.setPnl i v).mono = s.mono := by rfl
@[simp] theorem setPnl_acc (i : Nat) (v : PanelIn) : (s.setPnl i v).acc = s.acc := by rfl
@[simp] theorem setPnl_faultQ (i : Nat) (v : PanelIn) : (s.setPnl i v).faultQ = s.faultQ := by rfl
@[simp] theorem setPnl_faultLost (i : Nat) (v : PanelIn) : (s.setPnl i v).faultLost = s.faultLost := by rfl
@[simp] theorem setPnl_once (i : Nat) (v : PanelIn) : (s.setPnl i v).once = s.once := by rfl
@[simp] theorem setPnl_rings (i : Nat) (v : PanelIn) : (s.setPnl i v).rings = s.rings := by rfl
@[simp] theorem setPnl_ringWins (i : Nat) (v : PanelIn) : (s.setPnl i v).ringWins = s.ringWins := by rfl
@[simp] theorem setPnl_minSrc (i : Nat) (v : PanelIn) : (s.setPnl i v).minSrc = s.minSrc := by rfl
@[simp] theorem setPnl_monoFrac (i : Nat) (v : PanelIn) : (s.setPnl i v).monoFrac = s.monoFrac := by rfl
@[simp] theorem setPnl_sid (i : Nat) (v : PanelIn) : (s.setPnl i v).sid = s.sid := by rfl
@[simp] theorem setPnl_ptp (i : Nat) (v : PanelIn) : (s.setPnl i v).ptp = s.ptp := by rfl
@[simp] theorem setPnl_eph (i : Nat) (v : PanelIn) : (s.setPnl i v).eph = s.eph := by rfl
@[simp] theorem setPnl_ephSpan (i : Nat) (v : PanelIn) : (s.setPnl i v).ephSpan = s.ephSpan := by rfl
@[simp] theorem setPnl_ephSpanCnt (i : Nat) (v : PanelIn) : (s.setPnl i v).ephSpanCnt = s.ephSpanCnt := by rfl
@[simp] theorem setPnl_ephLast (i : Nat) (v : PanelIn) : (s.setPnl i v).ephLast = s.ephLast := by rfl
@[simp] theorem setPnl_issued (i : Nat) (v : PanelIn) : (s.setPnl i v).issued = s.issued := by rfl
@[simp] theorem setPnl_warmW (i : Nat) (v : PanelIn) : (s.setPnl i v).warmW = s.warmW := by rfl
@[simp] theorem setPnl_tclkOk (i : Nat) (v : PanelIn) : (s.setPnl i v).tclkOk = s.tclkOk := by rfl
@[simp] theorem setPnl_cores (i : Nat) (v : PanelIn) : (s.setPnl i v).cores = s.cores := by rfl
@[simp] theorem setPnl_groups (i : Nat) (v : PanelIn) : (s.setPnl i v).groups = s.groups := by rfl
@[simp] theorem setPnl_bufs (i : Nat) (v : PanelIn) : (s.setPnl i v).bufs = s.bufs := by rfl
@[simp] theorem setPnl_ports (i : Nat) (v : PanelIn) : (s.setPnl i v).ports = s.ports := by rfl
@[simp] theorem setPnl_occs (i : Nat) (v : PanelIn) : (s.setPnl i v).occs = s.occs := by rfl
@[simp] theorem setPnl_rgns (i : Nat) (v : PanelIn) : (s.setPnl i v).rgns = s.rgns := by rfl
@[simp] theorem setPnl_rgnsCut (i : Nat) (v : PanelIn) : (s.setPnl i v).rgnsCut = s.rgnsCut := by rfl
@[simp] theorem setPnl_insts (i : Nat) (v : PanelIn) : (s.setPnl i v).insts = s.insts := by rfl
@[simp] theorem setPnl_feedSrcs (i : Nat) (v : PanelIn) : (s.setPnl i v).feedSrcs = s.feedSrcs := by rfl
@[simp] theorem setPnl_stuckOn (i : Nat) (v : PanelIn) : (s.setPnl i v).stuckOn = s.stuckOn := by rfl
@[simp] theorem setPnl_arrayCur (i : Nat) (v : PanelIn) : (s.setPnl i v).arrayCur = s.arrayCur := by rfl
@[simp] theorem setPnl_strBind (i : Nat) (v : PanelIn) : (s.setPnl i v).strBind = s.strBind := by rfl
@[simp] theorem setPnl_strs (i : Nat) (v : PanelIn) : (s.setPnl i v).strs = s.strs := by rfl
@[simp] theorem setPnl_fades (i : Nat) (v : PanelIn) : (s.setPnl i v).fades = s.fades := by rfl
@[simp] theorem setPnl_ntcs (i : Nat) (v : PanelIn) : (s.setPnl i v).ntcs = s.ntcs := by rfl
@[simp] theorem setPnl_diags (i : Nat) (v : PanelIn) : (s.setPnl i v).diags = s.diags := by rfl
@[simp] theorem setPnl_fadeFrame (i : Nat) (v : PanelIn) : (s.setPnl i v).fadeFrame = s.fadeFrame := by rfl
@[simp] theorem setPnl_links (i : Nat) (v : PanelIn) : (s.setPnl i v).links = s.links := by rfl
@[simp] theorem setPnl_tslots (i : Nat) (v : PanelIn) : (s.setPnl i v).tslots = s.tslots := by rfl
@[simp] theorem setPnl_tgts (i : Nat) (v : PanelIn) : (s.setPnl i v).tgts = s.tgts := by rfl
@[simp] theorem setPnl_transit (i : Nat) (v : PanelIn) : (s.setPnl i v).transit = s.transit := by rfl
@[simp] theorem setPnl_orr (i : Nat) (v : PanelIn) : (s.setPnl i v).orr = s.orr := by rfl
@[simp] theorem setPnl_macs (i : Nat) (v : PanelIn) : (s.setPnl i v).macs = s.macs := by rfl
@[simp] theorem setPnl_mac (i : Nat) (v : PanelIn) : (s.setPnl i v).mac = s.mac := by rfl
@[simp] theorem setPnl_dmx (i : Nat) (v : PanelIn) : (s.setPnl i v).dmx = s.dmx := by rfl
@[simp] theorem setPnl_dpend (i : Nat) (v : PanelIn) : (s.setPnl i v).dpend = s.dpend := by rfl
@[simp] theorem setPnl_safe (i : Nat) (v : PanelIn) : (s.setPnl i v).safe = s.safe := by rfl
@[simp] theorem setPnl_sampleAt (i : Nat) (v : PanelIn) : (s.setPnl i v).sampleAt = s.sampleAt := by rfl
@[simp] theorem setPnl_twin (i : Nat) (v : PanelIn) : (s.setPnl i v).twin = s.twin := by rfl
@[simp] theorem setPnl_alm (i : Nat) (v : PanelIn) : (s.setPnl i v).alm = s.alm := by rfl
@[simp] theorem setPnl_flash (i : Nat) (v : PanelIn) : (s.setPnl i v).flash = s.flash := by rfl
@[simp] theorem setPnl_therm (i : Nat) (v : PanelIn) : (s.setPnl i v).therm = s.therm := by rfl
@[simp] theorem setPnl_cal (i : Nat) (v : PanelIn) : (s.setPnl i v).cal = s.cal := by rfl
@[simp] theorem setPnl_sys (i : Nat) (v : PanelIn) : (s.setPnl i v).sys = s.sys := by rfl
@[simp] theorem setPnl_flt (i : Nat) (v : PanelIn) : (s.setPnl i v).flt = s.flt := by rfl

/-! ### setSafe -/

@[simp] theorem setSafe_pending (k : Nat) (v : SafeIn) : (s.setSafe k v).pending = s.pending := by rfl
@[simp] theorem setSafe_freeCtr (k : Nat) (v : SafeIn) : (s.setSafe k v).freeCtr = s.freeCtr := by rfl
@[simp] theorem setSafe_regs (k : Nat) (v : SafeIn) : (s.setSafe k v).regs = s.regs := by rfl
@[simp] theorem setSafe_aregs (k : Nat) (v : SafeIn) : (s.setSafe k v).aregs = s.aregs := by rfl
@[simp] theorem setSafe_latch (k : Nat) (v : SafeIn) : (s.setSafe k v).latch = s.latch := by rfl
@[simp] theorem setSafe_stage (k : Nat) (v : SafeIn) : (s.setSafe k v).stage = s.stage := by rfl
@[simp] theorem setSafe_mem (k : Nat) (v : SafeIn) : (s.setSafe k v).mem = s.mem := by rfl
@[simp] theorem setSafe_ue (k : Nat) (v : SafeIn) : (s.setSafe k v).ue = s.ue := by rfl
@[simp] theorem setSafe_otp (k : Nat) (v : SafeIn) : (s.setSafe k v).otp = s.otp := by rfl
@[simp] theorem setSafe_mono (k : Nat) (v : SafeIn) : (s.setSafe k v).mono = s.mono := by rfl
@[simp] theorem setSafe_acc (k : Nat) (v : SafeIn) : (s.setSafe k v).acc = s.acc := by rfl
@[simp] theorem setSafe_faultQ (k : Nat) (v : SafeIn) : (s.setSafe k v).faultQ = s.faultQ := by rfl
@[simp] theorem setSafe_faultLost (k : Nat) (v : SafeIn) : (s.setSafe k v).faultLost = s.faultLost := by rfl
@[simp] theorem setSafe_once (k : Nat) (v : SafeIn) : (s.setSafe k v).once = s.once := by rfl
@[simp] theorem setSafe_rings (k : Nat) (v : SafeIn) : (s.setSafe k v).rings = s.rings := by rfl
@[simp] theorem setSafe_ringWins (k : Nat) (v : SafeIn) : (s.setSafe k v).ringWins = s.ringWins := by rfl
@[simp] theorem setSafe_minSrc (k : Nat) (v : SafeIn) : (s.setSafe k v).minSrc = s.minSrc := by rfl
@[simp] theorem setSafe_monoFrac (k : Nat) (v : SafeIn) : (s.setSafe k v).monoFrac = s.monoFrac := by rfl
@[simp] theorem setSafe_sid (k : Nat) (v : SafeIn) : (s.setSafe k v).sid = s.sid := by rfl
@[simp] theorem setSafe_ptp (k : Nat) (v : SafeIn) : (s.setSafe k v).ptp = s.ptp := by rfl
@[simp] theorem setSafe_eph (k : Nat) (v : SafeIn) : (s.setSafe k v).eph = s.eph := by rfl
@[simp] theorem setSafe_ephSpan (k : Nat) (v : SafeIn) : (s.setSafe k v).ephSpan = s.ephSpan := by rfl
@[simp] theorem setSafe_ephSpanCnt (k : Nat) (v : SafeIn) : (s.setSafe k v).ephSpanCnt = s.ephSpanCnt := by rfl
@[simp] theorem setSafe_ephLast (k : Nat) (v : SafeIn) : (s.setSafe k v).ephLast = s.ephLast := by rfl
@[simp] theorem setSafe_issued (k : Nat) (v : SafeIn) : (s.setSafe k v).issued = s.issued := by rfl
@[simp] theorem setSafe_warmW (k : Nat) (v : SafeIn) : (s.setSafe k v).warmW = s.warmW := by rfl
@[simp] theorem setSafe_tclkOk (k : Nat) (v : SafeIn) : (s.setSafe k v).tclkOk = s.tclkOk := by rfl
@[simp] theorem setSafe_cores (k : Nat) (v : SafeIn) : (s.setSafe k v).cores = s.cores := by rfl
@[simp] theorem setSafe_groups (k : Nat) (v : SafeIn) : (s.setSafe k v).groups = s.groups := by rfl
@[simp] theorem setSafe_bufs (k : Nat) (v : SafeIn) : (s.setSafe k v).bufs = s.bufs := by rfl
@[simp] theorem setSafe_ports (k : Nat) (v : SafeIn) : (s.setSafe k v).ports = s.ports := by rfl
@[simp] theorem setSafe_occs (k : Nat) (v : SafeIn) : (s.setSafe k v).occs = s.occs := by rfl
@[simp] theorem setSafe_rgns (k : Nat) (v : SafeIn) : (s.setSafe k v).rgns = s.rgns := by rfl
@[simp] theorem setSafe_rgnsCut (k : Nat) (v : SafeIn) : (s.setSafe k v).rgnsCut = s.rgnsCut := by rfl
@[simp] theorem setSafe_insts (k : Nat) (v : SafeIn) : (s.setSafe k v).insts = s.insts := by rfl
@[simp] theorem setSafe_feedSrcs (k : Nat) (v : SafeIn) : (s.setSafe k v).feedSrcs = s.feedSrcs := by rfl
@[simp] theorem setSafe_stuckOn (k : Nat) (v : SafeIn) : (s.setSafe k v).stuckOn = s.stuckOn := by rfl
@[simp] theorem setSafe_arrayCur (k : Nat) (v : SafeIn) : (s.setSafe k v).arrayCur = s.arrayCur := by rfl
@[simp] theorem setSafe_strBind (k : Nat) (v : SafeIn) : (s.setSafe k v).strBind = s.strBind := by rfl
@[simp] theorem setSafe_strs (k : Nat) (v : SafeIn) : (s.setSafe k v).strs = s.strs := by rfl
@[simp] theorem setSafe_fades (k : Nat) (v : SafeIn) : (s.setSafe k v).fades = s.fades := by rfl
@[simp] theorem setSafe_ntcs (k : Nat) (v : SafeIn) : (s.setSafe k v).ntcs = s.ntcs := by rfl
@[simp] theorem setSafe_diags (k : Nat) (v : SafeIn) : (s.setSafe k v).diags = s.diags := by rfl
@[simp] theorem setSafe_fadeFrame (k : Nat) (v : SafeIn) : (s.setSafe k v).fadeFrame = s.fadeFrame := by rfl
@[simp] theorem setSafe_links (k : Nat) (v : SafeIn) : (s.setSafe k v).links = s.links := by rfl
@[simp] theorem setSafe_tslots (k : Nat) (v : SafeIn) : (s.setSafe k v).tslots = s.tslots := by rfl
@[simp] theorem setSafe_tgts (k : Nat) (v : SafeIn) : (s.setSafe k v).tgts = s.tgts := by rfl
@[simp] theorem setSafe_transit (k : Nat) (v : SafeIn) : (s.setSafe k v).transit = s.transit := by rfl
@[simp] theorem setSafe_orr (k : Nat) (v : SafeIn) : (s.setSafe k v).orr = s.orr := by rfl
@[simp] theorem setSafe_macs (k : Nat) (v : SafeIn) : (s.setSafe k v).macs = s.macs := by rfl
@[simp] theorem setSafe_mac (k : Nat) (v : SafeIn) : (s.setSafe k v).mac = s.mac := by rfl
@[simp] theorem setSafe_dmx (k : Nat) (v : SafeIn) : (s.setSafe k v).dmx = s.dmx := by rfl
@[simp] theorem setSafe_dpend (k : Nat) (v : SafeIn) : (s.setSafe k v).dpend = s.dpend := by rfl
@[simp] theorem setSafe_panel (k : Nat) (v : SafeIn) : (s.setSafe k v).panel = s.panel := by rfl
@[simp] theorem setSafe_sampleAt (k : Nat) (v : SafeIn) : (s.setSafe k v).sampleAt = s.sampleAt := by rfl
@[simp] theorem setSafe_twin (k : Nat) (v : SafeIn) : (s.setSafe k v).twin = s.twin := by rfl
@[simp] theorem setSafe_alm (k : Nat) (v : SafeIn) : (s.setSafe k v).alm = s.alm := by rfl
@[simp] theorem setSafe_flash (k : Nat) (v : SafeIn) : (s.setSafe k v).flash = s.flash := by rfl
@[simp] theorem setSafe_therm (k : Nat) (v : SafeIn) : (s.setSafe k v).therm = s.therm := by rfl
@[simp] theorem setSafe_cal (k : Nat) (v : SafeIn) : (s.setSafe k v).cal = s.cal := by rfl
@[simp] theorem setSafe_sys (k : Nat) (v : SafeIn) : (s.setSafe k v).sys = s.sys := by rfl
@[simp] theorem setSafe_flt (k : Nat) (v : SafeIn) : (s.setSafe k v).flt = s.flt := by rfl

/-! ### updTransit -/

@[simp] theorem updTransit_pending (f : Transit → Transit) : (s.updTransit f).pending = s.pending := by rfl
@[simp] theorem updTransit_freeCtr (f : Transit → Transit) : (s.updTransit f).freeCtr = s.freeCtr := by rfl
@[simp] theorem updTransit_regs (f : Transit → Transit) : (s.updTransit f).regs = s.regs := by rfl
@[simp] theorem updTransit_aregs (f : Transit → Transit) : (s.updTransit f).aregs = s.aregs := by rfl
@[simp] theorem updTransit_latch (f : Transit → Transit) : (s.updTransit f).latch = s.latch := by rfl
@[simp] theorem updTransit_stage (f : Transit → Transit) : (s.updTransit f).stage = s.stage := by rfl
@[simp] theorem updTransit_mem (f : Transit → Transit) : (s.updTransit f).mem = s.mem := by rfl
@[simp] theorem updTransit_ue (f : Transit → Transit) : (s.updTransit f).ue = s.ue := by rfl
@[simp] theorem updTransit_otp (f : Transit → Transit) : (s.updTransit f).otp = s.otp := by rfl
@[simp] theorem updTransit_mono (f : Transit → Transit) : (s.updTransit f).mono = s.mono := by rfl
@[simp] theorem updTransit_acc (f : Transit → Transit) : (s.updTransit f).acc = s.acc := by rfl
@[simp] theorem updTransit_faultQ (f : Transit → Transit) : (s.updTransit f).faultQ = s.faultQ := by rfl
@[simp] theorem updTransit_faultLost (f : Transit → Transit) : (s.updTransit f).faultLost = s.faultLost := by rfl
@[simp] theorem updTransit_once (f : Transit → Transit) : (s.updTransit f).once = s.once := by rfl
@[simp] theorem updTransit_rings (f : Transit → Transit) : (s.updTransit f).rings = s.rings := by rfl
@[simp] theorem updTransit_ringWins (f : Transit → Transit) : (s.updTransit f).ringWins = s.ringWins := by rfl
@[simp] theorem updTransit_minSrc (f : Transit → Transit) : (s.updTransit f).minSrc = s.minSrc := by rfl
@[simp] theorem updTransit_monoFrac (f : Transit → Transit) : (s.updTransit f).monoFrac = s.monoFrac := by rfl
@[simp] theorem updTransit_sid (f : Transit → Transit) : (s.updTransit f).sid = s.sid := by rfl
@[simp] theorem updTransit_ptp (f : Transit → Transit) : (s.updTransit f).ptp = s.ptp := by rfl
@[simp] theorem updTransit_eph (f : Transit → Transit) : (s.updTransit f).eph = s.eph := by rfl
@[simp] theorem updTransit_ephSpan (f : Transit → Transit) : (s.updTransit f).ephSpan = s.ephSpan := by rfl
@[simp] theorem updTransit_ephSpanCnt (f : Transit → Transit) : (s.updTransit f).ephSpanCnt = s.ephSpanCnt := by rfl
@[simp] theorem updTransit_ephLast (f : Transit → Transit) : (s.updTransit f).ephLast = s.ephLast := by rfl
@[simp] theorem updTransit_issued (f : Transit → Transit) : (s.updTransit f).issued = s.issued := by rfl
@[simp] theorem updTransit_warmW (f : Transit → Transit) : (s.updTransit f).warmW = s.warmW := by rfl
@[simp] theorem updTransit_tclkOk (f : Transit → Transit) : (s.updTransit f).tclkOk = s.tclkOk := by rfl
@[simp] theorem updTransit_cores (f : Transit → Transit) : (s.updTransit f).cores = s.cores := by rfl
@[simp] theorem updTransit_groups (f : Transit → Transit) : (s.updTransit f).groups = s.groups := by rfl
@[simp] theorem updTransit_bufs (f : Transit → Transit) : (s.updTransit f).bufs = s.bufs := by rfl
@[simp] theorem updTransit_ports (f : Transit → Transit) : (s.updTransit f).ports = s.ports := by rfl
@[simp] theorem updTransit_occs (f : Transit → Transit) : (s.updTransit f).occs = s.occs := by rfl
@[simp] theorem updTransit_rgns (f : Transit → Transit) : (s.updTransit f).rgns = s.rgns := by rfl
@[simp] theorem updTransit_rgnsCut (f : Transit → Transit) : (s.updTransit f).rgnsCut = s.rgnsCut := by rfl
@[simp] theorem updTransit_insts (f : Transit → Transit) : (s.updTransit f).insts = s.insts := by rfl
@[simp] theorem updTransit_feedSrcs (f : Transit → Transit) : (s.updTransit f).feedSrcs = s.feedSrcs := by rfl
@[simp] theorem updTransit_stuckOn (f : Transit → Transit) : (s.updTransit f).stuckOn = s.stuckOn := by rfl
@[simp] theorem updTransit_arrayCur (f : Transit → Transit) : (s.updTransit f).arrayCur = s.arrayCur := by rfl
@[simp] theorem updTransit_strBind (f : Transit → Transit) : (s.updTransit f).strBind = s.strBind := by rfl
@[simp] theorem updTransit_strs (f : Transit → Transit) : (s.updTransit f).strs = s.strs := by rfl
@[simp] theorem updTransit_fades (f : Transit → Transit) : (s.updTransit f).fades = s.fades := by rfl
@[simp] theorem updTransit_ntcs (f : Transit → Transit) : (s.updTransit f).ntcs = s.ntcs := by rfl
@[simp] theorem updTransit_diags (f : Transit → Transit) : (s.updTransit f).diags = s.diags := by rfl
@[simp] theorem updTransit_fadeFrame (f : Transit → Transit) : (s.updTransit f).fadeFrame = s.fadeFrame := by rfl
@[simp] theorem updTransit_links (f : Transit → Transit) : (s.updTransit f).links = s.links := by rfl
@[simp] theorem updTransit_tslots (f : Transit → Transit) : (s.updTransit f).tslots = s.tslots := by rfl
@[simp] theorem updTransit_tgts (f : Transit → Transit) : (s.updTransit f).tgts = s.tgts := by rfl
@[simp] theorem updTransit_orr (f : Transit → Transit) : (s.updTransit f).orr = s.orr := by rfl
@[simp] theorem updTransit_macs (f : Transit → Transit) : (s.updTransit f).macs = s.macs := by rfl
@[simp] theorem updTransit_mac (f : Transit → Transit) : (s.updTransit f).mac = s.mac := by rfl
@[simp] theorem updTransit_dmx (f : Transit → Transit) : (s.updTransit f).dmx = s.dmx := by rfl
@[simp] theorem updTransit_dpend (f : Transit → Transit) : (s.updTransit f).dpend = s.dpend := by rfl
@[simp] theorem updTransit_panel (f : Transit → Transit) : (s.updTransit f).panel = s.panel := by rfl
@[simp] theorem updTransit_safe (f : Transit → Transit) : (s.updTransit f).safe = s.safe := by rfl
@[simp] theorem updTransit_sampleAt (f : Transit → Transit) : (s.updTransit f).sampleAt = s.sampleAt := by rfl
@[simp] theorem updTransit_twin (f : Transit → Transit) : (s.updTransit f).twin = s.twin := by rfl
@[simp] theorem updTransit_alm (f : Transit → Transit) : (s.updTransit f).alm = s.alm := by rfl
@[simp] theorem updTransit_flash (f : Transit → Transit) : (s.updTransit f).flash = s.flash := by rfl
@[simp] theorem updTransit_therm (f : Transit → Transit) : (s.updTransit f).therm = s.therm := by rfl
@[simp] theorem updTransit_cal (f : Transit → Transit) : (s.updTransit f).cal = s.cal := by rfl
@[simp] theorem updTransit_sys (f : Transit → Transit) : (s.updTransit f).sys = s.sys := by rfl
@[simp] theorem updTransit_flt (f : Transit → Transit) : (s.updTransit f).flt = s.flt := by rfl

/-! ### updTgt -/

@[simp] theorem updTgt_pending (n : Nat) (f : Tgt → Tgt) : (s.updTgt n f).pending = s.pending := by rfl
@[simp] theorem updTgt_freeCtr (n : Nat) (f : Tgt → Tgt) : (s.updTgt n f).freeCtr = s.freeCtr := by rfl
@[simp] theorem updTgt_regs (n : Nat) (f : Tgt → Tgt) : (s.updTgt n f).regs = s.regs := by rfl
@[simp] theorem updTgt_aregs (n : Nat) (f : Tgt → Tgt) : (s.updTgt n f).aregs = s.aregs := by rfl
@[simp] theorem updTgt_latch (n : Nat) (f : Tgt → Tgt) : (s.updTgt n f).latch = s.latch := by rfl
@[simp] theorem updTgt_stage (n : Nat) (f : Tgt → Tgt) : (s.updTgt n f).stage = s.stage := by rfl
@[simp] theorem updTgt_mem (n : Nat) (f : Tgt → Tgt) : (s.updTgt n f).mem = s.mem := by rfl
@[simp] theorem updTgt_ue (n : Nat) (f : Tgt → Tgt) : (s.updTgt n f).ue = s.ue := by rfl
@[simp] theorem updTgt_otp (n : Nat) (f : Tgt → Tgt) : (s.updTgt n f).otp = s.otp := by rfl
@[simp] theorem updTgt_mono (n : Nat) (f : Tgt → Tgt) : (s.updTgt n f).mono = s.mono := by rfl
@[simp] theorem updTgt_acc (n : Nat) (f : Tgt → Tgt) : (s.updTgt n f).acc = s.acc := by rfl
@[simp] theorem updTgt_faultQ (n : Nat) (f : Tgt → Tgt) : (s.updTgt n f).faultQ = s.faultQ := by rfl
@[simp] theorem updTgt_faultLost (n : Nat) (f : Tgt → Tgt) : (s.updTgt n f).faultLost = s.faultLost := by rfl
@[simp] theorem updTgt_once (n : Nat) (f : Tgt → Tgt) : (s.updTgt n f).once = s.once := by rfl
@[simp] theorem updTgt_rings (n : Nat) (f : Tgt → Tgt) : (s.updTgt n f).rings = s.rings := by rfl
@[simp] theorem updTgt_ringWins (n : Nat) (f : Tgt → Tgt) : (s.updTgt n f).ringWins = s.ringWins := by rfl
@[simp] theorem updTgt_minSrc (n : Nat) (f : Tgt → Tgt) : (s.updTgt n f).minSrc = s.minSrc := by rfl
@[simp] theorem updTgt_monoFrac (n : Nat) (f : Tgt → Tgt) : (s.updTgt n f).monoFrac = s.monoFrac := by rfl
@[simp] theorem updTgt_sid (n : Nat) (f : Tgt → Tgt) : (s.updTgt n f).sid = s.sid := by rfl
@[simp] theorem updTgt_ptp (n : Nat) (f : Tgt → Tgt) : (s.updTgt n f).ptp = s.ptp := by rfl
@[simp] theorem updTgt_eph (n : Nat) (f : Tgt → Tgt) : (s.updTgt n f).eph = s.eph := by rfl
@[simp] theorem updTgt_ephSpan (n : Nat) (f : Tgt → Tgt) : (s.updTgt n f).ephSpan = s.ephSpan := by rfl
@[simp] theorem updTgt_ephSpanCnt (n : Nat) (f : Tgt → Tgt) : (s.updTgt n f).ephSpanCnt = s.ephSpanCnt := by rfl
@[simp] theorem updTgt_ephLast (n : Nat) (f : Tgt → Tgt) : (s.updTgt n f).ephLast = s.ephLast := by rfl
@[simp] theorem updTgt_issued (n : Nat) (f : Tgt → Tgt) : (s.updTgt n f).issued = s.issued := by rfl
@[simp] theorem updTgt_warmW (n : Nat) (f : Tgt → Tgt) : (s.updTgt n f).warmW = s.warmW := by rfl
@[simp] theorem updTgt_tclkOk (n : Nat) (f : Tgt → Tgt) : (s.updTgt n f).tclkOk = s.tclkOk := by rfl
@[simp] theorem updTgt_cores (n : Nat) (f : Tgt → Tgt) : (s.updTgt n f).cores = s.cores := by rfl
@[simp] theorem updTgt_groups (n : Nat) (f : Tgt → Tgt) : (s.updTgt n f).groups = s.groups := by rfl
@[simp] theorem updTgt_bufs (n : Nat) (f : Tgt → Tgt) : (s.updTgt n f).bufs = s.bufs := by rfl
@[simp] theorem updTgt_ports (n : Nat) (f : Tgt → Tgt) : (s.updTgt n f).ports = s.ports := by rfl
@[simp] theorem updTgt_occs (n : Nat) (f : Tgt → Tgt) : (s.updTgt n f).occs = s.occs := by rfl
@[simp] theorem updTgt_rgns (n : Nat) (f : Tgt → Tgt) : (s.updTgt n f).rgns = s.rgns := by rfl
@[simp] theorem updTgt_rgnsCut (n : Nat) (f : Tgt → Tgt) : (s.updTgt n f).rgnsCut = s.rgnsCut := by rfl
@[simp] theorem updTgt_insts (n : Nat) (f : Tgt → Tgt) : (s.updTgt n f).insts = s.insts := by rfl
@[simp] theorem updTgt_feedSrcs (n : Nat) (f : Tgt → Tgt) : (s.updTgt n f).feedSrcs = s.feedSrcs := by rfl
@[simp] theorem updTgt_stuckOn (n : Nat) (f : Tgt → Tgt) : (s.updTgt n f).stuckOn = s.stuckOn := by rfl
@[simp] theorem updTgt_arrayCur (n : Nat) (f : Tgt → Tgt) : (s.updTgt n f).arrayCur = s.arrayCur := by rfl
@[simp] theorem updTgt_strBind (n : Nat) (f : Tgt → Tgt) : (s.updTgt n f).strBind = s.strBind := by rfl
@[simp] theorem updTgt_strs (n : Nat) (f : Tgt → Tgt) : (s.updTgt n f).strs = s.strs := by rfl
@[simp] theorem updTgt_fades (n : Nat) (f : Tgt → Tgt) : (s.updTgt n f).fades = s.fades := by rfl
@[simp] theorem updTgt_ntcs (n : Nat) (f : Tgt → Tgt) : (s.updTgt n f).ntcs = s.ntcs := by rfl
@[simp] theorem updTgt_diags (n : Nat) (f : Tgt → Tgt) : (s.updTgt n f).diags = s.diags := by rfl
@[simp] theorem updTgt_fadeFrame (n : Nat) (f : Tgt → Tgt) : (s.updTgt n f).fadeFrame = s.fadeFrame := by rfl
@[simp] theorem updTgt_links (n : Nat) (f : Tgt → Tgt) : (s.updTgt n f).links = s.links := by rfl
@[simp] theorem updTgt_tslots (n : Nat) (f : Tgt → Tgt) : (s.updTgt n f).tslots = s.tslots := by rfl
@[simp] theorem updTgt_transit (n : Nat) (f : Tgt → Tgt) : (s.updTgt n f).transit = s.transit := by rfl
@[simp] theorem updTgt_orr (n : Nat) (f : Tgt → Tgt) : (s.updTgt n f).orr = s.orr := by rfl
@[simp] theorem updTgt_macs (n : Nat) (f : Tgt → Tgt) : (s.updTgt n f).macs = s.macs := by rfl
@[simp] theorem updTgt_mac (n : Nat) (f : Tgt → Tgt) : (s.updTgt n f).mac = s.mac := by rfl
@[simp] theorem updTgt_dmx (n : Nat) (f : Tgt → Tgt) : (s.updTgt n f).dmx = s.dmx := by rfl
@[simp] theorem updTgt_dpend (n : Nat) (f : Tgt → Tgt) : (s.updTgt n f).dpend = s.dpend := by rfl
@[simp] theorem updTgt_panel (n : Nat) (f : Tgt → Tgt) : (s.updTgt n f).panel = s.panel := by rfl
@[simp] theorem updTgt_safe (n : Nat) (f : Tgt → Tgt) : (s.updTgt n f).safe = s.safe := by rfl
@[simp] theorem updTgt_sampleAt (n : Nat) (f : Tgt → Tgt) : (s.updTgt n f).sampleAt = s.sampleAt := by rfl
@[simp] theorem updTgt_twin (n : Nat) (f : Tgt → Tgt) : (s.updTgt n f).twin = s.twin := by rfl
@[simp] theorem updTgt_alm (n : Nat) (f : Tgt → Tgt) : (s.updTgt n f).alm = s.alm := by rfl
@[simp] theorem updTgt_flash (n : Nat) (f : Tgt → Tgt) : (s.updTgt n f).flash = s.flash := by rfl
@[simp] theorem updTgt_therm (n : Nat) (f : Tgt → Tgt) : (s.updTgt n f).therm = s.therm := by rfl
@[simp] theorem updTgt_cal (n : Nat) (f : Tgt → Tgt) : (s.updTgt n f).cal = s.cal := by rfl
@[simp] theorem updTgt_sys (n : Nat) (f : Tgt → Tgt) : (s.updTgt n f).sys = s.sys := by rfl
@[simp] theorem updTgt_flt (n : Nat) (f : Tgt → Tgt) : (s.updTgt n f).flt = s.flt := by rfl

/-! ### updSlot -/

@[simp] theorem updSlot_pending (i : Nat) (f : TSlot → TSlot) : (s.updSlot i f).pending = s.pending := by rfl
@[simp] theorem updSlot_freeCtr (i : Nat) (f : TSlot → TSlot) : (s.updSlot i f).freeCtr = s.freeCtr := by rfl
@[simp] theorem updSlot_regs (i : Nat) (f : TSlot → TSlot) : (s.updSlot i f).regs = s.regs := by rfl
@[simp] theorem updSlot_aregs (i : Nat) (f : TSlot → TSlot) : (s.updSlot i f).aregs = s.aregs := by rfl
@[simp] theorem updSlot_latch (i : Nat) (f : TSlot → TSlot) : (s.updSlot i f).latch = s.latch := by rfl
@[simp] theorem updSlot_stage (i : Nat) (f : TSlot → TSlot) : (s.updSlot i f).stage = s.stage := by rfl
@[simp] theorem updSlot_mem (i : Nat) (f : TSlot → TSlot) : (s.updSlot i f).mem = s.mem := by rfl
@[simp] theorem updSlot_ue (i : Nat) (f : TSlot → TSlot) : (s.updSlot i f).ue = s.ue := by rfl
@[simp] theorem updSlot_otp (i : Nat) (f : TSlot → TSlot) : (s.updSlot i f).otp = s.otp := by rfl
@[simp] theorem updSlot_mono (i : Nat) (f : TSlot → TSlot) : (s.updSlot i f).mono = s.mono := by rfl
@[simp] theorem updSlot_acc (i : Nat) (f : TSlot → TSlot) : (s.updSlot i f).acc = s.acc := by rfl
@[simp] theorem updSlot_faultQ (i : Nat) (f : TSlot → TSlot) : (s.updSlot i f).faultQ = s.faultQ := by rfl
@[simp] theorem updSlot_faultLost (i : Nat) (f : TSlot → TSlot) : (s.updSlot i f).faultLost = s.faultLost := by rfl
@[simp] theorem updSlot_once (i : Nat) (f : TSlot → TSlot) : (s.updSlot i f).once = s.once := by rfl
@[simp] theorem updSlot_rings (i : Nat) (f : TSlot → TSlot) : (s.updSlot i f).rings = s.rings := by rfl
@[simp] theorem updSlot_ringWins (i : Nat) (f : TSlot → TSlot) : (s.updSlot i f).ringWins = s.ringWins := by rfl
@[simp] theorem updSlot_minSrc (i : Nat) (f : TSlot → TSlot) : (s.updSlot i f).minSrc = s.minSrc := by rfl
@[simp] theorem updSlot_monoFrac (i : Nat) (f : TSlot → TSlot) : (s.updSlot i f).monoFrac = s.monoFrac := by rfl
@[simp] theorem updSlot_sid (i : Nat) (f : TSlot → TSlot) : (s.updSlot i f).sid = s.sid := by rfl
@[simp] theorem updSlot_ptp (i : Nat) (f : TSlot → TSlot) : (s.updSlot i f).ptp = s.ptp := by rfl
@[simp] theorem updSlot_eph (i : Nat) (f : TSlot → TSlot) : (s.updSlot i f).eph = s.eph := by rfl
@[simp] theorem updSlot_ephSpan (i : Nat) (f : TSlot → TSlot) : (s.updSlot i f).ephSpan = s.ephSpan := by rfl
@[simp] theorem updSlot_ephSpanCnt (i : Nat) (f : TSlot → TSlot) : (s.updSlot i f).ephSpanCnt = s.ephSpanCnt := by rfl
@[simp] theorem updSlot_ephLast (i : Nat) (f : TSlot → TSlot) : (s.updSlot i f).ephLast = s.ephLast := by rfl
@[simp] theorem updSlot_issued (i : Nat) (f : TSlot → TSlot) : (s.updSlot i f).issued = s.issued := by rfl
@[simp] theorem updSlot_warmW (i : Nat) (f : TSlot → TSlot) : (s.updSlot i f).warmW = s.warmW := by rfl
@[simp] theorem updSlot_tclkOk (i : Nat) (f : TSlot → TSlot) : (s.updSlot i f).tclkOk = s.tclkOk := by rfl
@[simp] theorem updSlot_cores (i : Nat) (f : TSlot → TSlot) : (s.updSlot i f).cores = s.cores := by rfl
@[simp] theorem updSlot_groups (i : Nat) (f : TSlot → TSlot) : (s.updSlot i f).groups = s.groups := by rfl
@[simp] theorem updSlot_bufs (i : Nat) (f : TSlot → TSlot) : (s.updSlot i f).bufs = s.bufs := by rfl
@[simp] theorem updSlot_ports (i : Nat) (f : TSlot → TSlot) : (s.updSlot i f).ports = s.ports := by rfl
@[simp] theorem updSlot_occs (i : Nat) (f : TSlot → TSlot) : (s.updSlot i f).occs = s.occs := by rfl
@[simp] theorem updSlot_rgns (i : Nat) (f : TSlot → TSlot) : (s.updSlot i f).rgns = s.rgns := by rfl
@[simp] theorem updSlot_rgnsCut (i : Nat) (f : TSlot → TSlot) : (s.updSlot i f).rgnsCut = s.rgnsCut := by rfl
@[simp] theorem updSlot_insts (i : Nat) (f : TSlot → TSlot) : (s.updSlot i f).insts = s.insts := by rfl
@[simp] theorem updSlot_feedSrcs (i : Nat) (f : TSlot → TSlot) : (s.updSlot i f).feedSrcs = s.feedSrcs := by rfl
@[simp] theorem updSlot_stuckOn (i : Nat) (f : TSlot → TSlot) : (s.updSlot i f).stuckOn = s.stuckOn := by rfl
@[simp] theorem updSlot_arrayCur (i : Nat) (f : TSlot → TSlot) : (s.updSlot i f).arrayCur = s.arrayCur := by rfl
@[simp] theorem updSlot_strBind (i : Nat) (f : TSlot → TSlot) : (s.updSlot i f).strBind = s.strBind := by rfl
@[simp] theorem updSlot_strs (i : Nat) (f : TSlot → TSlot) : (s.updSlot i f).strs = s.strs := by rfl
@[simp] theorem updSlot_fades (i : Nat) (f : TSlot → TSlot) : (s.updSlot i f).fades = s.fades := by rfl
@[simp] theorem updSlot_ntcs (i : Nat) (f : TSlot → TSlot) : (s.updSlot i f).ntcs = s.ntcs := by rfl
@[simp] theorem updSlot_diags (i : Nat) (f : TSlot → TSlot) : (s.updSlot i f).diags = s.diags := by rfl
@[simp] theorem updSlot_fadeFrame (i : Nat) (f : TSlot → TSlot) : (s.updSlot i f).fadeFrame = s.fadeFrame := by rfl
@[simp] theorem updSlot_links (i : Nat) (f : TSlot → TSlot) : (s.updSlot i f).links = s.links := by rfl
@[simp] theorem updSlot_tgts (i : Nat) (f : TSlot → TSlot) : (s.updSlot i f).tgts = s.tgts := by rfl
@[simp] theorem updSlot_transit (i : Nat) (f : TSlot → TSlot) : (s.updSlot i f).transit = s.transit := by rfl
@[simp] theorem updSlot_orr (i : Nat) (f : TSlot → TSlot) : (s.updSlot i f).orr = s.orr := by rfl
@[simp] theorem updSlot_macs (i : Nat) (f : TSlot → TSlot) : (s.updSlot i f).macs = s.macs := by rfl
@[simp] theorem updSlot_mac (i : Nat) (f : TSlot → TSlot) : (s.updSlot i f).mac = s.mac := by rfl
@[simp] theorem updSlot_dmx (i : Nat) (f : TSlot → TSlot) : (s.updSlot i f).dmx = s.dmx := by rfl
@[simp] theorem updSlot_dpend (i : Nat) (f : TSlot → TSlot) : (s.updSlot i f).dpend = s.dpend := by rfl
@[simp] theorem updSlot_panel (i : Nat) (f : TSlot → TSlot) : (s.updSlot i f).panel = s.panel := by rfl
@[simp] theorem updSlot_safe (i : Nat) (f : TSlot → TSlot) : (s.updSlot i f).safe = s.safe := by rfl
@[simp] theorem updSlot_sampleAt (i : Nat) (f : TSlot → TSlot) : (s.updSlot i f).sampleAt = s.sampleAt := by rfl
@[simp] theorem updSlot_twin (i : Nat) (f : TSlot → TSlot) : (s.updSlot i f).twin = s.twin := by rfl
@[simp] theorem updSlot_alm (i : Nat) (f : TSlot → TSlot) : (s.updSlot i f).alm = s.alm := by rfl
@[simp] theorem updSlot_flash (i : Nat) (f : TSlot → TSlot) : (s.updSlot i f).flash = s.flash := by rfl
@[simp] theorem updSlot_therm (i : Nat) (f : TSlot → TSlot) : (s.updSlot i f).therm = s.therm := by rfl
@[simp] theorem updSlot_cal (i : Nat) (f : TSlot → TSlot) : (s.updSlot i f).cal = s.cal := by rfl
@[simp] theorem updSlot_sys (i : Nat) (f : TSlot → TSlot) : (s.updSlot i f).sys = s.sys := by rfl
@[simp] theorem updSlot_flt (i : Nat) (f : TSlot → TSlot) : (s.updSlot i f).flt = s.flt := by rfl

/-! ### updOrr -/

@[simp] theorem updOrr_pending (f : Orrery → Orrery) : (s.updOrr f).pending = s.pending := by rfl
@[simp] theorem updOrr_freeCtr (f : Orrery → Orrery) : (s.updOrr f).freeCtr = s.freeCtr := by rfl
@[simp] theorem updOrr_regs (f : Orrery → Orrery) : (s.updOrr f).regs = s.regs := by rfl
@[simp] theorem updOrr_aregs (f : Orrery → Orrery) : (s.updOrr f).aregs = s.aregs := by rfl
@[simp] theorem updOrr_latch (f : Orrery → Orrery) : (s.updOrr f).latch = s.latch := by rfl
@[simp] theorem updOrr_stage (f : Orrery → Orrery) : (s.updOrr f).stage = s.stage := by rfl
@[simp] theorem updOrr_mem (f : Orrery → Orrery) : (s.updOrr f).mem = s.mem := by rfl
@[simp] theorem updOrr_ue (f : Orrery → Orrery) : (s.updOrr f).ue = s.ue := by rfl
@[simp] theorem updOrr_otp (f : Orrery → Orrery) : (s.updOrr f).otp = s.otp := by rfl
@[simp] theorem updOrr_mono (f : Orrery → Orrery) : (s.updOrr f).mono = s.mono := by rfl
@[simp] theorem updOrr_acc (f : Orrery → Orrery) : (s.updOrr f).acc = s.acc := by rfl
@[simp] theorem updOrr_faultQ (f : Orrery → Orrery) : (s.updOrr f).faultQ = s.faultQ := by rfl
@[simp] theorem updOrr_faultLost (f : Orrery → Orrery) : (s.updOrr f).faultLost = s.faultLost := by rfl
@[simp] theorem updOrr_once (f : Orrery → Orrery) : (s.updOrr f).once = s.once := by rfl
@[simp] theorem updOrr_rings (f : Orrery → Orrery) : (s.updOrr f).rings = s.rings := by rfl
@[simp] theorem updOrr_ringWins (f : Orrery → Orrery) : (s.updOrr f).ringWins = s.ringWins := by rfl
@[simp] theorem updOrr_minSrc (f : Orrery → Orrery) : (s.updOrr f).minSrc = s.minSrc := by rfl
@[simp] theorem updOrr_monoFrac (f : Orrery → Orrery) : (s.updOrr f).monoFrac = s.monoFrac := by rfl
@[simp] theorem updOrr_sid (f : Orrery → Orrery) : (s.updOrr f).sid = s.sid := by rfl
@[simp] theorem updOrr_ptp (f : Orrery → Orrery) : (s.updOrr f).ptp = s.ptp := by rfl
@[simp] theorem updOrr_eph (f : Orrery → Orrery) : (s.updOrr f).eph = s.eph := by rfl
@[simp] theorem updOrr_ephSpan (f : Orrery → Orrery) : (s.updOrr f).ephSpan = s.ephSpan := by rfl
@[simp] theorem updOrr_ephSpanCnt (f : Orrery → Orrery) : (s.updOrr f).ephSpanCnt = s.ephSpanCnt := by rfl
@[simp] theorem updOrr_ephLast (f : Orrery → Orrery) : (s.updOrr f).ephLast = s.ephLast := by rfl
@[simp] theorem updOrr_issued (f : Orrery → Orrery) : (s.updOrr f).issued = s.issued := by rfl
@[simp] theorem updOrr_warmW (f : Orrery → Orrery) : (s.updOrr f).warmW = s.warmW := by rfl
@[simp] theorem updOrr_tclkOk (f : Orrery → Orrery) : (s.updOrr f).tclkOk = s.tclkOk := by rfl
@[simp] theorem updOrr_cores (f : Orrery → Orrery) : (s.updOrr f).cores = s.cores := by rfl
@[simp] theorem updOrr_groups (f : Orrery → Orrery) : (s.updOrr f).groups = s.groups := by rfl
@[simp] theorem updOrr_bufs (f : Orrery → Orrery) : (s.updOrr f).bufs = s.bufs := by rfl
@[simp] theorem updOrr_ports (f : Orrery → Orrery) : (s.updOrr f).ports = s.ports := by rfl
@[simp] theorem updOrr_occs (f : Orrery → Orrery) : (s.updOrr f).occs = s.occs := by rfl
@[simp] theorem updOrr_rgns (f : Orrery → Orrery) : (s.updOrr f).rgns = s.rgns := by rfl
@[simp] theorem updOrr_rgnsCut (f : Orrery → Orrery) : (s.updOrr f).rgnsCut = s.rgnsCut := by rfl
@[simp] theorem updOrr_insts (f : Orrery → Orrery) : (s.updOrr f).insts = s.insts := by rfl
@[simp] theorem updOrr_feedSrcs (f : Orrery → Orrery) : (s.updOrr f).feedSrcs = s.feedSrcs := by rfl
@[simp] theorem updOrr_stuckOn (f : Orrery → Orrery) : (s.updOrr f).stuckOn = s.stuckOn := by rfl
@[simp] theorem updOrr_arrayCur (f : Orrery → Orrery) : (s.updOrr f).arrayCur = s.arrayCur := by rfl
@[simp] theorem updOrr_strBind (f : Orrery → Orrery) : (s.updOrr f).strBind = s.strBind := by rfl
@[simp] theorem updOrr_strs (f : Orrery → Orrery) : (s.updOrr f).strs = s.strs := by rfl
@[simp] theorem updOrr_fades (f : Orrery → Orrery) : (s.updOrr f).fades = s.fades := by rfl
@[simp] theorem updOrr_ntcs (f : Orrery → Orrery) : (s.updOrr f).ntcs = s.ntcs := by rfl
@[simp] theorem updOrr_diags (f : Orrery → Orrery) : (s.updOrr f).diags = s.diags := by rfl
@[simp] theorem updOrr_fadeFrame (f : Orrery → Orrery) : (s.updOrr f).fadeFrame = s.fadeFrame := by rfl
@[simp] theorem updOrr_links (f : Orrery → Orrery) : (s.updOrr f).links = s.links := by rfl
@[simp] theorem updOrr_tslots (f : Orrery → Orrery) : (s.updOrr f).tslots = s.tslots := by rfl
@[simp] theorem updOrr_tgts (f : Orrery → Orrery) : (s.updOrr f).tgts = s.tgts := by rfl
@[simp] theorem updOrr_transit (f : Orrery → Orrery) : (s.updOrr f).transit = s.transit := by rfl
@[simp] theorem updOrr_macs (f : Orrery → Orrery) : (s.updOrr f).macs = s.macs := by rfl
@[simp] theorem updOrr_mac (f : Orrery → Orrery) : (s.updOrr f).mac = s.mac := by rfl
@[simp] theorem updOrr_dmx (f : Orrery → Orrery) : (s.updOrr f).dmx = s.dmx := by rfl
@[simp] theorem updOrr_dpend (f : Orrery → Orrery) : (s.updOrr f).dpend = s.dpend := by rfl
@[simp] theorem updOrr_panel (f : Orrery → Orrery) : (s.updOrr f).panel = s.panel := by rfl
@[simp] theorem updOrr_safe (f : Orrery → Orrery) : (s.updOrr f).safe = s.safe := by rfl
@[simp] theorem updOrr_sampleAt (f : Orrery → Orrery) : (s.updOrr f).sampleAt = s.sampleAt := by rfl
@[simp] theorem updOrr_twin (f : Orrery → Orrery) : (s.updOrr f).twin = s.twin := by rfl
@[simp] theorem updOrr_alm (f : Orrery → Orrery) : (s.updOrr f).alm = s.alm := by rfl
@[simp] theorem updOrr_flash (f : Orrery → Orrery) : (s.updOrr f).flash = s.flash := by rfl
@[simp] theorem updOrr_therm (f : Orrery → Orrery) : (s.updOrr f).therm = s.therm := by rfl
@[simp] theorem updOrr_cal (f : Orrery → Orrery) : (s.updOrr f).cal = s.cal := by rfl
@[simp] theorem updOrr_sys (f : Orrery → Orrery) : (s.updOrr f).sys = s.sys := by rfl
@[simp] theorem updOrr_flt (f : Orrery → Orrery) : (s.updOrr f).flt = s.flt := by rfl

/-! ### updTwin -/

@[simp] theorem updTwin_pending (f : TwinSt → TwinSt) : (s.updTwin f).pending = s.pending := by rfl
@[simp] theorem updTwin_freeCtr (f : TwinSt → TwinSt) : (s.updTwin f).freeCtr = s.freeCtr := by rfl
@[simp] theorem updTwin_regs (f : TwinSt → TwinSt) : (s.updTwin f).regs = s.regs := by rfl
@[simp] theorem updTwin_aregs (f : TwinSt → TwinSt) : (s.updTwin f).aregs = s.aregs := by rfl
@[simp] theorem updTwin_latch (f : TwinSt → TwinSt) : (s.updTwin f).latch = s.latch := by rfl
@[simp] theorem updTwin_stage (f : TwinSt → TwinSt) : (s.updTwin f).stage = s.stage := by rfl
@[simp] theorem updTwin_mem (f : TwinSt → TwinSt) : (s.updTwin f).mem = s.mem := by rfl
@[simp] theorem updTwin_ue (f : TwinSt → TwinSt) : (s.updTwin f).ue = s.ue := by rfl
@[simp] theorem updTwin_otp (f : TwinSt → TwinSt) : (s.updTwin f).otp = s.otp := by rfl
@[simp] theorem updTwin_mono (f : TwinSt → TwinSt) : (s.updTwin f).mono = s.mono := by rfl
@[simp] theorem updTwin_acc (f : TwinSt → TwinSt) : (s.updTwin f).acc = s.acc := by rfl
@[simp] theorem updTwin_faultQ (f : TwinSt → TwinSt) : (s.updTwin f).faultQ = s.faultQ := by rfl
@[simp] theorem updTwin_faultLost (f : TwinSt → TwinSt) : (s.updTwin f).faultLost = s.faultLost := by rfl
@[simp] theorem updTwin_once (f : TwinSt → TwinSt) : (s.updTwin f).once = s.once := by rfl
@[simp] theorem updTwin_rings (f : TwinSt → TwinSt) : (s.updTwin f).rings = s.rings := by rfl
@[simp] theorem updTwin_ringWins (f : TwinSt → TwinSt) : (s.updTwin f).ringWins = s.ringWins := by rfl
@[simp] theorem updTwin_minSrc (f : TwinSt → TwinSt) : (s.updTwin f).minSrc = s.minSrc := by rfl
@[simp] theorem updTwin_monoFrac (f : TwinSt → TwinSt) : (s.updTwin f).monoFrac = s.monoFrac := by rfl
@[simp] theorem updTwin_sid (f : TwinSt → TwinSt) : (s.updTwin f).sid = s.sid := by rfl
@[simp] theorem updTwin_ptp (f : TwinSt → TwinSt) : (s.updTwin f).ptp = s.ptp := by rfl
@[simp] theorem updTwin_eph (f : TwinSt → TwinSt) : (s.updTwin f).eph = s.eph := by rfl
@[simp] theorem updTwin_ephSpan (f : TwinSt → TwinSt) : (s.updTwin f).ephSpan = s.ephSpan := by rfl
@[simp] theorem updTwin_ephSpanCnt (f : TwinSt → TwinSt) : (s.updTwin f).ephSpanCnt = s.ephSpanCnt := by rfl
@[simp] theorem updTwin_ephLast (f : TwinSt → TwinSt) : (s.updTwin f).ephLast = s.ephLast := by rfl
@[simp] theorem updTwin_issued (f : TwinSt → TwinSt) : (s.updTwin f).issued = s.issued := by rfl
@[simp] theorem updTwin_warmW (f : TwinSt → TwinSt) : (s.updTwin f).warmW = s.warmW := by rfl
@[simp] theorem updTwin_tclkOk (f : TwinSt → TwinSt) : (s.updTwin f).tclkOk = s.tclkOk := by rfl
@[simp] theorem updTwin_cores (f : TwinSt → TwinSt) : (s.updTwin f).cores = s.cores := by rfl
@[simp] theorem updTwin_groups (f : TwinSt → TwinSt) : (s.updTwin f).groups = s.groups := by rfl
@[simp] theorem updTwin_bufs (f : TwinSt → TwinSt) : (s.updTwin f).bufs = s.bufs := by rfl
@[simp] theorem updTwin_ports (f : TwinSt → TwinSt) : (s.updTwin f).ports = s.ports := by rfl
@[simp] theorem updTwin_occs (f : TwinSt → TwinSt) : (s.updTwin f).occs = s.occs := by rfl
@[simp] theorem updTwin_rgns (f : TwinSt → TwinSt) : (s.updTwin f).rgns = s.rgns := by rfl
@[simp] theorem updTwin_rgnsCut (f : TwinSt → TwinSt) : (s.updTwin f).rgnsCut = s.rgnsCut := by rfl
@[simp] theorem updTwin_insts (f : TwinSt → TwinSt) : (s.updTwin f).insts = s.insts := by rfl
@[simp] theorem updTwin_feedSrcs (f : TwinSt → TwinSt) : (s.updTwin f).feedSrcs = s.feedSrcs := by rfl
@[simp] theorem updTwin_stuckOn (f : TwinSt → TwinSt) : (s.updTwin f).stuckOn = s.stuckOn := by rfl
@[simp] theorem updTwin_arrayCur (f : TwinSt → TwinSt) : (s.updTwin f).arrayCur = s.arrayCur := by rfl
@[simp] theorem updTwin_strBind (f : TwinSt → TwinSt) : (s.updTwin f).strBind = s.strBind := by rfl
@[simp] theorem updTwin_strs (f : TwinSt → TwinSt) : (s.updTwin f).strs = s.strs := by rfl
@[simp] theorem updTwin_fades (f : TwinSt → TwinSt) : (s.updTwin f).fades = s.fades := by rfl
@[simp] theorem updTwin_ntcs (f : TwinSt → TwinSt) : (s.updTwin f).ntcs = s.ntcs := by rfl
@[simp] theorem updTwin_diags (f : TwinSt → TwinSt) : (s.updTwin f).diags = s.diags := by rfl
@[simp] theorem updTwin_fadeFrame (f : TwinSt → TwinSt) : (s.updTwin f).fadeFrame = s.fadeFrame := by rfl
@[simp] theorem updTwin_links (f : TwinSt → TwinSt) : (s.updTwin f).links = s.links := by rfl
@[simp] theorem updTwin_tslots (f : TwinSt → TwinSt) : (s.updTwin f).tslots = s.tslots := by rfl
@[simp] theorem updTwin_tgts (f : TwinSt → TwinSt) : (s.updTwin f).tgts = s.tgts := by rfl
@[simp] theorem updTwin_transit (f : TwinSt → TwinSt) : (s.updTwin f).transit = s.transit := by rfl
@[simp] theorem updTwin_orr (f : TwinSt → TwinSt) : (s.updTwin f).orr = s.orr := by rfl
@[simp] theorem updTwin_macs (f : TwinSt → TwinSt) : (s.updTwin f).macs = s.macs := by rfl
@[simp] theorem updTwin_mac (f : TwinSt → TwinSt) : (s.updTwin f).mac = s.mac := by rfl
@[simp] theorem updTwin_dmx (f : TwinSt → TwinSt) : (s.updTwin f).dmx = s.dmx := by rfl
@[simp] theorem updTwin_dpend (f : TwinSt → TwinSt) : (s.updTwin f).dpend = s.dpend := by rfl
@[simp] theorem updTwin_panel (f : TwinSt → TwinSt) : (s.updTwin f).panel = s.panel := by rfl
@[simp] theorem updTwin_safe (f : TwinSt → TwinSt) : (s.updTwin f).safe = s.safe := by rfl
@[simp] theorem updTwin_sampleAt (f : TwinSt → TwinSt) : (s.updTwin f).sampleAt = s.sampleAt := by rfl
@[simp] theorem updTwin_alm (f : TwinSt → TwinSt) : (s.updTwin f).alm = s.alm := by rfl
@[simp] theorem updTwin_flash (f : TwinSt → TwinSt) : (s.updTwin f).flash = s.flash := by rfl
@[simp] theorem updTwin_therm (f : TwinSt → TwinSt) : (s.updTwin f).therm = s.therm := by rfl
@[simp] theorem updTwin_cal (f : TwinSt → TwinSt) : (s.updTwin f).cal = s.cal := by rfl
@[simp] theorem updTwin_sys (f : TwinSt → TwinSt) : (s.updTwin f).sys = s.sys := by rfl
@[simp] theorem updTwin_flt (f : TwinSt → TwinSt) : (s.updTwin f).flt = s.flt := by rfl

/-! ### setAlm -/

@[simp] theorem setAlm_pending (v : AlmSt) : (s.setAlm v).pending = s.pending := by rfl
@[simp] theorem setAlm_freeCtr (v : AlmSt) : (s.setAlm v).freeCtr = s.freeCtr := by rfl
@[simp] theorem setAlm_regs (v : AlmSt) : (s.setAlm v).regs = s.regs := by rfl
@[simp] theorem setAlm_aregs (v : AlmSt) : (s.setAlm v).aregs = s.aregs := by rfl
@[simp] theorem setAlm_latch (v : AlmSt) : (s.setAlm v).latch = s.latch := by rfl
@[simp] theorem setAlm_stage (v : AlmSt) : (s.setAlm v).stage = s.stage := by rfl
@[simp] theorem setAlm_mem (v : AlmSt) : (s.setAlm v).mem = s.mem := by rfl
@[simp] theorem setAlm_ue (v : AlmSt) : (s.setAlm v).ue = s.ue := by rfl
@[simp] theorem setAlm_otp (v : AlmSt) : (s.setAlm v).otp = s.otp := by rfl
@[simp] theorem setAlm_mono (v : AlmSt) : (s.setAlm v).mono = s.mono := by rfl
@[simp] theorem setAlm_acc (v : AlmSt) : (s.setAlm v).acc = s.acc := by rfl
@[simp] theorem setAlm_faultQ (v : AlmSt) : (s.setAlm v).faultQ = s.faultQ := by rfl
@[simp] theorem setAlm_faultLost (v : AlmSt) : (s.setAlm v).faultLost = s.faultLost := by rfl
@[simp] theorem setAlm_once (v : AlmSt) : (s.setAlm v).once = s.once := by rfl
@[simp] theorem setAlm_rings (v : AlmSt) : (s.setAlm v).rings = s.rings := by rfl
@[simp] theorem setAlm_ringWins (v : AlmSt) : (s.setAlm v).ringWins = s.ringWins := by rfl
@[simp] theorem setAlm_minSrc (v : AlmSt) : (s.setAlm v).minSrc = s.minSrc := by rfl
@[simp] theorem setAlm_monoFrac (v : AlmSt) : (s.setAlm v).monoFrac = s.monoFrac := by rfl
@[simp] theorem setAlm_sid (v : AlmSt) : (s.setAlm v).sid = s.sid := by rfl
@[simp] theorem setAlm_ptp (v : AlmSt) : (s.setAlm v).ptp = s.ptp := by rfl
@[simp] theorem setAlm_eph (v : AlmSt) : (s.setAlm v).eph = s.eph := by rfl
@[simp] theorem setAlm_ephSpan (v : AlmSt) : (s.setAlm v).ephSpan = s.ephSpan := by rfl
@[simp] theorem setAlm_ephSpanCnt (v : AlmSt) : (s.setAlm v).ephSpanCnt = s.ephSpanCnt := by rfl
@[simp] theorem setAlm_ephLast (v : AlmSt) : (s.setAlm v).ephLast = s.ephLast := by rfl
@[simp] theorem setAlm_issued (v : AlmSt) : (s.setAlm v).issued = s.issued := by rfl
@[simp] theorem setAlm_warmW (v : AlmSt) : (s.setAlm v).warmW = s.warmW := by rfl
@[simp] theorem setAlm_tclkOk (v : AlmSt) : (s.setAlm v).tclkOk = s.tclkOk := by rfl
@[simp] theorem setAlm_cores (v : AlmSt) : (s.setAlm v).cores = s.cores := by rfl
@[simp] theorem setAlm_groups (v : AlmSt) : (s.setAlm v).groups = s.groups := by rfl
@[simp] theorem setAlm_bufs (v : AlmSt) : (s.setAlm v).bufs = s.bufs := by rfl
@[simp] theorem setAlm_ports (v : AlmSt) : (s.setAlm v).ports = s.ports := by rfl
@[simp] theorem setAlm_occs (v : AlmSt) : (s.setAlm v).occs = s.occs := by rfl
@[simp] theorem setAlm_rgns (v : AlmSt) : (s.setAlm v).rgns = s.rgns := by rfl
@[simp] theorem setAlm_rgnsCut (v : AlmSt) : (s.setAlm v).rgnsCut = s.rgnsCut := by rfl
@[simp] theorem setAlm_insts (v : AlmSt) : (s.setAlm v).insts = s.insts := by rfl
@[simp] theorem setAlm_feedSrcs (v : AlmSt) : (s.setAlm v).feedSrcs = s.feedSrcs := by rfl
@[simp] theorem setAlm_stuckOn (v : AlmSt) : (s.setAlm v).stuckOn = s.stuckOn := by rfl
@[simp] theorem setAlm_arrayCur (v : AlmSt) : (s.setAlm v).arrayCur = s.arrayCur := by rfl
@[simp] theorem setAlm_strBind (v : AlmSt) : (s.setAlm v).strBind = s.strBind := by rfl
@[simp] theorem setAlm_strs (v : AlmSt) : (s.setAlm v).strs = s.strs := by rfl
@[simp] theorem setAlm_fades (v : AlmSt) : (s.setAlm v).fades = s.fades := by rfl
@[simp] theorem setAlm_ntcs (v : AlmSt) : (s.setAlm v).ntcs = s.ntcs := by rfl
@[simp] theorem setAlm_diags (v : AlmSt) : (s.setAlm v).diags = s.diags := by rfl
@[simp] theorem setAlm_fadeFrame (v : AlmSt) : (s.setAlm v).fadeFrame = s.fadeFrame := by rfl
@[simp] theorem setAlm_links (v : AlmSt) : (s.setAlm v).links = s.links := by rfl
@[simp] theorem setAlm_tslots (v : AlmSt) : (s.setAlm v).tslots = s.tslots := by rfl
@[simp] theorem setAlm_tgts (v : AlmSt) : (s.setAlm v).tgts = s.tgts := by rfl
@[simp] theorem setAlm_transit (v : AlmSt) : (s.setAlm v).transit = s.transit := by rfl
@[simp] theorem setAlm_orr (v : AlmSt) : (s.setAlm v).orr = s.orr := by rfl
@[simp] theorem setAlm_macs (v : AlmSt) : (s.setAlm v).macs = s.macs := by rfl
@[simp] theorem setAlm_mac (v : AlmSt) : (s.setAlm v).mac = s.mac := by rfl
@[simp] theorem setAlm_dmx (v : AlmSt) : (s.setAlm v).dmx = s.dmx := by rfl
@[simp] theorem setAlm_dpend (v : AlmSt) : (s.setAlm v).dpend = s.dpend := by rfl
@[simp] theorem setAlm_panel (v : AlmSt) : (s.setAlm v).panel = s.panel := by rfl
@[simp] theorem setAlm_safe (v : AlmSt) : (s.setAlm v).safe = s.safe := by rfl
@[simp] theorem setAlm_sampleAt (v : AlmSt) : (s.setAlm v).sampleAt = s.sampleAt := by rfl
@[simp] theorem setAlm_twin (v : AlmSt) : (s.setAlm v).twin = s.twin := by rfl
@[simp] theorem setAlm_flash (v : AlmSt) : (s.setAlm v).flash = s.flash := by rfl
@[simp] theorem setAlm_therm (v : AlmSt) : (s.setAlm v).therm = s.therm := by rfl
@[simp] theorem setAlm_cal (v : AlmSt) : (s.setAlm v).cal = s.cal := by rfl
@[simp] theorem setAlm_sys (v : AlmSt) : (s.setAlm v).sys = s.sys := by rfl
@[simp] theorem setAlm_flt (v : AlmSt) : (s.setAlm v).flt = s.flt := by rfl

/-! ### updSys -/

@[simp] theorem updSys_pending (f : SysSt → SysSt) : (s.updSys f).pending = s.pending := by rfl
@[simp] theorem updSys_freeCtr (f : SysSt → SysSt) : (s.updSys f).freeCtr = s.freeCtr := by rfl
@[simp] theorem updSys_regs (f : SysSt → SysSt) : (s.updSys f).regs = s.regs := by rfl
@[simp] theorem updSys_aregs (f : SysSt → SysSt) : (s.updSys f).aregs = s.aregs := by rfl
@[simp] theorem updSys_latch (f : SysSt → SysSt) : (s.updSys f).latch = s.latch := by rfl
@[simp] theorem updSys_stage (f : SysSt → SysSt) : (s.updSys f).stage = s.stage := by rfl
@[simp] theorem updSys_mem (f : SysSt → SysSt) : (s.updSys f).mem = s.mem := by rfl
@[simp] theorem updSys_ue (f : SysSt → SysSt) : (s.updSys f).ue = s.ue := by rfl
@[simp] theorem updSys_otp (f : SysSt → SysSt) : (s.updSys f).otp = s.otp := by rfl
@[simp] theorem updSys_mono (f : SysSt → SysSt) : (s.updSys f).mono = s.mono := by rfl
@[simp] theorem updSys_acc (f : SysSt → SysSt) : (s.updSys f).acc = s.acc := by rfl
@[simp] theorem updSys_faultQ (f : SysSt → SysSt) : (s.updSys f).faultQ = s.faultQ := by rfl
@[simp] theorem updSys_faultLost (f : SysSt → SysSt) : (s.updSys f).faultLost = s.faultLost := by rfl
@[simp] theorem updSys_once (f : SysSt → SysSt) : (s.updSys f).once = s.once := by rfl
@[simp] theorem updSys_rings (f : SysSt → SysSt) : (s.updSys f).rings = s.rings := by rfl
@[simp] theorem updSys_ringWins (f : SysSt → SysSt) : (s.updSys f).ringWins = s.ringWins := by rfl
@[simp] theorem updSys_minSrc (f : SysSt → SysSt) : (s.updSys f).minSrc = s.minSrc := by rfl
@[simp] theorem updSys_monoFrac (f : SysSt → SysSt) : (s.updSys f).monoFrac = s.monoFrac := by rfl
@[simp] theorem updSys_sid (f : SysSt → SysSt) : (s.updSys f).sid = s.sid := by rfl
@[simp] theorem updSys_ptp (f : SysSt → SysSt) : (s.updSys f).ptp = s.ptp := by rfl
@[simp] theorem updSys_eph (f : SysSt → SysSt) : (s.updSys f).eph = s.eph := by rfl
@[simp] theorem updSys_ephSpan (f : SysSt → SysSt) : (s.updSys f).ephSpan = s.ephSpan := by rfl
@[simp] theorem updSys_ephSpanCnt (f : SysSt → SysSt) : (s.updSys f).ephSpanCnt = s.ephSpanCnt := by rfl
@[simp] theorem updSys_ephLast (f : SysSt → SysSt) : (s.updSys f).ephLast = s.ephLast := by rfl
@[simp] theorem updSys_issued (f : SysSt → SysSt) : (s.updSys f).issued = s.issued := by rfl
@[simp] theorem updSys_warmW (f : SysSt → SysSt) : (s.updSys f).warmW = s.warmW := by rfl
@[simp] theorem updSys_tclkOk (f : SysSt → SysSt) : (s.updSys f).tclkOk = s.tclkOk := by rfl
@[simp] theorem updSys_cores (f : SysSt → SysSt) : (s.updSys f).cores = s.cores := by rfl
@[simp] theorem updSys_groups (f : SysSt → SysSt) : (s.updSys f).groups = s.groups := by rfl
@[simp] theorem updSys_bufs (f : SysSt → SysSt) : (s.updSys f).bufs = s.bufs := by rfl
@[simp] theorem updSys_ports (f : SysSt → SysSt) : (s.updSys f).ports = s.ports := by rfl
@[simp] theorem updSys_occs (f : SysSt → SysSt) : (s.updSys f).occs = s.occs := by rfl
@[simp] theorem updSys_rgns (f : SysSt → SysSt) : (s.updSys f).rgns = s.rgns := by rfl
@[simp] theorem updSys_rgnsCut (f : SysSt → SysSt) : (s.updSys f).rgnsCut = s.rgnsCut := by rfl
@[simp] theorem updSys_insts (f : SysSt → SysSt) : (s.updSys f).insts = s.insts := by rfl
@[simp] theorem updSys_feedSrcs (f : SysSt → SysSt) : (s.updSys f).feedSrcs = s.feedSrcs := by rfl
@[simp] theorem updSys_stuckOn (f : SysSt → SysSt) : (s.updSys f).stuckOn = s.stuckOn := by rfl
@[simp] theorem updSys_arrayCur (f : SysSt → SysSt) : (s.updSys f).arrayCur = s.arrayCur := by rfl
@[simp] theorem updSys_strBind (f : SysSt → SysSt) : (s.updSys f).strBind = s.strBind := by rfl
@[simp] theorem updSys_strs (f : SysSt → SysSt) : (s.updSys f).strs = s.strs := by rfl
@[simp] theorem updSys_fades (f : SysSt → SysSt) : (s.updSys f).fades = s.fades := by rfl
@[simp] theorem updSys_ntcs (f : SysSt → SysSt) : (s.updSys f).ntcs = s.ntcs := by rfl
@[simp] theorem updSys_diags (f : SysSt → SysSt) : (s.updSys f).diags = s.diags := by rfl
@[simp] theorem updSys_fadeFrame (f : SysSt → SysSt) : (s.updSys f).fadeFrame = s.fadeFrame := by rfl
@[simp] theorem updSys_links (f : SysSt → SysSt) : (s.updSys f).links = s.links := by rfl
@[simp] theorem updSys_tslots (f : SysSt → SysSt) : (s.updSys f).tslots = s.tslots := by rfl
@[simp] theorem updSys_tgts (f : SysSt → SysSt) : (s.updSys f).tgts = s.tgts := by rfl
@[simp] theorem updSys_transit (f : SysSt → SysSt) : (s.updSys f).transit = s.transit := by rfl
@[simp] theorem updSys_orr (f : SysSt → SysSt) : (s.updSys f).orr = s.orr := by rfl
@[simp] theorem updSys_macs (f : SysSt → SysSt) : (s.updSys f).macs = s.macs := by rfl
@[simp] theorem updSys_mac (f : SysSt → SysSt) : (s.updSys f).mac = s.mac := by rfl
@[simp] theorem updSys_dmx (f : SysSt → SysSt) : (s.updSys f).dmx = s.dmx := by rfl
@[simp] theorem updSys_dpend (f : SysSt → SysSt) : (s.updSys f).dpend = s.dpend := by rfl
@[simp] theorem updSys_panel (f : SysSt → SysSt) : (s.updSys f).panel = s.panel := by rfl
@[simp] theorem updSys_safe (f : SysSt → SysSt) : (s.updSys f).safe = s.safe := by rfl
@[simp] theorem updSys_sampleAt (f : SysSt → SysSt) : (s.updSys f).sampleAt = s.sampleAt := by rfl
@[simp] theorem updSys_twin (f : SysSt → SysSt) : (s.updSys f).twin = s.twin := by rfl
@[simp] theorem updSys_alm (f : SysSt → SysSt) : (s.updSys f).alm = s.alm := by rfl
@[simp] theorem updSys_flash (f : SysSt → SysSt) : (s.updSys f).flash = s.flash := by rfl
@[simp] theorem updSys_therm (f : SysSt → SysSt) : (s.updSys f).therm = s.therm := by rfl
@[simp] theorem updSys_cal (f : SysSt → SysSt) : (s.updSys f).cal = s.cal := by rfl
@[simp] theorem updSys_flt (f : SysSt → SysSt) : (s.updSys f).flt = s.flt := by rfl

end Sys2Proof.Machine.State
end

