-- ==== Sys2Proof/Laws/Regs.lean ====
section
/-!
SUPPORT. Reading control registers and their fields after a write; bytes of memory after a write; the sparse maps of State.
-/
namespace Sys2Proof.Machine

open Sys2Proof

/-! ### Fields of a word -/

theorem wfld_eq_extract (w : Word) (hi lo : Nat) : wfld w hi lo = (w.extractLsb' lo (hi + 1 - lo)).toNat := by
  simp [wfld, BitVec.extractLsb'_toNat, Nat.shiftRight_eq_div_pow]

theorem wset_getLsbD (w : Word) (hi lo v i : Nat) (h : lo ≤ hi) (h32 : hi < 32) :
    (wset w hi lo v).getLsbD i = if lo ≤ i ∧ i ≤ hi then v.testBit (i - lo) else w.getLsbD i := by
  by_cases hi32 : i < 32
  · have e : (2 ^ (hi + 1 - lo) - 1) * 2 ^ lo = (2 ^ (hi + 1 - lo) - 1) <<< lo := (Nat.shiftLeft_eq _ _).symm
    have e' : v * 2 ^ lo = v <<< lo := (Nat.shiftLeft_eq _ _).symm
    simp only [wset, e, e', BitVec.getLsbD_or, BitVec.getLsbD_and, BitVec.getLsbD_not, BitVec.getLsbD_ofNat, hi32, decide_true,
      Bool.true_and, Nat.testBit_shiftLeft, Nat.testBit_two_pow_sub_one]
    by_cases h1 : lo ≤ i
    · by_cases h2 : i ≤ hi
      · have : i - lo < hi + 1 - lo := by omega
        simp [h1, h2, this]
      · have : ¬ i - lo < hi + 1 - lo := by omega
        simp [h1, h2, this]
    · simp [h1]
  · have : ¬ (lo ≤ i ∧ i ≤ hi) := by omega
    simp [this, BitVec.getLsbD_of_ge _ _ (Nat.le_of_not_lt hi32)]

/-- A written field reads as written. -/
theorem wfld_wset_same (w : Word) (hi lo v : Nat) (h : lo ≤ hi) (h32 : hi < 32) (hv : v < 2 ^ (hi + 1 - lo)) :
    wfld (wset w hi lo v) hi lo = v := by
  rw [wfld_eq_extract]
  apply Nat.eq_of_testBit_eq
  intro i
  rw [BitVec.testBit_toNat, BitVec.getLsbD_extractLsb', wset_getLsbD w hi lo v _ h h32]
  by_cases hi' : i < hi + 1 - lo
  · have : lo ≤ lo + i ∧ lo + i ≤ hi := by omega
    simp [hi', this]
  · have : v.testBit i = false := Nat.testBit_lt_two_pow (Nat.lt_of_lt_of_le hv (Nat.pow_le_pow_right (by omega) (by omega)))
    simp [hi', this]

/-- A field apart from the written one reads as before. -/
theorem wfld_wset_apart (w : Word) (hi lo hi' lo' v : Nat) (h : lo ≤ hi) (h32 : hi < 32)
    (ha : hi' < lo ∨ hi < lo') : wfld (wset w hi lo v) hi' lo' = wfld w hi' lo' := by
  simp only [wfld_eq_extract]
  congr 1
  apply BitVec.eq_of_getLsbD_eq
  intro i hi2
  simp only [BitVec.getLsbD_extractLsb', wset_getLsbD w hi lo v _ h h32]
  have : ¬ (lo ≤ lo' + i ∧ lo' + i ≤ hi) := by omega
  simp [this]

theorem wfld_lt (w : Word) (hi lo : Nat) : wfld w hi lo < 2 ^ (hi + 1 - lo) := Nat.mod_lt _ (Nat.two_pow_pos _)

theorem b2n_lt (b : Bool) : b2n b < 2 := by cases b <;> decide

namespace State

variable (s : State)

/-! ### Registers -/

theorem reg_setReg (a b : Nat) (w : Word) : (s.setReg a w).reg b = if b = a then w else s.reg b := by
  by_cases h : b = a
  · subst h; simp [reg, setReg]
  · simp only [reg, setReg, h, SMap.get, SMap.put, if_false]; exact AList.find_put_ne h

@[simp] theorem reg_setReg_same (a : Nat) (w : Word) : (s.setReg a w).reg a = w := by simp [reg_setReg]
theorem reg_setReg_ne {a b : Nat} (w : Word) (h : b ≠ a) : (s.setReg a w).reg b = s.reg b := by simp [reg_setReg, h]

theorem reg_setFld (a hi lo v b : Nat) : (s.setFld a hi lo v).reg b = if b = a then wset (s.reg a) hi lo v else s.reg b :=
  reg_setReg s a b _
theorem reg_setFld_ne {a hi lo v b : Nat} (h : b ≠ a) : (s.setFld a hi lo v).reg b = s.reg b := reg_setReg_ne s _ h
theorem reg_setBit_ne {a i b : Nat} {v : Bool} (h : b ≠ a) : (s.setBit a i v).reg b = s.reg b := reg_setFld_ne s h
theorem reg_incBy (a n b : Nat) : (s.incBy a n).reg b = if b = a then s.reg a + BitVec.ofNat 32 n else s.reg b := reg_setReg s a b _
theorem reg_inc (a b : Nat) : (s.inc a).reg b = if b = a then s.reg a + 1#32 else s.reg b := reg_setReg s a b _
theorem reg_inc_ne {a b : Nat} (h : b ≠ a) : (s.inc a).reg b = s.reg b := by simp [reg_inc, h]
theorem reg_setReg64 (a b : Nat) (v : DWord) : (s.setReg64 a v).reg b =
    if b = a + 4 then v.extractLsb' 32 32 else if b = a then v.extractLsb' 0 32 else s.reg b := by
  simp only [setReg64, reg_setReg]

theorem reg64_setReg64 (a : Nat) (v : DWord) : (s.setReg64 a v).reg64 a = v := by
  have : a ≠ a + 4 := by omega
  simp only [reg64, reg_setReg64, this, if_true, if_false]
  exact BitVec.extractLsb'_append_extractLsb'_eq_extractLsb' (x := v) (by omega) |>.trans (by simp)

/-- A register depends on the register file only. -/
theorem reg_congr {t u : State} (h : t.regs = u.regs) (a : Nat) : t.reg a = u.reg a := by simp only [reg, h]
theorem fld_congr {t u : State} (h : t.regs = u.regs) (a hi lo : Nat) : t.fld a hi lo = u.fld a hi lo := by simp only [fld, reg_congr h]
theorem bit_congr {t u : State} (h : t.regs = u.regs) (a i : Nat) : t.bit a i = u.bit a i := by simp only [bit, fld_congr h]

/-- A written field reads as written. -/
theorem fld_setFld_same (a hi lo v : Nat) (h : lo ≤ hi) (h32 : hi < 32) (hv : v < 2 ^ (hi + 1 - lo)) :
    (s.setFld a hi lo v).fld a hi lo = v := by
  simp only [fld, reg_setFld, if_true]; exact wfld_wset_same _ _ _ _ h h32 hv
/-- The register's other fields read as before. -/
theorem fld_setFld_apart (a hi lo v hi' lo' : Nat) (h : lo ≤ hi) (h32 : hi < 32) (ha : hi' < lo ∨ hi < lo') :
    (s.setFld a hi lo v).fld a hi' lo' = s.fld a hi' lo' := by
  simp only [fld, reg_setFld, if_true]; exact wfld_wset_apart _ _ _ _ _ _ h h32 ha
/-- So do the fields of every other register. -/
theorem fld_setFld_ne {a hi lo v b hi' lo' : Nat} (h : b ≠ a) : (s.setFld a hi lo v).fld b hi' lo' = s.fld b hi' lo' := by
  simp only [fld, reg_setFld_ne s h]
theorem fld_setReg_ne {a b hi lo : Nat} (w : Word) (h : b ≠ a) : (s.setReg a w).fld b hi lo = s.fld b hi lo := by
  simp only [fld, reg_setReg_ne s w h]
theorem fld_inc_ne {a b hi lo : Nat} (h : b ≠ a) : (s.inc a).fld b hi lo = s.fld b hi lo := by
  simp only [fld, reg_inc_ne s h]

/-- A written bit reads as written. -/
theorem bit_setBit_same (a i : Nat) (v : Bool) (h : i < 32) : (s.setBit a i v).bit a i = v := by
  have e : (s.setFld a i i (b2n v)).fld a i i = b2n v := fld_setFld_same s a i i (b2n v) (Nat.le_refl i) h (by simpa using b2n_lt v)
  simp only [bit, setBit, e]; cases v <;> rfl
theorem bit_setBit_apart (a i j : Nat) (v : Bool) (h : i < 32) (hj : j ≠ i) : (s.setBit a i v).bit a j = s.bit a j := by
  simp only [bit, setBit]; rw [fld_setFld_apart s a i i _ j j (Nat.le_refl i) h (by omega)]
theorem bit_setBit_ne {a i b j : Nat} {v : Bool} (h : b ≠ a) : (s.setBit a i v).bit b j = s.bit b j := by
  simp only [bit, setBit, fld_setFld_ne s h]
theorem bit_setFld_ne {a hi lo v b j : Nat} (h : b ≠ a) : (s.setFld a hi lo v).bit b j = s.bit b j := by
  simp only [bit, fld_setFld_ne s h]
theorem bit_setReg_ne {a b j : Nat} (w : Word) (h : b ≠ a) : (s.setReg a w).bit b j = s.bit b j := by
  simp only [bit, fld_setReg_ne s w h]
theorem bit_inc_ne {a b j : Nat} (h : b ≠ a) : (s.inc a).bit b j = s.bit b j := by simp only [bit, fld_inc_ne s h]

/-- Registers of which each agent has its own copy. -/
@[simp] theorem areg_setAreg_same (g a : Nat) (w : Word) : (s.setAreg g a w).areg g a = w := by simp [areg, setAreg]
theorem areg_setAreg_ne {g a h b : Nat} (w : Word) (e : h * 2 ^ 24 + b ≠ g * 2 ^ 24 + a) :
    (s.setAreg g a w).areg h b = s.areg h b := by
  simp only [areg, setAreg, SMap.get, SMap.put]; exact AList.find_put_ne e

/-! ### Memory -/

theorem byte_setByte (a b : Nat) (v : Byte) : (s.setByte a v).byte b = if b = a then v else s.byte b := by
  by_cases h : b = a
  · subst h; simp [byte, setByte, AList.find_put_same]
  · simp only [byte, setByte, h, if_false]; exact AList.find_put_ne h

/-- A byte outside the written span reads as before. -/
theorem byte_setBytes_out (a b : Nat) (l : List Byte) (h : b < a ∨ a + l.length ≤ b) : (s.setBytes a l).byte b = s.byte b := by
  induction l generalizing s a with
  | nil => rfl
  | cons x r ih =>
    simp only [List.length_cons] at h
    rw [setBytes, ih (s.setByte a x) (a + 1) (by omega), byte_setByte, if_neg (by omega)]

/-- A byte of the written span reads as written. -/
theorem byte_setBytes_in (a i : Nat) (l : List Byte) (h : i < l.length) : (s.setBytes a l).byte (a + i) = l[i] := by
  induction l generalizing s a i with
  | nil => simp at h
  | cons x r ih =>
    rw [setBytes]
    cases i with
    | zero => rw [byte_setBytes_out _ _ _ _ (by omega), byte_setByte]; simp
    | succ i =>
      have := ih (s.setByte a x) (a + 1) i (by simpa using h)
      rw [show a + 1 + i = a + (i + 1) by omega] at this
      simpa using this

theorem mem_wf_setByte (a : Nat) (v : Byte) (h : Memory.wf s.mem = true) : Memory.wf (s.setByte a v).mem = true := AList.canonical_put h

theorem mem_wf_setBytes (a : Nat) (l : List Byte) (h : Memory.wf s.mem = true) : Memory.wf (s.setBytes a l).mem = true := by
  induction l generalizing s a with
  | nil => exact h
  | cons x r ih => exact ih _ _ (mem_wf_setByte s a x h)

@[simp] theorem reg_setBytes (a b : Nat) (l : List Byte) : (s.setBytes a l).reg b = s.reg b := by
  induction l generalizing s a with
  | nil => rfl
  | cons x r ih => rw [setBytes, ih]; rfl

/-! ### The sparse maps -/

@[simp] theorem ring_setRing (r : Nat) (v : RingSt) : (s.setRing r v).ring r = v := by simp [ring, setRing]
theorem ring_setRing_ne {r q : Nat} (v : RingSt) (h : q ≠ r) : (s.setRing r v).ring q = s.ring q := by
  simp [ring, setRing, SMap.get_put_ne h]
@[simp] theorem core_setCore (c : Nat) (k : Core) : (s.setCore c k).core c = k := by simp [core, setCore]
theorem core_setCore_ne {c e : Nat} (k : Core) (h : e ≠ c) : (s.setCore c k).core e = s.core e := by
  simp [core, setCore, SMap.get_put_ne h]
@[simp] theorem port_setPort (p : Nat) (v : PlatePort) : (s.setPort p v).port p = v := by simp [port, setPort]
theorem port_setPort_ne {p q : Nat} (v : PlatePort) (h : q ≠ p) : (s.setPort p v).port q = s.port q := by
  simp [port, setPort, SMap.get_put_ne h]

end State

end Sys2Proof.Machine
end

