-- ==== Sys2Proof/Laws/Raise.lean ====
section
/-!
SUPPORT. What raising a fault can do: the fields and the registers it leaves alone, and the record it queues.
-/
namespace Sys2Proof.Machine

open Sys2Proof

/-- Registers that raising a fault may change (R690 to R695, R351, R302, R577): the fault unit, SYS_MODE, TWIN_STATUS, and each plate
port's PLATE_CTRL, link status and OCC_STATUS. -/
def raiseReg (a : Nat) : Bool :=
  (decide (0x40000 ≤ a) && decide (a < 0x40100)) || a == Reg.SYS_MODE || a == Reg.TWIN_STATUS ||
    (List.range 4).any fun p =>
      a == Reg.OCC_STATUS + p * 0x4000 || a == Reg.PLATE_CTRL + p * 0x4000 || a == Reg.PLATE_LINK_STATUS + p * 0x4000

/-- t differs from s at most in the registers named by raiseReg, the fault queue and the state of the safety action. -/
structure RaiseStep (s t : State) : Prop where
  rest : t = { s with
    regs := t.regs, faultQ := t.faultQ, faultLost := t.faultLost, once := t.once, minSrc := t.minSrc, ports := t.ports, twin := t.twin }
  regs : ∀ a, raiseReg a = false → t.reg a = s.reg a
  grew : ∃ l, t.faultQ = s.faultQ ++ l

namespace RaiseStep

theorem refl (s : State) : RaiseStep s s := ⟨rfl, fun _ _ => rfl, [], by simp⟩

theorem trans {s t u : State} (h : RaiseStep s t) (k : RaiseStep t u) : RaiseStep s u := by
  refine ⟨?_, fun a ha => (k.regs a ha).trans (h.regs a ha), ?_⟩
  · have e := k.rest; rw [h.rest] at e; exact e
  · obtain ⟨l, hl⟩ := h.grew; obtain ⟨m, hm⟩ := k.grew
    exact ⟨l ++ m, by rw [hm, hl, List.append_assoc]⟩

theorem setReg (s : State) {a : Nat} (w : Word) (h : raiseReg a = true) : RaiseStep s (s.setReg a w) :=
  ⟨rfl, fun b hb => State.reg_setReg_ne s w (by rintro rfl; simp [h] at hb), [], by simp⟩
theorem setFld (s : State) {a hi lo v : Nat} (h : raiseReg a = true) : RaiseStep s (s.setFld a hi lo v) := setReg s _ h
theorem setBit (s : State) {a i : Nat} {v : Bool} (h : raiseReg a = true) : RaiseStep s (s.setBit a i v) := setReg s _ h
theorem inc (s : State) {a : Nat} (h : raiseReg a = true) : RaiseStep s (s.inc a) := setReg s _ h
theorem setReg64 (s : State) {a : Nat} (w : DWord) (h : raiseReg a = true) (h4 : raiseReg (a + 4) = true) : RaiseStep s (s.setReg64 a w) :=
  (setReg s _ h).trans (setReg _ _ h4)

theorem captureAt (s : State) {a c i : Nat} {args : List Word} (h : ∀ k < 0x1C, raiseReg (a + k) = true) :
    RaiseStep s (s.captureAt a c i args) := by
  unfold State.captureAt
  have := h 0 (by decide)
  exact ((((setReg s _ (by simpa using this)).trans (setReg64 _ _ (h 4 (by decide)) (h 8 (by decide)))).trans
    (setReg64 _ _ (h 0xC (by decide)) (h 0x10 (by decide)))).trans (setReg _ _ (h 0x14 (by decide)))).trans (setReg _ _ (h 0x18 (by decide)))

theorem capture (s : State) (c i : Nat) (args : List Word) : RaiseStep s (s.capture c i args) := by
  unfold State.capture
  split
  · exact refl s
  · split
    · exact (captureAt (a := Reg.FAULT_FIRST_CODE) s (by decide)).trans (setBit _ (by decide))
    · extract_lets t
      have hc : RaiseStep s t := by
        show RaiseStep s (if _ then _ else _)
        split
        · exact refl s
        · exact inc s (by decide)
      clear_value t
      split
      · exact hc
      · exact (hc.trans (captureAt (a := Reg.FAULT_SECOND_CODE) t (by decide))).trans (setBit _ (by decide))

theorem queueFault (s : State) (c i : Nat) (args : List Word) : RaiseStep s (s.queueFault c i args) := by
  unfold State.queueFault
  extract_lets ph
  split
  · exact RaiseStep.trans (t := { s with faultQ := s.faultQ ++ [_] }) ⟨rfl, fun _ _ => rfl, [_], rfl⟩ (setFld _ (by decide))
  · exact (inc s (a := Reg.FAULT_LOST_CNT) (by decide)).trans ⟨rfl, fun _ _ => rfl, [], (List.append_nil _).symm⟩

theorem onceMark (s : State) (k : Nat) : RaiseStep s (s.onceMark k) := ⟨rfl, fun _ _ => rfl, [], by simp [State.onceMark]⟩
theorem onceFrameMark (s : State) (k : Nat) : RaiseStep s (s.onceFrameMark k) := ⟨rfl, fun _ _ => rfl, [], by simp [State.onceFrameMark]⟩

theorem raiseRecord (s : State) (c i : Nat) (args : List Word) : RaiseStep s (s.raiseRecord c i args) := by
  unfold State.raiseRecord
  dsimp only
  have h1 := (((inc s (a := Reg.FAULT_REC_CNT) (by decide)).trans (setBit _ (a := Reg.FAULT_STATUS) (i := faultClass c) (v := true) (by decide))).trans
    (capture _ c i args)).trans (queueFault _ c i args)
  split
  · exact ((((h1.trans (onceMark _ _)).trans (inc _ (by decide))).trans (setBit _ (by decide))).trans (capture _ _ _ _)).trans (queueFault _ _ _ _)
  · exact h1

theorem minModeBy (s : State) {p : Nat} (src : Nat) (h : p < 4) : RaiseStep s (s.minModeBy p src) := by
  have ha : raiseReg (Reg.OCC_STATUS + p * 0x4000) = true := by
    rcases p with _ | _ | _ | _ | p <;> first | rfl | omega
  unfold State.minModeBy
  dsimp only
  have h1 : RaiseStep s { s with minSrc := s.minSrc.put 0 p (s.minSrc.get 0 p ||| src) } := ⟨rfl, fun _ _ => rfl, [], by simp⟩
  have h2 := (h1.trans (setBit _ (i := 1) (v := true) ha)).trans (setBit _ (i := 2) (v := true) ha)
  split
  · exact h2
  · exact h2.trans (raiseRecord _ _ _ _)

theorem safeAct (s : State) {p : Nat} (h : p < 4) : RaiseStep s (s.safeAct p) := by
  have ha : raiseReg (Reg.PLATE_CTRL + p * 0x4000) = true := by
    rcases p with _ | _ | _ | _ | p <;> first | rfl | omega
  unfold State.safeAct
  dsimp only
  split
  · exact (setBit _ ha).trans (setBit _ (by decide))
  · exact (minModeBy s 1 h).trans (setBit _ (by decide))

theorem foldl {f : State → Nat → State} (l : List Nat) (h : ∀ s, ∀ p ∈ l, RaiseStep s (f s p)) (s : State) : RaiseStep s (l.foldl f s) := by
  induction l generalizing s with
  | nil => exact refl s
  | cons x r ih => exact (h s x (by simp)).trans (ih (fun s p hp => h s p (by simp [hp])) _)

theorem gateShut (s : State) : RaiseStep s s.gateShut := by
  unfold State.gateShut
  dsimp only
  refine (setBit s (by decide)).trans (foldl _ (fun s p hp => ?_) _)
  have ha : raiseReg (Reg.PLATE_LINK_STATUS + p * 0x4000) = true := by
    simp only [List.mem_range] at hp
    rcases p with _ | _ | _ | _ | p <;> first | rfl | omega
  have hd : RaiseStep s (s.dropStream p) := ⟨rfl, fun _ _ => rfl, [], by simp [State.dropStream]⟩
  split
  · exact (hd.trans (setFld _ ha)).trans ⟨rfl, fun _ _ => rfl, [], by simp⟩
  · exact refl s

theorem twinToStandby (s : State) : RaiseStep s s.twinToStandby := by
  unfold State.twinToStandby
  dsimp only
  exact (((setFld s (by decide)).trans (setBit _ (by decide))).trans (gateShut _)).trans ⟨rfl, fun _ _ => rfl, [], by simp⟩

theorem fatalAct (s : State) : RaiseStep s s.fatalAct := by
  unfold State.fatalAct
  dsimp only
  split
  · exact (setBit s (by decide)).trans (twinToStandby _)
  · exact setBit s (by decide)

theorem safePorts_lt {s : State} {c i p : Nat} (h : p ∈ s.safePorts c i) : p < 4 := by
  unfold State.safePorts at h
  split at h
  · next hc => simp at h; omega
  · simp at h; omega

theorem raise (s : State) (c i : Nat) (args : List Word) : RaiseStep s (s.raise c i args) := by
  unfold State.raise
  dsimp only
  have h1 : RaiseStep s (if faultClass c = 3 then (s.raiseRecord c i args).fatalAct else s.raiseRecord c i args) := by
    split
    · exact (raiseRecord s c i args).trans (fatalAct _)
    · exact raiseRecord s c i args
  split
  · exact (h1.trans (foldl _ (fun s p hp => safeAct s (safePorts_lt hp)) _)).trans (inc _ (by decide))
  · exact h1

theorem raiseSec (s : State) (c i : Nat) (args : List Word) : RaiseStep s (s.raiseSec c i args) := by
  unfold State.raiseSec; dsimp only; split
  · exact (onceMark _ _).trans (raise _ _ _ _)
  · exact refl s

theorem raiseFrame (s : State) (c i : Nat) (args : List Word) : RaiseStep s (s.raiseFrame c i args) := by
  unfold State.raiseFrame; dsimp only; split
  · exact (onceFrameMark _ _).trans (raise _ _ _ _)
  · exact refl s

theorem raiseSecAll (s : State) (c i : Nat) (args : List Word) : RaiseStep s (s.raiseSecAll c i args) := by
  unfold State.raiseSecAll; split
  · exact (onceMark _ _).trans (raise _ _ _ _)
  · exact refl s

theorem raiseFrameAll (s : State) (c i : Nat) (args : List Word) : RaiseStep s (s.raiseFrameAll c i args) := by
  unfold State.raiseFrameAll; split
  · exact (onceFrameMark _ _).trans (raise _ _ _ _)
  · exact refl s

end RaiseStep

namespace State

variable (s : State)

theorem reg_raise {a : Nat} (c i : Nat) (args : List Word) (h : raiseReg a = false) : (s.raise c i args).reg a = s.reg a :=
  (RaiseStep.raise s c i args).regs a h
theorem fld_raise {a hi lo : Nat} (c i : Nat) (args : List Word) (h : raiseReg a = false) :
    (s.raise c i args).fld a hi lo = s.fld a hi lo := by simp only [fld, reg_raise s c i args h]
theorem bit_raise {a i : Nat} (c j : Nat) (args : List Word) (h : raiseReg a = false) :
    (s.raise c j args).bit a i = s.bit a i := by simp only [bit, fld_raise s c j args h]

/-- The capture keeps the fault queue. -/
theorem capture_faultQ (c i : Nat) (args : List Word) : (s.capture c i args).faultQ = s.faultQ := by
  unfold capture
  split
  · rfl
  · split
    · simp [captureAt]
    · extract_lets t
      have ht : t.faultQ = s.faultQ := by
        show State.faultQ (if s.reg Reg.FAULT_SECOND_CNT = 0xFFFFFFFF#32 then s else s.inc Reg.FAULT_SECOND_CNT) = _
        split <;> rfl
      clear_value t
      split <;> simp [captureAt, ht]

/-- With room in the queue, a record is queued at its end. -/
theorem queueFault_faultQ (c i : Nat) (args : List Word) (h : s.faultQ.length < 256) :
    (s.queueFault c i args).faultQ = s.faultQ ++ [⟨c, i, s.mono, if s.stopped then 0 else s.phase, args⟩] := by
  simp [queueFault, h]

/-- With room in the queue, raising a fault queues its record (R687). -/
theorem raise_queued (c i : Nat) (args : List Word) (h : s.faultQ.length < 256) :
    ∃ r ∈ (s.raise c i args).faultQ, r.code = c ∧ r.inst = i ∧ r.args = args := by
  have key : ∃ l, (s.raiseRecord c i args).faultQ = s.faultQ ++ l ∧ ∃ r ∈ l, r.code = c ∧ r.inst = i ∧ r.args = args := by
    unfold raiseRecord
    dsimp only
    have hf : decide (256 ≤ s.faultQ.length) = false := by simp; omega
    simp only [hf, Bool.false_and, Bool.false_eq_true, if_false]
    have hq : (((s.inc Reg.FAULT_REC_CNT).setBit Reg.FAULT_STATUS (faultClass c) true).capture c i args).faultQ = s.faultQ := by
      rw [capture_faultQ]; rfl
    rw [queueFault_faultQ _ _ _ _ (by rw [hq]; exact h), hq]
    exact ⟨_, rfl, _, List.mem_singleton.2 rfl, rfl, rfl, rfl⟩
  obtain ⟨l, hl, r, hr, hp⟩ := key
  have grow : ∀ t, RaiseStep (s.raiseRecord c i args) t → ∃ r ∈ t.faultQ, r.code = c ∧ r.inst = i ∧ r.args = args := by
    intro t ht
    obtain ⟨m, hm⟩ := ht.grew
    exact ⟨r, by rw [hm, hl]; simp [hr], hp⟩
  unfold raise
  dsimp only
  have h1 : RaiseStep (s.raiseRecord c i args) (if faultClass c = 3 then (s.raiseRecord c i args).fatalAct else s.raiseRecord c i args) := by
    split
    · exact RaiseStep.fatalAct _
    · exact RaiseStep.refl _
  split
  · exact grow _ ((h1.trans (RaiseStep.foldl _ (fun s p hp => RaiseStep.safeAct s (RaiseStep.safePorts_lt hp)) _)).trans (RaiseStep.inc _ (by decide)))
  · exact grow _ h1

end State

end Sys2Proof.Machine
end

