-- ==== Sys2Proof/Tests/Slice0.lean ====
section
/-!
SUPPORT. The model's own tests: ill-formed commands that WellFormed refuses, values the spec gives, and for each statement a state and
operands that meet its hypotheses.
-/

open Sys2Proof Sys2Proof.Machine Sys2Proof.Machine.State

/-- Supervisor core 0 runs with the given registers. -/
def Tests.supRun (k : Core) : State := State.reset.setCore 256 { k with run := .run }

/-- Field core 1 of tile 1 runs with the given registers. -/
def Tests.fieldRun (k : Core) : State := State.reset.setCore 17 { k with run := .run }

/-- Port 1 runs in SHOW with an 8 by 1 panel: its next start phase is reached. -/
def Tests.plateRun : State :=
  { (((State.reset.setFld Reg.SYS_MODE 7 0 0x33).setFld Reg.SID_STATUS 2 0 1).setReg (State.pReg Reg.PLATE_CTRL 1) 0x231) with
    acc := 0x200000000000000000000#96, mono := 100000
    ports := ({} : SMap PlatePort).put {} 1 { act := (({} : SMap Word).put 0 0 0x231).put 0 0xC 0x10008, lead := 1000 } }

/-- A sub-frame of port 1 whose FS has left. -/
def Tests.plateSf : SubFrame :=
  { n := 4, s := 0, c := 2, latch := 5, crc := 0, current := none, stream := true, blank := false, aligned := false, fs := true }

/-- Port 1 is off with a panel of 8 by 1 that every check accepts. -/
def Tests.plateOff : State :=
  (((State.reset.setReg (State.pReg Reg.PLATE_CTRL 1) 0x2A8).setReg (State.pReg Reg.PLATE_GEOM 1) 0x10008).setReg
    (State.pReg Reg.PLATE_CANVAS 1) 0x10008).setReg (State.pReg Reg.PLATE_FINAL_HI 1) 0x11

/-- Link 1 is in a state. -/
def Tests.linkSt (st : Nat) : State := State.reset.setFld (State.pReg Reg.PLATE_LINK_STATUS 1) 3 0 st

/-- Supervisor core 0 stages a triangle. -/
def Tests.rgnSt (cfg0 : Word) : State :=
  ((((State.reset.setAreg 0 Reg.OCC_RGN_CFG0 cfg0).setAreg 0 Reg.OCC_RGN_CFG1 0x2000400).setAreg 0 Reg.OCC_RGN_SEL 0x105).setAreg 0
    (Reg.OCC_RGN_V + 8) 800).setAreg 0 (Reg.OCC_RGN_V + 20) 800

/-- Region 5 of port 1 holds a triangle of ceiling 0x400. -/
def Tests.rgnHeld : State :=
  { rgnSt 0x30 with rgns := ({} : SMap Region256).put {} 261 { nv := 3, geo := [0, 0, 800, 0, 0, 800], ceil := 0x400, minceil := 0x200 } }

/-- A record with one KEEP item for region 5 of port 1. -/
def Tests.feedPl : List Byte :=
  let b : List Byte := [0x4F, 0x43, 1, 1, 9, 0, 0, 0, 7, 0, 0, 0, 0, 0, 0, 0, 0, 0, 0, 0, 40, 0, 0, 0, 0, 0, 0, 0, 0, 0, 0, 0, 1, 5, 3, 0]
  b ++ leBytes 4 (crc32 b).toNat

/-- The feed is on for MAC 3, and region 5 of port 1 is armed and fed. -/
def Tests.feedSt : State :=
  { ((State.reset.setReg Reg.OCC_FEED_CTRL 0x30000).setReg Reg.OCC_FEED_PORTS_LO 8) with
    rgns := ({} : SMap Region256).put {} 261 { feed := true, armed := true, timeout := 5 } }

/-- Channel 3 is enabled without a temperature source, in a state, with a level, 1 s after the reset. -/
def Tests.strSt (st lv : Nat) : State :=
  { ((((State.reset.setFld Reg.SYS_MODE 7 0 0x33).setReg (State.strReg Reg.STR_CFG 3) 0x3D1).setFld (State.strReg Reg.STR_STATUS 3) 3 0 st).setBit
      (State.strReg Reg.STR_STATUS 3) 4 true) with
    mono := 10000000000, strs := ({} : SMap StrCh).put {} 3 { level := lv, period := 40000 } }

/-- Link 1 is in STREAM with an engine that sends fault maps of 32 bytes. -/
def Tests.fmSt : State := (linkSt 6).updPort 1 fun v => { v with ident := some [0, 0, 0, 0x200100] }

/-- The node has ID 5, and link 2 is in a state. -/
def Tests.tlink (st : Nat) : State :=
  ((State.reset.setFld Reg.TRANSIT_NODE 14 0 0x4005).setFld (Reg.TRANSIT_STATUS + 0x2000) 1 0 st).setBit (Reg.TRANSIT_CFG + 0x2000) 0 true

/-- The router holds a packet that came on link 2. -/
def Tests.tIn (k : Pkt) : State := (tlink 3).updTransit fun x => { x with inbox := [(2, k)] }

/-- The endpoint holds a packet. -/
def Tests.tEp (k : Pkt) : State := (tlink 3).updTransit fun x => { x with epIn := [k] }

/-- A request of node 5 to itself. -/
def Tests.tReq (type : BitVec 4) : Pkt :=
  { dst := 5, src := 5, type := type, tag := 7, len := 4, addr := 0x1100000000, seq := 9, payload := [1, 2, 3, 4, 0, 0, 0, 0] }

/-- Node 5 is the coordinator, with 64 cores, its link 2 up; frame 100 runs. -/
def Tests.orrSt : State :=
  { (((tlink 3).setReg Reg.ORRERY_STATUS 0x30005).setReg Reg.ORRERY_CTRL 1).setReg Reg.ORRERY_CAP 0x640040 with acc := 0x6400000000 * 2 ^ 32 }

/-- The entry at the head of the own ring REQ. -/
def Tests.orrReq (o : State) (e : Entry) : State := o.setRing (State.reset.fld Reg.ORRERY_RINGS 5 0) { head := [e] }

/-- Item 9 is in the table. -/
def Tests.orrItem (i : OItem) : State := orrSt.updOrr fun o => { o with items := ({} : SMap OItem).put {} 9 i }

/-- The inventory record of node 6. -/
def Tests.orrInv : Inv := { uid := 7, id := 6, ctrl := 1, cap := 0x640040, pools := [(0, 0), (0, 0), (0, 0)], partner := none, epoch := 0, seq := 1 }

/-- MAC port 3 is up at 10 Gb/s. -/
def Tests.macSt : State :=
  ((State.reset.setFld Reg.SYS_MODE 7 0 0x33).setReg (macA 3 Reg.MAC_CTRL) 0x107).setBit (macA 3 Reg.MAC_STATUS) 0 true

/-- The head of ring TX0. -/
def Tests.macRing (o : State) (hi lo : Nat) (e : Entry) : State := o.setRing (State.reset.fld Reg.MAC_RINGS hi lo) { head := [e] }

/-- A broadcast frame with its FCS. -/
def Tests.macFrame : List Byte := State.withFcs (List.replicate 6 0xFF#8 ++ List.replicate 54 7#8) false

/-- An E1.31 data packet for universe 1 with two slots. -/
def Tests.sacnPkt : List Byte :=
  [0x00, 0x10, 0x00, 0x00, 0x41, 0x53, 0x43, 0x2D, 0x45, 0x31, 0x2E, 0x31, 0x37, 0x00, 0x00, 0x00, 0x70, 0x70, 0, 0, 0, 4] ++ List.replicate 16 9#8
    ++ [0x70, 0x5A, 0, 0, 0, 2] ++ List.replicate 64 0x41#8 ++ [100, 0, 0, 5, 0, 0, 1, 0x70, 0x0D, 2, 0xA1, 0, 0, 0, 1, 0, 3, 0, 0xAA, 0xBB]

/-- sACN receive entry 1 serves universe 1 into DRAM. -/
def Tests.sacnSt : State :=
  ((((State.reset.setReg Reg.MAC_SACN_MAP_LO 0x10000).setReg Reg.MAC_SACN_RXTBL_LO 0x20000).setBytes 0x10002 [1, 0]).setBytes 0x20000
    [1, 0, 0, 0]).setBytes 0x20008 [0, 0, 3, 0, 0]

/-- Stream entry 2 is a video stream of 8 bits 4:4:4. -/
def Tests.streamSt : State :=
  (((State.reset.setReg (State.stA Reg.ST_CFG 2) 0xB).setReg (State.stA Reg.ST_SIZE 2) 0x100010).setReg (State.stA Reg.ST_STRIDE 2) 0x60).setStSt 2
    { ts := some 5, seq := some 8 }

/-- An E1.31 synchronization packet for address 7. -/
def Tests.sacnSync : List Byte :=
  [0x00, 0x10, 0x00, 0x00, 0x41, 0x53, 0x43, 0x2D, 0x45, 0x31, 0x2E, 0x31, 0x37, 0x00, 0x00, 0x00, 0x70, 0x21, 0, 0, 0, 8] ++ List.replicate 16 9#8
    ++ [0x70, 0x0B, 0, 0, 0, 1, 3, 0, 7, 0, 0]

/-- An RTP packet with two pixels of row 3 from column 2. -/
def Tests.stPkt : List Byte := [0x80, 96, 0, 9, 0, 0, 0, 5, 0, 0, 0, 0, 0, 0, 0, 6, 0, 3, 0, 2, 1, 2, 3, 4, 5, 6]

/-- A job descriptor of 5 pixels lies at 0x1000, and its NET_LAUNCH is issued. -/
def Tests.macJobSt : State :=
  { (macSt.setFld Reg.SID_STATUS 2 0 1).setBytes 0x1000 ([0x43, 0x4A, 0x21, 0, 5, 0, 0, 0, 0, 0x20, 0, 0, 0, 0, 0, 0, 5, 0, 0, 0]) with
    issued := [⟨0x303, 0x1000, 0, 0, 0, 0, 5, 0, 0, 0⟩] }

/-- The job it names. -/
def Tests.macJob : Job := { macJobSt.jobOf 0x1000 5 (macJobSt.latchNs 5).1 with dark := false, mute := false }

/-- Bridge port 3 is enabled with RDM and slots from DRAM, in SHOW, with a state of the port. -/
def Tests.dmxSt (v : DPort) : State :=
  { (((State.reset.setFld Reg.SYS_MODE 7 0 0x33).setReg (State.dA 3 Reg.DMX_CFG) 0x1821).setReg (State.dA 3 Reg.DMX_SRC_LO) 0x10000).setFld
      (State.dA 3 Reg.DMX_SRC_CFG) 2 0 2 with mono := 1000000000 }.setDport 3 v

/-- A GET or SET request of the tunnel heads its ring. -/
def Tests.tunSt (e : Entry) : State :=
  ((dmxSt {}).setBit Reg.DMX_RINGS 16 true).setRing (State.reset.fld Reg.DMX_RINGS 5 0) { head := [e] }

/-- Panel input 3 is enabled in a state, its samples stable. -/
def Tests.panelSt (st : Nat) : State :=
  { ((State.reset.setReg Reg.PANEL_EN 8).setPnlState 3 st).setReg Reg.PANEL_RAW 8 with mono := 1000000000, sampleAt := 1000000000 }

/-- An answer of device 5 in transaction 7. -/
def Tests.rdmRsp : List Byte :=
  let b : List Byte := [0xCC, 1, 24, 0, 0, 0, 0, 0, 0, 0, 0, 0, 0, 0, 5, 7, 0, 0, 0, 0, 0x21, 0, 0x60, 0]
  b ++ beBytes 2 (byteSum b)

/-- The twin unit is enabled on link 2, which is UP, in a state, 1000 s after the reset. -/
def Tests.twinSt (st : Nat) : State :=
  { (((tlink 3).setFld (Reg.TRANSIT_CFG + 0x2000) 2 1 1).setReg Reg.TWIN_CTRL 9).setFld Reg.TWIN_STATUS 2 0 st with mono := 1000000000000 }

/-- The Almanac is READY with one active block of 4 KB out of 8, and a command waits. -/
def Tests.almSt (q : List AlmCmd) : State :=
  ((((State.reset.setReg Reg.ALM_GEOM 0xC).setReg Reg.ALM_NBLK 8).setReg Reg.ALM_REGION 0x5A0001).setFld Reg.ALM_STATUS 2 0 2).setAlm
    { blocks := [some 2], queue := q }

/-- Key 0x02000007 has a live record of 4 bytes at offset 64. -/
def Tests.almRec (q : List AlmCmd) : State :=
  (almSt q).setAlm { (almSt q).alm with index := ({} : SMap (Option AlmRec)).put none 0x02000007 (some ⟨64, 9, 4⟩) }

/-- The header of block 2 marks a committed region of generation 5, and the Almanac is off. -/
def Tests.almJrn : State :=
  ((((almSt []).flashProgs ((almSt []).almAddr 2) ([0x41#8, 0x4C#8, 0x42#8, 0x4B#8] ++ leBytes 4 1 ++
    leBytes 4 (crc32 ([0x41#8, 0x4C#8, 0x42#8, 0x4B#8] ++ leBytes 4 1)).toNat)).assignBlk 5 2 0).commitBlk (some 2)).setFld Reg.ALM_STATUS 2 0 0

/-- A compaction builds a region of block 3. -/
def Tests.almComp : State := ((almSt []).setAlm { (almSt []).alm with target := some [3] }).setFld Reg.ALM_STATUS 2 0 3

/-- A scrub pass is asked for, with an index. -/
def Tests.almScr (m : SMap (Option AlmRec)) : State :=
  ((almSt []).setBit Reg.ALM_CTRL 1 true).setAlm { (almSt []).alm with scrubNow := true, index := m }

/-- One live record lies at the start of the region. -/
def Tests.almGood : State :=
  ((almScr (({} : SMap (Option AlmRec)).put none 0x02000007 (some ⟨0, 9, 4⟩))).jProg [some 2] 0
    (recBody 0x02000007 9 false [1, 2, 3, 4] ++ recMarker [1, 2, 3, 4])).setReg Reg.ALM_APPEND_PT 32

/-- The throttling limit has been reached for 3 samples, 100 s after the reset. -/
def Tests.hotSt (act : Nat) (h : List Nat) : State :=
  { State.reset with mono := 100000000000, therm := { last := some 2000, act := act, hot := h, cool := [0, 0, 0, 0] } }

/-- Target runs, 100 s after the reset. -/
def Tests.calSt (id : Option Nat) : State := { State.reset with mono := 100000000000, cal := { State.reset.cal with running := id } }

/-- Resistances by code, the nearest to 50 ohm at code 7. -/
def Tests.termOhms : List Int := (List.range 32).map fun (i : Nat) => 50000 + 300 * ((i : Int) - 7)

/-- The device is in a mode, with UNDER beside it, 100 s after the reset. -/
def Tests.modeSt (m : Nat) : State := { State.reset.setFld Reg.SYS_MODE 7 0 m with mono := 100000000000 }

/-- A failsafe image of no universe lies in plate memory, where SYS_FS_BASE points. -/
def Tests.fsSt : State :=
  (((modeSt 0x22).setReg Reg.SYS_FS_BASE_LO 0).setReg (Reg.SYS_FS_BASE_LO + 4) 0x11).setBytes 0x1100000000
    [0x46, 0x53, 0x4C, 0x4B, 1, 0, 0, 0]

/-- The mode mailbox lies in supervisor memory and holds a word. -/
def Tests.pmbSt (w : Word) : State :=
  (((modeSt 0x22).setReg Reg.SYS_PMBOX_LO 0x00300000).setReg (Reg.SYS_PMBOX_LO + 4) 0x13).setBytes 0x1300300000 (leBytes 4 w.toNat)

/-- A fault record waits for the fault ring, 100 s after the reset. -/
def Tests.fltSt (l : Option LostRec) : State :=
  { State.reset with mono := 100000000000, faultQ := [⟨0x1005, 3, 7, 9, []⟩], faultLost := l }

/-- A TELEM_SNAP action has been issued. -/
def Tests.snapAct : Act := ⟨0x7, 0x55, 0, 0, 0, 0, 5, 0, 0, 0⟩

open Tests

/-! ### Ill-formed commands -/

theorem test_illFormed_ltcSyncWord : (Instr.ltcSyncWord true 24 0 0 0).wellFormed = false := by decide
theorem test_illFormed_mediaRtpPacket : (Instr.mediaRtpPacket 4 0 0 0).wellFormed = false := by decide
theorem test_illFormed_subframeStart : (Instr.subframeStart 1 [(0, 0, 1024)]).wellFormed = false := by decide
theorem test_illFormed_linkPacketReceive : (Instr.linkPacketReceive 2 0 true
    { dst := 5, src := 5, type := 1, tag := 0, len := 0, addr := 0, seq := 0, payload := List.replicate 257 0 }).wellFormed = false := by decide +kernel
theorem test_illFormed_rxFrame : (Instr.rxFrame 3 [1, 2, 3] 0).wellFormed = false := by decide
theorem test_illFormed_feedRecord : (Instr.feedRecord 3 0 (List.replicate 9601 0)).wellFormed = false := by decide +kernel
theorem test_illFormed_ctrlRx : (Instr.ctrlRx 2 0 (List.replicate 257 0)).wellFormed = false := by decide +kernel
theorem test_illFormed_trReceived : (Instr.trReceived 1 true (List.replicate 17 0)).wellFormed = false := by decide
theorem test_illFormed_rdmResponse : (Instr.rdmResponse 3 (List.replicate 514 0)).wellFormed = false := by decide +kernel
theorem test_illFormed_tcrcReceive : (Instr.tcrcReceive []).wellFormed = false := by decide
theorem test_illFormed_unitRingPush : (Instr.unitRingPush (.packet 3 [] 0)).wellFormed = false := by decide
theorem test_illFormed_thermSample : (Instr.thermSample [1000]).wellFormed = false := by decide
theorem test_illFormed_dbgAuthToken : (Instr.dbgAuthToken [1]).wellFormed = false := by decide
theorem test_illFormed_scrubPassComplete : (Instr.scrubPassComplete true [2 ^ 40] []).wellFormed = false := by decide
theorem test_illFormed_smbDone : (Instr.smbDone 1 0 0 (List.replicate 33 0)).wellFormed = false := by decide

/-! ### Values of the spec -/

-- R744, R745: reset words of the index
theorem test_reset_mode : State.reset.mode = 1 ∧ State.reset.under = 1 := by decide
-- R604 and others name CRC-32 of IEEE 802.3, whose check value over "123456789" is 0xCBF43926
theorem test_crc32 : crc32 [0x31, 0x32, 0x33, 0x34, 0x35, 0x36, 0x37, 0x38, 0x39] = 0xCBF43926 := by decide +kernel
-- the table gives no row bits
theorem test_no_words : decodeTableWord 32 5 = none := by decide
-- R102: a write to g0 is discarded
theorem test_g0 : ((({} : Core).setG 0 5).gr 0) = 0 := by decide
-- R37: a write of a core without access is a bus error
theorem test_forbidden : (match step { State.reset with pending := [.faultRelease (.sup 2)] } with
    | .next t => decide (t.faultQueued Code.SYS_BUS_ERR 258)
    | _ => true) = true := by decide +kernel

/-! ### Witnesses of the statements' hypotheses -/

theorem witness_TimeBasesAdvance :
    (∃ (n : Nat) (s : State), s.mode ≠ 0xA) ∧
    (∃ (n : Nat) (s : State), s.mode = 0xA) ∧
    (∃ (n : Nat) (s : State), s.mode ≠ 0xA) ∧
    (∃ (n : Nat) (s : State), s.mode = 0xA) ∧
    (∃ (n : Nat) (s : State), s.mode ≠ 0xA ∧ s.reg Reg.PTP_ADJ = 0 ∧ s.ptp.spreadLeft = 0 ∧ s.ptp.frac < State.ptpUnit ∧ s.ptp.ns + n < 1000000000 ∧ s.ptp.sec < 2 ^ 48) ∧
    (∃ (s : State), s.ptpNs / 1000000 ≠ s.sid.lastMs ∧ s.sidRef = 1 ∧ s.ptpValid = false) ∧
    (∃ (s : State), s.ptpNs / 1000000 ≠ s.sid.lastMs ∧ s.sidRef = 0) ∧
    (∃ (s : State), s.sidState = 4 ∧ max 1 (s.fld Reg.SID_LOOP 23 16) ≤ s.sid.runIn) ∧
    (∃ (s : State), s.sidState = 3 ∧ max 1 (s.fld Reg.SID_LOOP 23 16) ≤ s.sid.runOut) :=
  ⟨⟨7, State.reset, by decide⟩,
    ⟨7, State.reset.setFld Reg.SYS_MODE 3 0 0xA, by decide⟩,
    ⟨7, State.reset, by decide⟩,
    ⟨7, State.reset.setFld Reg.SYS_MODE 3 0 0xA, by decide⟩,
    ⟨7, { State.reset with ptp := { sec := 5, ns := 999999992, frac := 3 } }, by decide⟩,
    ⟨({ State.reset with ptp := { ns := 3000000 } } : State).setFld Reg.SID_CTRL 3 0 1, by decide⟩,
    ⟨{ State.reset with ptp := { ns := 3000000 } }, by decide⟩,
    ⟨{ State.reset.setFld Reg.SID_STATUS 2 0 4 with sid := { runIn := 255 } }, by decide⟩,
    ⟨{ State.reset.setFld Reg.SID_STATUS 2 0 3 with sid := { runOut := 255 } }, by decide⟩⟩

theorem witness_ReferencesAreSampled :
    (∃ (hh mm ss ff : Nat) (s : State), s.sidRef = 2 ∧ s.sid.ltcNum = none) ∧
    (∃ (hh mm ss ff : Nat) (s : State), s.sidRef = 2 ∧ s.onceOk Code.CLK_LTC_WORD 1000000000 = true ∧ s.faultRoom) ∧
    (∃ (up st : Nat) (rtp : Word) (ago : Nat) (s : State), s.sidRef = 3 ∧ up = s.fld Reg.SID_MEDIA 1 0 ∧ st = s.fld Reg.SID_MEDIA 5 2 ∧ 0 ≤ (BitVec.ofNat 32 (s.mediaCount16At (s.ptpCount16 - ago * 65536) / 65536) - rtp).toInt ∧ (BitVec.ofNat 32 (s.mediaCount16At (s.ptpCount16 - ago * 65536) / 65536) - rtp).toInt ≤ s.fld Reg.SID_MEDIA 23 8) ∧
    (∃ (up st : Nat) (rtp : Word) (ago : Nat) (s : State), s.sidRef = 3 ∧ up = s.fld Reg.SID_MEDIA 1 0 ∧ st = s.fld Reg.SID_MEDIA 5 2 ∧ (BitVec.ofNat 32 (s.mediaCount16At (s.ptpCount16 - ago * 65536) / 65536) - rtp).toInt < 0 ∧ s.sid.mediaFails ≠ 15) ∧
    (∃ (up st : Nat) (rtp : Word) (ago : Nat) (s : State), s.sidRef = 3 ∧ up = s.fld Reg.SID_MEDIA 1 0 ∧ st = s.fld Reg.SID_MEDIA 5 2 ∧ (BitVec.ofNat 32 (s.mediaCount16At (s.ptpCount16 - ago * 65536) / 65536) - rtp).toInt < 0 ∧ s.sid.mediaFails = 15 ∧ s.faultRoom) ∧
    (∃ (rising : Bool) (g : Nat) (s : State), s.bit Reg.MAINS_CTRL 0 = true ∧ (rising = true ∨ s.bit Reg.MAINS_CTRL 1 = true) ∧ s.sid.mainsEdge = some g) ∧
    (∃ (rising : Bool) (s : State), rising ≠ s.bit Reg.PTP_CTRL 3) ∧
    (∃ (x : Nat) (s : State), s.sidRef = 5 ∧ s.sid.ppsValid = some x ∧ s.sid.ppsMiss < 2 ∧ x + (s.sid.ppsMiss + 1) * 1000000000 + 100000 ≤ s.mono) ∧
    (∃ (x : Nat) (s : State), s.sidRef = 5 ∧ s.sid.ppsValid = some x ∧ s.sid.ppsMiss = 2 ∧ x + 3000100000 ≤ s.mono ∧ (s.sidState = 3 ∨ s.sidState = 4) ∧ s.faultRoom) ∧
    (∃ (s : State), s.refQualified = true ∧ s.lossDue = true ∧ (s.sidState = 3 ∨ s.sidState = 4) ∧ s.faultRoom) ∧
    (∃ (x : Nat) (s : State), s.sid.validSince = some x ∧ s.refQualified = false ∧ s.refValidNow = true ∧ x + s.fld Reg.SID_LOSS 31 16 * 1000000 ≤ s.mono) :=
  ⟨⟨23, 59, 58, 24, State.reset.setFld Reg.SID_CTRL 3 0 2, by decide⟩,
    ⟨0, 0, 0, 0, State.reset.setFld Reg.SID_CTRL 3 0 2, by decide⟩,
    ⟨0, 0, 0, 0, State.reset.setFld Reg.SID_CTRL 3 0 3, by decide⟩,
    ⟨0, 0, 1, 0, State.reset.setFld Reg.SID_CTRL 3 0 3, by decide⟩,
    ⟨0, 0, 1, 0, { State.reset.setFld Reg.SID_CTRL 3 0 3 with sid := { mediaFails := 15 } }, by decide⟩,
    ⟨true, 100, { State.reset.setFld Reg.MAINS_CTRL 0 0 1 with mono := 20000100, sid := { mainsEdge := some 100 } }, by decide⟩,
    ⟨true, { State.reset with ptp := { ns := 77, sec := 9 }, acc := 0x123456789ABCDEF0123456789#96 }, by decide⟩,
    ⟨0, { State.reset.setFld Reg.SID_CTRL 3 0 5 with mono := 2000100000, sid := { ppsMiss := 1, ppsValid := some 0 } }, by decide⟩,
    ⟨0, { (State.reset.setFld Reg.SID_CTRL 3 0 5).setFld Reg.SID_STATUS 3 0 11 with mono := 3000100000, sid := { ppsMiss := 2, ppsValid := some 0 } }, by decide⟩,
    ⟨{ (State.reset.setFld Reg.SID_CTRL 3 0 6).setFld Reg.SID_STATUS 3 0 12 with mono := 10000000000000, sid := { lastValid := some 0 } }, by decide⟩,
    ⟨5, { State.reset.setFld Reg.SID_CTRL 3 0 4 with mono := 10000000000000, sid := { validSince := some 5 } }, by decide⟩⟩

theorem witness_SiderealRegistersAct :
    (∃ (ag : Agent) (v : Word) (s : State), s.canWrite ag Reg.SID_CTRL ∧ 7 ≤ wfld v 3 0) ∧
    (∃ (ag : Agent) (v : Word) (s : State), s.canWrite ag Reg.SID_CTRL ∧ wfld v 3 0 = 0 ∧ s.sidRef = 0 ∧ wfld v 7 7 = 1 ∧ s.sidState = 0) ∧
    (∃ (ag : Agent) (s : State), s.canWrite ag Reg.SID_CMD ∧ s.sidRef ≠ 0) ∧
    (∃ (ag : Agent) (s : State), s.canWrite ag Reg.SID_CMD ∧ s.sidRef = 0) ∧
    (∃ (ag : Agent) (s : State), s.canWrite ag Reg.SID_CMD ∧ mappedRef s.sidRef = true ∧ s.mapOk s.sidRef s.shadowMap.num s.shadowMap.den = true) ∧
    (∃ (p : DWord) (s : State), s.sid.armedAt = some p ∧ s.refQualified = true ∧ s.stopped = false ∧ phaseBefore s.phase ((p &&& 0xFFFFFFFF00000000#64) + 0x100000000#64) = false) ∧
    (∃ (ag : Agent) (v : DWord) (s : State), s.canWrite ag Reg.SID_INC_NOM_LO ∧ v.toNat < 0x67144770E9) ∧
    (∃ (ag : Agent) (v : DWord) (s : State), s.canWrite ag Reg.SID_INC_NOM_LO ∧ 0x67144770E9 ≤ v.toNat ∧ v.toNat ≤ 0x80D9594D235) ∧
    (∃ (ag : Agent) (s : State), s.canWrite ag Reg.PTP_CMD) ∧
    (∃ (ag : Agent) (s : State), s.canWrite ag Reg.PTP_CMD ∧ s.ptp.frac < State.ptpUnit ∧ s.ptp.sec < 2 ^ 48 ∧ 0 ≤ (s.ptp.ns : Int) + (s.reg Reg.PTP_STEP).toInt ∧ (s.ptp.ns : Int) + (s.reg Reg.PTP_STEP).toInt < 1000000000) ∧
    (∃ (ag : Agent) (v : Word) (s : State), s.canWrite ag Reg.PTP_ADJ ∧ -256000000 ≤ v.toInt ∧ v.toInt ≤ 256000000) ∧
    (∃ (ag : Agent) (v : Word) (s : State), s.canWrite ag Reg.PTP_ADJ ∧ 256000000 < v.toInt) ∧
    (∃ (ag : Agent) (v : Word) (s : State), s.canWrite ag Reg.PTP_ADJ ∧ v.toInt < -256000000) ∧
    (∃ (ag : Agent) (s : State), s.agentLive ag = true) :=
  ⟨⟨.sup 0, 7, State.reset, by decide⟩,
    ⟨.sup 3, 0x80, State.reset, by decide⟩,
    ⟨.sup 0, (State.reset.setFld Reg.SID_CTRL 3 0 1).setBit Reg.SID_STATUS 3 true, by decide⟩,
    ⟨.sup 0, State.reset, by decide⟩,
    ⟨.sup 0, ((State.reset.setFld Reg.SID_CTRL 3 0 5).setReg Reg.SID_UPF_NUM 1).setReg Reg.SID_UPF_DEN 120, by decide⟩,
    ⟨0, { State.reset.setFld Reg.SID_STATUS 3 0 11 with acc := 0x200000000#64 ++ 5#32, sid := { armedAt := some 0, prevErr := some (-9) } }, by decide⟩,
    ⟨.sup 0, 5, State.reset, by decide⟩,
    ⟨.sup 0, 0x67144770E9, State.reset, by decide⟩,
    ⟨.sup 0, (State.reset.setReg Reg.PTP_SET_NS 1000000000).setReg Reg.PTP_SET_SEC_HI 3, by decide⟩,
    ⟨.sup 0, ({ State.reset with ptp := { sec := 4, ns := 500, frac := 2, spreadLeft := 7 } } : State).setReg Reg.PTP_STEP 0xFFFFFE0C, by decide⟩,
    ⟨.sup 0, 256000000, State.reset, by decide⟩,
    ⟨.sup 0, 256000001, State.reset, by decide⟩,
    ⟨.sup 0, 0x80000000, State.reset, by decide⟩,
    ⟨.sup 2, { State.reset with ptp := { sec := 2 ^ 33 + 1, frac := 128000000000 } }, by decide⟩⟩

theorem witness_EphemerisPostsAndFires :
    (∃ (ag : Agent) (i : Fin 7) (v : Word) (s : State), s.canWrite ag (Reg.EPH_POST + 4 * i.val)) ∧
    (∃ (ag : Agent) (v : Word) (act : Word) (ph : DWord) (s : State), s.canWrite ag (Reg.EPH_POST + 28) ∧ s.bit Reg.EPH_CTRL 8 = false ∧ act = s.areg (agIdx ag) (Reg.EPH_POST + 8) ∧ ph = s.areg (agIdx ag) (Reg.EPH_POST + 4) ++ s.areg (agIdx ag) (Reg.EPH_POST + 0) ∧ actCode act < 10 ∧ actTargetOk act = true ∧ actRepeat act = false ∧ actNow act = false ∧ (phaseDiff (ph + s.actOfs act) s.phase).natAbs ≤ 2 ^ 62 ∧ phaseBefore (ph + s.actOfs act) s.phase = false ∧ s.eph.length < 4096) ∧
    (∃ (ag : Agent) (v : Word) (s : State), s.canWrite ag (Reg.EPH_POST + 28) ∧ s.bit Reg.EPH_CTRL 8 = false ∧ 10 ≤ actCode (s.areg (agIdx ag) (Reg.EPH_POST + 8)) ∧ s.faultRoom) ∧
    (∃ (ag : Agent) (v : Word) (s : State), s.canWrite ag (Reg.EPH_POST + 28) ∧ s.bit Reg.EPH_CTRL 8 = true) ∧
    (∃ (ag : Agent) (tag : Word) (s : State), s.canWrite ag Reg.EPH_CANCEL) ∧
    (∃ (ag : Agent) (s : State), s.canWrite ag Reg.EPH_CTRL) ∧
    (∃ (s : State), s.eph = []) ∧
    (∃ (e : EphEntry) (s : State), s.ephHeld = false ∧ State.ephFirst s.eph = some e ∧ phaseBefore s.phase e.fire = false ∧ s.ephSpan ≠ s.mono / 8 ∧ State.tagItem e.tag = none ∧ actRepeat e.act = false ∧ actNotify e.act = false ∧ (actCode e.act = 3 ∨ actCode e.act = 4 ∨ actCode e.act = 7 ∨ actCode e.act = 8 ∨ actCode e.act = 9)) ∧
    (∃ (a : Act) (s : State), (s.issued.find? fun x => actCode x.act == 8) = some a ∧ s.ringRoom (actTarget a.act) 1 = true) ∧
    (∃ (a : Act) (s : State), (s.issued.find? fun x => actCode x.act == 9) = some a) :=
  ⟨⟨.sup 2, 6, 9, State.reset, by decide⟩,
    ⟨.sup 0, 0x55, 9, 0, State.reset.setAreg 0 (Reg.EPH_POST + 8) 9, by decide⟩,
    ⟨.sup 0, 0x55, State.reset.setAreg 0 (Reg.EPH_POST + 8) 10, by decide⟩,
    ⟨.sup 0, 0x55, State.reset.setBit Reg.EPH_CTRL 8 true, by decide⟩,
    ⟨.sup 0, 5, { State.reset with eph := [⟨0, 0, 0, 0, 0, 0, 0, 5, false⟩, ⟨1, 1, 0, 0, 0, 0, 0, 6, false⟩] }, by decide⟩,
    ⟨.sup 0, { State.reset with eph := [⟨0, 0, 0, 0, 0, 0, 0, 5, false⟩] }, by decide⟩,
    ⟨State.reset.setBit Reg.EPH_CTRL 8 true, by decide⟩,
    ⟨⟨3, 4, 9, 1, 0, 0, 0, 0, false⟩, { ((State.reset.setFld Reg.SYS_MODE 3 0 3).setFld Reg.SID_STATUS 2 0 1) with acc := 5#64 ++ 0#32, mono := 80, eph := [⟨3, 4, 9, 1, 0, 0, 0, 0, false⟩] }, by decide⟩,
    ⟨⟨0x508, 0, 0, 0, 0, 7, 0, 9, 1, 3⟩, { State.reset with issued := [⟨0x508, 0, 0, 0, 0, 7, 0, 9, 1, 3⟩] }, by decide⟩,
    ⟨⟨0x509, 1, 0, 0, 0, 7, 0, 9, 1, 3⟩, { State.reset with issued := [⟨0x509, 1, 0, 0, 0, 7, 0, 9, 1, 3⟩] }, by decide⟩⟩

theorem witness_ScalarResults :
    (∃ (s : State) (c : CoreId) (d a b : GReg) (p : PReg), s.canIssue c [a.val, b.val] [d.val] ∧ bits ((s.core c.val).pr p) 0 0 = 1) ∧
    (∃ (s : State) (c : CoreId) (d a b : GReg) (p : PReg), s.canIssue c [a.val, b.val] [d.val] ∧ bits ((s.core c.val).pr p) 0 0 = 0) :=
  ⟨⟨supRun {}, 256, 5, 3, 4, 0, by decide⟩, fieldRun {}, 17, 5, 3, 4, 2, by decide⟩

theorem witness_ImmediateAndMoveResults :
    ∃ (s : State) (c : CoreId) (d a : GReg) (p : PReg), s.canIssue c [a.val] [d.val] ∧ bits ((s.core c.val).pr p) 0 0 = 1 :=
  ⟨fieldRun {}, 17, 5, 3, 0, by decide⟩

theorem witness_CompareAndPredicateResults :
    (∃ (s : State) (c : CoreId) (a b d : GReg) (p : PReg), s.canIssue c [a.val, b.val] [] ∧ bits ((s.core c.val).pr p) 0 0 = 1 ∧
      s.canIssue c [a.val] [] ∧ s.canIssue c [] [] ∧ s.canIssue c [] [d.val]) ∧
    (∃ (s : State) (c : CoreId) (va vb : VReg) (cond : Fin 8) (fp wide : Bool), s.canIssue c [32 + va.val, 32 + vb.val] [] ∧
      (if fp then wide = false ∧ cond.val < 4 else cond.val ≠ 7)) ∧
    (∃ (s : State) (c : CoreId) (cond : Fin 8) (fp wide : Bool), s.canIssue c [] [] ∧
      (fp = true ∧ wide = true ∨ fp = true ∧ 4 ≤ cond.val ∨ fp = false ∧ cond.val = 7)) :=
  ⟨⟨fieldRun {}, 17, 3, 4, 5, 0, by decide⟩, ⟨fieldRun {}, 17, 3, 4, 3, true, false, by decide⟩, supRun {}, 256, 7, false, true, by decide⟩

theorem witness_BranchesAndJumps :
    (∃ (c : CoreId) (off : BitVec 26) (s : State), s.canIssue c [] []) ∧
    (∃ (c : CoreId) (off : BitVec 26) (s : State), s.canIssue c [] [30]) ∧
    (∃ (c : CoreId) (p : PReg) (test : Fin 4) (off : BitVec 21) (s : State), s.canIssue c [] [] ∧ if test = 0 then bits ((s.core c.val).pr p) 0 0 = 1 else if test = 1 then bits ((s.core c.val).pr p) 0 0 = 0 else if test = 2 then (s.core c.val).pr p ≠ 0 else (s.core c.val).pr p = 0) ∧
    (∃ (c : CoreId) (p : PReg) (test : Fin 4) (off : BitVec 21) (s : State), s.canIssue c [] [] ∧ if test = 0 then bits ((s.core c.val).pr p) 0 0 = 0 else if test = 1 then bits ((s.core c.val).pr p) 0 0 = 1 else if test = 2 then (s.core c.val).pr p = 0 else (s.core c.val).pr p ≠ 0) ∧
    (∃ (c : CoreId) (g : GReg) (off : BitVec 21) (s : State), s.canIssue c [g.val] [g.val] ∧ g ≠ 0 ∧ (s.core c.val).gr g ≠ 1) ∧
    (∃ (c : CoreId) (g : GReg) (off : BitVec 21) (s : State), s.canIssue c [g.val] [g.val] ∧ g ≠ 0 ∧ (s.core c.val).gr g = 1) ∧
    (∃ (c : CoreId) (off : BitVec 21) (s : State), s.canIssue c [] []) ∧
    (∃ (c : CoreId) (a : GReg) (p : PReg) (s : State), s.canIssue c [a.val] [] ∧ bits ((s.core c.val).pr p) 0 0 = 1 ∧ bits ((s.core c.val).gr a) 1 0 = 0) ∧
    (∃ (c : CoreId) (a : GReg) (p : PReg) (s : State), s.canIssue c [a.val] [] ∧ bits ((s.core c.val).pr p) 0 0 = 1 ∧ bits ((s.core c.val).gr a) 1 0 ≠ 0) ∧
    (∃ (c : CoreId) (a : GReg) (p : PReg) (s : State), s.canIssue c [] [] ∧ bits ((s.core c.val).pr p) 0 0 = 0) ∧
    (∃ (c : CoreId) (d a : GReg) (p : PReg) (s : State), s.canIssue c [a.val] [d.val] ∧ bits ((s.core c.val).pr p) 0 0 = 1 ∧ bits ((s.core c.val).gr a) 1 0 = 0) ∧
    (∃ (c : CoreId) (d a : GReg) (p : PReg) (s : State), s.canIssue c [a.val] [d.val] ∧ bits ((s.core c.val).pr p) 0 0 = 1 ∧ bits ((s.core c.val).gr a) 1 0 ≠ 0) ∧
    (∃ (c : CoreId) (d a : GReg) (p : PReg) (s : State), s.canIssue c [] [] ∧ bits ((s.core c.val).pr p) 0 0 = 0) ∧
    (∃ (c : CoreId) (s : State), s.canIssue c [] []) ∧
    (∃ (c : CoreId) (imm : BitVec 16) (s : State), s.canIssue c [] [] ∧ (c.val = 256 ∨ c.val = 257) ∧ (s.core c.val).edepth = 0 ∧ (s.core c.val).loads = []) ∧
    (∃ (c : CoreId) (imm : BitVec 16) (s : State), s.canIssue c [] [] ∧ c.val < 256 ∧ (s.core c.val).loads = [] ∧ (s.core c.val).pins = [] ∧ (s.core c.val).kernel = none ∧ s.bit (0x1000 * (c.val / 16) + Reg.TILE_CTRL) 16 = true) :=
  ⟨⟨256, 0x3FFFFFF, supRun {}, by decide⟩,
    ⟨256, 0x3FFFFFF, supRun {}, by decide⟩,
    ⟨256, 1, 3, 0x1FFFFF, supRun {}, by decide⟩,
    ⟨256, 0, 3, 8, supRun {}, by decide⟩,
    ⟨256, 3, 0x1FFFFF, supRun {}, by decide⟩,
    ⟨256, 3, 0x1FFFFF, supRun (({} : Core).setG 3 1), by decide⟩,
    ⟨256, 8, supRun {}, by decide⟩,
    ⟨256, 3, 0, supRun (({} : Core).setG 3 0x1000), by decide⟩,
    ⟨256, 3, 0, supRun (({} : Core).setG 3 0x1002), by decide⟩,
    ⟨256, 3, 1, supRun {}, by decide⟩,
    ⟨256, 3, 3, 0, supRun (({} : Core).setG 3 0x1000), by decide⟩,
    ⟨256, 4, 3, 0, supRun (({} : Core).setG 3 0x1001), by decide⟩,
    ⟨256, 3, 3, 1, supRun {}, by decide⟩,
    ⟨256, supRun {}, by decide⟩,
    ⟨256, 7, supRun {}, by decide⟩,
    ⟨17, 7, (State.reset.setCore 17 { run := .run }).setBit (0x1000 + Reg.TILE_CTRL) 16 true, by decide⟩⟩

theorem witness_FencesAndBarriers :
    (∃ (c : CoreId) (s : State), s.canIssue c [] [] ∧ (s.core c.val).loads = []) ∧
    (∃ (c : CoreId) (s : State), s.canIssue c [] [] ∧ (s.core c.val).loads ≠ []) ∧
    (∃ (c : CoreId) (s : State), s.canIssue c [] [] ∧ (s.core c.val).loads = []) ∧
    (∃ (c : CoreId) (s : State), s.canIssue c [] [] ∧ (s.core c.val).loads ≠ []) ∧
    (∃ (c : CoreId) (s : State), s.canIssue c [] [] ∧ (s.core c.val).loads = [] ∧ (s.core c.val).remote = [] ∧ (s.core c.val).flushes = [] ∧ (s.core c.val).farNodes = []) ∧
    (∃ (c : CoreId) (s : State), s.canIssue c [] [] ∧ s.slotsFree c.val < (s.core c.val).farNodes.length) ∧
    (∃ (c : CoreId) (s : State), ((s.core c.val).fence = .t ∨ (s.core c.val).fence = .d) ∧ (s.core c.val).loads = []) ∧
    (∃ (c : CoreId) (s : State), (s.core c.val).fence = .f ∧ (s.core c.val).loads = [] ∧ (s.core c.val).remote = [] ∧ (s.core c.val).flushes = []) ∧
    (∃ (c : CoreId) (s : State), c.val < 256 ∧ s.canIssue c [] [] ∧ (s.core c.val).loads = [] ∧ s.barrierMembers c.val true = [c.val]) ∧
    (∃ (c : CoreId) (m : Nat) (s : State), c.val < 256 ∧ s.canIssue c [] [] ∧ (s.core c.val).loads = [] ∧ m ∈ s.barrierMembers c.val true ∧ m ≠ c.val) ∧
    (∃ (c : CoreId) (s : State), c.val < 256 ∧ s.canIssue c [] [] ∧ (s.core c.val).loads = [] ∧ s.barrierMembers c.val false = [c.val]) ∧
    (∃ (c : CoreId) (m : Nat) (s : State), c.val < 256 ∧ s.canIssue c [] [] ∧ (s.core c.val).loads = [] ∧ m ∈ s.barrierMembers c.val false ∧ m ≠ c.val) ∧
    (∃ (c : CoreId) (s : State), 256 ≤ c.val ∧ s.canIssue c [] []) ∧
    (∃ (c : CoreId) (s : State), 256 ≤ c.val ∧ s.canIssue c [] []) ∧
    (∃ (c : CoreId) (s : State), ((s.core c.val).wait = .barT ∨ (s.core c.val).wait = .barG) ∧ (s.barrierMembers c.val ((s.core c.val).wait == .barT)).Nodup ∧ (∀ m ∈ s.barrierMembers c.val ((s.core c.val).wait == .barT), s.atBarrier c.val m (s.core c.val).wait = true)) :=
  ⟨⟨256, supRun {}, by decide⟩,
    ⟨256, supRun { loads := [⟨false, 3, 0, 0xFF, 0, false⟩] }, by decide⟩,
    ⟨256, supRun {}, by decide⟩,
    ⟨17, fieldRun { loads := [⟨false, 3, 0, 0xFF, 0, false⟩] }, by decide⟩,
    ⟨256, supRun {}, by decide⟩,
    ⟨17, fieldRun { farNodes := List.range 225 }, by decide +kernel⟩,
    ⟨256, supRun { fence := .d }, by decide⟩,
    ⟨256, supRun { fence := .f, farNodes := [7] }, by decide⟩,
    ⟨17, fieldRun {}, by decide⟩,
    ⟨17, 18, { fieldRun { kernel := some ⟨0, 0, 0, 0, 0, 2, 0, 0, 0, false⟩ } with groups := [⟨0, 0, 0, 0, false, 0, [17, 18], 0, 0⟩] }, by decide⟩,
    ⟨17, fieldRun {}, by decide⟩,
    ⟨17, 33, { fieldRun { kernel := some ⟨0, 0, 0, 0, 0, 2, 0, 0, 0, false⟩ } with groups := [⟨0, 0, 0, 0, false, 0, [17, 33], 0, 0⟩] }, by decide⟩,
    ⟨256, supRun {}, by decide⟩,
    ⟨256, supRun {}, by decide⟩,
    ⟨17, (fieldRun {}).setCore 17 { run := .wait, wait := .barG }, by decide⟩⟩

theorem witness_PhaseWaits :
    (∃ (c : CoreId) (d : GReg) (s : State), s.canIssue c [] [d.val]) ∧
    (∃ (c : CoreId) (a : GReg) (s : State), s.canIssue c [a.val] [] ∧ phaseDiff ((s.core c.val).gr a) s.phase ≤ 0 ∧ s.stopped = false) ∧
    (∃ (c : CoreId) (a : GReg) (s : State), s.canIssue c [a.val] [] ∧ (0 < phaseDiff ((s.core c.val).gr a) s.phase ∨ s.stopped = true) ∧ phaseDiff ((s.core c.val).gr a) s.phase ≤ 2 ^ 62) ∧
    (∃ (c : CoreId) (a : GReg) (s : State), s.canIssue c [a.val] [] ∧ 2 ^ 62 < phaseDiff ((s.core c.val).gr a) s.phase) ∧
    (∃ (c : CoreId) (a : GReg) (s : State), c.val < 256 ∧ s.canIssue c [a.val] [] ∧ phaseDiff ((s.core c.val).lphase + (s.core c.val).gr a) s.phase ≤ 0 ∧ s.stopped = false) ∧
    (∃ (c : CoreId) (a : GReg) (s : State), c.val < 256 ∧ s.canIssue c [a.val] [] ∧ (0 < phaseDiff ((s.core c.val).lphase + (s.core c.val).gr a) s.phase ∨ s.stopped = true) ∧ phaseDiff ((s.core c.val).lphase + (s.core c.val).gr a) s.phase ≤ 2 ^ 62) ∧
    (∃ (c : CoreId) (a : GReg) (s : State), c.val < 256 ∧ s.canIssue c [a.val] [] ∧ 2 ^ 62 < phaseDiff ((s.core c.val).lphase + (s.core c.val).gr a) s.phase) ∧
    (∃ (c : CoreId) (a : GReg) (s : State), 256 ≤ c.val ∧ s.canIssue c [] []) ∧
    (∃ (c : CoreId) (target : DWord) (s : State), (s.core c.val).run = .wait ∧ (s.core c.val).wait = .phase target ∧ phaseBefore s.phase target = false ∧ s.stopped = false) ∧
    (∃ (c : CoreId) (target : DWord) (s : State), (s.core c.val).wait = .phase target ∧ (phaseBefore s.phase target = true ∨ s.stopped = true)) ∧
    (∃ (c : CoreId) (s : State), 256 ≤ c.val ∧ s.canIssue c [] [] ∧ s.ipendOf c.val ≠ 0) ∧
    (∃ (c : CoreId) (s : State), 256 ≤ c.val ∧ s.canIssue c [] [] ∧ s.ipendOf c.val = 0) ∧
    (∃ (c : CoreId) (s : State), c.val < 256 ∧ s.canIssue c [] []) ∧
    (∃ (n : Fin 4) (s : State), (s.core (256 + n.val)).run = .wait ∧ (s.core (256 + n.val)).wait = .wfi ∧ s.ipendOf (256 + n.val) ≠ 0) ∧
    (∃ (n : Fin 4) (s : State), (s.core (256 + n.val)).run = .run ∧ (s.core (256 + n.val)).fence = .none ∧ (s.core (256 + n.val)).gie = true ∧ s.ipendOf (256 + n.val) ≠ 0 ∧ (s.core (256 + n.val)).edepth < 2) :=
  ⟨⟨256, 5, supRun {}, by decide⟩,
    ⟨256, 5, (supRun {}).setFld Reg.SID_STATUS 2 0 1, by decide⟩,
    ⟨17, 5, (fieldRun (({} : Core).setG 5 9)).setFld Reg.SID_STATUS 2 0 1, by decide⟩,
    ⟨17, 5, (fieldRun (({} : Core).setG 5 0x7000000000000000)).setFld Reg.SID_STATUS 2 0 1, by decide⟩,
    ⟨17, 5, (fieldRun {}).setFld Reg.SID_STATUS 2 0 1, by decide⟩,
    ⟨17, 5, (fieldRun (({} : Core).setG 5 9)).setFld Reg.SID_STATUS 2 0 1, by decide⟩,
    ⟨17, 5, (fieldRun (({} : Core).setG 5 0x7000000000000000)).setFld Reg.SID_STATUS 2 0 1, by decide⟩,
    ⟨256, 5, supRun {}, by decide⟩,
    ⟨17, 0, ((fieldRun {}).setCore 17 { run := .wait, wait := .phase 0 }).setFld Reg.SID_STATUS 2 0 1, by decide⟩,
    ⟨17, 9, ((fieldRun {}).setCore 17 { run := .wait, wait := .phase 9 }).setFld Reg.SID_STATUS 2 0 1, by decide⟩,
    ⟨256, (supRun { ien := 1 }).setRing 0 { head := [0] }, by decide⟩,
    ⟨256, supRun {}, by decide⟩,
    ⟨17, fieldRun {}, by decide⟩,
    ⟨0, (State.reset.setCore 256 { run := .wait, wait := .wfi, ien := 1 }).setRing 0 { head := [0] }, by decide⟩,
    ⟨0, (supRun { gie := true, ien := 1, evec := 0x40 }).setRing 0 { head := [0] }, by decide⟩⟩

theorem witness_SpecialRegistersAndHandlers :
    (∃ (c : CoreId) (d : GReg) (sr : BitVec 12) (s : State), s.canIssue c [] [d.val] ∧ srExists sr.toNat = true ∧ (256 ≤ c.val ∨ sr.toNat < 0x100)) ∧
    (∃ (c : CoreId) (d : GReg) (sr : BitVec 12) (s : State), s.canIssue c [] [d.val] ∧ srExists sr.toNat = true ∧ c.val < 256 ∧ 0x100 ≤ sr.toNat) ∧
    (∃ (c : CoreId) (d : GReg) (sr : BitVec 12) (s : State), s.canIssue c [] [d.val] ∧ srExists sr.toNat = false) ∧
    (∃ (c : CoreId) (a : GReg) (sr : BitVec 12) (s : State), s.canIssue c [a.val] [] ∧ sr = 9) ∧
    (∃ (c : CoreId) (a : GReg) (sr : BitVec 12) (s : State), s.canIssue c [a.val] [] ∧ sr = 0xA) ∧
    (∃ (c : CoreId) (a : GReg) (sr : BitVec 12) (s : State), s.canIssue c [a.val] [] ∧ sr = 0xC ∧ c.val < 256) ∧
    (∃ (c : CoreId) (a : GReg) (sr : BitVec 12) (s : State), s.canIssue c [a.val] [] ∧ 256 ≤ c.val ∧ sr = 0x100) ∧
    (∃ (c : CoreId) (a : GReg) (sr : BitVec 12) (s : State), s.canIssue c [a.val] [] ∧ 256 ≤ c.val ∧ sr = 0x101) ∧
    (∃ (c : CoreId) (a : GReg) (sr : BitVec 12) (s : State), s.canIssue c [a.val] [] ∧ 256 ≤ c.val ∧ sr = 0x102) ∧
    (∃ (c : CoreId) (a : GReg) (sr : BitVec 12) (s : State), s.canIssue c [a.val] [] ∧ 256 ≤ c.val ∧ sr = 0x103) ∧
    (∃ (c : CoreId) (a : GReg) (sr : BitVec 12) (s : State), s.canIssue c [a.val] [] ∧ 256 ≤ c.val ∧ sr = 0x105) ∧
    (∃ (c : CoreId) (a : GReg) (sr : BitVec 12) (s : State), s.canIssue c [a.val] [] ∧ 256 ≤ c.val ∧ sr = 0x106) ∧
    (∃ (c : CoreId) (a : GReg) (sr : BitVec 12) (s : State), s.canIssue c [a.val] [] ∧ 256 ≤ c.val ∧ sr = 0x110) ∧
    (∃ (c : CoreId) (a : GReg) (sr : BitVec 12) (s : State), s.canIssue c [a.val] [] ∧ 256 ≤ c.val ∧ sr = 0x112) ∧
    (∃ (c : CoreId) (a : GReg) (sr : BitVec 12) (s : State), s.canIssue c [a.val] [] ∧ (sr.toNat ≤ 8 ∨ sr.toNat = 0xB)) ∧
    (∃ (c : CoreId) (a : GReg) (sr : BitVec 12) (s : State), s.canIssue c [a.val] [] ∧ c.val < 256 ∧ srExists sr.toNat = true ∧ 0x100 ≤ sr.toNat) ∧
    (∃ (c : CoreId) (s : State), 256 ≤ c.val ∧ s.canIssue c [] [] ∧ (s.core c.val).edepth ≠ 0) ∧
    (∃ (c : CoreId) (s : State), 256 ≤ c.val ∧ s.canIssue c [] [] ∧ (s.core c.val).edepth = 0) ∧
    (∃ (c : CoreId) (s : State), c.val < 256 ∧ s.canIssue c [] []) ∧
    (∃ (c : CoreId) (i : Fin 8) (d : GReg) (val : Vec) (m : BitVec 8) (a : Nat) (s : State), (s.core c.val).loads[i.val]? = some ⟨false, d.val, val, m, a, false⟩) ∧
    (∃ (c : CoreId) (i : Fin 8) (d : GReg) (val : Vec) (m : BitVec 8) (a : Nat) (s : State), (s.core c.val).loads[i.val]? = some ⟨false, d.val, val, m, a, true⟩ ∧ d ≠ 0) ∧
    (∃ (tile n : Fin 16) (w : Word) (s : State), s.canIssue (Fin.ofNat 260 (tile.val * 16 + n.val)) [] [] ∧ wordLegal true w = false) ∧
    (∃ (n : Fin 4) (w : Word) (s : State), s.canIssue (Fin.ofNat 260 (256 + n.val)) [] [] ∧ wordLegal false w = false) ∧
    (∃ (tile n : Fin 16) (s : State), ((s.core (tile.val * 16 + n.val)).run = .run ∨ (s.core (tile.val * 16 + n.val)).run = .wait) ∧ s.overBudget (tile.val * 16 + n.val) = true) :=
  ⟨⟨256, 3, 0x112, supRun { gie := true }, by decide⟩,
    ⟨17, 3, 0x112, fieldRun {}, by decide⟩,
    ⟨17, 3, 0x107, fieldRun {}, by decide⟩,
    ⟨17, 3, 9, fieldRun (({} : Core).setG 3 0xFFFF), by decide⟩,
    ⟨17, 3, 0xA, fieldRun (({} : Core).setG 3 0xFFFF), by decide⟩,
    ⟨17, 3, 0xC, fieldRun (({} : Core).setG 3 0xFFFF), by decide⟩,
    ⟨256, 3, 0x100, supRun (({} : Core).setG 3 0xFFFF), by decide⟩,
    ⟨256, 3, 0x101, supRun (({} : Core).setG 3 0xFFFF), by decide⟩,
    ⟨256, 3, 0x102, supRun (({} : Core).setG 3 0xFFFF), by decide⟩,
    ⟨256, 3, 0x103, supRun (({} : Core).setG 3 0xFFFF), by decide⟩,
    ⟨256, 3, 0x105, supRun (({} : Core).setG 3 0xFFFF), by decide⟩,
    ⟨256, 3, 0x106, supRun (({} : Core).setG 3 0xFFFF), by decide⟩,
    ⟨256, 3, 0x110, supRun (({} : Core).setG 3 0xFFFF), by decide⟩,
    ⟨256, 3, 0x112, supRun (({} : Core).setG 3 0xFFFF), by decide⟩,
    ⟨256, 3, 8, supRun (({} : Core).setG 3 0xFFFF), by decide⟩,
    ⟨17, 3, 0x110, fieldRun {}, by decide⟩,
    ⟨256, supRun { edepth := 1, epc := 0x88, ecause := 0x40000000 }, by decide⟩,
    ⟨256, supRun {}, by decide⟩,
    ⟨17, fieldRun {}, by decide⟩,
    ⟨256, 0, 3, 77, 0xFF, 0x1000, supRun { loads := [⟨false, 3, 77, 0xFF, 0x1000, false⟩] }, by decide⟩,
    ⟨256, 0, 3, 77, 0xFF, 0x1000, supRun { loads := [⟨false, 3, 77, 0xFF, 0x1000, true⟩] }, by decide⟩,
    ⟨1, 1, 0, fieldRun {}, by decide⟩,
    ⟨0, 0xFFFFFFFF, supRun {}, by decide⟩,
    ⟨1, 1, { fieldRun { kernel := some ⟨0, 0, 0, 0, 0, 2, 0, 0, 1, false⟩ } with mono := 2000 }, by decide⟩⟩

theorem witness_RingAndScheduleInstructions :
    (∃ (c : CoreId) (d : GReg) (a : VReg) (s : State), a.val % 2 = 0 ∧ s.canIssue c [32 + a.val, 32 + (vNext a).val] [d.val] ∧ (s.core c.val).loads = [] ∧ 256 ≤ c.val ∧ d ≠ 0) ∧
    (∃ (c : CoreId) (d : GReg) (a : VReg) (s : State), a.val % 2 = 0 ∧ s.canIssue c [32 + a.val, 32 + (vNext a).val] [d.val] ∧ (s.core c.val).loads = [] ∧ c.val < 256 ∧ s.bit (State.tileReg Reg.TILE_SCHED_MASK c.val) (bits ((s.core c.val).vr a) 71 64) = false) ∧
    (∃ (c : CoreId) (d : GReg) (a : VReg) (s : State), a.val % 2 = 1 ∧ s.canIssue c [] []) ∧
    (∃ (c : CoreId) (d : GReg) (a : VReg) (ring : RingId) (s : State), a.val % 2 = 0 ∧ s.canIssue c [32 + a.val, 32 + (vNext a).val] [d.val] ∧ (s.core c.val).loads = [] ∧ s.mayRing c.val ring.val = true ∧ s.ringRoom ring.val 1 = true ∧ (s.ring ring.val).dropping = false ∧ d ≠ 0) ∧
    (∃ (c : CoreId) (d : GReg) (a : VReg) (ring : RingId) (s : State), a.val % 2 = 0 ∧ s.canIssue c [32 + a.val, 32 + (vNext a).val] [d.val] ∧ (s.core c.val).loads = [] ∧ s.mayRing c.val ring.val = true ∧ s.ringRoom ring.val 1 = false ∧ d ≠ 0) ∧
    (∃ (c : CoreId) (d : GReg) (a : VReg) (ring : RingId) (e0 : Entry) (es : List Entry) (s : State), a.val % 2 = 0 ∧ s.canIssue c [] [d.val, 32 + a.val, 32 + (vNext a).val] ∧ s.mayRing c.val ring.val = true ∧ s.ringEn ring.val = true ∧ (s.ring ring.val).head ++ (s.ring ring.val).spill ++ (s.ring ring.val).tail = e0 :: es ∧ d ≠ 0) ∧
    (∃ (c : CoreId) (d : GReg) (a : VReg) (ring : RingId) (s : State), a.val % 2 = 0 ∧ s.canIssue c [] [d.val, 32 + a.val, 32 + (vNext a).val] ∧ s.mayRing c.val ring.val = true ∧ (s.ring ring.val).count = 0 ∧ (s.ring ring.val).popSeq < 65536) ∧
    (∃ (c : CoreId) (d : GReg) (ring : RingId) (e0 : Entry) (es : List Entry) (s : State), s.canIssue c [] [d.val] ∧ s.mayRing c.val ring.val = true ∧ s.ringEn ring.val = true ∧ (s.ring ring.val).head ++ (s.ring ring.val).spill ++ (s.ring ring.val).tail = e0 :: es ∧ entrySop e0 = true) ∧
    (∃ (c : CoreId) (d : GReg) (ring : RingId) (s : State), c.val < 256 ∧ s.canIssue c [] [d.val] ∧ s.bit (State.tileReg Reg.TILE_RING_MASK_LO c.val + ring.val / 32 * 4) (ring.val % 32) = false) :=
  ⟨⟨256, 3, 2, supRun {}, by decide⟩,
    ⟨17, 3, 2, (fieldRun {}).setReg (State.tileReg Reg.TILE_SCHED_MASK 17) 0, by decide⟩,
    ⟨256, 3, 3, supRun {}, by decide⟩,
    ⟨256, 3, 2, 5, ((supRun {}).setBit (Reg.RING_CTRL + 0x500) 0 true).setRing 5 { head := [1], pushSeq := 1 }, by decide⟩,
    ⟨256, 3, 2, 5, (supRun {}).setBit (Reg.RING_CTRL + 0x500) 0 false, by decide⟩,
    ⟨256, 3, 30, 5, 7 + 2 ^ 200, [9], ((supRun {}).setBit (Reg.RING_CTRL + 0x500) 0 true).setRing 5 { head := [7 + 2 ^ 200, 9] }, by decide +kernel⟩,
    ⟨256, 3, 30, 5, (supRun {}).setRing 5 { popSeq := 77 }, by decide⟩,
    ⟨256, 3, 5, 0x100, [9], ((supRun {}).setBit (Reg.RING_CTRL + 0x500) 0 true).setRing 5 { head := [0x100, 9] }, by decide⟩,
    ⟨17, 3, 5, fieldRun {}, by decide⟩⟩

theorem witness_PlateInstructions :
    (∃ (c : CoreId) (d a : GReg) (s : State), c.val < 256 ∧ s.canIssue c [a.val] [d.val] ∧ bits ((s.core c.val).gr a) 31 12 = 0 ∧ (s.buf (bits ((s.core c.val).gr a) 11 0)).holds (((s.core c.val).gr a).extractLsb' 32 32) [1, 2] = true ∧ (s.core c.val).pins.length < 8 ∧ d ≠ 0) ∧
    (∃ (c : CoreId) (d a : GReg) (s : State), c.val < 256 ∧ s.canIssue c [a.val] [d.val] ∧ (bits ((s.core c.val).gr a) 31 12 ≠ 0 ∨ (s.buf (bits ((s.core c.val).gr a) 11 0)).holds (((s.core c.val).gr a).extractLsb' 32 32) [1, 2] = false)) ∧
    (∃ (c : CoreId) (d a : GReg) (s : State), c.val < 256 ∧ s.canIssue c [a.val] [d.val] ∧ bits ((s.core c.val).gr a) 31 12 = 0 ∧ (s.buf (bits ((s.core c.val).gr a) 11 0)).holds (((s.core c.val).gr a).extractLsb' 32 32) [1, 2] = true ∧ 8 ≤ (s.core c.val).pins.length) ∧
    (∃ (c : CoreId) (d a : GReg) (s : State), c.val < 256 ∧ s.canIssue c [a.val] [d.val] ∧ bits ((s.core c.val).gr a) 31 12 = 0 ∧ (s.core c.val).pins.contains (bits ((s.core c.val).gr a) 11 0, ((s.core c.val).gr a).extractLsb' 32 32) = true ∧ (s.buf (bits ((s.core c.val).gr a) 11 0)).holds (((s.core c.val).gr a).extractLsb' 32 32) [1, 2] = true ∧ d ≠ 0) ∧
    (∃ (c : CoreId) (d a : GReg) (s : State), c.val < 256 ∧ s.canIssue c [a.val] [d.val] ∧ (bits ((s.core c.val).gr a) 31 12 ≠ 0 ∨ (s.core c.val).pins.contains (bits ((s.core c.val).gr a) 11 0, ((s.core c.val).gr a).extractLsb' 32 32) = false)) ∧
    (∃ (c : CoreId) (d : VReg) (a b : GReg) (p : PReg) (s : State), c.val < 256 ∧ s.canIssue c [32 + d.val, a.val, b.val] [] ∧ bits ((s.core c.val).gr a) 31 12 = 0 ∧ (s.buf (bits ((s.core c.val).gr a) 11 0)).holds (((s.core c.val).gr a).extractLsb' 32 32) [1] = true ∧ ((s.core c.val).gr b).toNat % 16 = 0 ∧ ((s.core c.val).gr b).toNat + 16 ≤ (s.buf (bits ((s.core c.val).gr a) 11 0)).slotSize) ∧
    (∃ (c : CoreId) (d : VReg) (a b : GReg) (p : PReg) (s : State), c.val < 256 ∧ s.canIssue c [32 + d.val, a.val, b.val] [] ∧ (bits ((s.core c.val).gr a) 31 12 ≠ 0 ∨ (s.buf (bits ((s.core c.val).gr a) 11 0)).holds (((s.core c.val).gr a).extractLsb' 32 32) [1] = false)) ∧
    (∃ (c : CoreId) (d : VReg) (a b : GReg) (p : PReg) (s : State), c.val < 256 ∧ s.canIssue c [32 + d.val, a.val, b.val] [] ∧ bits ((s.core c.val).gr a) 31 12 = 0 ∧ (s.buf (bits ((s.core c.val).gr a) 11 0)).holds (((s.core c.val).gr a).extractLsb' 32 32) [1] = true ∧ ((s.core c.val).gr b).toNat % 16 = 0 ∧ (s.buf (bits ((s.core c.val).gr a) 11 0)).slotSize < ((s.core c.val).gr b).toNat + 16) ∧
    (∃ (c : CoreId) (d : VReg) (a b : GReg) (p : PReg) (s : State), c.val < 256 ∧ s.canIssue c [32 + d.val, a.val, b.val] [] ∧ bits ((s.core c.val).gr a) 31 12 = 0 ∧ (s.buf (bits ((s.core c.val).gr a) 11 0)).holds (((s.core c.val).gr a).extractLsb' 32 32) [1] = true ∧ ((s.core c.val).gr b).toNat % 16 ≠ 0) ∧
    (∃ (c : CoreId) (d a : GReg) (s : State), 256 ≤ c.val ∧ s.canIssue c [] []) ∧
    (∃ (c : CoreId) (d a : GReg) (s : State), 256 ≤ c.val ∧ s.canIssue c [] []) ∧
    (∃ (c : CoreId) (d : VReg) (a b : GReg) (p : PReg) (s : State), 256 ≤ c.val ∧ s.canIssue c [] []) :=
  ⟨⟨17, 4, 3, (fieldRun (({} : Core).setG 3 0x500000007)).setBuf 7 { valid := true, base := 0x1100000000, slotSize := 64, depth := 2, slots := ({} : SMap Slot).put {} 1 ⟨2, 5, 0⟩ }, by decide⟩,
    ⟨17, 4, 3, fieldRun (({} : Core).setG 3 0x500000007), by decide⟩,
    ⟨17, 4, 3, (fieldRun { (({} : Core).setG 3 0x500000007) with pins := List.replicate 8 (7, 5) }).setBuf 7 { valid := true, base := 0x1100000000, slotSize := 64, depth := 2, slots := ({} : SMap Slot).put {} 1 ⟨2, 5, 8⟩ }, by decide⟩,
    ⟨17, 4, 3, (fieldRun { (({} : Core).setG 3 0x500000007) with pins := [(7, 5)] }).setBuf 7 { valid := true, base := 0x1100000000, slotSize := 64, depth := 2, slots := ({} : SMap Slot).put {} 1 ⟨2, 5, 8⟩ }, by decide⟩,
    ⟨17, 4, 3, fieldRun (({} : Core).setG 3 0x500000007), by decide⟩,
    ⟨17, 4, 3, 0, 0, (fieldRun (({} : Core).setG 3 0x500000007)).setBuf 7 { valid := true, base := 0x1100000000, slotSize := 64, depth := 2, slots := ({} : SMap Slot).put {} 1 ⟨1, 5, 0⟩ }, by decide⟩,
    ⟨17, 4, 3, 0, 0, fieldRun (({} : Core).setG 3 0x500000007), by decide⟩,
    ⟨17, 4, 3, 2, 0, (fieldRun ((({} : Core).setG 3 0x500000007).setG 2 64)).setBuf 7 { valid := true, base := 0x1100000000, slotSize := 64, depth := 2, slots := ({} : SMap Slot).put {} 1 ⟨1, 5, 0⟩ }, by decide⟩,
    ⟨17, 4, 3, 2, 0, (fieldRun ((({} : Core).setG 3 0x500000007).setG 2 8)).setBuf 7 { valid := true, base := 0x1100000000, slotSize := 64, depth := 2, slots := ({} : SMap Slot).put {} 1 ⟨1, 5, 0⟩ }, by decide⟩,
    ⟨256, 4, 3, supRun {}, by decide⟩,
    ⟨256, 4, 3, supRun {}, by decide⟩,
    ⟨256, 4, 3, 2, 0, supRun {}, by decide⟩⟩

theorem witness_LoadsLeave :
    (∃ (s : State) (c : CoreId) (d a : GReg) (v : VReg) (off : BitVec 13),
      (s.canIssue c [a.val] [d.val] ∧ s.canIssue c [a.val] [32 + v.val]) ∧
      let k := s.core c.val
      let addr := (k.gr a + off.signExtend 64).toNat
      let vaddr := (k.gr a + off.signExtend 64 * 16).toNat
      State.outCount k < 8 ∧ addr % 8 = 0 ∧ State.plainOk c.val addr 8 false = true ∧ s.hasUe addr 8 = false ∧
        vaddr % 16 = 0 ∧ State.plainOk c.val vaddr 16 false = true ∧ s.hasUe vaddr 16 = false) ∧
    (∃ (s : State) (c : CoreId) (d a : GReg) (v : VReg) (off : BitVec 13),
      (s.canIssue c [a.val] [d.val] ∧ s.canIssue c [a.val] [32 + v.val]) ∧
      let k := s.core c.val
      let addr := (k.gr a + off.signExtend 64).toNat
      State.outCount k < 8 ∧ addr % 2 ≠ 0 ∧ State.plainOk c.val addr 1 false = true ∧ s.hasUe addr 1 = false ∧ c.val < 256) ∧
    (∃ (s : State) (c : CoreId) (d a : GReg) (v : VReg) (off : BitVec 13),
      (s.canIssue c [a.val] [d.val] ∧ s.canIssue c [a.val] [32 + v.val]) ∧
      let k := s.core c.val
      let addr := (k.gr a + off.signExtend 64).toNat
      let vaddr := (k.gr a + off.signExtend 64 * 16).toNat
      State.outCount k < 8 ∧ c.val < 256 ∧ vaddr % 16 ≠ 0 ∧ State.plainOk c.val addr 1 false = false) ∧
    (∃ (s : State) (c : CoreId) (d a : GReg) (v : VReg),
      (s.canIssue c [a.val] [d.val] ∧ s.canIssue c [a.val] [32 + v.val]) ∧ 8 ≤ State.outCount (s.core c.val)) ∧
    (∃ (s : State) (c : CoreId) (d a : GReg) (v : VReg) (off : BitVec 13),
      (s.canIssue c [a.val] [d.val] ∧ s.canIssue c [a.val] [32 + v.val]) ∧
      let addr := ((s.core c.val).gr a + off.signExtend 64).toNat
      State.outCount (s.core c.val) < 8 ∧ 256 ≤ c.val ∧ addr % 4 = 0 ∧ regionOf addr = .ctrl ∧
        mayAccess (State.supAgent c.val) (addr - ctrlBase) false = true) :=
  ⟨⟨Tests.fieldRun (({} : Core).setG 3 0x1000), 17, 4, 3, 5, 0, by decide⟩,
   ⟨Tests.fieldRun (({} : Core).setG 3 0x1000), 17, 4, 3, 5, 0x1FFF, by decide⟩,
   ⟨Tests.fieldRun (({} : Core).setG 3 0x0800000001), 17, 4, 3, 5, 0, by decide⟩,
   ⟨Tests.fieldRun { loads := List.replicate 8 ⟨false, 9, 0, 0xFF, 0, false⟩ }, 17, 4, 3, 5, by decide⟩,
   ⟨Tests.supRun (({} : Core).setG 3 0x1400000000), 256, 4, 3, 5, 4, by decide⟩⟩

theorem witness_StoresWriteOnlyTheirBytes :
    (∃ (s : State) (c : CoreId) (g a : GReg) (v : VReg) (off : BitVec 13),
      (s.canIssue c [a.val, g.val] [] ∧ s.canIssue c [a.val, 32 + v.val] []) ∧
      let k := s.core c.val
      let addr := (k.gr a + off.signExtend 64).toNat
      let vaddr := (k.gr a + off.signExtend 64 * 16).toNat
      addr % 8 = 0 ∧ State.plainOk c.val addr 8 true = true ∧ s.hasUe addr 8 = false ∧
        vaddr % 16 = 0 ∧ State.plainOk c.val vaddr 16 true = true ∧ s.hasUe vaddr 16 = false) ∧
    (∃ (s : State) (c : CoreId) (g a : GReg) (v : VReg) (off : BitVec 13),
      (s.canIssue c [a.val, g.val] [] ∧ s.canIssue c [a.val, 32 + v.val] []) ∧
      let k := s.core c.val
      let addr := (k.gr a + off.signExtend 64).toNat
      let vaddr := (k.gr a + off.signExtend 64 * 16).toNat
      addr % 2 ≠ 0 ∧ vaddr % 16 ≠ 0 ∧ State.plainOk c.val addr 1 true = true ∧ s.hasUe addr 1 = false) ∧
    (∃ (s : State) (c : CoreId) (g a : GReg) (v : VReg) (off : BitVec 13),
      (s.canIssue c [a.val, g.val] [] ∧ s.canIssue c [a.val, 32 + v.val] []) ∧
      let addr := ((s.core c.val).gr a + off.signExtend 64).toNat
      c.val < 256 ∧ addr % 4 = 0 ∧ State.plainOk c.val addr 1 true = false ∧ State.plainOk c.val addr 4 true = false) :=
  ⟨⟨Tests.fieldRun (({} : Core).setG 3 0x1000), 17, 4, 3, 5, 0, by decide⟩,
   ⟨Tests.fieldRun (({} : Core).setG 3 0x1001), 17, 4, 3, 5, 0, by decide⟩,
   ⟨Tests.fieldRun (({} : Core).setG 3 0x0800000000), 17, 4, 3, 5, 0, by decide⟩⟩

theorem witness_AtomicsAndTables :
    (∃ (s : State) (c : CoreId) (d a b : GReg) (p : PReg),
      let k := s.core c.val
      let addr := (k.gr a).toNat
      s.canIssue c [a.val, b.val, d.val] [d.val] ∧ bits (k.pr p) 0 0 = 1 ∧ State.outCount k < 8 ∧
        addr % 8 = 0 ∧ State.plainOk c.val addr 8 true = true ∧ s.hasUe addr 8 = false) ∧
    (∃ (s : State) (c : CoreId) (d a b : GReg) (p : PReg),
      let k := s.core c.val
      s.canIssue c [a.val, b.val, d.val] [d.val] ∧ bits (k.pr p) 0 0 = 1 ∧ State.outCount k < 8 ∧ (k.gr a).toNat % 4 ≠ 0) ∧
    (∃ (s : State) (c : CoreId) (d a b : GReg) (p : PReg),
      let k := s.core c.val
      let addr := (k.gr a).toNat
      s.canIssue c [a.val, b.val, d.val] [d.val] ∧ bits (k.pr p) 0 0 = 1 ∧ State.outCount k < 8 ∧ addr % 4 = 0 ∧
        State.plainOk c.val addr 4 true = false) ∧
    (∃ (s : State) (c : CoreId) (p : PReg), s.canIssue c [] [] ∧ bits ((s.core c.val).pr p) 0 0 = 0) ∧
    (∃ (s : State) (c : CoreId) (b : GReg) (vd va : VReg),
      s.canIssue c [32 + va.val, b.val] [32 + vd.val] ∧ ((s.core c.val).gr b).toNat % 16 = 0 ∧
        lutOk c.val ((s.core c.val).gr b).toNat 514 = true ∧ s.ue = {}) ∧
    (∃ (s : State) (c : CoreId) (b : GReg) (vd va : VReg),
      s.canIssue c [32 + va.val, b.val] [32 + vd.val] ∧ ((s.core c.val).gr b).toNat % 16 ≠ 0) ∧
    (∃ (s : State) (c : CoreId) (b : GReg) (vd va : VReg),
      s.canIssue c [32 + va.val, b.val] [32 + vd.val] ∧ ((s.core c.val).gr b).toNat % 16 = 0 ∧
        lutOk c.val ((s.core c.val).gr b).toNat 8194 = false) :=
  ⟨⟨Tests.fieldRun (({} : Core).setG 3 0x1000), 17, 4, 3, 5, 0, by decide⟩,
   ⟨Tests.fieldRun (({} : Core).setG 3 0x1001), 17, 4, 3, 5, 0, by decide⟩,
   ⟨Tests.fieldRun (({} : Core).setG 3 0x1300000000), 17, 4, 3, 5, 0, by decide⟩,
   ⟨Tests.fieldRun {}, 17, 1, by decide⟩,
   ⟨Tests.fieldRun (({} : Core).setG 3 0x1000800000), 17, 3, 5, 6, by decide⟩,
   ⟨Tests.fieldRun (({} : Core).setG 3 0x1000800008), 17, 3, 5, 6, by decide⟩,
   ⟨Tests.fieldRun (({} : Core).setG 3 0x1000), 17, 3, 5, 6, by decide⟩⟩

theorem witness_VectorIntegerResults :
    (∃ (s : State) (c : CoreId) (d a b : VReg), s.canIssue c [32 + a.val, 32 + b.val] [32 + d.val]) ∧
    (∃ (s : State) (c : CoreId), s.canIssue c [] []) :=
  ⟨⟨Tests.fieldRun {}, 17, 3, 4, 5, by decide⟩, ⟨Tests.supRun {}, 256, by decide⟩⟩

theorem witness_VectorFloatResults :
    (∃ (s : State) (c : CoreId) (d a b : VReg), s.canIssue c [32 + a.val, 32 + b.val] [32 + d.val]) ∧
    (∃ (s : State) (c : CoreId) (d a : VReg), s.canIssue c [32 + a.val] [32 + d.val]) ∧
    (∃ (s : State) (c : CoreId) (d a b : VReg), s.canIssue c [32 + d.val, 32 + a.val, 32 + b.val] [32 + d.val]) :=
  ⟨⟨Tests.fieldRun {}, 17, 3, 4, 5, by decide⟩, ⟨Tests.fieldRun {}, 17, 3, 4, by decide⟩, ⟨Tests.supRun {}, 256, 3, 4, 5, by decide⟩⟩

theorem witness_VectorMoveAndLightResults :
    (∃ (s : State) (c : CoreId) (d a : VReg), s.canIssue c [32 + a.val] [32 + d.val]) ∧
    (∃ (s : State) (c : CoreId) (d a b : VReg), s.canIssue c [32 + a.val, 32 + b.val] [32 + d.val]) ∧
    (∃ (s : State) (c : CoreId) (d : VReg) (ga gb : GReg), s.canIssue c [ga.val] [32 + d.val] ∧ s.canIssue c [ga.val, gb.val] [32 + d.val]) ∧
    (∃ (s : State) (c : CoreId) (a : VReg) (g : GReg), s.canIssue c [32 + a.val] [g.val]) ∧
    (∃ (s : State) (c : CoreId) (d a b : VReg), s.canIssue c [32 + a.val, 32 + b.val, 32 + (vNext b).val] [32 + d.val] ∧ b.val % 2 = 0) ∧
    (∃ (s : State) (c : CoreId) (b : VReg), s.canIssue c [] [] ∧ b.val % 2 = 1) ∧
    (∃ (s : State) (c : CoreId) (d a b o : VReg) (mode : Fin 4),
      s.canIssue c [32 + a.val, 32 + b.val, 32 + o.val] [32 + d.val] ∧ mode ≠ 3) :=
  ⟨⟨Tests.fieldRun {}, 17, 3, 4, by decide⟩, ⟨Tests.fieldRun {}, 17, 3, 4, 5, by decide⟩, ⟨Tests.fieldRun {}, 17, 3, 4, 0, by decide⟩,
   ⟨Tests.supRun {}, 256, 3, 4, by decide⟩, ⟨Tests.supRun {}, 256, 3, 4, 30, by decide⟩, ⟨Tests.supRun {}, 256, 31, by decide⟩,
   ⟨Tests.fieldRun {}, 17, 3, 4, 5, 6, 2, by decide⟩⟩

theorem witness_KernelsStartAndEnd :
    (∃ (a : Act) (c : Nat) (s : State), (s.issued.find? fun x => actCode x.act == 1) = some a ∧ s.kdescBad (a.a1.toNat + a.a2.toNat * 2 ^ 32) = false ∧ s.bit Reg.TILE_SHED_STATUS 0 = false ∧ s.groups.length < 256 ∧ s.selected a.a0 = [c] ∧ (s.core c).run = .idle ∧ (s.core c).pend = none ∧ s.icInv c = false) ∧
    (∃ (a : Act) (s : State), (s.issued.find? fun x => actCode x.act == 1) = some a ∧ s.kdescBad (a.a1.toNat + a.a2.toNat * 2 ^ 32) = true ∧ s.hasUe (a.a1.toNat + a.a2.toNat * 2 ^ 32) 32 = false ∧ s.faultRoom) ∧
    (∃ (c : CoreId) (x : Kernel) (g : Group) (s : State), c.val < 256 ∧ s.canIssue c [] [] ∧ (s.core c.val).loads = [] ∧ (s.core c.val).remote = [] ∧ (s.core c.val).pins = [] ∧ (s.core c.val).pend = none ∧ (s.core c.val).kernel = some x ∧ (s.groups.find? fun y => y.id == x.gid) = some g ∧ g.alive = [c.val] ∧ g.notify = false ∧ s.coreEn c.val = true) ∧
    (∃ (c : CoreId) (s : State), c.val < 256 ∧ s.canIssue c [] [] ∧ ((s.core c.val).loads ≠ [] ∨ (s.core c.val).remote ≠ [])) ∧
    (∃ (c : CoreId) (s : State), 256 ≤ c.val ∧ s.canIssue c [] []) ∧
    (∃ (ag : Agent) (n : Fin 16) (i : Fin 16) (w : Word) (s : State), s.canWrite ag (Reg.TILE_ABORT + n.val * 0x1000) ∧ w = BitVec.ofNat 32 (2 ^ i.val) ∧ (s.core (n.val * 16 + i.val)).run = .run ∧ (s.core (n.val * 16 + i.val)).pend = none ∧ (s.core (n.val * 16 + i.val)).pins = [] ∧ (s.core (n.val * 16 + i.val)).kernel = none ∧ s.coreEn (n.val * 16 + i.val) = true) ∧
    (∃ (ag : Agent) (n : Fin 16) (i : Fin 16) (w : Word) (s : State), s.canWrite ag (Reg.TILE_RELEASE + n.val * 0x1000) ∧ w = BitVec.ofNat 32 (2 ^ i.val) ∧ (s.core (n.val * 16 + i.val)).run = .held ∧ (s.core (n.val * 16 + i.val)).pend = none ∧ s.coreEn (n.val * 16 + i.val) = true) ∧
    (∃ (ag : Agent) (n : Fin 16) (i : Fin 16) (w : Word) (s : State), s.canWrite ag (Reg.TILE_CTRL + n.val * 0x1000) ∧ w.getLsbD i.val = false ∧ (s.core (n.val * 16 + i.val)).run = .idle ∧ (s.core (n.val * 16 + i.val)).pend = none) ∧
    (∃ (ag : Agent) (n : Fin 16) (i : Fin 16) (w : Word) (s : State), s.canWrite ag (Reg.TILE_CTRL + n.val * 0x1000) ∧ w.getLsbD i.val = true ∧ (s.core (n.val * 16 + i.val)).run = .off) ∧
    (∃ (ag : Agent) (n : Fin 16) (s : State), s.canWrite ag (Reg.TILE_CMD + n.val * 0x1000)) ∧
    (∃ (n : Fin 16) (i : Fin 16) (x : Kernel) (s : State), (s.core (n.val * 16 + i.val)).run = .idle ∧ (s.core (n.val * 16 + i.val)).pend = some x) ∧
    (∃ (ag : Agent) (n : Fin 4) (s : State), (ag = .sup 0 ∨ ag = .sup 1) ∧ s.canWrite ag (Reg.SUP_CTRL + n.val * 0x100) ∧ 2 ≤ n.val ∧ (s.core (256 + n.val)).run = .idle) ∧
    (∃ (ag : Agent) (n : Fin 4) (s : State), (ag = .sup 0 ∨ ag = .sup 1) ∧ s.canWrite ag (Reg.SUP_CTRL + n.val * 0x100) ∧ 2 ≤ n.val) ∧
    (∃ (ag : Agent) (n : Fin 4) (s : State), s.canWrite ag (Reg.SUP_CTRL + n.val * 0x100) ∧ n.val < 2) ∧
    (∃ (ag : Agent) (n : Fin 4) (s : State), s.canWrite ag (Reg.SUP_CTRL + n.val * 0x100) ∧ n.val < 2) :=
  ⟨⟨⟨1, 0x00020002, 0x1000, 0, 77, 0, 0, 0, 0, 0⟩, 17, ((({ State.reset with issued := [⟨1, 0x00020002, 0x1000, 0, 77, 0, 0, 0, 0, 0⟩] } : State).setMemNat 0x1000 4 0x00014B44).setMemNat 0x1004 4 0x2000).setReg (State.tileReg Reg.TILE_CTRL 17) 0xFFFF, by decide +kernel⟩,
    ⟨⟨1, 0x00020002, 0x1004, 0, 77, 0, 0, 0, 0, 0⟩, { State.reset with issued := [⟨1, 0x00020002, 0x1004, 0, 77, 0, 0, 0, 0, 0⟩] }, by decide⟩,
    ⟨17, ⟨4, 0, 0, 0, 0, 2, 0, 0, 0, false⟩, ⟨4, 0, 0, 0, false, 0, [17], 0, 0⟩, { fieldRun { kernel := some ⟨4, 0, 0, 0, 0, 2, 0, 0, 0, false⟩ } with groups := [⟨4, 0, 0, 0, false, 0, [17], 0, 0⟩] }, by decide⟩,
    ⟨17, fieldRun { loads := [⟨false, 3, 0, 0xFF, 0, false⟩] }, by decide⟩,
    ⟨256, supRun {}, by decide⟩,
    ⟨.sup 0, 1, 1, 2, fieldRun { loads := [⟨false, 3, 0, 0xFF, 0, false⟩] }, by decide⟩,
    ⟨.sup 0, 1, 1, 2, State.reset.setCore 17 { run := .held }, by decide⟩,
    ⟨.sup 0, 1, 1, 0x100FD, State.reset, by decide⟩,
    ⟨.sup 0, 1, 1, 0xFFFF, State.reset.setCore 17 { run := .off }, by decide⟩,
    ⟨.sup 0, 3, State.reset, by decide⟩,
    ⟨1, 1, ⟨4, 0, 0, 0, 0, 2, 0, 0x2000, 0, false⟩, (State.reset.setCore 17 { pend := some ⟨4, 0, 0, 0, 0, 2, 0, 0x2000, 0, false⟩ }).setBit (Reg.TILE_CMD + 0x1000) 0 true, by decide⟩,
    ⟨.sup 1, 2, State.reset, by decide⟩,
    ⟨.sup 1, 3, State.reset.setCore 259 { run := .run }, by decide⟩,
    ⟨.sup 1, 0, State.reset, by decide⟩,
    ⟨.sup 1, 0, State.reset, by decide⟩⟩

/-- Field core 1 of tile 1 runs, on node 5 of the fabric. -/
def Tests.nodeRun (k : Core) : State :=
  (Tests.fieldRun k).setReg Reg.TRANSIT_NODE (5 + 2 * 2 ^ 13)
theorem witness_RemoteInstructions :
    (∃ (s : State) (c : CoreId) (d a b : GReg) (v : VReg) (p : PReg) (slot : Nat),
      let k := s.core c.val
      bits (k.pr p) 0 0 = 1 ∧ State.outCount k < 8 ∧ s.noRoute (bits (k.gr b) 12 0) = false ∧ s.freeSlot c.val = some slot ∧
        s.canIssue c [a.val, b.val] [d.val] ∧ s.canIssue c [a.val, b.val] [32 + v.val] ∧ s.canIssue c [a.val, b.val, d.val] [d.val] ∧
        bits (k.gr a) 63 40 = 0 ∧ (k.gr a).toNat % 16 = 0) ∧
    (∃ (s : State) (c : CoreId) (d a b : GReg) (p : PReg),
      let k := s.core c.val
      bits (k.pr p) 0 0 = 1 ∧ State.outCount k < 8 ∧ s.noRoute (bits (k.gr b) 12 0) = true ∧ s.canIssue c [a.val, b.val] [d.val] ∧
        bits (k.gr a) 63 40 = 0 ∧ (k.gr a).toNat % 4 = 0 ∧ d ≠ 0) ∧
    (∃ (s : State) (c : CoreId) (d a b : GReg) (v : VReg) (p : PReg) (m : Fin 16),
      let k := s.core c.val
      let node := bits (k.gr b) 12 0
      bits (k.pr p) 0 0 = 1 ∧ (s.idAssigned = true ∧ s.isLocal node = true ∧ (s.tgt node).late = false) ∧
        s.canIssue c [a.val, b.val, d.val] [] ∧ s.canIssue c [a.val, b.val, 32 + v.val] [] ∧ bits (k.gr a) 63 40 = 0 ∧
        (k.gr a).toNat % 16 = 0 ∧ (k.gr a).toNat % 256 + 16 * (m.val + 1) ≤ 256 ∧ (k.gr d).toNat % 16 = 0 ∧
        State.plainOk c.val (k.gr d).toNat (16 * (m.val + 1)) false = true ∧ s.hasUe (k.gr d).toNat (16 * (m.val + 1)) = false) ∧
    (∃ (s : State) (c : CoreId) (d a b : GReg) (p : PReg) (m : Fin 16),
      let k := s.core c.val
      bits (k.pr p) 0 0 = 1 ∧ s.idAssigned = true ∧ s.bit (Reg.ROUTER_MCAST + 4 * (bits (k.gr b) 12 0 % 4096)) 17 = true ∧
        s.canIssue c [a.val, b.val, d.val] [] ∧ bits (k.gr a) 63 40 = 0 ∧ (k.gr a).toNat % 16 = 0 ∧
        (k.gr a).toNat % 256 + 16 * (m.val + 1) ≤ 256 ∧ (k.gr d).toNat % 16 = 0 ∧
        State.plainOk c.val (k.gr d).toNat (16 * (m.val + 1)) false = true ∧ s.hasUe (k.gr d).toNat (16 * (m.val + 1)) = false) ∧
    (∃ (s : State) (c : CoreId) (d a b : GReg) (p : PReg),
      bits ((s.core c.val).pr p) 0 0 = 1 ∧ s.canIssue c [a.val, b.val] [d.val] ∧ bits ((s.core c.val).gr a) 63 40 ≠ 0) ∧
    (∃ (s : State) (c : CoreId) (d a b : GReg) (p : PReg),
      bits ((s.core c.val).pr p) 0 0 = 1 ∧ s.canIssue c [a.val, b.val] [d.val] ∧ bits ((s.core c.val).gr a) 63 40 = 0 ∧
        ((s.core c.val).gr a).toNat % 4 ≠ 0) ∧
    (∃ (s : State) (c : CoreId) (p : PReg), bits ((s.core c.val).pr p) 0 0 = 0 ∧ s.canIssue c [] []) :=
  ⟨⟨Tests.nodeRun ((({} : Core).setG 3 0x100).setG 4 5), 17, 7, 3, 4, 5, 0, 32, by decide⟩,
   ⟨Tests.fieldRun ((({} : Core).setG 3 0x100).setG 4 5), 17, 7, 3, 4, 0, by decide⟩,
   ⟨Tests.nodeRun ((({} : Core).setG 3 0x100).setG 4 5), 17, 7, 3, 4, 5, 0, 15, by decide +kernel⟩,
   ⟨(Tests.nodeRun ((({} : Core).setG 3 0x100).setG 4 5)).setReg (Reg.ROUTER_MCAST + 20) 0x20000, 17, 7, 3, 4, 0, 15, by decide +kernel⟩,
   ⟨Tests.fieldRun (({} : Core).setG 3 0x10000000000), 17, 7, 3, 4, 0, by decide⟩,
   ⟨Tests.fieldRun (({} : Core).setG 3 0x102), 17, 7, 3, 4, 0, by decide⟩,
   ⟨Tests.fieldRun {}, 17, 1, by decide⟩⟩
theorem witness_RemoteInstructions_answer :
    (∃ (s : State) (i : Byte) (d : GReg) (data : List Byte) (status : Nat),
      let x := s.tslot i.toNat
      x.busy = true ∧ x.answer = some (status, data) ∧ x.key = d.val ∧ d ≠ 0 ∧ (s.core x.core).remote.contains (i.toNat, x.key) = true ∧
        status = 0) ∧
    (∃ (s : State) (i : Byte) (d : GReg) (data : List Byte) (status : Nat),
      let x := s.tslot i.toNat
      x.busy = true ∧ x.answer = some (status, data) ∧ x.key = d.val ∧ d ≠ 0 ∧ (s.core x.core).remote.contains (i.toNat, x.key) = true ∧
        status = 1 ∧ wfld (s.reg (State.tileReg Reg.TILE_RTX x.core)) 7 0 ≤ x.reissues) ∧
    (∃ (s : State) (i : Byte) (d : GReg) (data : List Byte) (status : Nat),
      let x := s.tslot i.toNat
      x.busy = true ∧ x.answer = some (status, data) ∧ x.key = d.val ∧ d ≠ 0 ∧ (s.core x.core).remote.contains (i.toNat, x.key) = true ∧
        1 < status) ∧
    (∃ (s : State) (i : Byte) (g : Nat),
      let x := s.tslot i.toNat
      x.busy = true ∧ x.type ≠ 3 ∧ x.gap = some g ∧ g + s.fld (State.tileReg Reg.TILE_RTX x.core) 23 8 ≤ s.mono) :=
  ⟨⟨(Tests.fieldRun { remote := [(40, 7)] }).updSlot 40 fun _ => { busy := true, core := 17, key := 7, answer := some (0, [1, 2]) }, 40, 7, [1, 2], 0, by decide⟩,
   ⟨(Tests.fieldRun { remote := [(40, 7)] }).updSlot 40 fun _ => { busy := true, core := 17, key := 7, answer := some (1, []), reissues := 255 }, 40, 7, [], 1, by decide⟩,
   ⟨(Tests.fieldRun { remote := [(40, 7)] }).updSlot 40 fun _ => { busy := true, core := 17, key := 7, answer := some (3, []) }, 40, 7, [], 3, by decide⟩,
   ⟨({ (Tests.fieldRun {}) with mono := 100000 }).updSlot 40 fun _ => { busy := true, core := 17, key := 7, gap := some 0 }, 40, 0, by decide⟩⟩

theorem witness_RegisterWritesReachTheirRegister :
    (∃ (ag : Agent) (a : BitVec 24) (w : Word) (s : State), s.agentLive ag = false) ∧
    (∃ (ag : Agent) (a : BitVec 24) (w : Word) (s : State), s.agentLive ag = true ∧ (mayAccess ag a.toNat true = false ∨ a.toNat % 4 ≠ 0) ∧ s.faultRoom) ∧
    (∃ (ag : Agent) (a : BitVec 24) (w : Word) (s : State), s.canWrite ag a.toNat ∧ a.toNat % 4 = 0 ∧ regRow a.toNat = none) ∧
    (∃ (ag : Agent) (a : BitVec 24) (w : Word) (x : RegRow) (s : State), s.canWrite ag a.toNat ∧ a.toNat % 4 = 0 ∧ a.toNat < 0x10000 ∧ regRow a.toNat = some x ∧ x.priv = false ∧ x.pair = 0 ∧ a.toNat ≠ Reg.SYS_MODE_REQ ∧ a.toNat ≠ Reg.SYS_CMD ∧ a.toNat ≠ Reg.SYS_RESET ∧ a.toNat ≠ Reg.SYS_WDOG ∧ a.toNat ≠ Reg.SYS_WDOG_KICK) ∧
    (∃ (ag : Agent) (a : BitVec 24) (s : State), s.agentLive ag = true ∧ mayAccess ag a.toNat false = true ∧ State.pairOf a.toNat = 1) ∧
    (∃ (ag : Agent) (a : BitVec 24) (w : Word) (s : State), s.canWrite ag a.toNat ∧ a.toNat % 4 = 0 ∧ State.pairOf a.toNat = 1 ∧ s.pairIgnored ag a.toNat = none) ∧
    (∃ (ag : Agent) (a : BitVec 24) (w : Word) (ring : RingId) (s : State), s.canWrite ag a.toNat ∧ a.toNat = Reg.RING_SPILL_LO + 0x100 * ring.val ∧ s.ringEn ring.val = true ∧ s.faultRoom) ∧
    (∃ (ag : Agent) (a : BitVec 24) (w : Word) (x y : RegRow) (s : State), s.canWrite ag a.toNat ∧ a.toNat % 4 = 0 ∧ 0x20000 ≤ a.toNat - 4 ∧ a.toNat < 0x700000 ∧ regRow (a.toNat - 4) = some x ∧ regRow a.toNat = some y ∧ y.pair = 2 ∧ x.priv = false ∧ y.priv = false ∧ x.lock = none ∧ y.lock = none ∧ s.pairIgnored ag (a.toNat - 4) = none) :=
  ⟨⟨.jtag, 0x10, 1, State.reset.setBit Reg.SYS_BOOT 6 false, by decide⟩,
    ⟨.sup 2, 0x50002, 7, State.reset, by decide⟩,
    ⟨.sup 0, 0xFFF0, 7, State.reset, by decide⟩,
    ⟨.sup 0, 0x14, 7, { off := 0x14, reset := 0x3E80064, rw := 0xFFFFFFFF }, State.reset, by decide⟩,
    ⟨.sup 1, 0x10020, State.reset, by decide⟩,
    ⟨.sup 1, 0x10030, 5, State.reset, by decide⟩,
    ⟨.sup 1, 0x80308, 5, 3, State.reset, by decide⟩,
    ⟨.sup 1, 0x50018, 5, { off := 0x50014, rw := 0xFFFFC000, pair := 1 }, { off := 0x50018, rw := 0xFF, pair := 2 }, { State.reset with stage := State.reset.stage.put none (2 ^ 24 + 0x50014) (some 0x12345678) }, by decide⟩⟩

theorem witness_AccessCodesDecideEachBit :
    (∃ (x : RegRow) (i : Nat), i < 32 ∧ x.rw.testBit i = true ∧ x.w1c.testBit i = false ∧ x.lock = some (0x10, 31)) ∧
    (∃ (s : State) (x : RegRow) (a i : Nat), i < 32 ∧ x.rw.testBit i = false ∧ x.rws.testBit i = false ∧ x.rwl.testBit i = true ∧
      s.locked x a = true ∧ x.w1c.testBit i = false ∧ x.w1s.testBit i = false) ∧
    (∃ (x : RegRow) (i : Nat), i < 32 ∧ x.rw.testBit i = false ∧ x.rws.testBit i = false ∧ x.rwl.testBit i = false ∧
      x.w1c.testBit i = false ∧ x.w1s.testBit i = false) ∧
    (∃ (x : RegRow) (i : Nat), i < 32 ∧ x.rw.testBit i = false ∧ x.rws.testBit i = false ∧ x.rwl.testBit i = false ∧
      x.w1c.testBit i = true ∧ x.w1s.testBit i = false) ∧
    (∃ (x : RegRow) (i : Nat), i < 32 ∧ x.rw.testBit i = false ∧ x.rws.testBit i = false ∧ x.rwl.testBit i = false ∧
      x.w1c.testBit i = false ∧ x.w1s.testBit i = true) :=
  ⟨⟨{ off := 0x10, rw := 0x80000000, rwl := 3, lock := some (0x10, 31) }, 31, by decide⟩,
   ⟨State.reset.setBit 0x10 31 true, { off := 0x10, rw := 0x80000000, rwl := 3, lock := some (0x10, 31) }, 0x10, 0, by decide⟩,
   ⟨{ off := 0x10 }, 31, by decide⟩, ⟨{ off := 0x40004, w1c := 0xF }, 3, by decide⟩, ⟨{ off := 0x40008, w1s := 3 }, 1, by decide⟩⟩

theorem witness_RingWindowAndUnitActs :
    (∃ (ag : Agent) (q : RingId) (i : Fin 7) (w : Word) (s : State), s.agentLive ag = true) ∧
    (∃ (ag : Agent) (q : RingId) (w : Word) (s : State), s.agentLive ag = true ∧ s.ringRoom q.val 1 = true ∧ (s.ring q.val).dropping = false) ∧
    (∃ (ag : Agent) (q : RingId) (w : Word) (s : State), s.agentLive ag = true ∧ s.ringRoom q.val 1 = false) ∧
    (∃ (ag : Agent) (q : RingId) (e0 : Entry) (es : List Entry) (s : State), s.agentLive ag = true ∧ (s.ring q.val).head ++ (s.ring q.val).spill ++ (s.ring q.val).tail = e0 :: es) ∧
    (∃ (ag : Agent) (q : RingId) (s : State), s.agentLive ag = true ∧ (s.ring q.val).count = 0) ∧
    (∃ (ag : Agent) (q : RingId) (e0 : Entry) (es : List Entry) (s : State), s.agentLive ag = true ∧ s.ringEn q.val = true ∧ (s.ring q.val).head = e0 :: es ∧ entrySop e0 = false ∧ entrySop (es.headD 0) = true ∧ es ≠ [] ∧ (s.ring q.val).spill = [] ∧ (s.ring q.val).tail = []) ∧
    (∃ (q : RingId) (e0 : Entry) (s : State), s.ringRoom q.val 1 = true ∧ (s.ring q.val).dropping = false) ∧
    (∃ (q : RingId) (es : List Entry) (s : State), s.ringEn q.val = true ∧ s.ringRoom q.val es.length = false ∧ s.onceOk (Code.RING_RING_OVF + 65536 * q.val) 1000000000 = true ∧ s.faultRoom) ∧
    (∃ (q : RingId) (es : List Entry) (s : State), s.ringEn q.val = false ∧ s.onceOk (Code.RING_DISABLED_PUSH + 65536 * q.val) 1000000000 = true ∧ s.faultRoom) ∧
    (∃ (q : RingId) (s : State), (s.ring q.val).head.length ≤ 8 ∧ (s.ring q.val).spill ≠ []) ∧
    (∃ (ag : Agent) (q : RingId) (s : State), s.canWrite ag (Reg.RING_CMD + 0x100 * q.val) ∧ s.bit (Reg.RING_CTRL + 0x100 * q.val) 31 = false) ∧
    (∃ (ag : Agent) (q : RingId) (s : State), s.canWrite ag (Reg.RING_CMD + 0x100 * q.val) ∧ s.bit (Reg.RING_CTRL + 0x100 * q.val) 31 = true) ∧
    (∃ (ag : Agent) (q : RingId) (w : Word) (s : State), s.canWrite ag (Reg.RING_CTRL + 0x100 * q.val) ∧ s.bit (Reg.RING_CTRL + 0x100 * q.val) 31 = false ∧ s.ringEn q.val = true ∧ w.getLsbD 0 = false) ∧
    (∃ (ag : Agent) (q : RingId) (w : Word) (s : State), s.canWrite ag (Reg.RING_CTRL + 0x100 * q.val) ∧ s.bit (Reg.RING_CTRL + 0x100 * q.val) 31 = false ∧ s.ringEn q.val = false ∧ w.getLsbD 0 = true ∧ s.spillOk q.val = false ∧ s.faultRoom) ∧
    (∃ (ag : Agent) (q : RingId) (w : Word) (s : State), s.canWrite ag (Reg.RING_CTRL + 0x100 * q.val) ∧ s.bit (Reg.RING_CTRL + 0x100 * q.val) 31 = false ∧ s.ringEn q.val = false ∧ w.getLsbD 0 = true ∧ s.spillOk q.val = true) :=
  ⟨⟨.sup 0, 3, 6, 9, State.reset, by decide⟩,
    ⟨.sup 0, 3, 9, State.reset, by decide⟩,
    ⟨.sup 0, 3, 9, State.reset.setBit (Reg.RING_CTRL + 0x300) 0 false, by decide⟩,
    ⟨.sup 0, 3, 9, [8], State.reset.setRing 3 { head := [9, 8] }, by decide⟩,
    ⟨.sup 0, 3, State.reset.setRing 3 { popSeq := 9, pushSeq := 9 }, by decide⟩,
    ⟨.sup 0, 3, 9, [0x108], State.reset.setRing 3 { head := [9, 0x108] }, by decide⟩,
    ⟨3, 9, State.reset.setRing 3 { head := [7] }, by decide⟩,
    ⟨3, List.replicate 33 9, State.reset, by decide⟩,
    ⟨3, [9], State.reset.setBit (Reg.RING_CTRL + 0x300) 0 false, by decide⟩,
    ⟨3, State.reset.setRing 3 { head := [7], spill := [8, 9], tail := [10] }, by decide⟩,
    ⟨.sup 0, 3, State.reset.setRing 3 { head := [7], hwm := 5, pushSeq := 4, popSeq := 3 }, by decide⟩,
    ⟨.sup 0, 3, State.reset.setBit (Reg.RING_CTRL + 0x300) 31 true, by decide⟩,
    ⟨.sup 0, 3, 0, State.reset.setRing 3 { head := [7], hwm := 5, pushSeq := 4, popSeq := 3 }, by decide⟩,
    ⟨.sup 0, 3, 1, (State.reset.setBit (Reg.RING_CTRL + 0x300) 0 false).setFld (Reg.RING_SPILL_SIZE + 0x300) 4 0 3, by decide⟩,
    ⟨.sup 0, 3, 1, State.reset.setBit (Reg.RING_CTRL + 0x300) 0 false, by decide⟩⟩

theorem witness_SubFramesStartLatchAndEnd :
    (∃ (p : PortId) (s : State), s.pEn p.val = true ∧ s.stopped = false ∧ s.running = true ∧ phaseBefore s.phase (s.startOf p.val (s.nextLatch p.val (s.port p.val).lastPh)) = false ∧ (s.port p.val).enAt + 10000 ≤ s.mono) ∧
    (∃ (p : PortId) (s : State), s.pEn p.val = true ∧ s.stopped = false ∧ s.running = true ∧ phaseBefore s.phase (s.startOf p.val (s.nextLatch p.val (s.port p.val).lastPh)) = false ∧ s.mono < (s.port p.val).enAt + 10000) ∧
    (∃ (p : PortId) (x : SubFrame) (s : State), s.stopped = false ∧ (s.port p.val).sfs = [x] ∧ x.latched = false ∧ x.stream = true ∧ x.fs = true ∧ x.le = none ∧ phaseBefore s.phase x.latch = false ∧ s.portGate p.val = true) ∧
    (∃ (p : PortId) (x : SubFrame) (s : State), s.stopped = false ∧ (s.port p.val).sfs = [x] ∧ x.latched = false ∧ x.stream = true ∧ x.fs = true ∧ x.le = none ∧ x.blank = false ∧ phaseBefore s.phase x.latch = false ∧ s.portGate p.val = true) ∧
    (∃ (p : PortId) (x : SubFrame) (s : State), ((s.port p.val).sfs.find? fun y => y.latched && State.owesLe y && y.fs) = some x) ∧
    (∃ (p : PortId) (x : SubFrame) (s : State), ((s.port p.val).sfs.find? fun y => y.latched && State.owesLe y) = some x ∧ s.stopped = false ∧ phaseBefore s.phase (s.nextLatchAfter p.val x) = false ∧ s.faultRoom) ∧
    (∃ (a : Act) (s : State), (s.issued.find? fun x => actCode x.act == 2) = some a ∧ actTarget a.act < 4 ∧ s.paired (actTarget a.act) = false ∧ s.pEn (actTarget a.act) = true ∧ s.stopped = false ∧ wfld a.a1 8 8 = 0 ∧ wfld a.a1 10 10 = 0) ∧
    (∃ (ag : Agent) (p : PortId) (w : Word) (s : State), s.canWrite ag (State.pReg Reg.PLATE_CTRL p.val) ∧ s.pEn p.val = false ∧ (s.plainWrite ag (State.pReg Reg.PLATE_CTRL p.val) (wset (w ||| 1) 0 0 0)).cfgOk p.val = true) ∧
    (∃ (ag : Agent) (p : PortId) (w : Word) (s : State), s.canWrite ag (State.pReg Reg.PLATE_CTRL p.val) ∧ s.pEn p.val = false ∧ (s.plainWrite ag (State.pReg Reg.PLATE_CTRL p.val) (wset (w ||| 1) 0 0 0)).cfgOk p.val = false ∧ s.faultRoom) ∧
    (∃ (ag : Agent) (p : PortId) (w : Word) (s : State), s.canWrite ag (State.pReg Reg.PLATE_CTRL p.val) ∧ s.pEn p.val = true) ∧
    (∃ (p : PortId) (s : State), s.pState p.val = 3 ∧ (s.port p.val).sfs = []) ∧
    (∃ (ag : Agent) (p : PortId) (s : State), s.canWrite ag (State.pReg Reg.PLATE_CMD p.val) ∧ s.paired p.val = false) :=
  ⟨⟨1, plateRun, by decide⟩,
    ⟨1, { plateRun with mono := 7 }, by decide⟩,
    ⟨1, plateSf, plateRun.updPort 1 fun v => { v with sfs := [plateSf] }, by decide⟩,
    ⟨1, plateSf, plateRun.updPort 1 fun v => { v with sfs := [plateSf] }, by decide⟩,
    ⟨1, { plateSf with latched := true }, plateRun.updPort 1 fun v => { v with sfs := [{ plateSf with latched := true }] }, by decide⟩,
    ⟨1, { plateSf with latched := true, latch := 0 }, plateRun.updPort 1 fun v => { v with sfs := [{ plateSf with latched := true, latch := 0 }] }, by decide⟩,
    ⟨⟨0x102, 77, 0x801, 0x8000, 0, 0, 0, 0, 0, 0⟩, { plateRun with issued := [⟨0x102, 77, 0x801, 0x8000, 0, 0, 0, 0, 0, 0⟩] }, by decide⟩,
    ⟨.sup 2, 1, 0x2A8, plateOff, by decide +kernel⟩,
    ⟨.sup 2, 1, 0, State.reset, by decide +kernel⟩,
    ⟨.sup 2, 1, 0x230, plateRun, by decide⟩,
    ⟨1, State.reset.setPState 1 3, by decide⟩,
    ⟨.sup 2, 1, State.reset, by decide⟩⟩

theorem witness_PlateBufferCommands :
    (∃ (ag : Agent) (b : Nat) (s : State), s.canWrite ag Reg.PLATE_BUF_CMD ∧ b = s.afld (agIdx ag) Reg.PLATE_BUF_SEL 11 0 ∧ (s.buf b).allEmpty = true ∧ bufCfgBad ((s.areg64 (agIdx ag) Reg.PLATE_BUF_BASE_LO).toNat % 2 ^ 40) (s.areg (agIdx ag) Reg.PLATE_BUF_SLOT).toNat (s.afld (agIdx ag) Reg.PLATE_BUF_CFG 2 0) = false) ∧
    (∃ (ag : Agent) (b : Nat) (s : State), s.canWrite ag Reg.PLATE_BUF_CMD ∧ b = s.afld (agIdx ag) Reg.PLATE_BUF_SEL 11 0 ∧ (s.buf b).allEmpty = false ∧ s.faultRoom) ∧
    (∃ (ag : Agent) (b : Nat) (s : State), s.canWrite ag Reg.PLATE_BUF_CMD ∧ b = s.afld (agIdx ag) Reg.PLATE_BUF_SEL 11 0 ∧ (s.buf b).allEmpty = true ∧ bufCfgBad ((s.areg64 (agIdx ag) Reg.PLATE_BUF_BASE_LO).toNat % 2 ^ 40) (s.areg (agIdx ag) Reg.PLATE_BUF_SLOT).toNat (s.afld (agIdx ag) Reg.PLATE_BUF_CFG 2 0) = true ∧ s.faultRoom) ∧
    (∃ (ag : Agent) (b : Nat) (s : State), s.canWrite ag Reg.PLATE_BUF_CMD ∧ b = s.afld (agIdx ag) Reg.PLATE_BUF_SEL 11 0 ∧ (s.buf b).valid = true ∧ (s.buf b).depth = 1 ∧ (s.buf b).allEmpty = true) ∧
    (∃ (ag : Agent) (b : Nat) (g : Word) (s : State), s.canWrite ag Reg.PLATE_BUF_CMD ∧ b = s.afld (agIdx ag) Reg.PLATE_BUF_SEL 11 0 ∧ g = s.areg (agIdx ag) Reg.PLATE_BUF_GEN ∧ (s.buf b).valid = true ∧ ((s.buf b).slot ((s.buf b).slotOf g)).state = 0) ∧
    (∃ (ag : Agent) (b : Nat) (g : Word) (s : State), s.canWrite ag Reg.PLATE_BUF_CMD ∧ b = s.afld (agIdx ag) Reg.PLATE_BUF_SEL 11 0 ∧ g = s.areg (agIdx ag) Reg.PLATE_BUF_GEN ∧ (s.buf b).holds g [1] = true) ∧
    (∃ (ag : Agent) (b : Nat) (g : Word) (s : State), s.canWrite ag Reg.PLATE_BUF_CMD ∧ b = s.afld (agIdx ag) Reg.PLATE_BUF_SEL 11 0 ∧ g = s.areg (agIdx ag) Reg.PLATE_BUF_GEN ∧ (s.buf b).valid = true ∧ (s.buf b).holds g [1, 2] = false ∧ s.faultRoom) ∧
    (∃ (ag : Agent) (b : Nat) (g : Word) (s : State), s.canWrite ag Reg.PLATE_BUF_CMD ∧ b = s.afld (agIdx ag) Reg.PLATE_BUF_SEL 11 0 ∧ g = s.areg (agIdx ag) Reg.PLATE_BUF_GEN ∧ (s.buf b).holds g [1, 2] = true ∧ ((s.buf b).slot ((s.buf b).slotOf g)).pins = 0 ∧ (s.buf b).auto = false) ∧
    (∃ (ag : Agent) (b : Nat) (g : Word) (s : State), s.canWrite ag Reg.PLATE_BUF_CMD ∧ b = s.afld (agIdx ag) Reg.PLATE_BUF_SEL 11 0 ∧ g = s.areg (agIdx ag) Reg.PLATE_BUF_GEN ∧ (s.buf b).holds g [1, 2] = true ∧ 0 < ((s.buf b).slot ((s.buf b).slotOf g)).pins ∧ s.faultRoom) ∧
    (∃ (ag : Agent) (b : Nat) (s : State), s.canWrite ag Reg.PLATE_BUF_CMD ∧ b = s.afld (agIdx ag) Reg.PLATE_BUF_SEL 11 0 ∧ (s.buf b).allEmpty = true) ∧
    (∃ (ag : Agent) (seven : Bool) (s : State), s.canWrite ag Reg.PLATE_BUF_CMD) :=
  ⟨⟨.sup 0, 5, (((State.reset.setAreg 0 Reg.PLATE_BUF_SEL 5).setAreg 0 (Reg.PLATE_BUF_BASE_LO + 4) 0x11).setAreg 0 Reg.PLATE_BUF_SLOT 64).setAreg 0 Reg.PLATE_BUF_CFG 0xA, by decide⟩,
    ⟨.sup 0, 0, State.reset.setBuf 0 { valid := true, depth := 1, slots := ({} : SMap Slot).put {} 0 ⟨1, 5, 0⟩ }, by decide⟩,
    ⟨.sup 0, 0, State.reset, by decide⟩,
    ⟨.sup 0, 0, (State.reset.setBuf 0 { valid := true, depth := 1 }).setAreg 0 Reg.PLATE_BUF_GEN 9, by decide⟩,
    ⟨.sup 0, 0, 9, (State.reset.setBuf 0 { valid := true, depth := 4 }).setAreg 0 Reg.PLATE_BUF_GEN 9, by decide⟩,
    ⟨.sup 0, 0, 9, (State.reset.setBuf 0 { valid := true, depth := 4, slots := ({} : SMap Slot).put {} 1 ⟨1, 9, 2⟩ }).setAreg 0 Reg.PLATE_BUF_GEN 9, by decide⟩,
    ⟨.sup 0, 0, 9, (State.reset.setBuf 0 { valid := true, depth := 4 }).setAreg 0 Reg.PLATE_BUF_GEN 9, by decide⟩,
    ⟨.sup 0, 0, 9, (State.reset.setBuf 0 { valid := true, depth := 4, slots := ({} : SMap Slot).put {} 1 ⟨2, 9, 0⟩ }).setAreg 0 Reg.PLATE_BUF_GEN 9, by decide⟩,
    ⟨.sup 0, 0, 9, (State.reset.setBuf 0 { valid := true, depth := 4, slots := ({} : SMap Slot).put {} 1 ⟨2, 9, 1⟩ }).setAreg 0 Reg.PLATE_BUF_GEN 9, by decide⟩,
    ⟨.sup 0, 0, State.reset.setBuf 0 { valid := true, depth := 4 }, by decide⟩,
    ⟨.sup 0, true, State.reset, by decide⟩⟩

theorem witness_LinkReadbackIsChecked :
    (∃ (p : PortId) (n : Word) (sf : Fin 8) (st : Fin 4) (crc : Word) (s : State), s.linkHears p.val = true) ∧
    (∃ (p : PortId) (n : Word) (sf : Fin 8) (crc : Word) (s : State), s.linkHears p.val = true ∧ s.lcMatch p.val n.toNat sf.val crc = true ∧ s.lcConfirms p.val n.toNat sf.val = true) ∧
    (∃ (p : PortId) (n : Word) (sf : Fin 8) (crc : Word) (s : State), s.linkHears p.val = true ∧ s.lcMatch p.val n.toNat sf.val crc = false ∧ s.faultRoom) ∧
    (∃ (p : PortId) (n : Word) (sf : Fin 8) (crc : Word) (s : State), s.linkHears p.val = true ∧ s.lcMatch p.val n.toNat sf.val crc = false ∧ s.bit (State.pReg Reg.PLATE_LINK_CTRL p.val) 5 = true) ∧
    (∃ (p : PortId) (n : Word) (sf : Fin 8) (crc : Word) (s : State), s.linkHears p.val = true) ∧
    (∃ (p : PortId) (tag qcode : Byte) (data : List DWord) (d0 d1 : DWord) (s : State), s.linkHears p.val = true ∧ data = [d0, d1]) ∧
    (∃ (p : PortId) (tag qcode : Byte) (data : List DWord) (s : State), s.lState p.val = 4 ∧ s.fld (State.pReg Reg.PLATE_LINK_TEST p.val) 1 0 = 0 ∧ s.pstateReq p.val = 0) ∧
    (∃ (p : PortId) (tag : Byte) (data : List DWord) (q : Query) (s : State), s.lState p.val = 5 ∧ (s.port p.val).query = some q ∧ q.code = 3 ∧ q.tag = tag.toNat ∧ (q.arg = 1 ∨ q.arg = 2)) ∧
    (∃ (p : PortId) (lc : Fin 4) (lm : Fin 16) (s : State), s.lState p.val = 3 ∧ lc.val = (s.port p.val).lanes ∧ s.coversLanes p.val lm.val = true ∧ (s.port p.val).aligns ≠ 0 ∧ s.refOk (52 + 4 * p.val) = true) ∧
    (∃ (p : PortId) (lc : Fin 4) (lm : Fin 16) (s : State), (s.lState p.val = 5 ∨ s.lState p.val = 6) ∧ lm.val &&& s.usedMask p.val ≠ s.usedMask p.val ∧ s.refOk (52 + 4 * p.val) = true ∧ s.faultRoom) ∧
    (∃ (p : PortId) (s : State), (s.lState p.val = 5 ∨ s.lState p.val = 6) ∧ s.faultRoom) ∧
    (∃ (p : PortId) (s : State), s.lState p.val = 3) ∧
    (∃ (p : PortId) (eop : Nat) (s : State), s.bit (State.pReg Reg.PLATE_LINK_CTRL p.val) 4 = true ∧ (s.port p.val).teWait = some eop) ∧
    (∃ (p : PortId) (eop : Nat) (s : State), (s.port p.val).teWait = some eop ∧ s.isLastLe p.val (s.reg (State.pReg Reg.PLATE_LC_FRAME p.val)).toNat (s.fld (State.pReg Reg.PLATE_LC_INFO p.val) 2 0) = true ∧ s.fld (State.pReg Reg.PLATE_LC_INFO p.val) 4 3 ≠ 1 ∧ eop + s.fld (State.pReg Reg.PLATE_TE p.val) 15 0 * 1000 ≤ s.mono) ∧
    (∃ (p : PortId) (s : State), s.lState p.val = 6 ∧ max 1 (s.fld (State.pReg Reg.PLATE_TE p.val) 23 16) ≤ (s.port p.val).stall ∧ s.faultRoom) :=
  ⟨⟨1, 4, 0, 0, 0, linkSt 6, by decide⟩,
    ⟨1, 4, 0, 9, (linkSt 6).updPort 1 fun v => { v with lastLe := some (4, 0, 9), crcs := [(4, 0, 9)] }, by decide⟩,
    ⟨1, 4, 0, 9, linkSt 6, by decide⟩,
    ⟨1, 4, 0, 9, (linkSt 6).setBit (State.pReg Reg.PLATE_LINK_CTRL 1) 5 true, by decide⟩,
    ⟨1, 4, 0, 9, linkSt 6, by decide⟩,
    ⟨1, 0, 0, [7, 8], 7, 8, linkSt 6, by decide⟩,
    ⟨1, 0, 0, [7, 8], linkSt 4, by decide⟩,
    ⟨1, 9, [], ⟨3, 9, 2, 1, 0⟩, (linkSt 5).updPort 1 fun v => { v with query := some ⟨3, 9, 2, 1, 0⟩ }, by decide⟩,
    ⟨1, 2, 15, ((linkSt 3).updPort 1 fun v => { v with lanes := 2, aligns := 1 }).setReg Reg.SERDES_REF_STAT 4, by decide⟩,
    ⟨1, 2, 14, ((linkSt 6).updPort 1 fun v => { v with lanes := 2 }).setReg Reg.SERDES_REF_STAT 4, by decide⟩,
    ⟨1, linkSt 5, by decide⟩,
    ⟨1, linkSt 3, by decide⟩,
    ⟨1, 90, { ((linkSt 6).setBit (State.pReg Reg.PLATE_LINK_CTRL 1) 4 true).updPort 1 (fun v => { v with teWait := some 90 }) with mono := 100 }, by decide⟩,
    ⟨1, 0, { (linkSt 6).updPort 1 (fun v => { v with teWait := some 0, lastLe := some (0, 0, 9) }) with mono := 100000000 }, by decide⟩,
    ⟨1, (linkSt 6).updPort 1 fun v => { v with stall := 256 }, by decide⟩⟩

theorem witness_LinkStatesChange :
    (∃ (p : PortId) (s : State), (s.port p.val).det = false ∧ s.lState p.val = 1) ∧
    (∃ (p : PortId) (s : State), (s.port p.val).det = true ∧ s.lState p.val = 2) ∧
    (∃ (p : PortId) (s : State), s.lState p.val = 2 ∧ (s.port p.val).det = true ∧ (s.port p.val).since + s.fld (State.pReg Reg.PLATE_ENG_DET p.val) 15 0 * 1000000 ≤ s.mono ∧ s.faultRoom) ∧
    (∃ (p : PortId) (s : State), 3 ≤ s.lState p.val ∧ (s.port p.val).det = false ∧ (s.port p.val).detAt + s.fld (State.pReg Reg.PLATE_ENG_DET p.val) 31 16 * 1000 ≤ s.mono ∧ s.faultRoom) ∧
    (∃ (p : PortId) (s : State), s.lState p.val = 3 ∧ (s.port p.val).since + s.fld (State.pReg Reg.PLATE_TRAIN p.val) 15 0 * 1000000 ≤ s.mono ∧ (s.port p.val).trained = true ∧ s.faultRoom) ∧
    (∃ (p : PortId) (q : Query) (s : State), s.lState p.val = 4 ∧ (s.port p.val).query = some q ∧ q.code = 1 ∧ q.sent + 1000000 ≤ s.mono ∧ q.tries < 3) ∧
    (∃ (p : PortId) (q : Query) (s : State), s.lState p.val = 4 ∧ (s.port p.val).query = some q ∧ q.code = 1 ∧ q.sent + 1000000 ≤ s.mono ∧ 3 ≤ q.tries ∧ s.faultRoom) ∧
    (∃ (p : PortId) (q : Query) (s : State), s.lState p.val = 5 ∧ (s.port p.val).query = some q ∧ q.code = 3 ∧ q.sent + 1000000 ≤ s.mono ∧ 3 ≤ q.tries ∧ s.faultRoom) ∧
    (∃ (ag : Agent) (p : PortId) (w : Word) (s : State), s.canWrite ag (State.pReg Reg.PLATE_LINK_CTRL p.val) ∧ (wfld w 3 2 = 3 ∨ (wfld w 3 0 ≠ s.fld (State.pReg Reg.PLATE_LINK_CTRL p.val) 3 0 ∧ s.lState p.val = 6)) ∧ s.faultRoom) ∧
    (∃ (ag : Agent) (p : PortId) (w : Word) (s : State), s.canWrite ag (State.pReg Reg.PLATE_LINK_CTRL p.val) ∧ wfld w 3 2 ≠ 3 ∧ s.lState p.val = 0 ∧ s.bit (State.pReg Reg.PLATE_LINK_CTRL p.val) 4 = false ∧ wfld w 4 4 = 1 ∧ wfld w 6 6 = 0 ∧ wfld w 8 7 = 0) ∧
    (∃ (ag : Agent) (p : PortId) (w : Word) (s : State), s.canWrite ag (State.pReg Reg.PLATE_LINK_CTRL p.val) ∧ wfld w 3 0 = s.fld (State.pReg Reg.PLATE_LINK_CTRL p.val) 3 0 ∧ wfld w 3 2 ≠ 3 ∧ s.bit (State.pReg Reg.PLATE_LINK_CTRL p.val) 4 = true ∧ wfld w 4 4 = 0) ∧
    (∃ (ag : Agent) (p : PortId) (s : State), s.canWrite ag (State.pReg Reg.PLATE_LINK_CMD p.val) ∧ 3 ≤ s.lState p.val ∧ s.lState p.val ≤ 9) ∧
    (∃ (ag : Agent) (p : PortId) (s : State), s.canWrite ag (State.pReg Reg.PLATE_LINK_CMD p.val) ∧ s.lState p.val < 3) ∧
    (∃ (ag : Agent) (p : PortId) (s : State), s.canWrite ag (State.pReg Reg.PLATE_LINK_CMD p.val)) ∧
    (∃ (p : PortId) (s : State), s.lState p.val = 5 ∧ max (s.port p.val).statAt (s.port p.val).since + 1000000 ≤ s.mono ∧ s.fld (State.pReg Reg.PLATE_LINK_TEST p.val) 1 0 = 0 ∧ s.pstateReq p.val = 0) ∧
    (∃ (p : PortId) (at' : Nat) (s : State), s.lState p.val = 7 ∧ (s.port p.val).pexit = some at' ∧ at' + 1000000 ≤ s.mono) ∧
    (∃ (p : PortId) (at' : Nat) (s : State), s.lState p.val = 8 ∧ (s.port p.val).pexit = some at' ∧ at' + 20000 ≤ s.mono) ∧
    (∃ (ag : Agent) (p : PortId) (w : Word) (s : State), s.canWrite ag (State.pReg Reg.PLATE_LINK_TEST p.val) ∧ wfld w 1 0 ≠ 0 ∧ s.pEn p.val = true ∧ s.faultRoom) ∧
    (∃ (ag : Agent) (p : PortId) (w : Word) (s : State), s.canWrite ag (State.pReg Reg.PLATE_LINK_TEST p.val) ∧ (wfld w 1 0 = 1 ∨ wfld w 1 0 = 2) ∧ s.pEn p.val = false ∧ s.lState p.val = 5) ∧
    (∃ (p : PortId) (errs : List Word) (at' : Nat) (s : State), s.lState p.val = 9 ∧ (s.port p.val).testEnd = some at' ∧ at' ≤ s.mono) :=
  ⟨⟨1, linkSt 1, by decide⟩,
    ⟨1, (linkSt 2).updPort 1 fun v => { v with det := true }, by decide⟩,
    ⟨1, { (linkSt 2).updPort 1 (fun v => { v with det := true }) with mono := 100000000000 }, by decide⟩,
    ⟨1, { linkSt 6 with mono := 100000000000 }, by decide⟩,
    ⟨1, { (linkSt 3).updPort 1 (fun v => { v with trained := true }) with mono := 100000000000 }, by decide⟩,
    ⟨1, ⟨1, 9, 0, 1, 0⟩, { (linkSt 4).updPort 1 (fun v => { v with query := some ⟨1, 9, 0, 1, 0⟩ }) with mono := 1000000 }, by decide⟩,
    ⟨1, ⟨1, 9, 0, 3, 0⟩, { (linkSt 4).updPort 1 (fun v => { v with query := some ⟨1, 9, 0, 3, 0⟩ }) with mono := 1000000 }, by decide⟩,
    ⟨1, ⟨3, 9, 1, 3, 0⟩, { (linkSt 5).updPort 1 (fun v => { v with query := some ⟨3, 9, 1, 3, 0⟩ }) with mono := 1000000 }, by decide⟩,
    ⟨.sup 0, 1, 0xC, State.reset, by decide⟩,
    ⟨.sup 0, 1, 0x10, State.reset, by decide⟩,
    ⟨.sup 0, 1, 0, (linkSt 5).setReg (State.pReg Reg.PLATE_LINK_CTRL 1) 0x10, by decide⟩,
    ⟨.sup 0, 1, linkSt 9, by decide⟩,
    ⟨.sup 0, 1, linkSt 2, by decide⟩,
    ⟨.sup 0, 1, (linkSt 6).setBit (State.pReg Reg.PLATE_LINK_STATUS 1) 7 true, by decide⟩,
    ⟨1, { linkSt 5 with mono := 1000000 }, by decide⟩,
    ⟨1, 0, { (linkSt 7).updPort 1 (fun v => { v with pexit := some 0 }) with mono := 1000000 }, by decide⟩,
    ⟨1, 0, { (linkSt 8).updPort 1 (fun v => { v with pexit := some 0 }) with mono := 1000000 }, by decide⟩,
    ⟨.sup 0, 1, 1, plateRun, by decide⟩,
    ⟨.sup 0, 1, 1, linkSt 5, by decide⟩,
    ⟨1, [0, 5, 0, 0xFFFFFFFF], 0, (linkSt 9).updPort 1 fun v => { v with testEnd := some 0 }, by decide⟩⟩

theorem witness_RegionCommandsStageForTheCut :
    (∃ (ag : Agent) (p r : Nat) (s : State), s.canWrite ag Reg.OCC_RGN_CMD ∧ s.afld (agIdx ag) Reg.OCC_RGN_SEL 9 8 = p ∧ s.afld (agIdx ag) Reg.OCC_RGN_SEL 7 0 = r ∧ State.rgnCfgBad (s.rgnStaged (agIdx ag)) = false ∧ shapeOk (regionShape (s.occ p).xfCmd (s.rgnStaged (agIdx ag)).kind (s.rgnStaged (agIdx ag)).nv (s.rgnStaged (agIdx ag)).geo) = true) ∧
    (∃ (ag : Agent) (s : State), s.canWrite ag Reg.OCC_RGN_CMD ∧ (s.afld (agIdx ag) Reg.OCC_RGN_CFG0 2 1 = 3 ∨ s.afld (agIdx ag) Reg.OCC_RGN_CFG1 15 0 < s.afld (agIdx ag) Reg.OCC_RGN_CFG1 31 16 ∨ (s.afld (agIdx ag) Reg.OCC_RGN_CFG0 0 0 = 1 ∧ s.afld (agIdx ag) Reg.OCC_RGN_CFG2 15 0 = 0) ∨ (s.afld (agIdx ag) Reg.OCC_RGN_CFG0 2 1 = 0 ∧ (s.afld (agIdx ag) Reg.OCC_RGN_CFG0 8 4 < 3 ∨ 16 < s.afld (agIdx ag) Reg.OCC_RGN_CFG0 8 4))) ∧ s.faultRoom) ∧
    (∃ (ag : Agent) (p r : Nat) (s : State), s.canWrite ag Reg.OCC_RGN_CMD ∧ s.afld (agIdx ag) Reg.OCC_RGN_SEL 9 8 = p ∧ s.afld (agIdx ag) Reg.OCC_RGN_SEL 7 0 = r ∧ State.rgnCfgBad (s.rgn p r) = false ∧ shapeOk (regionShape (s.occ p).xfCmd (s.rgn p r).kind (s.rgn p r).nv (s.rgn p r).geo) = true) ∧
    (∃ (ag : Agent) (p r : Nat) (s : State), s.canWrite ag Reg.OCC_RGN_CMD ∧ s.afld (agIdx ag) Reg.OCC_RGN_SEL 9 8 = p ∧ s.afld (agIdx ag) Reg.OCC_RGN_SEL 7 0 = r ∧ State.rgnCfgBad (s.rgn p r) = false ∧ shapeOk (regionShape (s.occ p).xfCmd (s.rgn p r).kind (s.rgn p r).nv (s.rgn p r).geo) = false ∧ s.faultRoom) ∧
    (∃ (ag : Agent) (p r : Nat) (s : State), s.canWrite ag Reg.OCC_RGN_CMD ∧ s.afld (agIdx ag) Reg.OCC_RGN_SEL 9 8 = p ∧ s.afld (agIdx ag) Reg.OCC_RGN_SEL 7 0 = r) ∧
    (∃ (ag : Agent) (p r : Nat) (s : State), s.canWrite ag Reg.OCC_RGN_CMD ∧ s.afld (agIdx ag) Reg.OCC_RGN_SEL 9 8 = p ∧ s.afld (agIdx ag) Reg.OCC_RGN_SEL 7 0 = r ∧ (s.rgn p r).feed = false) ∧
    (∃ (ag : Agent) (p r : Nat) (s : State), s.canWrite ag Reg.OCC_RGN_CMD ∧ s.afld (agIdx ag) Reg.OCC_RGN_SEL 9 8 = p ∧ s.afld (agIdx ag) Reg.OCC_RGN_SEL 7 0 = r ∧ (s.rgn p r).feed = true ∧ s.faultRoom) ∧
    (∃ (ag : Agent) (p r : Nat) (s : State), s.canWrite ag Reg.OCC_RGN_CMD ∧ s.afld (agIdx ag) Reg.OCC_RGN_SEL 9 8 = p ∧ s.afld (agIdx ag) Reg.OCC_RGN_SEL 7 0 = r) ∧
    (∃ (ag : Agent) (op : Fin 3) (s : State), s.canWrite ag Reg.OCC_RGN_CMD ∧ s.faultRoom) ∧
    (∃ (ag : Agent) (p : PortId) (s : State), s.canWrite ag (Reg.OCC_CMD + State.pOfs p.val)) ∧
    (∃ (ag : Agent) (p : PortId) (k : Fin 256) (w : Word) (s : State), s.canWrite ag (Reg.OCC_RET_W0 + State.pOfs p.val + 0x20 * k.val)) ∧
    (∃ (ag : Agent) (second : Bool) (s : State), s.canWrite ag Reg.OCC_GLYPH_CMD ∧ s.glyphBad (b2n second) = none) ∧
    (∃ (ag : Agent) (second : Bool) (g : Nat) (s : State), s.canWrite ag Reg.OCC_GLYPH_CMD ∧ s.glyphBad (b2n second) = some g ∧ s.faultRoom) :=
  ⟨⟨.sup 0, 1, 5, rgnSt 0x30, by decide⟩,
    ⟨.sup 0, rgnSt 0x20, by decide⟩,
    ⟨.sup 0, 1, 5, rgnHeld, by decide⟩,
    ⟨.sup 0, 1, 5, { rgnHeld with rgns := ({} : SMap Region256).put {} 261 { nv := 3, geo := [0, 0, 800, 0, 1600, 0], ceil := 0x400 } }, by decide⟩,
    ⟨.sup 0, 1, 5, rgnHeld, by decide⟩,
    ⟨.sup 0, 1, 5, rgnHeld, by decide⟩,
    ⟨.sup 0, 1, 5, { rgnHeld with rgns := ({} : SMap Region256).put {} 261 { feed := true } }, by decide⟩,
    ⟨.sup 0, 1, 5, rgnHeld, by decide⟩,
    ⟨.sup 0, 2, rgnHeld, by decide⟩,
    ⟨.sup 0, 1, State.reset, by decide⟩,
    ⟨.sup 0, 1, 3, 0x12345678, State.reset, by decide⟩,
    ⟨.sup 0, false, (State.reset.setReg64 Reg.OCC_GLYPH_BASE_LO 0x1100000000).setReg Reg.OCC_GLYPH_SIZE 16384, by decide +kernel⟩,
    ⟨.sup 0, true, 0, State.reset, by decide⟩⟩

theorem witness_TheCutTakesWhatWasCommanded :
    (∃ (p : PortId) (l : List Int) (s : State), s.pEn p.val = true ∧ s.stopped = false ∧ phaseBefore s.phase (s.startOf p.val (s.nextLatch p.val (s.port p.val).lastPh) - BitVec.ofNat 64 (s.cutNs p.val * s.incNom / 2 ^ 32)) = false ∧ (s.occ p.val).cutFor ≠ some (s.startOf p.val (s.nextLatch p.val (s.port p.val).lastPh)) ∧ s.twinFollows p.val = false ∧ (s.occ p.val).changes = [.xform l]) ∧
    (∃ (p : PortId) (r : Nat) (ptp : Int) (mono : Nat) (s : State), s.pEn p.val = true ∧ s.stopped = false ∧ phaseBefore s.phase (s.startOf p.val (s.nextLatch p.val (s.port p.val).lastPh) - BitVec.ofNat 64 (s.cutNs p.val * s.incNom / 2 ^ 32)) = false ∧ (s.occ p.val).cutFor ≠ some (s.startOf p.val (s.nextLatch p.val (s.port p.val).lastPh)) ∧ s.twinFollows p.val = false ∧ (s.occ p.val).changes = [.arm r ptp mono]) ∧
    (∃ (p : PortId) (m : Option (Fin 256)) (s : State), (s.pEn p.val = false ∨ s.stopped = true ∨ (s.occ p.val).cutFor = some (s.startOf p.val (s.nextLatch p.val (s.port p.val).lastPh)))) ∧
    (∃ (p : PortId) (s : State), s.pEn p.val = true ∧ s.stopped = false ∧ phaseBefore s.phase (s.startOf p.val (s.nextLatch p.val (s.port p.val).lastPh) - BitVec.ofNat 64 (s.cutNs p.val * s.incNom / 2 ^ 32)) = false ∧ (s.occ p.val).cutFor ≠ some (s.startOf p.val (s.nextLatch p.val (s.port p.val).lastPh))) ∧
    (∃ (m : MacId) (ip : Word) (pl : List Byte) (why : Nat) (s : State), s.bit Reg.OCC_FEED_CTRL 16 = true ∧ s.feedReason (s.bit (Reg.OCC_FEED_PORTS_LO + m.val / 32 * 4) (m.val % 32) && (!s.bit Reg.OCC_FEED_CTRL 18 || s.reg Reg.OCC_FEED_SRCIP == ip)) pl = why ∧ why ≠ 0 ∧ s.onceOk Code.OCC_FEED_REJECT 1000000000 = true ∧ s.faultRoom) ∧
    (∃ (m : MacId) (ip : Word) (pl : List Byte) (it : List Byte) (p r : Byte) (s : State), s.bit Reg.OCC_FEED_CTRL 16 = true ∧ s.feedReason (s.bit (Reg.OCC_FEED_PORTS_LO + m.val / 32 * 4) (m.val % 32) && (!s.bit Reg.OCC_FEED_CTRL 18 || s.reg Reg.OCC_FEED_SRCIP == ip)) pl = 0 ∧ State.feedItems (pl.getD 3 0).toNat ((pl.drop 0x20).take (pl.length - 0x24)) = some [it] ∧ it = [p, r, 3, 0] ∧ p.toNat < 4 ∧ (s.rgn p.toNat r.toNat).armed = true ∧ (s.rgn p.toNat r.toNat).feed = true ∧ (s.rgn p.toNat r.toNat).source = 0) ∧
    (∃ (m : MacId) (ip : Word) (pl : List Byte) (it : List Byte) (p r : Byte) (s : State), s.bit Reg.OCC_FEED_CTRL 16 = true ∧ s.feedReason (s.bit (Reg.OCC_FEED_PORTS_LO + m.val / 32 * 4) (m.val % 32) && (!s.bit Reg.OCC_FEED_CTRL 18 || s.reg Reg.OCC_FEED_SRCIP == ip)) pl = 0 ∧ State.feedItems (pl.getD 3 0).toNat ((pl.drop 0x20).take (pl.length - 0x24)) = some [it] ∧ it = [p, r, 3, 0] ∧ (s.rgn p.toNat r.toNat).armed = false) ∧
    (∃ (m : MacId) (ip : Word) (pl : List Byte) (s : State), s.bit Reg.OCC_FEED_CTRL 16 = false) ∧
    (∃ (ag : Agent) (p : PortId) (s : State), s.canWrite ag (Reg.OCC_CMD + State.pOfs p.val) ∧ s.bit (Reg.OCC_STATUS + State.pOfs p.val) 0 = true ∧ s.bit (Reg.OCC_STATUS + State.pOfs p.val) 4 = true) ∧
    (∃ (ag : Agent) (p : PortId) (s : State), s.canWrite ag (Reg.OCC_CMD + State.pOfs p.val) ∧ (s.bit (Reg.OCC_STATUS + State.pOfs p.val) 0 = false ∨ s.bit (Reg.OCC_STATUS + State.pOfs p.val) 4 = false)) ∧
    (∃ (ag : Agent) (p : PortId) (s : State), s.canWrite ag (Reg.OCC_CMD + State.pOfs p.val) ∧ s.bit (Reg.OCC_STATUS + State.pOfs p.val) 1 = false ∧ s.faultRoom) ∧
    (∃ (ag : Agent) (p : PortId) (s : State), s.canWrite ag (Reg.OCC_CMD + State.pOfs p.val) ∧ s.bit (Reg.OCC_STATUS + State.pOfs p.val) 2 = false) ∧
    (∃ (ag : Agent) (p : PortId) (s : State), s.canWrite ag (Reg.OCC_CMD + State.pOfs p.val) ∧ s.bit (Reg.OCC_STATUS + State.pOfs p.val) 2 = true) :=
  ⟨⟨1, [1, 2, 3, 4, 5, 6], plateRun.updOcc 1 fun o => { o with changes := [.xform [1, 2, 3, 4, 5, 6]] }, by decide +kernel⟩,
    ⟨1, 5, 7, 9, plateRun.updOcc 1 fun o => { o with changes := [.arm 5 7 9] }, by decide +kernel⟩,
    ⟨1, none, State.reset, by decide⟩,
    ⟨1, plateRun, by decide +kernel⟩,
    ⟨3, 0, [], 1, feedSt, by decide⟩,
    ⟨3, 0, feedPl, [1, 5, 3, 0], 1, 5, feedSt, by decide +kernel⟩,
    ⟨3, 0, feedPl, [1, 5, 3, 0], 1, 5, { feedSt with rgns := {} }, by decide +kernel⟩,
    ⟨3, 0, [], State.reset, by decide⟩,
    ⟨.sup 2, 1, State.reset.setReg (Reg.OCC_STATUS + State.pOfs 1) 0x11, by decide⟩,
    ⟨.sup 2, 1, State.reset, by decide⟩,
    ⟨.sup 2, 1, State.reset, by decide⟩,
    ⟨.sup 2, 1, State.reset.setReg (Reg.OCC_STATUS + State.pOfs 1) 2, by decide⟩,
    ⟨.sup 2, 1, State.reset.setReg (Reg.OCC_STATUS + State.pOfs 1) 6, by decide⟩⟩

theorem witness_StringChannelsFollowTheirCommands :
    (∃ (n : StrId) (s : State), s.strEn n.val = true ∧ (s.strCh n.val).periodAt + (s.strCh n.val).period ≤ s.mono ∧ s.cal.cells.get none n.val = none ∧ (s.strCh n.val).fade = none ∧ s.strBound n.val = none ∧ s.strTemp n.val = none ∧ s.strsOff = false ∧ s.under = 3 ∧ 1 ≤ s.strState n.val ∧ s.strState n.val ≤ 3 ∧ 0 < (s.strCh n.val).level ∧ s.strLevel n.val = (s.strCh n.val).level) ∧
    (∃ (n : StrId) (s : State), (s.strEn n.val = false ∨ s.mono < (s.strCh n.val).periodAt + (s.strCh n.val).period)) ∧
    (∃ (a : Act) (s : State), (s.issued.find? fun x => actCode x.act == 5) = some a ∧ actTarget a.act < 32 ∧ s.strBound (actTarget a.act) = none) ∧
    (∃ (a : Act) (p : Nat) (s : State), (s.issued.find? fun x => actCode x.act == 5) = some a ∧ actTarget a.act < 32 ∧ s.strBound (actTarget a.act) = some p ∧ s.onceFrameOk (Code.STRING_BIND_IGNORED + 65536 * actTarget a.act) = true ∧ s.faultRoom) ∧
    (∃ (a : Act) (s : State), (s.issued.find? fun x => actCode x.act == 6) = some a ∧ wfld a.a0 21 16 < 32 ∧ wfld a.a0 23 22 ≠ 3 ∧ s.strBound (wfld a.a0 21 16) = none) ∧
    (∃ (a : Act) (s : State), (s.issued.find? fun x => actCode x.act == 6) = some a ∧ wfld a.a0 21 16 < 32 ∧ wfld a.a0 23 22 = 3 ∧ s.faultRoom) ∧
    (∃ (s : State), s.stopped = false ∧ s.fadeFrame ≠ some s.frame) ∧
    (∃ (s : State), (s.stopped = true ∨ s.fadeFrame = some s.frame)) ∧
    (∃ (n : StrId) (mv : BitVec 16) (s : State), s.strEn n.val = true ∧ s.strMeasured n.val = true ∧ s.senseClass mv.toNat = 0 ∧ (s.strState n.val = 1 ∨ s.strState n.val = 3)) ∧
    (∃ (n : StrId) (mv : BitVec 16) (s : State), s.strEn n.val = true ∧ s.strMeasured n.val = true ∧ s.senseClass mv.toNat = 1 ∧ 1 ≤ s.strState n.val ∧ s.strState n.val ≤ 3 ∧ (s.strCh n.val).runClass = 1 ∧ s.faultN ≤ (s.strCh n.val).badRun + 1 ∧ s.faultRoom) ∧
    (∃ (i : Fin 8) (r : Fin 65537) (x : Int) (s : State), ntcTemp r.val (s.fld (Reg.NTC_CFG + 0x10 * i.val) 31 16) (s.fld (Reg.NTC_BIAS + 0x10 * i.val) 15 0) (s.fld (Reg.NTC_CFG + 0x10 * i.val) 15 0) = some x ∧ 2 * 65536 ≤ 100 * r.val ∧ 100 * r.val ≤ 98 * 65536 ∧ 3 ≤ (s.ntcs.get {} i.val).good) ∧
    (∃ (i : Fin 8) (r : Fin 65537) (s : State), (98 * 65536 < 100 * r.val ∨ 100 * r.val < 2 * 65536) ∧ (s.ntcs.get {} i.val).bad = 3 ∧ s.faultRoom) ∧
    (∃ (n : StrId) (s : State), 8 ≤ (s.strCh n.val).hot ∧ s.strState n.val ≠ 7 ∧ s.faultRoom) ∧
    (∃ (n : StrId) (s : State), s.strState n.val = 2 ∧ (s.reg64 (State.strReg Reg.STR_LASTGOOD_LO n.val)).toNat + s.probeAfter ≤ s.mono) ∧
    (∃ (n : StrId) (s : State), s.strState n.val ≠ 1 ∧ s.strState n.val ≠ 2) ∧
    (∃ (n : StrId) (s : State), s.strState n.val = 3 ∧ (s.strCh n.val).probeAt + s.probePeriod ≤ s.mono) ∧
    (∃ (n : StrId) (s : State), s.strState n.val = 3 ∧ (s.strCh n.val).unverAt + s.probePeriod ≤ s.mono ∧ s.faultRoom) ∧
    (∃ (ag : Agent) (n : StrId) (s : State), s.canWrite ag (State.strReg Reg.STR_CMD n.val) ∧ 4 ≤ s.strState n.val ∧ s.strState n.val ≤ 6 ∧ (s.strCh n.val).convAt ≠ some s.mono) ∧
    (∃ (ag : Agent) (n : StrId) (s : State), s.canWrite ag (State.strReg Reg.STR_CMD n.val) ∧ 4 ≤ s.strState n.val ∧ s.strState n.val ≤ 6 ∧ (s.strCh n.val).convAt = some s.mono ∧ (s.strCh n.val).convClass = 0 ∧ 0 < s.strLevel n.val) ∧
    (∃ (ag : Agent) (n : StrId) (s : State), s.canWrite ag (State.strReg Reg.STR_CMD n.val) ∧ (s.strState n.val < 4 ∨ s.strState n.val = 7)) ∧
    (∃ (ag : Agent) (n : StrId) (w : Word) (s : State), s.canWrite ag (State.strReg Reg.STR_CFG n.val) ∧ (wfld w 3 1 = 0 ∨ wfld w 3 1 = s.fld (State.strReg Reg.STR_CFG n.val) 3 1 ∨ (wfld w 3 1 ≤ 4 ∧ s.bindTaken n.val (wfld w 3 1) = false))) ∧
    (∃ (ag : Agent) (n : StrId) (w : Word) (s : State), s.canWrite ag (State.strReg Reg.STR_CFG n.val) ∧ wfld w 3 1 ≠ 0 ∧ wfld w 3 1 ≠ s.fld (State.strReg Reg.STR_CFG n.val) 3 1 ∧ s.bindTaken n.val (wfld w 3 1) = true ∧ s.faultRoom) :=
  ⟨⟨3, strSt 2 0x1234, by decide⟩,
    ⟨3, State.reset, by decide⟩,
    ⟨⟨0x305, 0x4321, 0, 0, 0, 0, 0, 0, 0, 0⟩, { strSt 2 7 with issued := [⟨0x305, 0x4321, 0, 0, 0, 0, 0, 0, 0, 0⟩] }, by decide⟩,
    ⟨⟨0x305, 0x4321, 0, 0, 0, 0, 0, 0, 0, 0⟩, 1, { strSt 2 7 with issued := [⟨0x305, 0x4321, 0, 0, 0, 0, 0, 0, 0, 0⟩], strBind := ({} : SMap Nat).put 0 3 2 }, by decide⟩,
    ⟨⟨6, 0x1430011, 0x20000, 0x10000, 0, 0, 0, 0, 0, 0⟩, { strSt 2 7 with issued := [⟨6, 0x1430011, 0x20000, 0x10000, 0, 0, 0, 0, 0, 0⟩] }, by decide⟩,
    ⟨⟨6, 0xC30011, 0x20000, 0x10000, 0, 0, 0, 0, 0, 0⟩, { strSt 2 7 with issued := [⟨6, 0xC30011, 0x20000, 0x10000, 0, 0, 0, 0, 0, 0⟩] }, by decide⟩,
    ⟨plateRun, by decide⟩,
    ⟨State.reset, by decide⟩,
    ⟨3, 2000, ((strSt 1 7).setReg Reg.STR_THR0 0x200010).setFld Reg.STR_THR1 15 0 3000, by decide⟩,
    ⟨3, 2, (((strSt 2 7).setReg Reg.STR_THR0 0x200010).setFld Reg.STR_THR1 23 16 3) |>.updStr 3 fun v => { v with runClass := 1, badRun := 2 }, by decide⟩,
    ⟨2, 32768, 400, { ((State.reset.setReg (Reg.NTC_CFG + 0x20) 0x27100D6B).setReg (Reg.NTC_BIAS + 0x20) 10000) with ntcs := ({} : SMap NtcSt).put {} 2 ⟨0, 3⟩ }, by decide +kernel⟩,
    ⟨2, 0, { State.reset with ntcs := ({} : SMap NtcSt).put {} 2 ⟨3, 0⟩ }, by decide⟩,
    ⟨3, (strSt 2 7).updStr 3 fun v => { v with hot := 8 }, by decide⟩,
    ⟨3, { strSt 2 7 with mono := 100000000000 }, by decide⟩,
    ⟨3, strSt 3 7, by decide⟩,
    ⟨3, { strSt 3 7 with mono := 100000000000 }, by decide⟩,
    ⟨3, { strSt 3 7 with mono := 100000000000 }, by decide⟩,
    ⟨.sup 2, 3, strSt 5 7, by decide⟩,
    ⟨.sup 2, 3, (strSt 5 7).updStr 3 fun v => { v with convAt := some (strSt 5 7).mono, level := 5 }, by decide⟩,
    ⟨.sup 2, 3, strSt 7 7, by decide⟩,
    ⟨.sup 2, 3, 0x3D5, strSt 0 7, by decide⟩,
    ⟨.sup 2, 3, 0x3D5, (strSt 0 7).setReg (State.strReg Reg.STR_CFG 4) 0x3D5, by decide⟩⟩

theorem witness_EngineDiagnosticsAreRecorded :
    (∃ (p : PortId) (ts : List (BitVec 16)) (s : State), s.linkHears p.val = true ∧ ts.length = 16) ∧
    (∃ (p : PortId) (x : Nat) (s : State), (s.diag p.val).trAt = some x ∧ x + 100000000 ≤ s.mono ∧ s.bit (State.dgReg Reg.STRDIAG_TEMP p.val) 16 = true ∧ s.faultRoom) ∧
    (∃ (p : PortId) (q : BitVec 16) (o : Word) (data : List Byte) (s : State), s.linkHears p.val = true ∧ (s.fmIdent p.val).1 = 1 ∧ data.length < (s.fmIdent p.val).2 ∧ o = 0 ∧ ((s.diag p.val).seq = none ∨ (s.diag p.val).seq = some ((q - 1).toNat)) ∧ s.bit (State.dgReg Reg.STRDIAG_CMD p.val) 0 = false ∧ s.bit (State.dgReg Reg.STRDIAG_CTRL p.val) 0 = false) ∧
    (∃ (p : PortId) (q : BitVec 16) (o : Word) (data : List Byte) (b : Byte) (s : State), s.linkHears p.val = true ∧ (s.fmIdent p.val).1 = 1 ∧ 1 < (s.fmIdent p.val).2 ∧ o = 0 ∧ data = [b] ∧ b.toNat % 16 < 6 ∧ b.toNat / 16 < 6 ∧ 2 ≤ s.subEmitters p.val ∧ (s.diag p.val).seq = none ∧ s.bit (State.dgReg Reg.STRDIAG_CMD p.val) 0 = false ∧ s.bit (State.dgReg Reg.STRDIAG_CTRL p.val) 0 = true ∧ s.mapFits p.val = true) ∧
    (∃ (p : PortId) (q : BitVec 16) (o : Word) (data : List Byte) (s : State), s.linkHears p.val = true ∧ (s.fmIdent p.val).1 = 1 ∧ o ≠ 0 ∧ (s.diag p.val).next ≠ some o.toNat ∧ s.faultRoom) ∧
    (∃ (p : PortId) (q : BitVec 16) (o : Word) (data : List Byte) (s : State), s.linkHears p.val = true ∧ (s.fmIdent p.val).1 = 1 ∧ o ≠ 0 ∧ (s.diag p.val).next = some o.toNat ∧ (s.diag p.val).seq = some q.toNat ∧ (s.fmIdent p.val).2 ≤ o.toNat + data.length ∧ s.bit (State.dgReg Reg.STRDIAG_CMD p.val) 0 = false ∧ s.bit (State.dgReg Reg.STRDIAG_CTRL p.val) 0 = false) ∧
    (∃ (p : PortId) (q : BitVec 16) (o : Word) (data : List Byte) (s : State), s.linkHears p.val = true ∧ (s.fmIdent p.val).1 ≠ 1) ∧
    (∃ (ag : Agent) (p : PortId) (s : State), s.canWrite ag (State.dgReg Reg.STRDIAG_CMD p.val)) ∧
    (∃ (p : PortId) (s : State), s.bit (State.dgReg Reg.STRDIAG_CMD p.val) 0 = true ∧ s.mapFits p.val = true) ∧
    (∃ (ag : Agent) (p : PortId) (s : State), s.canWrite ag (State.dgReg Reg.STRDIAG_CMD p.val) ∧ (s.stuckOn.get [] p.val).length ≤ 256) :=
  ⟨⟨1, [1, 2, 3, 0xFFFF, 5, 6, 7, 8, 9, 10, 11, 12, 13, 14, 15, 16], linkSt 6, by decide⟩,
    ⟨1, 5, { (linkSt 6).setReg (State.dgReg Reg.STRDIAG_TEMP 1) 0x10010 with mono := 100000005, diags := ({} : SMap DiagSt).put {} 1 { trAt := some 5 } }, by decide⟩,
    ⟨1, 7, 0, [0x11, 0x22], fmSt, by decide⟩,
    ⟨1, 7, 0, [0x32], 0x32, { ((fmSt.setReg64 (State.dgReg Reg.STRDIAG_MAP_LO 1) 0x1100000000).setBit (State.dgReg Reg.STRDIAG_CTRL 1) 0 true).updPort 1 fun v => { v with act := plateRun.ports.get {} 1 |>.act } with mono := 5 }, by decide⟩,
    ⟨1, 7, 4, [0x11, 0x22], fmSt, by decide⟩,
    ⟨1, 7, 31, [0x11], { fmSt with mono := 5000, diags := ({} : SMap DiagSt).put {} 1 { seq := some 7, next := some 31 } }, by decide⟩,
    ⟨1, 7, 0, [0x11, 0x22], linkSt 6, by decide⟩,
    ⟨.sup 2, 1, State.reset, by decide⟩,
    ⟨1, (fmSt.setReg64 (State.dgReg Reg.STRDIAG_MAP_LO 1) 0x1100000000).setBit (State.dgReg Reg.STRDIAG_CMD 1) 0 true, by decide⟩,
    ⟨.sup 2, 1, { linkSt 6 with stuckOn := ({} : SMap (List (Nat × Nat))).put [] 1 [(3, 4)] }, by decide⟩⟩

theorem witness_TransitLinksAcknowledgeAndChangeState :
    (∃ (l : LinkId) (q : BitVec 12) (k : Pkt) (s : State), s.linkSt l.val = 3 ∧ (s.link l.val).rxNext = q.toNat ∧ pktListed k.type = true ∧ k.type ≠ 0xC) ∧
    (∃ (l : LinkId) (q : BitVec 12) (k : Pkt) (s : State), s.linkSt l.val = 3) ∧
    (∃ (l : LinkId) (q : BitVec 12) (k : Pkt) (s : State), s.linkSt l.val = 3 ∧ 2048 ≤ (q.toNat + 4096 - (s.link l.val).rxNext) % 4096) ∧
    (∃ (l : LinkId) (cr : BitVec 32) (ack : BitVec 12) (x : Replay) (rest : List Replay) (s : State), s.linkSt l.val = 3 ∧ (s.link l.val).queue = [] ∧ (s.link l.val).credits.length = 4 ∧ (s.link l.val).replay = x :: rest ∧ x.lseq = ack.toNat ∧ (∀ y ∈ rest, y.sent = true)) ∧
    (∃ (l : LinkId) (s : State), s.linkSt l.val = 3 ∧ (s.link l.val).replay ≠ [] ∧ (s.link l.val).ackAt + 8000 ≤ s.mono ∧ (s.link l.val).tries < 8) ∧
    (∃ (l : LinkId) (s : State), s.linkSt l.val = 3 ∧ (s.link l.val).replay ≠ [] ∧ (s.link l.val).ackAt + 8000 ≤ s.mono ∧ 8 ≤ (s.link l.val).tries ∧ s.faultQ.length + 1 < 256) ∧
    (∃ (l : LinkId) (s : State), s.linkSt l.val = 1 ∧ s.refOk l.val = true) ∧
    (∃ (l : LinkId) (s : State), (s.linkSt l.val = 0 ∨ s.refOk l.val = false)) ∧
    (∃ (l : LinkId) (s : State), s.linkSt l.val = 2) ∧
    (∃ (l : LinkId) (s : State), s.linkSt l.val = 3 ∧ (s.link l.val).lockLost = none) ∧
    (∃ (l : LinkId) (s : State), s.linkSt l.val ≠ 0 ∧ (s.link l.val).sentAt = []) ∧
    (∃ (l : LinkId) (s : State), s.linkSt l.val = 0) ∧
    (∃ (l : LinkId) (w : Hello) (s : State), 2 ≤ s.linkSt l.val) ∧
    (∃ (l : LinkId) (w : Hello) (s : State), s.linkSt l.val = 2 ∧ w.role.val = s.linkRole l.val ∧ w.peerUid = s.ownUid ∧ 2 ≤ (s.link l.val).helloRun ∧ s.faultQ.length + 1 < 256) ∧
    (∃ (l : LinkId) (s : State), s.linkSt l.val = 3 ∧ max (s.link l.val).helloAt (s.link l.val).since + s.deadNs l.val ≤ s.mono ∧ s.faultRoom) ∧
    (∃ (l : LinkId) (s : State), s.linkSt l.val ≤ 1) ∧
    (∃ (ag : Agent) (l : LinkId) (w : Word) (s : State), s.canWrite ag (Reg.TRANSIT_CFG + 0x1000 * l.val) ∧ 2 ≤ wfld w 2 1 ∧ s.faultRoom) ∧
    (∃ (ag : Agent) (l : LinkId) (w : Word) (s : State), s.canWrite ag (Reg.TRANSIT_CFG + 0x1000 * l.val) ∧ wfld w 2 1 = 0 ∧ s.bit (Reg.TRANSIT_CFG + 0x1000 * l.val) 0 = false ∧ wfld w 0 0 = 1) ∧
    (∃ (ag : Agent) (l : LinkId) (w : Word) (s : State), s.canWrite ag (Reg.TRANSIT_CFG + 0x1000 * l.val) ∧ wfld w 2 1 = 0 ∧ s.bit (Reg.TRANSIT_CFG + 0x1000 * l.val) 0 = true ∧ wfld w 0 0 = 0) ∧
    (∃ (ag : Agent) (l : LinkId) (s : State), s.canWrite ag (Reg.TRANSIT_CMD + 0x1000 * l.val) ∧ 1 ≤ s.linkSt l.val) ∧
    (∃ (ag : Agent) (l : LinkId) (s : State), s.canWrite ag (Reg.TRANSIT_CMD + 0x1000 * l.val) ∧ s.linkSt l.val = 0) :=
  ⟨⟨2, 0, tReq 1, tlink 3, by decide⟩,
    ⟨2, 0, tReq 1, tlink 3, by decide⟩,
    ⟨2, 4095, tReq 1, tlink 3, by decide⟩,
    ⟨2, 0x4030201, 9, ⟨9, tReq 1, true⟩, [⟨10, tReq 1, true⟩], (tlink 3).updLink 2 fun v => { v with replay := [⟨9, tReq 1, true⟩, ⟨10, tReq 1, true⟩] }, by decide⟩,
    ⟨2, { (tlink 3).updLink 2 (fun v => { v with replay := [⟨9, tReq 1, true⟩], credits := [256, 256, 512, 128] }) with mono := 9000 }, by decide⟩,
    ⟨2, { (tlink 3).updLink 2 (fun v => { v with replay := [⟨9, tReq 1, true⟩], tries := 8 }) with mono := 9000 }, by decide⟩,
    ⟨2, (tlink 1).setReg Reg.SERDES_REF_STAT 1, by decide⟩,
    ⟨3, tlink 1, by decide⟩,
    ⟨2, tlink 2, by decide⟩,
    ⟨2, tlink 3, by decide⟩,
    ⟨2, tlink 2, by decide⟩,
    ⟨3, tlink 2, by decide⟩,
    ⟨2, { uid := 7, id := 6, idst := 2, link := 3, role := 0, hseq := 1, echoSeq := 0, peerUid := 0, txPrev := 0, rxEcho := 0 }, { tlink 2 with mono := 77 }, by decide⟩,
    ⟨2, { uid := 7, id := 6, idst := 2, link := 3, role := 0, hseq := 1, echoSeq := 0, peerUid := 0, txPrev := 0, rxEcho := 0 }, { (tlink 2).updLink 2 (fun v => { v with helloRun := 2 }) with mono := 77 }, by decide⟩,
    ⟨2, { tlink 3 with mono := 1000000000 }, by decide⟩,
    ⟨2, { tlink 1 with mono := 1000000000 }, by decide⟩,
    ⟨.sup 0, 2, 4, tlink 3, by decide⟩,
    ⟨.sup 0, 3, 1, tlink 3, by decide⟩,
    ⟨.sup 0, 2, 0, tlink 3, by decide⟩,
    ⟨.sup 0, 2, tlink 3, by decide⟩,
    ⟨.sup 0, 3, tlink 3, by decide⟩⟩

theorem witness_TransitRequestsActAtTheTarget :
    (∃ (l : Nat) (k : Pkt) (s : State), (s.transit.inbox.find? fun x => x.2.type != 4) = some (l, k) ∧ s.isLocal k.dst.toNat = true) ∧
    (∃ (l m : Nat) (k : Pkt) (s : State), (s.transit.inbox.find? fun x => x.2.type != 4) = some (l, k) ∧ s.isLocal k.dst.toNat = false ∧ l ≠ 16 ∧ k.hops ≠ 0 ∧ s.bit Reg.ROUTER_CTRL 0 = true ∧ s.nextHop k = some m ∧ s.fabricUp m = true) ∧
    (∃ (l : Nat) (k : Pkt) (s : State), (s.transit.inbox.find? fun x => x.2.type == 4) = some (l, k) ∧ s.bit (Reg.ROUTER_MCAST + 4 * (k.dst.toNat % 4096)) 17 = false) ∧
    (∃ (l : Nat) (k : Pkt) (s : State), (s.transit.inbox.find? fun x => x.2.type == 4) = some (l, k) ∧ s.fld (Reg.ROUTER_MCAST + 4 * (k.dst.toNat % 4096)) 17 16 = 3 ∧ (l = 16 ∨ k.hops ≠ 0) ∧ targetCheck k.addr.toNat k.len.toNat = 0 ∧ k.len.toNat ≤ k.payload.length) ∧
    (∃ (k : Pkt) (s : State), (s.transit.epIn.find? fun x => x.type.toNat == 0) = some k ∧ targetCheck k.addr.toNat k.len.toNat = 0 ∧ k.len.toNat ≤ k.payload.length) ∧
    (∃ (k : Pkt) (s : State), (s.transit.epIn.find? fun x => x.type.toNat == 0) = some k ∧ targetCheck k.addr.toNat k.len.toNat ≠ 0) ∧
    (∃ (busy : Fin 129) (k : Pkt) (s : State), (s.transit.epIn.find? fun x => x.type.toNat == 1) = some k ∧ s.retryNow busy.val k.addr.toNat = true) ∧
    (∃ (busy : Fin 129) (k : Pkt) (s : State), (s.transit.epIn.find? fun x => x.type.toNat == 1) = some k ∧ s.retryNow busy.val k.addr.toNat = false ∧ targetCheck k.addr.toNat k.len.toNat = 0 ∧ s.hasUe k.addr.toNat k.len.toNat = false ∧ s.isLocal k.src.toNat = true) ∧
    (∃ (busy : Fin 129) (k : Pkt) (s : State), (s.transit.epIn.find? fun x => x.type.toNat == 2) = some k ∧ k.op = 0 ∧ s.retryNow busy.val k.addr.toNat = false ∧ targetCheck k.addr.toNat 4 = 0 ∧ s.hasUe k.addr.toNat 4 = false ∧ s.isLocal k.src.toNat = true ∧ 4 ≤ k.payload.length) ∧
    (∃ (k : Pkt) (s : State), (s.transit.epIn.find? fun x => x.type == 3) = some k ∧ (s.transit.epIn.takeWhile fun x => x != k) = [] ∧ s.isLocal k.src.toNat = true) ∧
    (∃ (k : Pkt) (s : State), (s.transit.epIn.find? fun x => x.type == 3) = some k ∧ ((s.transit.epIn.takeWhile fun x => x != k).any fun x => x.src == k.src && decide (x.type.toNat ≤ 5)) = true) ∧
    (∃ (k : Pkt) (s : State), (s.transit.epIn.find? fun x => x.type.toNat == 5) = some k ∧ s.bit (Reg.TRANSIT_MSG_MASK_LO + 4 * (k.addr.toNat % 64 / 32)) (k.addr.toNat % 64 % 32) = true ∧ s.ringRoom (k.addr.toNat % 64) (msgEntries (k.payload.take k.len.toNat)).length = true ∧ (s.ring (k.addr.toNat % 64)).dropping = false) ∧
    (∃ (k : Pkt) (s : State), (s.transit.epIn.find? fun x => x.type.toNat == 5) = some k ∧ s.bit (Reg.TRANSIT_MSG_MASK_LO + 4 * (k.addr.toNat % 64 / 32)) (k.addr.toNat % 64 % 32) = false) ∧
    (∃ (k : Pkt) (s : State), (s.transit.epIn.find? fun x => x.type.toNat == 8) = some k ∧ bits k.tag 9 8 = 2 ∧ (s.tslot (k.tag.toNat % 256)).busy = true ∧ (s.tslot (k.tag.toNat % 256)).seq % 65536 = k.seq.toNat ∧ (s.tslot (k.tag.toNat % 256)).type ≠ 3) ∧
    (∃ (k : Pkt) (s : State), (s.transit.epIn.find? fun x => x.type.toNat == 8) = some k ∧ (bits k.tag 9 8 ≠ 2 ∨ (s.tslot (k.tag.toNat % 256)).busy = false)) ∧
    (∃ (k : Pkt) (s : State), (s.transit.epIn.find? fun x => x.type.toNat == 9) = some k) ∧
    (∃ (i : Byte) (s : State), (s.tslot i.toNat).busy = true ∧ (s.tslot i.toNat).answer = none ∧ (s.tslot i.toNat).type ≠ 3 ∧ (s.tslot i.toNat).issued + max 1 (s.reg Reg.TRANSIT_TIMEOUT).toNat * 1000 ≤ s.mono) ∧
    (∃ (i : Byte) (s : State), (s.tslot i.toNat).busy = true ∧ (s.tslot i.toNat).answer = none ∧ (s.tslot i.toNat).type = 3 ∧ (s.tslot i.toNat).first + max 1 (s.reg Reg.TRANSIT_TIMEOUT).toNat * 1000 ≤ s.mono) ∧
    (∃ (i : Byte) (s : State), (s.tslot i.toNat).busy = false) ∧
    (∃ (i : Byte) (g : Nat) (s : State), (s.tslot i.toNat).gap = some g ∧ (s.tslot i.toNat).busy = true ∧ (s.tslot i.toNat).type = 3 ∧ g + s.fld Reg.TRANSIT_FLUSH 15 0 ≤ s.mono) ∧
    (∃ (i : Byte) (s : State), (s.tslot i.toNat).gap = none) :=
  ⟨⟨2, tReq 0, tIn (tReq 0), by decide⟩,
    ⟨2, 2, { tReq 0 with dst := 6, hops := 3 }, ((tIn { tReq 0 with dst := 6, hops := 3 }).setReg (Reg.ROUTER_ROUTE + 24) 0x10002).setBit Reg.ROUTER_CTRL 0 true, by decide +kernel⟩,
    ⟨2, tReq 4, tIn (tReq 4), by decide⟩,
    ⟨16, tReq 4, ((tlink 3).updTransit fun x => { x with inbox := [(16, tReq 4)] }).setReg (Reg.ROUTER_MCAST + 20) 0x30000, by decide⟩,
    ⟨tReq 0, tEp (tReq 0), by decide⟩,
    ⟨{ tReq 0 with addr := 0x1400000000 }, tEp { tReq 0 with addr := 0x1400000000 }, by decide⟩,
    ⟨128, tReq 1, tEp (tReq 1), by decide⟩,
    ⟨0, tReq 1, (tEp (tReq 1)).setBytes 0x1100000000 [7, 8, 9], by decide⟩,
    ⟨0, tReq 2, (tEp (tReq 2)).setBytes 0x1100000000 [0xFF, 0xFF, 0xFF, 0xFF], by decide⟩,
    ⟨tReq 3, tEp (tReq 3), by decide⟩,
    ⟨tReq 3, (tlink 3).updTransit fun x => { x with epIn := [tReq 0, tReq 3] }, by decide⟩,
    ⟨{ tReq 5 with addr := 3, len := 32, payload := List.replicate 32 1 }, (tEp { tReq 5 with addr := 3, len := 32, payload := List.replicate 32 1 }).setReg Reg.TRANSIT_MSG_MASK_LO 8, by decide⟩,
    ⟨{ tReq 5 with addr := 3 }, (tEp { tReq 5 with addr := 3 }).setReg Reg.TRANSIT_MSG_MASK_LO 0, by decide⟩,
    ⟨{ tReq 8 with tag := 0x207 }, (tEp { tReq 8 with tag := 0x207 }).updSlot 7 fun v => { v with busy := true, seq := 9 }, by decide⟩,
    ⟨tReq 8, tEp (tReq 8), by decide⟩,
    ⟨tReq 9, tEp (tReq 9), by decide⟩,
    ⟨7, { (tlink 3).updSlot 7 (fun v => { v with busy := true }) with mono := 10000000000000 }, by decide⟩,
    ⟨7, { (tlink 3).updSlot 7 (fun v => { v with busy := true, type := 3 }) with mono := 10000000000000 }, by decide⟩,
    ⟨7, tlink 3, by decide⟩,
    ⟨7, 0, { (tlink 3).updSlot 7 (fun v => { v with busy := true, type := 3, gap := some 0 }) with mono := 1000000 }, by decide⟩,
    ⟨7, tlink 3, by decide⟩⟩

theorem witness_FabricRecordsPhaseAndRings :
    (∃ (l : LinkId) (a : Lsa) (s : State), s.fabricUp l.val = true ∧ (s.transit.lsas.find? fun x => x.1.uid == a.uid) = none) ∧
    (∃ (l : LinkId) (a : Lsa) (x : Lsa × Nat) (s : State), (s.transit.lsas.find? fun y => y.1.uid == a.uid) = some x ∧ (a.lseq - x.1.lseq).toInt ≤ 0) ∧
    (∃ (l : LinkId) (g : Grp) (s : State), s.fabricUp l.val = true ∧ (s.transit.grps.find? fun x => x.1.uid == g.uid && x.1.q == g.q) = none) ∧
    (∃ (l : LinkId) (g : Grp) (s : State), s.fabricUp l.val = false) ∧
    (∃ (s : State), s.fld Reg.TRANSIT_NODE 14 13 ≠ 0 ∧ s.transit.lsaAt + 1000000000 ≤ s.mono) ∧
    (∃ (s : State), (s.fld Reg.TRANSIT_NODE 14 13 = 0 ∨ s.mono < s.transit.lsaAt + 1000000000)) ∧
    (∃ (x : Lsa × Nat) (s : State), x ∈ s.transit.lsas ∧ x.2 + 4000000000 ≤ s.mono) ∧
    (∃ (u x : GNode) (s : State), s.transit.stale = true ∧ (routeGraph (s.transit.lsas.map fun y => y.1)).find? (fun y => y.uid == s.ownUid) = some u ∧ (routeGraph (s.transit.lsas.map fun y => y.1)).find? (fun y => y.id == x.id) = some x ∧ x.uid ≠ s.ownUid) ∧
    (∃ (s : State), s.transit.stale = false) ∧
    (∃ (s : State), s.fld Reg.TRANSIT_NODE 14 13 = 1 ∧ s.transit.claimAt + s.fld Reg.TRANSIT_CLAIM 15 0 * 1000000 ≤ s.mono ∧ s.faultRoom) ∧
    (∃ (s : State), s.fld Reg.TRANSIT_NODE 14 13 ≠ 1) ∧
    (∃ (b : Lsa) (s : State), s.transit.master = none ∧ s.phaseBest = some b) ∧
    (∃ (s : State), s.transit.master = none ∧ s.phaseBest = none) ∧
    (∃ (s : State), s.bit Reg.TRANSIT_PHASE_STAT 16 = true ∧ s.transit.phaseAt + s.fld Reg.TRANSIT_PHASE 31 16 * 1000 ≤ s.mono) ∧
    (∃ (s : State), s.bit Reg.TRANSIT_PHASE_STAT 16 = false) ∧
    (∃ (l : LinkId) (k : PhasePkt) (resid : Word) (s : State), s.fabricUp l.val = true ∧ s.routeHops k.master.toNat ≠ 0 ∧ s.fld (Reg.ROUTER_ROUTE + 4 * k.master.toNat) 3 0 = l.val ∧ s.transit.master = some k.muid ∧ s.fld Reg.TRANSIT_PHASE_STAT 12 0 = k.master.toNat ∧ s.transit.lastPseq = none) ∧
    (∃ (l : LinkId) (k : PhasePkt) (resid : Word) (s : State), (s.fabricUp l.val = false ∨ s.transit.master ≠ some k.muid)) ∧
    (∃ (l : LinkId) (op : BitVec 4) (data : List Byte) (s : State), op ≠ 0 ∧ op ≠ 3 ∧ data.length ≤ 256 ∧ s.ringRoom s.ctrlRxRing (ceilDiv data.length 32 + 1) = true) ∧
    (∃ (l : LinkId) (op : BitVec 4) (data : List Byte) (s : State), (op = 0 ∨ op = 3)) ∧
    (∃ (e : Entry) (es : List Entry) (l : LinkId) (s : State), (s.ring (s.fld Reg.TRANSIT_RINGS 21 16)).head ++ (s.ring (s.fld Reg.TRANSIT_RINGS 21 16)).spill ++ (s.ring (s.fld Reg.TRANSIT_RINGS 21 16)).tail = e :: es ∧ entryType e = 0x41 ∧ wfld (entryWord e 1) 15 0 = 2 ^ l.val ∧ wfld (entryWord e 1) 28 20 = 0 ∧ wfld (entryWord e 1) 31 31 = 0 ∧ wfld (entryWord e 1) 19 16 ≠ 0 ∧ wfld (entryWord e 1) 19 16 ≠ 3 ∧ s.linkSt l.val = 3) ∧
    (∃ (e : Entry) (es : List Entry) (s : State), (s.ring (s.fld Reg.TRANSIT_RINGS 21 16)).head ++ (s.ring (s.fld Reg.TRANSIT_RINGS 21 16)).spill ++ (s.ring (s.fld Reg.TRANSIT_RINGS 21 16)).tail = e :: es ∧ entryType e ≠ 0x41) ∧
    (∃ (e f : Entry) (es : List Entry) (s : State), (s.ring (s.fld Reg.TRANSIT_RINGS 5 0)).head ++ (s.ring (s.fld Reg.TRANSIT_RINGS 5 0)).spill ++ (s.ring (s.fld Reg.TRANSIT_RINGS 5 0)).tail = e :: f :: es ∧ entryType e = 0x40 ∧ wfld (entryWord e 1) 25 22 = 1 ∧ s.noRoute (wfld (entryWord e 1) 12 0) = false ∧ s.isLocal (wfld (entryWord e 1) 12 0) = true) ∧
    (∃ (e : Entry) (es : List Entry) (s : State), (s.ring (s.fld Reg.TRANSIT_RINGS 29 24)).head ++ (s.ring (s.fld Reg.TRANSIT_RINGS 29 24)).spill ++ (s.ring (s.fld Reg.TRANSIT_RINGS 29 24)).tail = e :: es ∧ entryType e = 0x42 ∧ wfld (entryWord e 1) 17 16 ≠ 3) ∧
    (∃ (ag : Agent) (s : State), s.canWrite ag Reg.TRANSIT_TGT_CMD) :=
  ⟨⟨2, ⟨7, 6, 2, 0, 0, 1, []⟩, tlink 3, by decide⟩,
    ⟨2, ⟨7, 6, 2, 0, 0, 1, []⟩, (⟨7, 6, 2, 0, 0, 1, []⟩, 3), (tlink 3).updTransit fun x => { x with lsas := [(⟨7, 6, 2, 0, 0, 1, []⟩, 3)] }, by decide⟩,
    ⟨2, ⟨7, 1, 2, 5⟩, tlink 3, by decide⟩,
    ⟨2, ⟨7, 1, 2, 5⟩, tlink 2, by decide⟩,
    ⟨{ tlink 3 with mono := 1000000000 }, by decide⟩,
    ⟨State.reset, by decide⟩,
    ⟨(⟨7, 6, 2, 0, 0, 1, []⟩, 3), { (tlink 3).updTransit (fun x => { x with lsas := [(⟨7, 6, 2, 0, 0, 1, []⟩, 3)] }) with mono := 5000000000 }, by decide⟩,
    ⟨⟨0, 5, [(2, 7)]⟩, ⟨7, 6, [(3, 0)]⟩, (tlink 3).updTransit fun x => { x with stale := true, lsas := [(⟨0, 5, 2, 0, 0, 1, [⟨2, 6, 7⟩]⟩, 3), (⟨7, 6, 2, 0, 0, 1, [⟨3, 5, 0⟩]⟩, 3)] }, by decide +kernel⟩,
    ⟨tlink 3, by decide⟩,
    ⟨{ State.reset.setFld Reg.TRANSIT_NODE 14 0 0x2005 with mono := 1000000000000 }, by decide⟩,
    ⟨State.reset, by decide⟩,
    ⟨⟨7, 6, 2, 0, 1, 1, []⟩, ((tlink 3).setBit Reg.TRANSIT_PHASE 0 false).updTransit fun x => { x with lsas := [(⟨7, 6, 2, 0, 1, 1, []⟩, 3)] }, by decide⟩,
    ⟨(tlink 3).setBit Reg.TRANSIT_PHASE 0 false, by decide⟩,
    ⟨{ (tlink 3).setBit Reg.TRANSIT_PHASE_STAT 16 true with mono := 1000000000 }, by decide⟩,
    ⟨State.reset, by decide⟩,
    ⟨2, { phase := 5, inc := 6, corr := 0, master := 6, pseq := 3, hops := 1, refclass := 0, muid := 7 }, 7, (((tlink 3).setReg (Reg.ROUTER_ROUTE + 24) 0x10002).setFld Reg.TRANSIT_PHASE_STAT 12 0 6).updTransit fun x => { x with master := some 7 }, by decide⟩,
    ⟨2, { phase := 5, inc := 6, corr := 0, master := 6, pseq := 3, hops := 1, refclass := 0, muid := 7 }, 7, tlink 3, by decide⟩,
    ⟨2, 5, [1, 2, 3], tlink 3, by decide⟩,
    ⟨2, 3, [1, 2, 3], tlink 3, by decide⟩,
    ⟨0x5000400000341, [9], 2, (tlink 3).setRing (State.reset.fld Reg.TRANSIT_RINGS 21 16) { head := [0x5000400000341, 9] }, by decide⟩,
    ⟨0x42, [9], (tlink 3).setRing (State.reset.fld Reg.TRANSIT_RINGS 21 16) { head := [0x42, 9] }, by decide⟩,
    ⟨0x43000500000140, 9, [], (tlink 3).setRing (State.reset.fld Reg.TRANSIT_RINGS 5 0) { head := [0x43000500000140, 9] }, by decide⟩,
    ⟨0x1000600000342, [], (tlink 3).setRing (State.reset.fld Reg.TRANSIT_RINGS 29 24) { head := [0x1000600000342] }, by decide⟩,
    ⟨.sup 0, (tlink 3).updTgt 0 fun v => { v with late := true }, by decide⟩⟩

theorem witness_PlacementCommandsMoveItems :
    (∃ (e : Entry) (n : Nat) (m : Option Nat) (a : Nat) (sc : Nat × Nat) (s : State), ((s.ring (s.fld Reg.ORRERY_RINGS 5 0)).head ++ (s.ring (s.fld Reg.ORRERY_RINGS 5 0)).spill ++ (s.ring (s.fld Reg.ORRERY_RINGS 5 0)).tail).head? = some e ∧ entryType e = 0x50 ∧ entrySop e = true ∧ entryEop e = true ∧ s.isCoord = true ∧ s.putBad (wfld (entryWord e 1) 13 0) (putOf s.ownId e) = false ∧ (putOf s.ownId e).kind ≠ 0 ∧ s.oItem (wfld (entryWord e 1) 13 0) = {} ∧ s.oWaiting = [] ∧ (s.updOrr fun o => { o with items := o.items.put {} (wfld (entryWord e 1) 13 0) { put := putOf s.ownId e, state := 6 } }).oBest (putOf s.ownId e) (wfld (entryWord e 1) 13 0) (fun _ => false) = some (n, m, a, sc)) ∧
    (∃ (e : Entry) (s : State), ((s.ring (s.fld Reg.ORRERY_RINGS 5 0)).head ++ (s.ring (s.fld Reg.ORRERY_RINGS 5 0)).spill ++ (s.ring (s.fld Reg.ORRERY_RINGS 5 0)).tail).head? = some e ∧ entryType e = 0x50 ∧ entrySop e = true ∧ entryEop e = true ∧ s.isCoord = true ∧ s.putBad (wfld (entryWord e 1) 13 0) (putOf s.ownId e) = true ∧ s.faultQ.length + 1 < 256) ∧
    (∃ (q : RingId) (e : Entry) (s : State), s.ringRoom q.val 1 = true ∧ (s.ring q.val).dropping = false) ∧
    (∃ (e : Entry) (s : State), ((s.ring (s.fld Reg.ORRERY_RINGS 5 0)).head ++ (s.ring (s.fld Reg.ORRERY_RINGS 5 0)).spill ++ (s.ring (s.fld Reg.ORRERY_RINGS 5 0)).tail).head? = some e ∧ entryType e = 0x52) ∧
    (∃ (s : State), s.ringBusy (s.fld Reg.ORRERY_RINGS 5 0) = false) ∧
    (∃ (l : LinkId) (i : Inv) (s : State), s.fabricUp l.val = true ∧ (s.orr.invs.find? fun x => x.1.uid == i.uid) = none ∧ i.uid ≠ s.ownUid) ∧
    (∃ (l : LinkId) (i : Inv) (s : State), (s.fabricUp l.val = false ∨ i.uid = s.ownUid)) ∧
    (∃ (replica : List (Nat × OItem)) (b : Inv) (s : State), s.coordBest = some b ∧ s.coordNow = none ∧ s.faultRoom) ∧
    (∃ (replica : List (Nat × OItem)) (s : State), s.coordBest = none ∧ s.bit Reg.ORRERY_STATUS 17 = false) ∧
    (∃ (s : State), s.orr.roundAt + 1000000000 ≤ s.mono) ∧
    (∃ (s : State), s.mono < s.orr.roundAt + 1000000000) ∧
    (∃ (id n : Nat) (m : Option Nat) (a : Nat) (r : List (Nat × Nat × Option Nat)) (s : State), s.orr.moves = (id, n, m) :: r ∧ s.isCoord = true ∧ frameFrom (((s.oItem id).cframe + s.retireFrames) % 2 ^ 32) s.frame = true ∧ (s.oItem id).state = 2 ∧ s.oAlloc (s.oItem id).put n m = some a) ∧
    (∃ (s : State), s.orr.moves = []) ∧
    (∃ (nd : BitVec 13) (id : BitVec 14) (s : State), (s.oItem id.toNat).state = 3 ∧ nd.toNat = (s.oItem id.toNat).next ∧ (s.oItem id.toNat).repO = true ∧ s.isCoord = true ∧ s.orr.commits.contains id.toNat = false) ∧
    (∃ (nd : BitVec 13) (id : BitVec 14) (s : State), (s.oItem id.toNat).state ≠ 3) ∧
    (∃ (id : Nat) (r : List Nat) (s : State), s.orr.commits = id :: r ∧ (s.oItem id).state = 3) ∧
    (∃ (s : State), s.orr.commits = []) ∧
    (∃ (id : Nat) (s : State), (s.oItem id).state = 4 ∧ (s.oItem id).later = none ∧ (s.oItem id).del = none ∧ frameFrom (s.oItem id).cframe s.frame = true) ∧
    (∃ (id : BitVec 14) (s : State), s.orr.copyWait.contains id.toNat = true) ∧
    (∃ (id : BitVec 14) (s : State), s.orr.copyWait.contains id.toNat = false) ∧
    (∃ (id : BitVec 14) (s : State), (s.oItem id.toNat).state = 4 ∧ (s.oItem id.toNat).put.carry = true ∧ (s.oItem id.toNat).pages ≠ 0 ∧ (s.oItem id.toNat).owner = s.ownId ∧ (s.oItem id.toNat).next ≠ s.ownId ∧ s.orr.copied.contains id.toNat = false ∧ s.copyReady id.toNat (s.oItem id.toNat) = true) ∧
    (∃ (n : BitVec 13) (ph : DWord) (id : Nat) (s : State), s.orr.invs.any (fun x => x.1.id == n) = true ∧ s.oPresent n.toNat = false ∧ s.isCoord = true ∧ (s.oItem id).state = 2 ∧ (s.oItem id).owner = n.toNat ∧ (s.oItem id).partner = none) ∧
    (∃ (n : BitVec 13) (ph : DWord) (s : State), s.orr.invs.any (fun x => x.1.id == n) = false) :=
  ⟨⟨0x3FFF0000000E000900000350, 5, none, 0, (0, 6400), orrReq orrSt 0x3FFF0000000E000900000350, by decide +kernel⟩,
    ⟨0x00C10009_00000350, orrReq orrSt 0x00C1000900000350, by decide⟩,
    ⟨7, 0x351, orrSt, by decide⟩,
    ⟨0x4002300000352, orrReq orrSt 0x4002300000352, by decide⟩,
    ⟨orrSt, by decide⟩,
    ⟨2, orrInv, orrSt, by decide⟩,
    ⟨3, orrInv, orrSt, by decide⟩,
    ⟨[], (orrSt.setReg Reg.ORRERY_CTRL 3).ownInv, (orrSt.setReg Reg.ORRERY_CTRL 3).setReg Reg.ORRERY_STATUS 0, by decide⟩,
    ⟨[], orrSt.setReg Reg.ORRERY_STATUS 0, by decide⟩,
    ⟨{ orrSt with mono := 1000000000 }, by decide⟩,
    ⟨orrSt, by decide⟩,
    ⟨9, 6, none, 0, [], (orrItem { state := 2, owner := 5 }).updOrr fun o => { o with moves := [(9, 6, none)] }, by decide⟩,
    ⟨orrSt, by decide⟩,
    ⟨6, 9, orrItem { state := 3, owner := 5, next := 6, repO := true }, by decide⟩,
    ⟨6, 9, orrItem { state := 2, owner := 5, next := 6, repO := true }, by decide⟩,
    ⟨9, [], (orrItem { state := 3, owner := 5, next := 6, cframe := 103 }).updOrr fun o => { o with commits := [9] }, by decide⟩,
    ⟨orrSt, by decide⟩,
    ⟨9, orrItem { state := 4, owner := 5, next := 6, cframe := 100 }, by decide⟩,
    ⟨9, orrSt.updOrr fun o => { o with copyWait := [9] }, by decide⟩,
    ⟨9, orrSt, by decide⟩,
    ⟨9, orrItem { state := 4, owner := 5, next := 6, cframe := 100, addr := 0x1000, pages := 1, put := { carry := true } }, by decide⟩,
    ⟨6, 0, 9, (orrItem { state := 2, owner := 6 }).updOrr fun o => { o with invs := [(orrInv, 0)] }, by decide⟩,
    ⟨6, 0, orrSt, by decide⟩⟩

theorem witness_MacPortsSendAndPause :
    (∃ (e : Entry) (es : List Entry) (s : State), s.mac.turn = false ∧ s.descReady 0 (s.txRing 0) = true ∧ (s.ring (s.txRing 0)).head ++ (s.ring (s.txRing 0)).spill ++ (s.ring (s.txRing 0)).tail = e :: es ∧ s.mac.asm.get [] 0 = [] ∧ entryType e = 0x60 ∧ entrySop e = true ∧ entryEop e = true ∧ s.descBad [e] = false ∧ s.macUp (wfld (entryWord e 1) 5 0) = true ∧ s.fixGated (wfld (entryWord e 1) 5 0) (wfld (entryWord e 1) 8 6) = false) ∧
    (∃ (e : Entry) (es : List Entry) (s : State), s.mac.turn = false ∧ s.descReady 0 (s.txRing 0) = true ∧ (s.ring (s.txRing 0)).head ++ (s.ring (s.txRing 0)).spill ++ (s.ring (s.txRing 0)).tail = e :: es ∧ entryType e ≠ 0x60 ∧ s.onceOk Code.MAC_DESC_BAD 1000000000 = true ∧ s.faultRoom) ∧
    (∃ (s : State), s.descReady 0 (s.txRing 0) = false ∧ s.descReady 1 (s.txRing 1) = false) ∧
    (∃ (p : MacId) (i : MItem) (l : List MItem) (s : State), s.macUp p.val = true ∧ (s.mport p.val).cur = none ∧ s.txAwake p.val = true ∧ (s.mport p.val).queue 7 = i :: l ∧ i.job = none ∧ i.lmode = 0 ∧ i.wb = false ∧ i.ts = false ∧ s.macPaused p.val 7 = false ∧ s.slope p.val 7 = 0 ∧ s.mfld p.val Reg.MAC_LAUNCH 23 16 = 0 ∧ s.fixGated p.val 7 = false ∧ i.parts.any (fun x => s.hasUe x.1 x.2) = false) ∧
    (∃ (p : MacId) (s : State), (s.macUp p.val = false ∨ (s.mport p.val).cur.isSome = true ∨ s.txAwake p.val = false)) ∧
    (∃ (p : MacId) (c : TxCur) (s : State), (s.mport p.val).cur = some c ∧ (s.mport p.val).pfcDue = none) ∧
    (∃ (p : MacId) (s : State), (s.mport p.val).cur = none) ∧
    (∃ (a : Act) (s : State), (s.issued.find? fun x => actCode x.act == 3) = some a ∧ wfld a.a1 8 8 = 1 ∧ wfld a.a1 12 12 = 1) ∧
    (∃ (a : Act) (j : Job) (s : State), (s.issued.find? fun x => actCode x.act == 3) = some a ∧ wfld a.a1 8 8 = 0 ∧ wfld a.a1 12 12 = 0 ∧ s.macUp (actTarget a.act) = true ∧ 0 < s.sidInc ∧ { s.jobOf (a.a0.toNat + wfld a.a1 7 0 * 2 ^ 32) (a.fire + BitVec.ofNat 64 (a.a2.toNat + wfld a.a3 15 0 * 2 ^ 32)) (s.latchNs (a.fire + BitVec.ofNat 64 (a.a2.toNat + wfld a.a3 15 0 * 2 ^ 32))).1 with dark := (s.jobMode (actTarget a.act)).1, mute := (s.jobMode (actTarget a.act)).2 } = j ∧ s.jobBad (actTarget a.act) (a.a0.toNat + wfld a.a1 7 0 * 2 ^ 32) j = false ∧ (s.mport (actTarget a.act)).jobs < 16) ∧
    (∃ (a : Act) (s : State), (s.issued.find? fun x => actCode x.act == 3) = some a ∧ wfld a.a1 8 8 = 0 ∧ wfld a.a1 12 12 = 0 ∧ s.macUp (actTarget a.act) = true ∧ a.a0.toNat % 64 ≠ 0 ∧ s.faultQ.length + 1 < 256) ∧
    (∃ (p : MacId) (s : State), p.val < 32 ∧ s.macUp p.val = true ∧ s.mbit p.val Reg.MAC_EEE 0 = true ∧ (s.mport p.val).lpi = 0 ∧ (s.mport p.val).cur = none ∧ (s.mport p.val).idleAt + s.mfld p.val Reg.MAC_EEE 15 8 * 1000 ≤ s.mono ∧ (s.mport p.val).queues = {}) ∧
    (∃ (p : MacId) (s : State), (32 ≤ p.val ∨ s.macUp p.val = false ∨ s.mbit p.val Reg.MAC_EEE 0 = false)) ∧
    (∃ (p : MacId) (q : Fin 8) (i : MItem) (s : State), (s.mport p.val).lpi = 1 ∧ i ∈ (s.mport p.val).queue q.val ∧ i.job = none ∧ i.lmode = 0) ∧
    (∃ (p : MacId) (s : State), (s.mport p.val).lpi ≠ 1) ∧
    (∃ (p : MacId) (en : Byte) (quanta : BitVec 128) (i : Fin 8) (s : State), s.macUp p.val = true ∧ p.val ≠ 36 ∧ s.mbit p.val Reg.MAC_PFC 8 = true ∧ en = BitVec.ofNat 8 (2 ^ i.val) ∧ bits quanta (16 * i.val + 15) (16 * i.val) ≠ 0 ∧ (s.mport p.val).pause.get none (s.mfld p.val Reg.MAC_PRIOMAP (3 * i.val + 2) (3 * i.val)) = none) ∧
    (∃ (p : MacId) (en : Byte) (quanta : BitVec 128) (s : State), s.macUp p.val = false) ∧
    (∃ (p : MacId) (quanta : BitVec 16) (s : State), s.macUp p.val = true ∧ p.val ≠ 36 ∧ s.mbit p.val Reg.MAC_CTRL 8 = true) ∧
    (∃ (p : MacId) (q : Fin 8) (x : Nat × Nat × Bool) (s : State), (s.mport p.val).pause.get none q.val = some x ∧ x.1 ≤ s.mono) ∧
    (∃ (p : MacId) (q : Fin 8) (s : State), (s.mport p.val).pause.get none q.val = none) ∧
    (∃ (p : MacId) (q : Fin 8) (x f : Nat) (s : State), (s.mport p.val).pause.get none q.val = some (x, f, false) ∧ p.val < 36 ∧ s.mono < x ∧ f + s.mfld p.val Reg.MAC_PFC 31 16 * 1000000 < s.mono ∧ s.faultRoom) ∧
    (∃ (p : MacId) (s : State), p.val ≠ 36 ∧ s.macUp p.val = true ∧ s.mfld p.val Reg.MAC_PFC 7 0 ≠ 0 ∧ (s.mport p.val).xoff = none ∧ s.mfld p.val Reg.MAC_PFC_THR 15 0 * 64 ≤ s.fifoBytes p.val ∧ (s.mport p.val).cur = none) ∧
    (∃ (p : MacId) (x : Nat) (s : State), (s.mport p.val).xoff = some x ∧ x + 0xFFFF * 256000 / s.macRate p.val ≤ s.mono ∧ (s.mport p.val).cur = none) ∧
    (∃ (p : MacId) (s : State), (s.mport p.val).xoff = none) ∧
    (∃ (p : MacId) (s : State), (s.mport p.val).xoff.isSome = true ∧ s.fifoBytes p.val ≤ s.mfld p.val Reg.MAC_PFC_THR 31 16 * 64 ∧ (s.mport p.val).cur.isSome = true) ∧
    (∃ (p : MacId) (an : Option (BitVec 16)) (s : State), s.mbit p.val Reg.MAC_CTRL 0 = true ∧ s.mbit p.val Reg.MAC_STATUS 0 = false ∧ (p.val = 36 ∨ s.refOk (p.val + 16) = true) ∧ s.faultRoom) ∧
    (∃ (p : MacId) (an : Option (BitVec 16)) (s : State), (s.mbit p.val Reg.MAC_CTRL 0 = false ∨ s.mbit p.val Reg.MAC_STATUS 0 = true ∨ (p.val < 36 ∧ s.refOk (p.val + 16) = false))) ∧
    (∃ (p : MacId) (s : State), s.mbit p.val Reg.MAC_STATUS 0 = true ∧ s.mbit p.val Reg.MAC_CTRL 0 = true ∧ s.faultQ.length + 1 < 256) ∧
    (∃ (p : MacId) (s : State), s.mbit p.val Reg.MAC_STATUS 0 = false) ∧
    (∃ (ag : Agent) (p : MacId) (w : Word) (s : State), s.canWrite ag (macA p.val Reg.MAC_CTRL) ∧ s.mbit p.val Reg.MAC_CTRL 0 = true ∧ wfld w 2 1 ≠ s.mfld p.val Reg.MAC_CTRL 2 1 ∧ s.faultRoom) ∧
    (∃ (ag : Agent) (p : MacId) (w : Word) (s : State), s.canWrite ag (macA p.val Reg.MAC_CTRL) ∧ s.macCtrlBad p.val w = false) :=
  ⟨⟨0x1000_00400003_00000360, [], macRing macSt 5 0 0x1000_00400003_00000360, by decide⟩,
    ⟨0x361, [], macRing macSt 5 0 0x361, by decide⟩,
    ⟨macSt, by decide⟩,
    ⟨3, { parts := [(0x1000, 64)] }, [], macSt.setMport 3 (({} : MPort).setQueue 7 [{ parts := [(0x1000, 64)] }]), by decide⟩,
    ⟨3, State.reset, by decide⟩,
    ⟨3, ⟨7, 64, none, 0, 0, 0, 0⟩, macSt.setMport 3 { cur := some ⟨7, 64, none, 0, 0, 0, 0⟩ }, by decide⟩,
    ⟨3, macSt, by decide⟩,
    ⟨⟨0x303, 0, 0x1F00, 0, 0, 0, 0, 5, 0, 0⟩, { macSt.setMport 3 (({} : MPort).setQueue 7 [{ lmode := 3, parts := [(0x1000, 64)] }]) with issued := [⟨0x303, 0, 0x1F00, 0, 0, 0, 0, 5, 0, 0⟩] }, by decide⟩,
    ⟨⟨0x303, 0x1000, 0, 0, 0, 0, 5, 0, 0, 0⟩, macJob, macJobSt, by decide +kernel⟩,
    ⟨⟨0x303, 0x1001, 0, 0, 0, 0, 0, 5, 0, 0⟩, { macSt with issued := [⟨0x303, 0x1001, 0, 0, 0, 0, 0, 5, 0, 0⟩] }, by decide⟩,
    ⟨3, { macSt.setBit (macA 3 Reg.MAC_EEE) 0 true with mono := 1000000 }, by decide⟩,
    ⟨3, macSt, by decide⟩,
    ⟨3, 7, { parts := [(0x1000, 64)] }, macSt.setMport 3 (({ lpi := 1 } : MPort).setQueue 7 [{ parts := [(0x1000, 64)] }]), by decide⟩,
    ⟨3, macSt, by decide⟩,
    ⟨3, 4, 0x700000000, 2, macSt.setBit (macA 3 Reg.MAC_PFC) 8 true, by decide⟩,
    ⟨3, 4, 7, State.reset, by decide⟩,
    ⟨3, 9, macSt, by decide⟩,
    ⟨3, 2, (5, 1, false), { macSt.setMport 3 { pause := ({} : SMap (Option (Nat × Nat × Bool))).put none 2 (some (5, 1, false)) } with mono := 5 }, by decide⟩,
    ⟨3, 2, macSt, by decide⟩,
    ⟨3, 2, 100000000000000, 0, { macSt.setMport 3 { pause := ({} : SMap (Option (Nat × Nat × Bool))).put none 2 (some (100000000000000, 0, false)) } with mono := 99000000000000 }, by decide⟩,
    ⟨3, (macSt.setBit (macA 3 Reg.MAC_PFC) 0 true).setFld (macA 3 Reg.MAC_PFC_THR) 15 0 0, by decide⟩,
    ⟨3, 0, { macSt.setMport 3 { xoff := some 0 } with mono := 1000000000 }, by decide⟩,
    ⟨3, macSt, by decide⟩,
    ⟨3, macSt.setMport 3 { xoff := some 0, cur := some ⟨7, 64, none, 0, 0, 0, 0⟩ }, by decide⟩,
    ⟨3, none, (State.reset.setBit (macA 3 Reg.MAC_CTRL) 0 true).setReg Reg.SERDES_REF_STAT 1, by decide⟩,
    ⟨3, none, macSt, by decide⟩,
    ⟨3, macSt.setMport 3 (({} : MPort).setQueue 7 [{ parts := [(0x1000, 64)] }]), by decide⟩,
    ⟨3, State.reset, by decide⟩,
    ⟨.sup 2, 3, 1, macSt, by decide⟩,
    ⟨.sup 2, 3, 7, macSt, by decide⟩⟩

theorem witness_MacPortsReceive :
    (∃ (p : MacId) (l : List Byte) (ago : Nat) (s : State), s.macUp p.val = true ∧ l.length < 64) ∧
    (∃ (p : MacId) (l : List Byte) (ago : Nat) (s : State), s.macUp p.val = true ∧ 64 ≤ l.length ∧ l.length < 16383 ∧ leNat (l.drop (l.length - 4)) ≠ (crc32 (l.take (l.length - 4))).toNat) ∧
    (∃ (p : MacId) (l : List Byte) (ago : Nat) (s : State), s.macUp p.val = true ∧ 64 ≤ l.length ∧ l.length < 16383 ∧ l.length ≤ s.maxFrame p.val ∧ leNat (l.drop (l.length - 4)) = (crc32 (l.take (l.length - 4))).toNat ∧ s.macFilter p.val l = true ∧ beAt l 12 2 ≠ 0x8808 ∧ s.macDest p.val l = 101 ∧ s.fifoBytes p.val + l.length ≤ 65536) ∧
    (∃ (p : MacId) (l : List Byte) (ago : Nat) (s : State), s.macUp p.val = false) ∧
    (∃ (p : MacId) (f : RxFrame) (r : List RxFrame) (a n : Nat) (ck : Word) (bs : List (Nat × Nat × Word)) (s : State), (s.mport p.val).fifo = f :: r ∧ s.mac.free = (a, n, ck) :: bs ∧ f.ptp = false ∧ s.ringRoom (s.fld Reg.MAC_RINGS2 (8 * s.mfld p.val Reg.MAC_CTRL 10 9 + 5) (8 * s.mfld p.val Reg.MAC_CTRL 10 9)) 1 = true ∧ (s.ring (s.fld Reg.MAC_RINGS2 (8 * s.mfld p.val Reg.MAC_CTRL 10 9 + 5) (8 * s.mfld p.val Reg.MAC_CTRL 10 9))).dropping = false) ∧
    (∃ (p : MacId) (s : State), ((s.mport p.val).fifo = [] ∨ s.mac.free = [])) ∧
    (∃ (e : Entry) (es : List Entry) (s : State), (s.ring (s.fld Reg.MAC_RINGS 29 24)).head ++ (s.ring (s.fld Reg.MAC_RINGS 29 24)).spill ++ (s.ring (s.fld Reg.MAC_RINGS 29 24)).tail = e :: es ∧ entryType e = 0x62 ∧ 64 ≤ wfld (entryWord e 1) 15 0 ∧ wfld (entryWord e 1) 15 0 ≤ 16384 ∧ wfld (entryWord e 1) 15 0 % 64 = 0 ∧ bits e 103 64 % 64 = 0 ∧ macSpan (bits e 103 64) (wfld (entryWord e 1) 15 0) = true) ∧
    (∃ (s : State), s.ringBusy (s.fld Reg.MAC_RINGS 29 24) = false) ∧
    (∃ (x : MacIn) (n d : Nat) (s : State), (s.mac.inbox.find? fun y => y.st.isNone && acnVector y.data == some 4) = some x ∧ State.sacnGood x.data = true ∧ s.sacnEntry (beAt x.data 113 2) = n ∧ s.memNat (s.sacnRow n + 8) 5 = d ∧ wfld (s.memWord (s.sacnRow n)) 1 0 = 1 ∧ beAt x.data 109 2 = 0) ∧
    (∃ (x : MacIn) (s : State), (s.mac.inbox.find? fun y => y.st.isNone && acnVector y.data == some 4) = some x ∧ State.sacnGood x.data = false) ∧
    (∃ (x : MacIn) (i : Fin 1024) (d : Nat) (s : State), (s.mac.inbox.find? fun y => y.st.isNone && acnVector y.data == some 8) = some x ∧ beAt x.data 40 4 = 1 ∧ wfld (s.memWord (s.sacnRow (i.val + 1))) 0 0 = 1 ∧ wfld (s.memWord (s.sacnRow (i.val + 1))) 3 3 = 1 ∧ s.memNat (s.sacnRow (i.val + 1) + 6) 2 = beAt x.data 45 2 ∧ s.memNat (s.sacnRow (i.val + 1) + 8) 5 = d ∧ (s.regAddr Reg.MAC_SACN_RXTBL_LO + 32768 ≤ d ∨ d + 0x610 ≤ s.regAddr Reg.MAC_SACN_RXTBL_LO) ∧ (∀ j : Fin 1024, j ≠ i → wfld (s.memWord (s.sacnRow (j.val + 1))) 0 0 = 0)) ∧
    (∃ (x : MacIn) (s : State), (s.mac.inbox.find? fun y => y.st.isNone && acnVector y.data == some 8) = some x ∧ beAt x.data 40 4 ≠ 1) ∧
    (∃ (n : Fin 1024) (x : Nat) (s : State), s.mac.sacnAt.get none (n.val + 1) = some x ∧ x + 2500000000 ≤ s.mono ∧ s.faultQ.length + 1 < 256) ∧
    (∃ (n : Fin 1024) (s : State), s.mac.sacnAt.get none (n.val + 1) = none) ∧
    (∃ (x : MacIn) (k : Nat) (s : State), (s.mac.inbox.find? fun y => y.st.isSome) = some x ∧ x.st = some k ∧ s.bit (State.stA Reg.ST_CFG k) 1 = false) ∧
    (∃ (x : MacIn) (k len y z : Nat) (body : List Byte) (s : State), (s.mac.inbox.find? fun y => y.st.isSome) = some x ∧ x.st = some k ∧ s.bit (State.stA Reg.ST_CFG k) 1 = true ∧ beAt x.data 0 1 % 16 = 0 ∧ beAt x.data 1 1 < 128 ∧ stRows 4 (x.data.drop 14) = ([(len, false, y, z)], body) ∧ (s.stSt k).ts = some (BitVec.ofNat 32 (beAt x.data 4 4)) ∧ (s.stSt k).dropped = false ∧ (s.stSt k).seq = some (BitVec.ofNat 32 (beAt x.data 12 2 * 65536 + beAt x.data 2 2) - 1) ∧ y < s.fld (State.stA Reg.ST_SIZE k) 27 16) ∧
    (∃ (ag : Agent) (u : Fin 4) (k : Fin 16) (w : Word) (s : State), s.canWrite ag (State.stA Reg.ST_CFG (16 * u.val + k.val)) ∧ s.bit (State.stA Reg.ST_CFG (16 * u.val + k.val)) 0 = true ∧ wfld w 0 0 = 1) ∧
    (∃ (ag : Agent) (u : Fin 4) (k : Fin 16) (w : Word) (s : State), s.canWrite ag (State.stA Reg.ST_CFG (16 * u.val + k.val)) ∧ s.bit (State.stA Reg.ST_CFG (16 * u.val + k.val)) 0 = true ∧ wfld w 0 0 = 0) ∧
    (∃ (ag : Agent) (u : Fin 4) (k : Fin 16) (w : Word) (s : State), s.canWrite ag (State.stA Reg.ST_CFG (16 * u.val + k.val)) ∧ s.bit (State.stA Reg.ST_CFG (16 * u.val + k.val)) 0 = false ∧ wfld w 1 0 = 3 ∧ s.stCfgRefused (16 * u.val + k.val) w = true ∧ s.faultRoom) :=
  ⟨⟨3, [1, 2], 0, macSt, by decide⟩,
    ⟨3, List.replicate 64 5, 0, macSt, by decide +kernel⟩,
    ⟨3, macFrame, 0, macSt, by decide +kernel⟩,
    ⟨3, [], 0, State.reset, by decide⟩,
    ⟨3, ⟨[1, 2, 3], 3, false, false, 9⟩, [], 0x1000, 64, 5, [], { macSt.setMport 3 { fifo := [⟨[1, 2, 3], 3, false, false, 9⟩] } with mac := { macSt.mac with free := [(0x1000, 64, 5)] } }, by decide⟩,
    ⟨3, macSt, by decide⟩,
    ⟨0x1000_00000040_00000362, [], macRing macSt 29 24 0x1000_00000040_00000362, by decide⟩,
    ⟨macSt, by decide⟩,
    ⟨⟨3, none, sacnPkt, 0⟩, 1, 0x30000, { sacnSt with mac := { sacnSt.mac with inbox := [⟨3, none, sacnPkt, 0⟩] } }, by decide +kernel⟩,
    ⟨⟨3, none, sacnPkt.take 60, 0⟩, { sacnSt with mac := { sacnSt.mac with inbox := [⟨3, none, sacnPkt.take 60, 0⟩] } }, by decide +kernel⟩,
    ⟨⟨3, none, sacnSync, 0⟩, 0, 0x30000, { (sacnSt.setBytes 0x20000 [9, 0, 0, 0, 0, 0, 7, 0]).setBytes 0x30600 [2, 0] with mac := { sacnSt.mac with inbox := [⟨3, none, sacnSync, 0⟩] } }, by decide +kernel⟩,
    ⟨⟨3, none, (sacnSync.take 30), 0⟩, { sacnSt with mac := { sacnSt.mac with inbox := [⟨3, none, (sacnSync.take 30), 0⟩] } }, by decide⟩,
    ⟨0, 5, { sacnSt with mono := 2500000005, mac := { sacnSt.mac with sacnAt := ({} : SMap (Option Nat)).put none 1 (some 5) } }, by decide⟩,
    ⟨0, sacnSt, by decide⟩,
    ⟨⟨33, some 20, stPkt, 0⟩, 20, { streamSt with mac := { streamSt.mac with inbox := [⟨33, some 20, stPkt, 0⟩] } }, by decide⟩,
    ⟨⟨32, some 2, stPkt, 0⟩, 2, 6, 3, 2, [1, 2, 3, 4, 5, 6], { streamSt with mac := { streamSt.mac with inbox := [⟨32, some 2, stPkt, 0⟩] } }, by decide⟩,
    ⟨.sup 2, 0, 2, 3, streamSt, by decide⟩,
    ⟨.sup 2, 0, 2, 2, streamSt, by decide⟩,
    ⟨.sup 2, 0, 3, 3, streamSt, by decide⟩⟩

theorem witness_BridgePortsSendAndCarryRdm :
    (∃ (a : Act) (d n src at' : Nat) (s : State), (s.issued.find? fun x => actCode x.act == 4) = some a ∧ actTarget a.act % 16 = d ∧ wfld a.a0 9 0 = n ∧ 0 < n ∧ n ≤ 512 ∧ wfld a.a0 16 16 = 0 ∧ s.bit (State.dA d Reg.DMX_CFG) 0 = true ∧ s.dOpen = true ∧ s.under = 3 ∧ (s.dport d).act = 1 ∧ s.regAddr (State.dA d Reg.DMX_SRC_LO) / 512 * 512 = src ∧ src + 0x200 * (1 + (s.memWord src).toNat % max 1 (s.fld (State.dA d Reg.DMX_SRC_CFG) 2 0)) = at' ∧ s.hasUe src 4 = false ∧ s.hasUe at' n = false) ∧
    (∃ (a : Act) (d : Nat) (s : State), (s.issued.find? fun x => actCode x.act == 4) = some a ∧ actTarget a.act % 16 = d ∧ wfld a.a0 16 16 = 0 ∧ s.bit (State.dA d Reg.DMX_CFG) 0 = true ∧ s.dOpen = true ∧ s.under = 3 ∧ (s.dport d).act = 2) ∧
    (∃ (d : DmxId) (s : State), (s.dport d.val).act = 2 ∧ (s.dport d.val).endAt ≤ s.mono ∧ (s.dport d.val).waiting = [] ∧ (s.dport d.val).fsWait = false) ∧
    (∃ (d : DmxId) (s : State), ((s.dport d.val).act ≠ 2 ∨ s.mono < (s.dport d.val).endAt)) ∧
    (∃ (d : DmxId) (q : DReq) (r : List DReq) (s : State), (s.dport d.val).queue = q :: r ∧ s.rdmMay d.val q = true) ∧
    (∃ (d : DmxId) (s : State), (s.dport d.val).queue = []) ∧
    (∃ (d : DmxId) (l : List Byte) (q : DReq) (s : State), (s.dport d.val).cur = some q ∧ (s.dport d.val).act = 3 ∧ q.kind = 0 ∧ (s.dport d.val).reqEnd ≤ s.mono ∧ State.rdmMatches (s.dport d.val) q l = true ∧ (s.dport d.val).waiting = [] ∧ (s.dport d.val).fsWait = false) ∧
    (∃ (d : DmxId) (l : List Byte) (s : State), (s.dport d.val).cur = none) ∧
    (∃ (d : DmxId) (q : DReq) (s : State), (s.dport d.val).cur = some q ∧ (s.dport d.val).act = 3 ∧ q.kind = 0 ∧ (s.dport d.val).reqEnd + s.reqTmo d.val q ≤ s.mono ∧ (s.dport d.val).waiting = [] ∧ (s.dport d.val).fsWait = false ∧ q.tries < s.fld (State.dA d.val Reg.DMX_RDM) 19 16) ∧
    (∃ (d : DmxId) (q : DReq) (s : State), (s.dport d.val).cur = some q ∧ (s.dport d.val).act = 3 ∧ q.kind = 0 ∧ (s.dport d.val).reqEnd + s.reqTmo d.val q ≤ s.mono ∧ (s.dport d.val).waiting = [] ∧ (s.dport d.val).fsWait = false ∧ s.fld (State.dA d.val Reg.DMX_RDM) 19 16 ≤ q.tries) ∧
    (∃ (e : Entry) (ok : Bool) (d i : Nat) (s : State), s.bit Reg.DMX_RINGS 16 = true ∧ s.tunnelHead = some ([e], ok) ∧ wfld (entryWord e 1) 4 4 = 0 ∧ wfld (entryWord e 1) 31 16 = 0 ∧ State.tunnelBad [e] ok = false ∧ wfld (entryWord e 1) 3 0 = d ∧ s.tunnelPort d = true ∧ ((List.range 64).find? fun i => !(s.dpend.get {} i).used) = some i ∧ s.queued d < 32) ∧
    (∃ (s : State), s.bit Reg.DMX_RINGS 16 = false) ∧
    (∃ (e : Entry) (ok : Bool) (i : Nat) (s : State), s.bit Reg.DMX_RINGS 16 = true ∧ s.tunnelHead = some ([e], ok) ∧ wfld (entryWord e 1) 4 4 = 0 ∧ wfld (entryWord e 1) 31 16 ≠ 0 ∧ State.tunnelBad [e] ok = false ∧ wfld (entryWord e 1) 31 16 % 64 = i ∧ (s.dpend.get {} i).used = true ∧ (s.dpend.get {} i).gen = wfld (entryWord e 1) 31 16 / 64 ∧ (s.dpend.get {} i).port = wfld (entryWord e 1) 3 0 ∧ (s.dpend.get {} i).outcome ≠ 0 ∧ wfld (entryWord e 2) 12 0 ≠ s.ownId) ∧
    (∃ (e : Entry) (ok : Bool) (i : Nat) (s : State), s.bit Reg.DMX_RINGS 16 = true ∧ s.tunnelHead = some ([e], ok) ∧ wfld (entryWord e 1) 4 4 = 0 ∧ wfld (entryWord e 1) 31 16 ≠ 0 ∧ State.tunnelBad [e] ok = false ∧ wfld (entryWord e 1) 31 16 % 64 = i ∧ (s.dpend.get {} i).outcome = 0) ∧
    (∃ (e : Entry) (ok : Bool) (d : Nat) (s : State), s.bit Reg.DMX_RINGS 16 = true ∧ s.tunnelHead = some ([e], ok) ∧ wfld (entryWord e 1) 4 4 = 1 ∧ State.tunnelBad [e] ok = false ∧ wfld (entryWord e 1) 3 0 = d ∧ s.tunnelPort d = true ∧ s.queued d < 32) ∧
    (∃ (i : Fin 64) (s : State), (s.dpend.get {} i.val).used = true ∧ (s.dpend.get {} i.val).outcome ≠ 0 ∧ (s.dpend.get {} i.val).endAt + max 1 (s.fld Reg.DMX_BRIDGE 15 0) * 1000000 ≤ s.mono ∧ s.faultRoom) ∧
    (∃ (i : Fin 64) (s : State), (s.dpend.get {} i.val).used = false) ∧
    (∃ (ag : Agent) (d : DmxId) (s : State), s.canWrite ag (State.dA d.val Reg.DMX_CMD) ∧ (s.dport d.val).disc = none) ∧
    (∃ (d : DmxId) (s : State), s.dRdmOn d.val = true ∧ s.bit (State.dA d.val Reg.DMX_CFG) 12 = true ∧ (s.dport d.val).disc = none ∧ (s.dport d.val).sweepAt + max 1 (s.fld (State.dA d.val Reg.DMX_RDM) 31 24) * 1000000000 ≤ s.mono) ∧
    (∃ (d : DmxId) (s : State), (s.dRdmOn d.val = false ∨ (s.dport d.val).disc.isSome = true)) ∧
    (∃ (d : DmxId) (s : State), s.failsafeMode = true ∧ s.mono / 25000000 ≠ (s.dport d.val).fsAt ∧ s.dOpen = true ∧ (s.dport d.val).act = 1) ∧
    (∃ (d : DmxId) (s : State), s.failsafeMode = false) ∧
    (∃ (p : Fin 32) (b : Nat) (s : State), s.fld Reg.SYS_FS_BASE_HI 7 0 * 2 ^ 32 + s.fld Reg.SYS_FS_BASE_LO 31 12 * 4096 = b ∧ s.failsafeMode = true ∧ s.bit Reg.SYS_FS_STAT 0 = true ∧ (s.memWord (b + 8)).getLsbD p.val = true ∧ s.macUp p.val = true ∧ s.once.get none (2 ^ 48 + p.val) ≠ some (s.mono / 100000000)) ∧
    (∃ (p : Fin 32) (s : State), s.failsafeMode = false) :=
  ⟨⟨⟨0x304, 16, 0, 0, 0, 0, 0, 0, 0, 0⟩, 3, 16, 0x10000, 0x10200, { dmxSt {} with issued := [⟨0x304, 16, 0, 0, 0, 0, 0, 0, 0, 0⟩] }, by decide⟩,
    ⟨⟨0x304, 16, 0, 0, 0, 0, 0, 0, 0, 0⟩, 3, { dmxSt { act := 2 } with issued := [⟨0x304, 16, 0, 0, 0, 0, 0, 0, 0, 0⟩] }, by decide⟩,
    ⟨3, dmxSt { act := 2 }, by decide⟩,
    ⟨3, dmxSt {}, by decide⟩,
    ⟨3, { kind := 0, cc := 0x20, pid := 0x60, duid := 5 }, [], dmxSt { queue := [{ kind := 0, cc := 0x20, pid := 0x60, duid := 5 }] }, by decide⟩,
    ⟨3, dmxSt {}, by decide⟩,
    ⟨3, rdmRsp, { kind := 0, cc := 0x20, pid := 0x60, duid := 5, entry := 2 }, dmxSt { act := 3, tn := 7, cur := some { kind := 0, cc := 0x20, pid := 0x60, duid := 5, entry := 2 } }, by decide +kernel⟩,
    ⟨3, [], dmxSt {}, by decide⟩,
    ⟨3, { kind := 0, cc := 0x20, pid := 0x60, duid := 5, entry := 2 }, (dmxSt { act := 3, tn := 7, cur := some { kind := 0, cc := 0x20, pid := 0x60, duid := 5, entry := 2 } }).setFld (State.dA 3 Reg.DMX_RDM) 19 16 2, by decide⟩,
    ⟨3, { kind := 0, cc := 0x20, pid := 0x60, duid := 5, entry := 2, tries := 15 }, dmxSt { act := 3, tn := 7, cur := some { kind := 0, cc := 0x20, pid := 0x60, duid := 5, entry := 2, tries := 15 } }, by decide⟩,
    ⟨0x6020_00000005_00000000_00000000_00000003_00000370, true, 3, 0, tunSt 0x6020_00000005_00000000_00000000_00000003_00000370, by decide⟩,
    ⟨State.reset.setBit Reg.DMX_RINGS 16 false, by decide⟩,
    ⟨0x6020_00000005_00000000_00000009_00410003_00000370, true, 1, { tunSt 0x6020_00000005_00000000_00000009_00410003_00000370 with dpend := ({} : SMap DPend).put {} 1 { gen := 1, used := true, port := 3, outcome := 2 } }, by decide⟩,
    ⟨0x6020_00000005_00000000_00000009_00410003_00000370, true, 1, tunSt 0x6020_00000005_00000000_00000009_00410003_00000370, by decide⟩,
    ⟨0x6030_00000005_00000000_00000000_00000013_00000370, true, 3, tunSt 0x6030_00000005_00000000_00000000_00000013_00000370, by decide⟩,
    ⟨1, { State.reset with mono := 1000000000000, dpend := ({} : SMap DPend).put {} 1 { gen := 1, used := true, port := 3, outcome := 2 } }, by decide⟩,
    ⟨1, State.reset, by decide⟩,
    ⟨.sup 2, 3, dmxSt {}, by decide⟩,
    ⟨3, { dmxSt {} with mono := 1000000000000 }, by decide⟩,
    ⟨3, State.reset, by decide⟩,
    ⟨3, (dmxSt {}).setFld Reg.SYS_MODE 7 0 0x66, by decide⟩,
    ⟨3, dmxSt {}, by decide⟩,
    ⟨3, 0x1000, (((macSt.setFld Reg.SYS_MODE 7 0 0x66).setFld Reg.SYS_FS_BASE_LO 31 12 1).setBit Reg.SYS_FS_STAT 0 true).setBytes 0x1006 [1, 0, 8, 0], by decide⟩,
    ⟨3, macSt, by decide⟩⟩

theorem witness_PanelInputsFollowTheirSamples :
    (∃ (pins : Word) (em dk : Bool) (i : Fin 32) (s : State), s.bit Reg.PANEL_EN i.val = true ∧ s.pnlState i.val = 1 ∧ (s.pnl i.val).edges = [] ∧ (s.pnl i.val).runAt + s.debNs ≤ s.mono ∧ s.bit Reg.PANEL_RAW i.val = true ∧ (pins.getLsbD i.val == s.bit Reg.PANEL_POL i.val) = true) ∧
    (∃ (i : Fin 32) (s : State), s.pnlState i.val = 2 ∧ (s.pnl i.val).edges = [] ∧ s.bit Reg.PANEL_MAINT i.val = false ∧ (s.pnl i.val).activeAt + s.stuckNs ≤ s.sampleAt ∧ s.bit Reg.PANEL_RAW i.val = true ∧ s.faultQ.length + 1 < 256) ∧
    (∃ (i : Fin 32) (s : State), s.pnlState i.val ≠ 2 ∧ (s.pnl i.val).edges = []) ∧
    (∃ (ag : Agent) (w : Word) (i : Fin 32) (s : State), s.canWrite ag Reg.PANEL_REARM ∧ w.getLsbD i.val = true ∧ s.pnlState i.val = 4 ∧ (s.pnl i.val).edges = [] ∧ s.pnlStable i.val = true ∧ s.bit Reg.PANEL_RAW i.val = false) ∧
    (∃ (s : State), s.safeState 0 = 0 ∧ (s.safeIn 0).low = true ∧ (s.safeIn 0).runAt + 1000000 ≤ s.sampleAt ∧ s.faultQ.length + 1 < 256) ∧
    (∃ (s : State), (s.safeState 0 ≠ 0 ∨ (s.safeIn 0).low = false)) ∧
    (∃ (s : State), s.safeState 1 = 0 ∧ (s.safeIn 1).low = true ∧ (s.safeIn 1).runAt + 1000000 ≤ s.sampleAt ∧ s.faultQ.length + 1 < 256) ∧
    (∃ (s : State), (s.safeState 1 ≠ 0 ∨ (s.safeIn 1).low = false)) ∧
    (∃ (s : State), s.safeState 0 = 1 ∧ (s.safeIn 0).low = false ∧ (s.safeIn 0).runAt + s.fld Reg.PANEL_SAFE 31 16 * 1000000 ≤ s.sampleAt) ∧
    (∃ (s : State), s.safeState 1 = 1 ∧ (s.safeIn 1).low = false ∧ (s.safeIn 1).runAt + s.fld Reg.PANEL_SAFE 31 16 * 1000000 ≤ s.sampleAt) ∧
    (∃ (i : Fin 2) (s : State), s.safeState i.val ≠ 0 ∧ (s.safeIn i.val).long = false ∧ (s.safeIn i.val).assertAt + s.stuckNs ≤ s.sampleAt ∧ s.faultRoom) ∧
    (∃ (i : Fin 2) (s : State), (s.safeState i.val = 0 ∨ (s.safeIn i.val).long = true)) :=
  ⟨⟨0, true, true, 3, panelSt 1, by decide⟩,
    ⟨3, { panelSt 2 with sampleAt := 1000000000000 }, by decide⟩,
    ⟨3, panelSt 1, by decide⟩,
    ⟨.sup 2, 8, 3, (panelSt 4).setReg Reg.PANEL_RAW 0, by decide⟩,
    ⟨(panelSt 1).setSafe 0 { low := true }, by decide⟩,
    ⟨panelSt 1, by decide⟩,
    ⟨(panelSt 1).setSafe 1 { low := true }, by decide⟩,
    ⟨panelSt 1, by decide⟩,
    ⟨{ (panelSt 1).setFld Reg.PANEL_SAFE 1 0 1 with sampleAt := 1000000000000 }, by decide⟩,
    ⟨{ (panelSt 1).setFld Reg.PANEL_SAFE 3 2 1 with sampleAt := 1000000000000 }, by decide⟩,
    ⟨1, { (panelSt 1).setFld Reg.PANEL_SAFE 3 2 1 with sampleAt := 1000000000000 }, by decide⟩,
    ⟨1, panelSt 1, by decide⟩⟩

theorem witness_TwinOwnershipFollowsItsEvents :
    (∃ (s : State), s.twOwns = true ∧ s.twin.hbOut = none) ∧
    (∃ (s : State), s.twOwns = false) ∧
    (∃ (s : State), s.twEn = true ∧ (s.twState = 1 ∨ (s.twState = 4 ∧ s.twHeld = false))) ∧
    (∃ (s : State), s.twEn = false) ∧
    (∃ (s : State), s.twState = 1 ∧ s.hbLost = true ∧ s.twHeld = false ∧ s.bit Reg.TWIN_STATUS 4 = false ∧ s.twin.since + s.missN * s.hbPeriod + (if s.bit Reg.TWIN_CTRL 1 then s.fld Reg.TWIN_HB 31 24 * 1000000 else 0) ≤ s.mono) ∧
    (∃ (s : State), s.twState = 3 ∧ s.hbLost = true ∧ s.twHeld = false ∧ (s.bit Reg.TWIN_CTRL 7 = true ∨ s.bit Reg.TWIN_HEALTH 0 = true) ∧ s.bit Reg.TWIN_STATUS 4 = false ∧ s.faultRoom) ∧
    (∃ (s : State), s.twState = 4 ∧ s.twHeld = false ∧ s.bit Reg.TWIN_STATUS 4 = false ∧ s.twin.hbAt + s.missN * s.hbPeriod ≤ s.mono) ∧
    (∃ (s : State), s.twState ≠ 1 ∧ s.twState ≠ 3 ∧ s.twState ≠ 4) ∧
    (∃ (s : State), s.bit Reg.TWIN_STATUS 4 = false ∧ s.twEn = true) ∧
    (∃ (s : State), s.bit Reg.TWIN_STATUS 4 = false ∧ s.twState = 2 ∧ s.bit Reg.TWIN_CTRL 1 = true ∧ s.faultRoom) ∧
    (∃ (s : State), s.bit Reg.TWIN_STATUS 4 = true) ∧
    (∃ (s : State), s.bit Reg.TWIN_STATUS 4 = true ∧ s.twState = 4 ∧ s.twin.hbAt + s.missN * s.hbPeriod ≤ s.mono ∧ s.twHeld = false) ∧
    (∃ (j : Bool) (s : State), s.bit Reg.TWIN_STATUS 4 = true ∧ s.twState = 3 ∧ s.twin.take = some j ∧ s.twHeld = false) ∧
    (∃ (s : State), s.bit Reg.TWIN_STATUS 4 = false) ∧
    (∃ (s : State), s.twOwns = true ∧ s.bit Reg.TWIN_STATUS 4 = false ∧ max s.twin.ownAt s.twin.peerAt + 1000 ≤ s.mono) ∧
    (∃ (s : State), (s.twOwns = false ∨ s.bit Reg.TWIN_STATUS 4 = true)) ∧
    (∃ (n : Word) (sf : Fin 8) (s : State), s.twEn = true ∧ s.twinLinkUp = true ∧ s.twState = 3 ∧ s.bit Reg.TWIN_STATUS 4 = false ∧ s.twHeld = false ∧ s.faultRoom) ∧
    (∃ (n : Word) (sf : Fin 8) (s : State), s.twEn = true ∧ s.twinLinkUp = true ∧ s.twState = 3 ∧ s.bit Reg.TWIN_STATUS 4 = true ∧ s.twHeld = false) ∧
    (∃ (ag : Agent) (s : State), s.canWrite ag Reg.TWIN_CMD ∧ s.yieldOk = true ∧ s.faultRoom) ∧
    (∃ (ag : Agent) (s : State), s.canWrite ag Reg.TWIN_CMD ∧ s.yieldOk = false ∧ s.faultRoom) ∧
    (∃ (n sf : Nat) (s : State), s.twin.yield = some (n, sf) ∧ s.twState = 5 ∧ s.gatedPorts.all (fun p => s.yieldLeft p n sf) = true) ∧
    (∃ (s : State), s.twin.yield = none) ∧
    (∃ (x : Nat) (s : State), s.twin.readyAt = some x ∧ s.bit Reg.TWIN_CTRL 6 = true ∧ s.twin.byFault = true ∧ s.yieldOk = true ∧ x + 10000000000 ≤ s.mono) ∧
    (∃ (s : State), s.twin.readyAt = none) ∧
    (∃ (ag : Agent) (w : Word) (s : State), s.canWrite ag Reg.TWIN_CTRL ∧ s.bit Reg.TWIN_CTRL 31 = false ∧ s.twEn = false ∧ wfld w 0 0 = 1) ∧
    (∃ (ag : Agent) (w : Word) (s : State), s.canWrite ag Reg.TWIN_CTRL ∧ s.bit Reg.TWIN_CTRL 31 = false ∧ s.twEn = true ∧ wfld w 0 0 = 0) ∧
    (∃ (s : State), s.twEn = true ∧ s.twin.linkSeen = true ∧ s.twinLinkUp = false ∧ s.faultRoom) ∧
    (∃ (s : State), s.twin.linkSeen = false) ∧
    (∃ (s : State), s.tclkOk = true ∧ s.faultRoom) ∧
    (∃ (s : State), s.tclkOk = false) :=
  ⟨⟨twinSt 2, by decide⟩,
    ⟨twinSt 3, by decide⟩,
    ⟨twinSt 4, by decide⟩,
    ⟨State.reset, by decide⟩,
    ⟨twinSt 1, by decide⟩,
    ⟨(twinSt 3).setBit Reg.TWIN_HEALTH 0 true, by decide⟩,
    ⟨twinSt 4, by decide⟩,
    ⟨twinSt 2, by decide⟩,
    ⟨twinSt 2, by decide⟩,
    ⟨(twinSt 2).setBit Reg.TWIN_CTRL 1 true, by decide⟩,
    ⟨(twinSt 2).setBit Reg.TWIN_STATUS 4 true, by decide⟩,
    ⟨(twinSt 4).setBit Reg.TWIN_STATUS 4 true, by decide⟩,
    ⟨true, ((twinSt 3).setBit Reg.TWIN_STATUS 4 true).updTwin fun v => { v with take := some true }, by decide⟩,
    ⟨twinSt 3, by decide⟩,
    ⟨twinSt 2, by decide⟩,
    ⟨twinSt 3, by decide⟩,
    ⟨5, 0, twinSt 3, by decide⟩,
    ⟨5, 0, (twinSt 3).setBit Reg.TWIN_STATUS 4 true, by decide⟩,
    ⟨.sup 0, (twinSt 2).setBit Reg.TWIN_PEER_HEALTH 0 true, by decide⟩,
    ⟨.sup 0, twinSt 2, by decide⟩,
    ⟨5, 0, (twinSt 5).updTwin fun v => { v with yield := some (5, 0) }, by decide⟩,
    ⟨twinSt 2, by decide⟩,
    ⟨0, (((twinSt 2).setBit Reg.TWIN_PEER_HEALTH 0 true).setBit Reg.TWIN_CTRL 6 true).updTwin fun v => { v with readyAt := some 0, byFault := true }, by decide⟩,
    ⟨twinSt 2, by decide⟩,
    ⟨.sup 0, 9, State.reset, by decide⟩,
    ⟨.sup 0, 8, twinSt 3, by decide⟩,
    ⟨((twinSt 3).setFld (Reg.TRANSIT_STATUS + 0x2000) 1 0 1).updTwin fun v => { v with linkSeen := true }, by decide⟩,
    ⟨twinSt 3, by decide⟩,
    ⟨twinSt 2, by decide⟩,
    ⟨{ twinSt 2 with tclkOk := false }, by decide⟩⟩

theorem witness_TwinComparesJudgesAndPublishes :
    (∃ (x : TcrcEntry) (s : State), s.twEn = true ∧ s.twinLinkUp = true ∧ s.twin.items = []) ∧
    (∃ (x : TcrcEntry) (y : TItem) (s : State), s.twEn = true ∧ s.twinLinkUp = true ∧ s.twin.items = [y] ∧ y.kind = 1 ∧ x.kind = 1 ∧ y.port = x.port.toNat ∧ y.s = x.s.val ∧ y.a = x.a ∧ y.b = x.b ∧ y.own = some x.crc ∧ y.aligned = true) ∧
    (∃ (x : TcrcEntry) (y : TItem) (o : Word) (s : State), s.twEn = true ∧ s.twinLinkUp = true ∧ s.twin.items = [y] ∧ y.kind = 1 ∧ x.kind = 1 ∧ y.port = x.port.toNat ∧ y.s = x.s.val ∧ y.a = x.a ∧ y.b = x.b ∧ y.own = some o ∧ o ≠ x.crc ∧ y.aligned = true) ∧
    (∃ (es : List TcrcEntry) (s : State), (s.twEn = false ∨ s.twinLinkUp = false)) ∧
    (∃ (p : PortId) (sf : Fin 8) (n : Word) (dis : Bool) (re crc : Word) (j : Judge) (s : State), s.twEn = true ∧ s.twinLinkUp = true ∧ s.twin.judge = some j ∧ j.port = p.val ∧ j.s = sf.val ∧ j.n = n ∧ j.own = !dis) ∧
    (∃ (p : PortId) (sf : Fin 8) (n : Word) (re crc : Word) (j : Judge) (s : State), s.twEn = true ∧ s.twinLinkUp = true ∧ s.twin.judge = some j ∧ j.port = p.val ∧ j.s = sf.val ∧ j.n = n ∧ j.own = true ∧ s.twState = 3 ∧ s.twHeld = false ∧ s.bit Reg.TWIN_STATUS 4 = false ∧ s.faultRoom) ∧
    (∃ (p : PortId) (sf : Fin 8) (n : Word) (dis : Bool) (re crc : Word) (s : State), s.twEn = true ∧ s.twinLinkUp = true ∧ s.twin.judge = none) ∧
    (∃ (j : Judge) (s : State), s.twin.judge = some j ∧ j.at' + 100000 ≤ s.mono) ∧
    (∃ (s : State), s.twin.judge = none) ∧
    (∃ (p : PortId) (sf : Fin 8) (n k : Word) (l : List (Word × Word)) (s : State), s.twEn = true ∧ s.twinLinkUp = true) ∧
    (∃ (a b d : Word) (s : State), s.twEn = true ∧ s.twinLinkUp = true) ∧
    (∃ (s : State), s.stopped = false ∧ bits s.phase 31 31 = 1 ∧ s.twin.pubFrame ≠ some s.frame) ∧
    (∃ (s : State), (s.stopped = true ∨ bits s.phase 31 31 = 0)) ∧
    (∃ (f : Nat) (s : State), s.twin.peerFrame = some f ∧ s.twOwns = true ∧ 3 ≤ (BitVec.ofNat 32 s.frame - BitVec.ofNat 32 f).toInt ∧ s.faultRoom) ∧
    (∃ (s : State), s.twin.peerFrame = none) ∧
    (∃ (ag : Agent) (s : State), s.canWrite ag Reg.TWIN_CMD) ∧
    (∃ (k : Fin 3) (n : Fin 65536) (s : State), s.twState = 3 ∧ s.faultRoom) ∧
    (∃ (k : Fin 3) (n : Fin 65536) (s : State), s.twState = 3) ∧
    (∃ (k : Fin 3) (n : Fin 65536) (b : Bool) (s : State), s.twState ≠ 3) :=
  ⟨⟨⟨1, 1, 0, 5, 0, 77⟩, twinSt 2, by decide⟩,
    ⟨⟨1, 1, 0, 5, 0, 77⟩, { kind := 1, port := 1, s := 0, a := 5, b := 0, at' := 0, own := some 77 }, (twinSt 2).updTwin fun v => { v with items := [{ kind := 1, port := 1, s := 0, a := 5, b := 0, at' := 0, own := some 77 }] }, by decide⟩,
    ⟨⟨1, 1, 0, 5, 0, 77⟩, { kind := 1, port := 1, s := 0, a := 5, b := 0, at' := 0, own := some 78 }, 78, (twinSt 2).updTwin fun v => { v with items := [{ kind := 1, port := 1, s := 0, a := 5, b := 0, at' := 0, own := some 78 }] }, by decide⟩,
    ⟨[], State.reset, by decide⟩,
    ⟨1, 0, 5, true, 0, 0, ⟨1, 0, 5, false, 0⟩, (twinSt 3).updTwin fun v => { v with judge := some ⟨1, 0, 5, false, 0⟩ }, by decide⟩,
    ⟨1, 0, 5, 0, 0, ⟨1, 0, 5, true, 0⟩, (twinSt 3).updTwin fun v => { v with judge := some ⟨1, 0, 5, true, 0⟩ }, by decide⟩,
    ⟨1, 0, 5, true, 0, 0, twinSt 3, by decide⟩,
    ⟨⟨1, 0, 5, true, 0⟩, (twinSt 3).updTwin fun v => { v with judge := some ⟨1, 0, 5, true, 0⟩ }, by decide⟩,
    ⟨twinSt 3, by decide⟩,
    ⟨1, 0, 5, 1, [(1, 2)], twinSt 3, by decide⟩,
    ⟨5, 6, 7, twinSt 2, by decide⟩,
    ⟨{ plateRun with acc := 0x80000000 * 2 ^ 32 }, by decide⟩,
    ⟨State.reset, by decide⟩,
    ⟨0, { (twinSt 2).updTwin (fun v => { v with peerFrame := some 0 }) with acc := 0x500000000 * 2 ^ 32 }, by decide⟩,
    ⟨twinSt 2, by decide⟩,
    ⟨.sup 0, twinSt 2, by decide⟩,
    ⟨1, 7, twinSt 3, by decide⟩,
    ⟨1, 7, (twinSt 3).updTwin fun v => { v with failed := [65543] }, by decide⟩,
    ⟨1, 7, true, twinSt 2, by decide⟩⟩

theorem witness_AlmanacCommandsQueueAndEnd :
    (∃ (ag : Agent) (s : State), s.canWrite ag Reg.ALM_CMD ∧ wfld (s.areg (agIdx ag) Reg.ALM_RES) 4 4 = 0) ∧
    (∃ (ag : Agent) (s : State), s.canWrite ag Reg.ALM_CMD ∧ wfld (s.areg (agIdx ag) Reg.ALM_RES) 4 4 = 1) ∧
    (∃ (ag : Agent) (s : State), s.canWrite ag Reg.ALM_CMD ∧ wfld (s.areg (agIdx ag) Reg.ALM_RES) 4 4 = 0) ∧
    (∃ (ag : Agent) (s : State), s.canWrite ag Reg.ALM_CMD ∧ wfld (s.areg (agIdx ag) Reg.ALM_RES) 4 4 = 0) ∧
    (∃ (ag : Agent) (s : State), s.canWrite ag Reg.ALM_CMD ∧ wfld (s.areg (agIdx ag) Reg.ALM_RES) 4 4 = 0) ∧
    (∃ (ag : Agent) (k : Fin 4) (s : State), s.canWrite ag Reg.ALM_CMD ∧ wfld (s.areg (agIdx ag) Reg.ALM_RES) 4 4 = 0) ∧
    (∃ (fs : List FlashFail) (s : State), s.alm.queue = []) ∧
    (∃ (fs : List FlashFail) (a : AlmCmd) (q : List AlmCmd) (s : State), s.alm.queue = a :: q ∧ a.who < 8 ∧ s.almState < 2) ∧
    (∃ (fs : List FlashFail) (a : AlmCmd) (q : List AlmCmd) (s : State), s.alm.queue = a :: q ∧ a.who < 8 ∧ 2 ≤ s.almState ∧ a.op = 2 ∧ almAddrOk a.addr a.len = true ∧ 0 < wfld a.key 31 24 ∧ wfld a.key 31 24 < 8 ∧ s.almFind a.key = none) ∧
    (∃ (fs : List FlashFail) (a : AlmCmd) (q : List AlmCmd) (y : AlmRec) (s : State), s.alm.queue = a :: q ∧ a.who < 8 ∧ 2 ≤ s.almState ∧ a.op = 2 ∧ almAddrOk a.addr a.len = true ∧ 0 < wfld a.key 31 24 ∧ wfld a.key 31 24 < 8 ∧ s.almFind a.key = some y ∧ a.len < y.len) ∧
    (∃ (fs : List FlashFail) (a : AlmCmd) (q : List AlmCmd) (y : AlmRec) (s : State), s.alm.queue = a :: q ∧ a.who < 8 ∧ 2 ≤ s.almState ∧ a.op = 2 ∧ almAddrOk a.addr a.len = true ∧ 0 < wfld a.key 31 24 ∧ wfld a.key 31 24 < 8 ∧ s.almFind a.key = some y ∧ y.len ≤ a.len) ∧
    (∃ (fs : List FlashFail) (a : AlmCmd) (q : List AlmCmd) (s : State), s.alm.queue = a :: q ∧ a.who < 8 ∧ 2 ≤ s.almState ∧ a.op = 1 ∧ (spaceOk a.who a.key = false ∨ 65536 < a.len ∨ (a.del = true ∧ a.len ≠ 0) ∨ (a.del = false ∧ almAddrOk a.addr a.len = false))) ∧
    (∃ (fs : List FlashFail) (a : AlmCmd) (q : List AlmCmd) (s : State), s.alm.queue = a :: q ∧ a.who < 8 ∧ 2 ≤ s.almState ∧ a.op = 1 ∧ spaceOk a.who a.key = true ∧ a.len ≤ 65536 ∧ if a.del = true then a.len = 0 else almAddrOk a.addr a.len = true ∧ s.almPf = true) ∧
    (∃ (a : AlmCmd) (q : List AlmCmd) (s : State), s.alm.queue = a :: q ∧ a.who < 8 ∧ 2 ≤ s.almState ∧ a.op = 1 ∧ spaceOk a.who a.key = true ∧ a.len ≤ 65536 ∧ if a.del = true then a.len = 0 else almAddrOk a.addr a.len = true ∧ s.almPf = false ∧ s.almKeys < 32768 ∧ s.fits a.len = true ∧ s.hasUe a.addr a.len = false ∧ s.alm.retired = [] ∧ s.bit Reg.ALM_CTRL 2 = false ∧ 12 ≤ s.almLog ∧ s.alm.blocks.Nodup ∧ (s.alm.blocks.all fun b => b.isSome) = true) ∧
    (∃ (fs : List FlashFail) (a : AlmCmd) (q : List AlmCmd) (s : State), s.alm.queue = a :: q ∧ a.who < 8 ∧ 2 ≤ s.almState ∧ a.op = 4) ∧
    (∃ (fs : List FlashFail) (a : AlmCmd) (q : List AlmCmd) (s : State), s.alm.queue = a :: q ∧ a.who < 8 ∧ 2 ≤ s.almState ∧ (a.op = 0 ∨ 4 < a.op)) :=
  ⟨⟨.sup 1, almSt [], by decide⟩,
    ⟨.sup 1, (almSt []).setAreg 1 Reg.ALM_RES 0x10, by decide⟩,
    ⟨.jtag, (almSt []).setBit Reg.SYS_BOOT 6 true, by decide⟩,
    ⟨.sup 1, almSt [], by decide⟩,
    ⟨.sup 1, almSt [], by decide⟩,
    ⟨.sup 1, 2, almSt [], by decide⟩,
    ⟨[], almSt [], by decide⟩,
    ⟨[], { who := 1, op := 2 }, [], (almSt [{ who := 1, op := 2 }]).setFld Reg.ALM_STATUS 2 0 1, by decide⟩,
    ⟨[], { who := 1, op := 2, key := 0x02000007, addr := 0x100, len := 4 }, [], almSt [{ who := 1, op := 2, key := 0x02000007, addr := 0x100, len := 4 }], by decide⟩,
    ⟨[], { who := 1, op := 2, key := 0x02000007, addr := 0x100, len := 3 }, [], ⟨64, 9, 4⟩, almRec [{ who := 1, op := 2, key := 0x02000007, addr := 0x100, len := 3 }], by decide⟩,
    ⟨[], { who := 1, op := 2, key := 0x02000007, addr := 0x100, len := 8 }, [], ⟨64, 9, 4⟩, (almRec [{ who := 1, op := 2, key := 0x02000007, addr := 0x100, len := 8 }]).flashProgs ((almRec []).almAddr 2 + 112) [1, 2, 3, 4], by decide⟩,
    ⟨[], { who := 1, op := 1, key := 0x02000007 }, [], almSt [{ who := 1, op := 1, key := 0x02000007 }], by decide⟩,
    ⟨[], { who := 1, op := 1, key := 0x01000007, len := 4, addr := 64 }, [], (almSt [{ who := 1, op := 1, key := 0x01000007, len := 4, addr := 64 }]).setBit Reg.ALM_STATUS 3 true, by decide⟩,
    ⟨{ who := 1, op := 1, key := 0x01000007, len := 4, addr := 64 }, [], ((almSt [{ who := 1, op := 1, key := 0x01000007, len := 4, addr := 64 }]).setBytes 64 [1, 2, 3, 4]).setBit Reg.ALM_CTRL 2 false, by decide⟩,
    ⟨[], { who := 1, op := 4 }, [], almSt [{ who := 1, op := 4 }], by decide⟩,
    ⟨[], { who := 1, op := 5 }, [], almSt [{ who := 1, op := 5 }], by decide⟩⟩

theorem witness_AlmanacReplaysCompactsAndKeepsPowerLoss :
    (∃ (s : State), s.mono < s.alm.pollAt + 1000000) ∧
    (∃ (s : State), s.alm.pollAt + 1000000 ≤ s.mono ∧ regionOf s.mboxBase = .supUser ∧ s.mboxBase + 512 ≤ 0x1300400000 ∧ s.mode ≠ 0 ∧ s.mode ≠ 0xA) ∧
    (∃ (ag : Agent) (v : Word) (fs : List FlashFail) (g : Word) (s : State), s.canWrite ag Reg.ALM_CTRL ∧ wfld v 0 0 = 1 ∧ s.bit Reg.ALM_CTRL 0 = false ∧ s.almGeomOk = true ∧ s.activeGen (List.range s.almNblk) = some g) ∧
    (∃ (ag : Agent) (v : Word) (un : List Nat) (fs : List FlashFail) (s : State), s.canWrite ag Reg.ALM_CTRL ∧ wfld v 0 0 = 1 ∧ s.bit Reg.ALM_CTRL 0 = false ∧ s.almGeomOk = true ∧ s.activeGen ((List.range s.almNblk).filter fun b => !un.contains b) = none ∧ s.faultRoom) ∧
    (∃ (ag : Agent) (v : Word) (un : List Nat) (fs : List FlashFail) (s : State), s.canWrite ag Reg.ALM_CTRL ∧ wfld v 0 0 = 1 ∧ s.bit Reg.ALM_CTRL 0 = false ∧ s.almGeomOk = false ∧ s.faultRoom) ∧
    (∃ (ag : Agent) (v : Word) (un : List Nat) (fs : List FlashFail) (s : State), s.canWrite ag Reg.ALM_CTRL ∧ (wfld v 0 0 = 0 ∨ s.bit Reg.ALM_CTRL 0 = true)) ∧
    (∃ (fs : List FlashFail) (pl : List ProgPlace) (s : State), s.almState ≠ 1) ∧
    (∃ (fs : List FlashFail) (pl : List ProgPlace) (s : State), s.almState = 1 ∧ s.mode ≠ 1 ∧ s.alm.retired = [] ∧ s.bit Reg.ALM_CTRL 2 = false ∧ s.walkAll.torn = [] ∧ s.walkAll.damage = 0 ∧ s.faultRoom) ∧
    (∃ (fs : List FlashFail) (s : State), (s.alm.target = none ∨ s.almState ≠ 3)) ∧
    (∃ (bs : List Nat) (p : Nat) (m : SMap (Option AlmRec)) (s : State), s.alm.target = some bs ∧ s.almState = 3 ∧ (s.copyLive (bs.map some) [] s.liveRecs 0 {}).1 = some (p, m) ∧ s.alm.retired = [] ∧ s.faultRoom) ∧
    (∃ (left : Option Nat) (s : State), s.almPf = false ∧ s.faultRoom) ∧
    (∃ (s : State), s.almPf = true ∧ s.almState ≠ 3) ∧
    (∃ (w : DWord) (s : State), s.almPf = true ∧ s.alm.pfAt ≤ w.toNat ∧ w.toNat + s.fld Reg.ALM_PF 31 16 * 1000000 ≤ s.mono) ∧
    (∃ (w : DWord) (s : State), (s.almPf = false ∨ w.toNat < s.alm.pfAt ∨ s.mono < w.toNat + s.fld Reg.ALM_PF 31 16 * 1000000)) ∧
    (∃ (ch : List (Nat × Byte)) (so : List Word) (fs : List FlashFail) (s : State), (s.bit Reg.ALM_CTRL 1 = false ∨ s.almState < 2 ∨ (s.alm.scrubNow = false ∧ s.mono < s.alm.scrubAt + max 1 (s.fld Reg.ALM_SCRUB 7 0) * 3600000000000))) ∧
    (∃ (so : List Word) (fs : List FlashFail) (s : State), s.bit Reg.ALM_CTRL 1 = true ∧ 2 ≤ s.almState ∧ (s.alm.scrubNow = true ∨ s.alm.scrubAt + max 1 (s.fld Reg.ALM_SCRUB 7 0) * 3600000000000 ≤ s.mono)) ∧
    (∃ (so : List Word) (fs : List FlashFail) (key : Nat) (y : AlmRec) (s : State), s.bit Reg.ALM_CTRL 1 = true ∧ 2 ≤ s.almState ∧ s.alm.scrubNow = true ∧ s.liveRecs = [(key, y)] ∧ s.recPasses key y = false ∧ s.faultRoom) ∧
    (∃ (so : List Word) (key : Nat) (y : AlmRec) (s : State), s.bit Reg.ALM_CTRL 1 = true ∧ 2 ≤ s.almState ∧ s.alm.scrubNow = true ∧ s.liveRecs = [(key, y)] ∧ s.recPasses key y = true ∧ so.contains (BitVec.ofNat 32 key) = true ∧ s.almPf = false ∧ s.fits y.len = true ∧ s.faultRoom) :=
  ⟨⟨almSt [], by decide⟩,
    ⟨{ ((almSt []).setReg Reg.ALM_MBOX_LO 0x00300000 |>.setReg Reg.ALM_MBOX_HI 0x13).setBytes 0x1300300040 [0x11, 0, 0, 0, 7, 0, 0, 1] with mono := 2000000 }, by decide⟩,
    ⟨.sup 1, 7, [], 5, almJrn, by decide +kernel⟩,
    ⟨.sup 1, 7, [], [], almSt [], by decide⟩,
    ⟨.sup 1, 7, [], [], (almSt []).setReg Reg.ALM_NBLK 5, by decide⟩,
    ⟨.sup 1, 6, [], [], almSt [], by decide⟩,
    ⟨[], [], almSt [], by decide⟩,
    ⟨[], [], (((almSt []).setBit Reg.ALM_CTRL 2 false).setFld Reg.ALM_STATUS 2 0 1).setFld Reg.SYS_MODE 7 0 0x22, by decide +kernel⟩,
    ⟨[], almSt [], by decide⟩,
    ⟨[3], 0, {}, almComp, by decide⟩,
    ⟨some 3, (almSt []).setFld Reg.ALM_STATUS 2 0 3, by decide⟩,
    ⟨(almSt []).setBit Reg.ALM_STATUS 3 true, by decide⟩,
    ⟨5, { (almSt []).setBit Reg.ALM_STATUS 3 true with mono := 100000000000 }, by decide⟩,
    ⟨5, almSt [], by decide⟩,
    ⟨[], [], [], almSt [], by decide⟩,
    ⟨[], [], almScr {}, by decide⟩,
    ⟨[], [], 0x02000007, ⟨64, 9, 4⟩, almScr (almRec []).alm.index, by decide +kernel⟩,
    ⟨[0x02000007], 0x02000007, ⟨0, 9, 4⟩, almGood, by decide +kernel⟩⟩

theorem witness_SensorsLimitsAndThrottleFollowSamples :
    (∃ (cs : List Word) (s : State), (s.mode = 0 ∨ s.mono < s.therm.sampleAt + s.samplePeriod)) ∧
    (∃ (cs : List Word) (s : State), s.mode ≠ 0 ∧ s.therm.sampleAt + s.samplePeriod ≤ s.mono) ∧
    (∃ (n : Fin 64) (s : State), max 1 (s.fld Reg.THERM_CTRL 23 16) ≤ s.fld (Reg.THERM_S + 4 * n.val) 31 24 ∧ s.broken n.val = false ∧ s.faultRoom) ∧
    (∃ (n : Fin 64) (s : State), (s.broken n.val = true ∨ s.fld (Reg.THERM_S + 4 * n.val) 31 24 < max 1 (s.fld Reg.THERM_CTRL 23 16))) ∧
    (∃ (k : Fin 4) (s : State), s.thermDwell k.val ≤ s.therm.hot.getD k.val 0 ∧ s.limActive k.val = false ∧ s.faultQ.length + 16 < 256) ∧
    (∃ (k : Fin 4) (s : State), s.therm.hot.getD k.val 0 < s.thermDwell k.val ∧ s.thermDwell k.val ≤ s.therm.cool.getD k.val 0 ∧ k.val ≠ 1) ∧
    (∃ (s : State), s.fld Reg.THERM_STATUS 2 0 ≠ 0 ∧ (∀ k : Fin 4, s.therm.hot.getD k.val 0 < s.thermDwell k.val ∧ s.thermDwell k.val ≤ s.therm.cool.getD k.val 0) ∧ s.fld Reg.THERM_STATUS 22 16 ≤ s.fld Reg.THERM_CTRL 15 8 ∧ s.faultRoom) ∧
    (∃ (s : State), (s.limActive 2 = true ∨ s.limActive 3 = true)) ∧
    (∃ (s : State), s.limActive 1 = true ∧ s.limActive 2 = false ∧ s.limActive 3 = false ∧ s.bit Reg.THERM_STATUS 8 = true ∧ s.therm.shedAt + s.fld Reg.THERM_STEP 31 24 * 1000000 ≤ s.mono ∧ s.therm.changeAt + max 1 (s.fld Reg.THERM_STEP 7 0) * 1000000 ≤ s.mono ∧ s.thermLim 1 ≤ s.therm.last.getD 0 ∧ s.fld Reg.THERM_STATUS 7 4 < s.fld Reg.THERM_STEP 19 16 ∧ s.fld Reg.THERM_STEP 23 20 ≤ s.fld Reg.THERM_STATUS 7 4) ∧
    (∃ (s : State), s.limActive 1 = false ∧ s.limActive 2 = false ∧ s.limActive 3 = false ∧ s.fld Reg.THERM_STEP 23 20 < s.fld Reg.THERM_STATUS 7 4 ∧ max s.therm.changeAt s.therm.inactiveAt + max 1 (s.fld Reg.THERM_STEP 15 8) * 1000000 ≤ s.mono) ∧
    (∃ (ag : Agent) (k : Fin 4) (v : Word) (s : State), s.canWrite ag (Reg.THERM_LIM0 + 4 * k.val) ∧ s.bit Reg.THERM_LOCK 0 = true) ∧
    (∃ (ag : Agent) (k : Fin 4) (v : Word) (u : Fin 4 → Int) (s : State), s.canWrite ag (Reg.THERM_LIM0 + 4 * k.val) ∧ s.bit Reg.THERM_LOCK 0 = false ∧ (∀ j : Fin 4, u j = if j = k then sext 16 (wfld v 15 0) else s.thermLim j.val) ∧ u 0 < u 1 ∧ u 1 < u 2 ∧ u 2 < u 3 ∧ u 3 ≤ 2000) ∧
    (∃ (ag : Agent) (k : Fin 4) (v : Word) (u : Fin 4 → Int) (s : State), s.canWrite ag (Reg.THERM_LIM0 + 4 * k.val) ∧ s.bit Reg.THERM_LOCK 0 = false ∧ (∀ j : Fin 4, u j = if j = k then sext 16 (wfld v 15 0) else s.thermLim j.val) ∧ ¬(u 0 < u 1 ∧ u 1 < u 2 ∧ u 2 < u 3 ∧ u 3 ≤ 2000) ∧ s.faultRoom) ∧
    (∃ (ag : Agent) (s : State), s.canWrite ag Reg.THERM_CMD) ∧
    (∃ (ag : Agent) (s : State), s.canWrite ag Reg.THERM_CMD) ∧
    (∃ (s : State), s.mono < s.cal.stepAt + 1000000) ∧
    (∃ (s : State), s.cal.stepAt + 1000000 ≤ s.mono) :=
  ⟨⟨[], State.reset, by decide⟩,
    ⟨List.replicate 64 1000, { State.reset with mono := 100000000 }, by decide⟩,
    ⟨9, State.reset.setFld (Reg.THERM_S + 36) 31 24 255, by decide⟩,
    ⟨9, State.reset, by decide⟩,
    ⟨1, hotSt 0 [255, 255, 0, 0], by decide⟩,
    ⟨2, { hotSt 7 [0, 0, 0, 0] with therm := { act := 7, cool := [255, 255, 255, 255] } }, by decide⟩,
    ⟨{ hotSt 7 [0, 0, 0, 0] with therm := { act := 7, cool := [255, 255, 255, 255] } }.setFld Reg.THERM_STATUS 2 0 2, by decide⟩,
    ⟨hotSt 7 [], by decide⟩,
    ⟨(hotSt 3 []).setBit Reg.THERM_STATUS 8 true, by decide⟩,
    ⟨(hotSt 0 []).setFld Reg.THERM_STATUS 8 4 0x15, by decide⟩,
    ⟨.sup 1, 1, 5, State.reset.setBit Reg.THERM_LOCK 0 true, by decide⟩,
    ⟨.sup 1, 0, 16, (fun j => if j = 0 then 16 else State.reset.thermLim j.val), State.reset, by decide⟩,
    ⟨.sup 1, 0, 0x7FFF, (fun j => if j = 0 then 32767 else State.reset.thermLim j.val), State.reset, by decide⟩,
    ⟨.sup 1, State.reset, by decide⟩,
    ⟨.sup 1, State.reset, by decide⟩,
    ⟨State.reset, by decide⟩,
    ⟨calSt none, by decide⟩⟩

theorem witness_CalibrationRunsByRepeatAndAgree :
    (∃ (ag : Agent) (s : State), s.canWrite ag Reg.CAL_CMD ∧ calKind (s.afld (agIdx ag) Reg.CAL_SEL 15 0) < 2) ∧
    (∃ (ag : Agent) (s : State), s.canWrite ag Reg.CAL_CMD ∧ 2 ≤ calKind (s.afld (agIdx ag) Reg.CAL_SEL 15 0) ∧ s.cal.running = none ∧ s.cal.queue = [] ∧ s.cal.deferred = []) ∧
    (∃ (ag : Agent) (y : Nat) (s : State), s.canWrite ag Reg.CAL_CMD ∧ 2 ≤ calKind (s.afld (agIdx ag) Reg.CAL_SEL 15 0) ∧ s.cal.running = some y ∧ y ≠ s.afld (agIdx ag) Reg.CAL_SEL 15 0) ∧
    (∃ (ag : Agent) (s : State), s.canWrite ag Reg.CAL_CMD ∧ s.cal.running = none ∧ s.cal.queue = [] ∧ s.cal.deferred = []) ∧
    (∃ (rs : List (List Int)) (s : State), s.cal.running = none ∧ s.cal.queue = [] ∧ s.cal.deferred = []) ∧
    (∃ (rs : List (List Int)) (id : Nat) (s : State), s.cal.running = some id ∧ s.calCan id = true ∧ calAgree id (calRunRes id (rs.getD 0 [])) (calRunRes id (rs.getD 1 [])) = true) ∧
    (∃ (rs : List (List Int)) (id : Nat) (s : State), s.cal.running = some id ∧ s.calCan id = true ∧ (∀ i : Fin 3, calAgree id (calRunRes id (rs.getD (2 * i.val) [])) (calRunRes id (rs.getD (2 * i.val + 1) [])) = false) ∧ s.faultQ.length + 16 < 256) ∧
    (∃ (rs : List (List Int)) (id : Nat) (s : State), s.cal.running = some id ∧ s.calCan id = false) ∧
    (∃ (s : State), (s.bit Reg.CAL_CTRL 0 = false ∨ s.mono < s.cal.autoAt + max 1 (s.fld Reg.CAL_CTRL 31 16) * 60000000000)) ∧
    (∃ (s : State), s.bit Reg.CAL_CTRL 0 = true ∧ s.cal.autoAt + max 1 (s.fld Reg.CAL_CTRL 31 16) * 60000000000 ≤ s.mono ∧ s.cal.running = none ∧ s.cal.queue = [] ∧ s.cal.deferred = []) :=
  ⟨⟨.sup 1, (calSt none).setAreg 1 Reg.CAL_SEL 0, by decide⟩,
    ⟨.sup 1, (calSt none).setAreg 1 Reg.CAL_SEL 0x105, by decide⟩,
    ⟨.sup 1, 0x106, (calSt (some 0x106)).setAreg 1 Reg.CAL_SEL 0x105, by decide⟩,
    ⟨.sup 1, calSt none, by decide⟩,
    ⟨[], calSt none, by decide⟩,
    ⟨[termOhms, termOhms], 0x105, calSt (some 0x105), by decide⟩,
    ⟨[], 0x105, calSt (some 0x105), by decide⟩,
    ⟨[], 0x50, (calSt (some 0x50)).setFld Reg.SYS_MODE 7 0 0x33, by decide⟩,
    ⟨State.reset, by decide⟩,
    ⟨{ (calSt none).setBit Reg.CAL_CTRL 0 true with mono := 100000000000000000 }, by decide⟩⟩

theorem witness_ModesResolveFromRequestsAndConditions :
    (∃ (ag : Agent) (v : Word) (s : State), s.canWrite ag Reg.SYS_MODE_REQ ∧ wfld v 3 0 ∈ [2, 3, 4, 6, 7, 8]) ∧
    (∃ (ag : Agent) (v : Word) (s : State), s.canWrite ag Reg.SYS_MODE_REQ ∧ wfld v 3 0 = 10 ∧ (s.under = 2 ∨ s.under = 8) ∧ (s.twState = 0 ∨ s.twState = 3)) ∧
    (∃ (ag : Agent) (v : Word) (s : State), s.canWrite ag Reg.SYS_MODE_REQ ∧ wfld v 3 0 ∉ [2, 3, 4, 6, 7, 8] ∧ (¬(wfld v 3 0 = 10 ∧ (s.under = 2 ∨ s.under = 8) ∧ (s.twState = 0 ∨ s.twState = 3)))) ∧
    (∃ (s : State), s.running = false) ∧
    (∃ (s : State), s.running = true) ∧
    (∃ (s : State), s.running = true ∧ (s.safeState 0 ≠ 0 ∨ s.bit Reg.SYS_MODE 10 = true) ∧ s.under ≠ 6 ∧ s.faultRoom) ∧
    (∃ (s : State), s.running = true ∧ s.safeState 0 = 0 ∧ s.bit Reg.SYS_MODE 10 = false ∧ s.safeState 1 ≠ 0) ∧
    (∃ (s : State), s.running = true ∧ s.safeState 0 = 0 ∧ s.bit Reg.SYS_MODE 10 = false ∧ s.safeState 1 = 0 ∧ (s.bit Reg.SYS_MODE 11 = false ∨ s.bit Reg.SYS_CTRL 0 = false) ∧ s.modeReq ≠ 10) ∧
    (∃ (s : State), s.running = true ∧ s.safeState 0 = 0 ∧ s.bit Reg.SYS_MODE 10 = false ∧ s.safeState 1 = 0 ∧ s.bit Reg.SYS_MODE 11 = true ∧ s.bit Reg.SYS_CTRL 0 = true ∧ s.fabricLinks = [] ∧ (s.modeReq = 3 ∨ s.modeReq = 4)) ∧
    (∃ (u : Nat) (s : State), s.transit.downAt = some u ∧ s.bit Reg.SYS_CTRL 0 = true ∧ s.transit.everUp = true ∧ u + s.isoNs ≤ s.mono) ∧
    (∃ (s : State), (s.transit.downAt = none ∨ s.bit Reg.SYS_CTRL 0 = false ∨ s.transit.everUp = false ∨ s.mono < s.transit.downAt.getD 0 + s.isoNs)) ∧
    (∃ (ag : Agent) (s : State), s.canWrite ag Reg.SYS_CMD) ∧
    (∃ (ag : Agent) (s : State), s.canWrite ag Reg.SYS_CMD ∧ inPlate (s.regAddr Reg.SYS_FS_BASE_LO) 0xA200 = true ∧ s.hasUe (s.regAddr Reg.SYS_FS_BASE_LO) 0xA200 = false ∧ s.memNat (s.regAddr Reg.SYS_FS_BASE_LO) 4 = 0x4B4C5346 ∧ s.memNat (s.regAddr Reg.SYS_FS_BASE_LO + 4) 2 = 1 ∧ s.memNat (s.regAddr Reg.SYS_FS_BASE_LO + 6) 2 ≤ 64 ∧ s.fsRange (s.regAddr Reg.SYS_FS_BASE_LO) = true) ∧
    (∃ (ag : Agent) (s : State), s.canWrite ag Reg.SYS_CMD ∧ (inPlate (s.regAddr Reg.SYS_FS_BASE_LO) 0xA200 = false ∨ s.memNat (s.regAddr Reg.SYS_FS_BASE_LO) 4 ≠ 0x4B4C5346) ∧ s.hasUe (s.regAddr Reg.SYS_FS_BASE_LO) 0xA200 = false ∧ s.faultRoom) ∧
    (∃ (s : State), (s.mono < s.sys.pollAt + 1000000 ∨ s.mode = 0 ∨ s.mode = 0xA)) ∧
    (∃ (s : State), s.sys.pollAt + 1000000 ≤ s.mono ∧ regionOf (s.regAddr Reg.SYS_PMBOX_LO) = .supUser ∧ s.mode ≠ 0 ∧ s.mode ≠ 0xA ∧ wfld (s.memWord (s.regAddr Reg.SYS_PMBOX_LO)) 1 0 ≠ 1) ∧
    (∃ (s : State), s.sys.pollAt + 1000000 ≤ s.mono ∧ regionOf (s.regAddr Reg.SYS_PMBOX_LO) = .supUser ∧ s.mode ≠ 0 ∧ s.mode ≠ 0xA ∧ wfld (s.memWord (s.regAddr Reg.SYS_PMBOX_LO)) 1 0 = 1 ∧ wfld (s.memWord (s.regAddr Reg.SYS_PMBOX_LO)) 7 4 ∈ [2, 3, 4, 6, 7, 8]) ∧
    (∃ (as : List PortId) (rs : List (Fin 65 × List (List Int))) (s : State), (s.running = false ∨ s.modeReq ≠ 10 ∨ (s.under ≠ 2 ∧ s.under ≠ 8))) ∧
    (∃ (as : List PortId) (rs : List (Fin 65 × List (List Int))) (s : State), s.running = true ∧ s.modeReq = 10 ∧ (s.under = 2 ∨ s.under = 8)) ∧
    (∃ (src : Fin 6) (s : State), (s.mode ≠ 0xA ∨ s.wakeDue src.val = false)) ∧
    (∃ (src : Fin 6) (s : State), s.mode = 0xA ∧ s.wakeDue src.val = true ∧ s.faultRoom) :=
  ⟨⟨.sup 1, 3, modeSt 0x22, by decide⟩,
    ⟨.sup 1, 10, modeSt 0x22, by decide⟩,
    ⟨.sup 1, 10, modeSt 0x33, by decide⟩,
    ⟨State.reset, by decide⟩,
    ⟨modeSt 0x33, by decide⟩,
    ⟨(modeSt 0x33).setFld Reg.PANEL_SAFE 1 0 2, by decide⟩,
    ⟨(modeSt 0x33).setFld Reg.PANEL_SAFE 3 2 2, by decide⟩,
    ⟨(((modeSt 0x22).setFld Reg.SYS_MODE_REQ 3 0 3).setBit Reg.THERM_STATUS 9 true), by decide⟩,
    ⟨((((modeSt 0x33).setFld Reg.SYS_MODE_REQ 3 0 3).setBit Reg.SYS_MODE 11 true).setBit Reg.SYS_CTRL 0 true), by decide⟩,
    ⟨5, ((modeSt 0x33).setBit Reg.SYS_CTRL 0 true).updTransit fun x => { x with downAt := some 5, everUp := true }, by decide⟩,
    ⟨modeSt 0x33, by decide⟩,
    ⟨.sup 1, modeSt 0x66, by decide⟩,
    ⟨.sup 1, fsSt, by decide +kernel⟩,
    ⟨.sup 1, modeSt 0x22, by decide +kernel⟩,
    ⟨State.reset, by decide⟩,
    ⟨pmbSt 0x32, by decide⟩,
    ⟨pmbSt 0x31, by decide⟩,
    ⟨[], [], modeSt 0x33, by decide⟩,
    ⟨[1], [], ((modeSt 0x22).setFld Reg.SYS_MODE_REQ 3 0 10).setLState 1 5, by decide⟩,
    ⟨1, modeSt 0xAA, by decide⟩,
    ⟨5, (modeSt 0xAA).setSafeState 0 1, by decide⟩⟩

theorem witness_ResetsBootWatchdogAndDebugUnlock :
    (∃ (ag : Agent) (s : State), s.canWrite ag Reg.SYS_RESET) ∧
    (∃ (ag : Agent) (un : List (Fin 2)) (s : State), s.canWrite ag Reg.SYS_RESET ∧ (s.regs.entries.map Prod.fst).Nodup) ∧
    (∃ (ag : Agent) (s : State), s.canWrite ag Reg.SYS_WDOG_KICK) ∧
    (∃ (un : List (Fin 2)) (s : State), (s.bit Reg.SYS_WDOG 16 = false ∨ s.mono < s.sys.wdogAt + max 1 (s.fld Reg.SYS_WDOG 15 0) * 1000000 ∨ s.mode = 0 ∨ s.mode = 0xA)) ∧
    (∃ (un : List (Fin 2)) (s : State), s.bit Reg.SYS_WDOG 16 = true ∧ s.sys.wdogAt + max 1 (s.fld Reg.SYS_WDOG 15 0) * 1000000 ≤ s.mono ∧ s.mode ≠ 0 ∧ s.mode ≠ 0xA) ∧
    (∃ (sel : Fin 8) (un : List (Fin 2)) (bad : List (Fin 2048)) (s : State), s.mode ≠ 0) ∧
    (∃ (sel : Fin 8) (un : List (Fin 2)) (bad : List (Fin 2048)) (s : State), s.mode = 0) ∧
    (∃ (s : State), s.mode = 0 ∧ 0x300000 < fieldAt (s.flashBytes 0 288) 0xC 4 ∧ s.faultRoom) ∧
    (∃ (ag : Agent) (s : State), s.canWrite ag Reg.SYS_CMD ∧ s.mode ≠ 1) ∧
    (∃ (ag : Agent) (s : State), s.canWrite ag Reg.SYS_CMD ∧ s.mode = 1) ∧
    (∃ (s : State), s.mode ≠ 0 ∧ s.mode ≠ 0xA) ∧
    (∃ (s : State), (s.mode = 0 ∨ s.mode = 0xA)) ∧
    (∃ (tk : List Byte) (s : State), s.mode ≠ 0 ∧ s.mode ≠ 0xA ∧ s.sys.authFails < 3 ∧ s.faultRoom) ∧
    (∃ (tk : List Byte) (s : State), (s.mode = 0 ∨ s.mode = 0xA ∨ 3 ≤ s.sys.authFails)) :=
  ⟨⟨.sup 1, modeSt 0x33, by decide⟩,
    ⟨.sup 1, [], modeSt 0x33, by decide⟩,
    ⟨.sup 1, modeSt 0x33, by decide⟩,
    ⟨[], modeSt 0x33, by decide⟩,
    ⟨[], (modeSt 0x33).setBit Reg.SYS_WDOG 16 true, by decide⟩,
    ⟨0, [], [], modeSt 0x33, by decide⟩,
    ⟨3, [], [1], modeSt 0, by decide⟩,
    ⟨modeSt 0, by decide⟩,
    ⟨.sup 1, modeSt 0x33, by decide⟩,
    ⟨.sup 1, modeSt 0x11, by decide⟩,
    ⟨modeSt 0x33, by decide⟩,
    ⟨modeSt 0, by decide⟩,
    ⟨[], modeSt 0x33, by decide⟩,
    ⟨[], modeSt 0, by decide⟩⟩

theorem witness_FaultRecordsCapturesAndScrubbersAct :
    (∃ (s : State), s.faultQ = [] ∧ s.faultLost = none) ∧
    (∃ (f : FaultRec) (q : List FaultRec) (s : State), s.faultQ = f :: q ∧ (s.faultLost.filter fun l => l.before == 0) = none ∧ s.ringRoom s.faultRing (faultEntries f).length = false) ∧
    (∃ (f : FaultRec) (q : List FaultRec) (s : State), s.faultQ = f :: q ∧ f.args.length ≤ 2 ∧ (s.faultLost.filter fun l => l.before == 0) = none ∧ s.ringRoom s.faultRing 1 = true) ∧
    (∃ (f : FaultRec) (q : List FaultRec) (s : State), s.faultQ = f :: q ∧ 2 < f.args.length ∧ (s.faultLost.filter fun l => l.before == 0) = none ∧ s.ringRoom s.faultRing 2 = true) ∧
    (∃ (l : LostRec) (s : State), s.faultLost = some l ∧ l.before = 0 ∧ s.ringRoom s.faultRing 1 = true) ∧
    (∃ (ag : Agent) (s : State), s.canWrite ag Reg.FAULT_CMD) ∧
    (∃ (ag : Agent) (s : State), s.canWrite ag Reg.FAULT_CMD) ∧
    (∃ (dram : Bool) (s : State), s.scrubOn dram = true ∧ s.scrubAt dram ≤ s.mono ∧ 7 * s.scrubNs dram ≤ 8 * s.scrubTime dram) ∧
    (∃ (dram : Bool) (ce ue : List Nat) (s : State), (s.scrubOn dram = false ∨ 8 * s.scrubTime dram < 7 * s.scrubNs dram)) ∧
    (∃ (dram : Bool) (a : Nat) (s : State), s.scrubOn dram = true ∧ s.scrubAt dram ≤ s.mono ∧ 7 * s.scrubNs dram ≤ 8 * s.scrubTime dram ∧ (eccMem a == 4) = dram) ∧
    (∃ (dram : Bool) (a : Nat) (s : State), s.scrubOn dram = true ∧ s.scrubAt dram ≤ s.mono ∧ 7 * s.scrubNs dram ≤ 8 * s.scrubTime dram ∧ (eccMem a == 4) = dram ∧ s.onceOk ((if dram = true then Code.DRAM_DRAM_UE else Code.SYS_SRAM_UE) + 65536 * eccMem a) 1000000000 = true ∧ s.faultRoom) ∧
    (∃ (dram : Bool) (s : State), s.scrubOn dram = true ∧ (if dram = true then s.flt.dramLate else s.flt.sramLate) = false ∧ s.scrubAt dram + s.scrubNs dram ≤ s.mono ∧ s.faultRoom) ∧
    (∃ (dram : Bool) (s : State), (s.scrubOn dram = false ∨ (if dram = true then s.flt.dramLate else s.flt.sramLate) = true ∨ s.mono < s.scrubAt dram + s.scrubNs dram)) ∧
    (∃ (u : Fin 10001) (d : Nat) (s : State), s.mono < s.flt.bgAt + max 1 (s.fld Reg.BG_CTRL 15 8) * 1000000) ∧
    (∃ (u : Fin 10001) (d : Nat) (s : State), s.flt.bgAt + max 1 (s.fld Reg.BG_CTRL 15 8) * 1000000 ≤ s.mono) :=
  ⟨⟨State.reset, by decide⟩,
    ⟨⟨0x1005, 3, 7, 9, []⟩, [], (fltSt none).setBit (Reg.RING_CTRL + 0x100 * State.reset.faultRing) 0 false, by decide⟩,
    ⟨⟨0x1005, 3, 7, 9, []⟩, [], fltSt none, by decide⟩,
    ⟨⟨0x1005, 3, 7, 9, [1, 2, 3]⟩, [], { fltSt none with faultQ := [⟨0x1005, 3, 7, 9, [1, 2, 3]⟩] }, by decide⟩,
    ⟨⟨5, 2, 9, 0⟩, fltSt (some ⟨5, 2, 9, 0⟩), by decide⟩,
    ⟨.sup 1, (State.reset.raise Code.SYS_FS_NOLOOK 0), by decide⟩,
    ⟨.sup 1, State.reset.setBit Reg.FAULT_STATUS 9 true, by decide⟩,
    ⟨true, { (State.reset.setBit Reg.SCRUB_CTRL 0 true) with mono := 100000000000000 }, by decide⟩,
    ⟨true, [], [], State.reset.setBit Reg.SCRUB_CTRL 0 true, by decide⟩,
    ⟨true, 64, { (State.reset.setBit Reg.SCRUB_CTRL 0 true) with mono := 100000000000000 }, by decide⟩,
    ⟨true, 64, { (State.reset.setBit Reg.SCRUB_CTRL 0 true) with mono := 100000000000000 }, by decide⟩,
    ⟨true, { (State.reset.setBit Reg.SCRUB_CTRL 0 true) with mono := 100000000000000 }, by decide⟩,
    ⟨true, State.reset, by decide⟩,
    ⟨5, 6, State.reset, by decide⟩,
    ⟨5, 6, fltSt none, by decide⟩⟩

theorem witness_SnapshotsFillTheirBank :
    (∃ (s : State), (s.issued.find? fun a => actCode a.act == 7) = none) ∧
    (∃ (a : Act) (s : State), (s.issued.find? fun a => actCode a.act == 7) = some a ∧ s.flt.copying.contains ((s.reg Reg.TELEM_SNAP_CNT + 1).toNat % 2) = false) ∧
    (∃ (a : Act) (s : State), (s.issued.find? fun a => actCode a.act == 7) = some a ∧ s.flt.copying.contains ((s.reg Reg.TELEM_SNAP_CNT + 1).toNat % 2) = true) ∧
    (∃ (ag : Agent) (s : State), s.canWrite ag Reg.TELEM_CMD ∧ s.flt.copying.contains ((s.reg Reg.TELEM_SNAP_CNT + 1).toNat % 2) = false) ∧
    (∃ (ag : Agent) (s : State), s.canWrite ag Reg.TELEM_CMD ∧ s.flt.copying.contains ((s.reg Reg.TELEM_SNAP_CNT + 1).toNat % 2) = true) ∧
    (∃ (s : State), s.flt.copying = []) ∧
    (∃ (b : Nat) (q : List Nat) (s : State), s.flt.copying = b :: q ∧ inDram (s.regAddr Reg.TELEM_DEST_LO + b * 0x4000) (4 * (s.flt.banks.get [] b).length) = true) :=
  ⟨⟨State.reset, by decide⟩,
    ⟨snapAct, { State.reset with issued := [snapAct] }, by decide⟩,
    ⟨snapAct, { State.reset with issued := [snapAct], flt := { State.reset.flt with copying := [1] } }, by decide⟩,
    ⟨.sup 1, State.reset, by decide⟩,
    ⟨.sup 1, { State.reset with flt := { State.reset.flt with copying := [1] } }, by decide⟩,
    ⟨State.reset, by decide⟩,
    ⟨1, [], { State.reset with flt := { State.reset.flt with copying := [1], banks := ({} : SMap (List Word)).put [] 1 [5, 6] } }, by decide⟩⟩

theorem witness_ReferenceClocksLanesAndManagementBus :
    (∃ (k : Fin 4) (s : State), s.bit Reg.SERDES_REF_STAT k.val = false) ∧
    (∃ (k : Fin 4) (s : State), s.bit Reg.SERDES_REF_STAT k.val = true ∧ s.faultRoom) ∧
    (∃ (ag : Agent) (n : Fin 68) (v : Word) (s : State), s.canWrite ag (Reg.SERDES_CTRL + 0x800 * n.val) ∧ wfld v 7 4 + wfld v 12 8 ≤ 24 ∧ (s.laneUsed n.val = false ∨ wfld v 1 0 = s.fld (Reg.SERDES_CTRL + 0x800 * n.val) 1 0)) ∧
    (∃ (ag : Agent) (n : Fin 68) (v : Word) (s : State), s.canWrite ag (Reg.SERDES_CTRL + 0x800 * n.val) ∧ (24 < wfld v 7 4 + wfld v 12 8 ∨ (s.laneUsed n.val = true ∧ wfld v 1 0 ≠ s.fld (Reg.SERDES_CTRL + 0x800 * n.val) 1 0))) ∧
    (∃ (ag : Agent) (m : Fin 2) (s : State), s.canWrite ag (Reg.SMB_GO + 0x100 * m.val) ∧ s.bit (Reg.SMB_STATUS + 0x100 * m.val) 0 = false) ∧
    (∃ (ag : Agent) (m : Fin 2) (s : State), s.canWrite ag (Reg.SMB_GO + 0x100 * m.val) ∧ s.bit (Reg.SMB_STATUS + 0x100 * m.val) 0 = true) ∧
    (∃ (m : Fin 2) (z : Fin 6) (n : Fin 64) (d : List Byte) (s : State), s.bit (Reg.SMB_STATUS + 0x100 * m.val) 0 = false) ∧
    (∃ (m : Fin 2) (z : Fin 6) (n : Fin 64) (d : List Byte) (s : State), s.bit (Reg.SMB_STATUS + 0x100 * m.val) 0 = true ∧ d.length ≤ 32) ∧
    (∃ (m : Fin 2) (z : Fin 6) (n : Fin 64) (d : List Byte) (s : State), s.bit (Reg.SMB_STATUS + 0x100 * m.val) 0 = true ∧ z.val ≠ 0 ∧ s.onceOk (Code.SERDES_SMB_FAIL + 65536 * (128 + m.val)) 1000000000 = true ∧ s.faultRoom) :=
  ⟨⟨2, State.reset.setReg Reg.SERDES_REF_STAT 0, by decide⟩,
    ⟨2, State.reset.setReg Reg.SERDES_REF_STAT 15, by decide⟩,
    ⟨.sup 1, 3, 0x71, State.reset.setBit (Reg.TRANSIT_CFG + 0x3000) 0 false, by decide⟩,
    ⟨.sup 1, 60, 0x1FF1, State.reset, by decide⟩,
    ⟨.sup 1, 1, State.reset, by decide⟩,
    ⟨.sup 1, 1, State.reset.setBit (Reg.SMB_STATUS + 0x100) 0 true, by decide⟩,
    ⟨1, 0, 0, [], State.reset, by decide⟩,
    ⟨1, 0, 2, [1, 2], State.reset.setBit (Reg.SMB_STATUS + 0x100) 0 true, by decide⟩,
    ⟨1, 3, 0, [], State.reset.setBit (Reg.SMB_STATUS + 0x100) 0 true, by decide⟩⟩

theorem witness_StepTakesTheFrontCommand : (∃ (c : Instr) (q : List Instr) (s : State), s.pending = c :: q) ∧ ∃ s : State, s.pending = [] :=
  ⟨⟨.mailboxPoll, [], { State.reset with pending := [.mailboxPoll] }, rfl⟩, State.reset, rfl⟩

theorem witness_EveryStepKeepsTheInvariant : ∃ s : State, s.sound ∧ s.pending ≠ [] :=
  ⟨{ State.reset with pending := [.mailboxPoll] }, by decide⟩

theorem witness_CommandsLeaveQueueOtpMemoryFlashAndTime : ∃ (c : Instr) (s t : State), exec c s = .next t ∧
    storesMemory c = false ∧ writesFlash c = false ∧ passesTime c = false :=
  ⟨.refClockReturn 2, State.reset, State.reset.setBit Reg.SERDES_REF_STAT 2 true, rfl, rfl, rfl, rfl⟩

theorem witness_ForbiddenWritesAreBusErrors : ∃ (s : State) (ag : Agent), ag = .sup 2 ∧ s.agentLive ag = true :=
  ⟨State.reset, .sup 2, rfl, by decide⟩

theorem witness_IncrementOutOfRangeIsIgnored :
    (∃ (ag : Agent) (v : DWord) (s : State), s.canWrite ag Reg.SID_INC_NOM_LO ∧ (v.toNat < 0x0000_0067_1447_70E9 ∨ 0x0000_080D_9594_D235 < v.toNat)) ∧
    (∃ (ag : Agent) (v : DWord) (s : State), s.canWrite ag Reg.SID_INC_NOM_LO ∧ (v.toNat < 0x0000_0067_1447_70E9 ∨ 0x0000_080D_9594_D235 < v.toNat) ∧ s.faultRoom) ∧
    (∃ (ag : Agent) (v : DWord) (s : State), s.canWrite ag Reg.SID_INC_NOM_LO ∧ 0x0000_0067_1447_70E9 ≤ v.toNat ∧ v.toNat ≤ 0x0000_080D_9594_D235) :=
  ⟨⟨.sup 0, 0x6714_4770E8, State.reset, by decide⟩,
    ⟨.sup 0, 0x80D_9594_D236, State.reset, by decide⟩,
    ⟨.sup 0, 0x80D_9594_D235, State.reset, by decide⟩⟩

theorem witness_RegisterZeroReadsZeroAndDiscardsWrites : ∃ (s : State) (c : CoreId) (a b d : GReg) (p : PReg),
    s.canIssue c [a.val, b.val] [d.val] ∧ s.canIssue c [a.val, b.val] [0] ∧ s.canIssue c [0, b.val] [d.val] ∧
    bits ((s.core c.val).pr p) 0 0 = 1 :=
  ⟨supRun {}, 256, 3, 4, 5, 0, by decide⟩

theorem witness_PhaseRangeRingMaskAndPinLimit :
    (∃ (c : CoreId) (d : GReg) (s : State), s.canIssue c [] [d.val]) ∧
    (∃ (c : CoreId) (a : GReg) (s : State), s.canIssue c [a.val] [] ∧ 2 ^ 30 * 2 ^ 32 < phaseDiff ((s.core c.val).gr a) s.phase) ∧
    (∃ (c : CoreId) (d : GReg) (u : VReg) (ring : RingId) (rr : Bool) (g : GReg) (s : State), c.val < 256 ∧ (u.val % 2 = 0 ∧ (rr = true ∨ g = 0)) ∧ s.canIssue c [32 + u.val, 32 + (vNext u).val, g.val] [d.val] ∧ s.bit (State.tileReg Reg.TILE_RING_MASK_LO c.val + ringSel (s.core c.val) ring rr g / 32 * 4) (ringSel (s.core c.val) ring rr g % 32) = false) ∧
    (∃ (c : CoreId) (d : GReg) (u : VReg) (ring : RingId) (rr : Bool) (g : GReg) (s : State), c.val < 256 ∧ (u.val % 2 = 0 ∧ (rr = true ∨ g = 0)) ∧ s.canIssue c [g.val] [d.val, 32 + u.val, 32 + (vNext u).val] ∧ s.bit (State.tileReg Reg.TILE_RING_MASK_LO c.val + ringSel (s.core c.val) ring rr g / 32 * 4) (ringSel (s.core c.val) ring rr g % 32) = false) ∧
    (∃ (c : CoreId) (d : GReg) (ring : RingId) (rr : Bool) (g : GReg) (s : State), c.val < 256 ∧ (rr = true ∨ g = 0) ∧ s.canIssue c [g.val] [d.val] ∧ s.bit (State.tileReg Reg.TILE_RING_MASK_LO c.val + ringSel (s.core c.val) ring rr g / 32 * 4) (ringSel (s.core c.val) ring rr g % 32) = false) ∧
    (∃ (c : CoreId) (d a : GReg) (s : State), c.val < 256 ∧ s.canIssue c [a.val] [d.val] ∧ bits ((s.core c.val).gr a) 31 12 = 0 ∧ (s.buf (bits ((s.core c.val).gr a) 11 0)).holds (((s.core c.val).gr a).extractLsb' 32 32) [1, 2] = true ∧ 8 ≤ (s.core c.val).pins.length) ∧
    (∃ (c : CoreId) (d a : GReg) (s : State), (s.core c.val).pins.length ≤ 8) :=
  ⟨⟨17, 5, fieldRun {}, by decide⟩,
    ⟨17, 5, fieldRun (({} : Core).setG 5 0x4000000000000001), by decide⟩,
    ⟨17, 3, 4, 5, true, 6, fieldRun {}, by decide⟩,
    ⟨17, 3, 4, 5, false, 0, fieldRun {}, by decide⟩,
    ⟨17, 3, 5, false, 0, fieldRun {}, by decide⟩,
    ⟨17, 4, 3, (fieldRun { (({} : Core).setG 3 0x500000007) with pins := List.replicate 8 (7, 5) }).setBuf 7 { valid := true, base := 0x1100000000, slotSize := 64, depth := 2, slots := ({} : SMap Slot).put {} 1 ⟨2, 5, 8⟩ }, by decide⟩,
    ⟨17, 4, 3, (fieldRun { (({} : Core).setG 3 0x500000007) with pins := List.replicate 7 (7, 5) }).setBuf 7 { valid := true, base := 0x1100000000, slotSize := 64, depth := 2, slots := ({} : SMap Slot).put {} 1 ⟨2, 5, 8⟩ }, by decide⟩⟩

theorem witness_ShedLaunchIsCountedAndNotDistributed :
    (∃ (a : Act) (kd : Nat) (s : State), (s.issued.find? fun x => actCode x.act == 1) = some a ∧ kd = a.a1.toNat + a.a2.toNat * 2 ^ 32 ∧ s.kdescBad kd = false ∧ s.bit Reg.TILE_SHED_STATUS 0 = true ∧ wfld (s.memWord kd) 24 24 = 1 ∧ wfld (s.memWord kd) 26 26 = 0) ∧
    (∃ (a : Act) (kd : Nat) (r : Nat) (s : State), (s.issued.find? fun x => actCode x.act == 1) = some a ∧ kd = a.a1.toNat + a.a2.toNat * 2 ^ 32 ∧ s.kdescBad kd = false ∧ s.bit Reg.TILE_SHED_STATUS 0 = true ∧ wfld (s.memWord kd) 24 24 = 1 ∧ wfld (s.memWord kd) 26 26 = 1 ∧ r = wfld (s.memWord (kd + 16)) 5 0 ∧ s.ringRoom r 1 = true) ∧
    (∃ (a : Act) (kd : Nat) (r : Nat) (s : State), (s.issued.find? fun x => actCode x.act == 1) = some a ∧ kd = a.a1.toNat + a.a2.toNat * 2 ^ 32 ∧ s.kdescBad kd = false ∧ (s.bit Reg.TILE_SHED_STATUS 0 = false ∨ wfld (s.memWord kd) 24 24 = 0) ∧ s.groups.length < 256 ∧ s.selected a.a0 = [] ∧ r = wfld (s.memWord (kd + 16)) 5 0 ∧ wfld (s.memWord kd) 26 26 = 1 ∧ s.ringRoom r 1 = true) ∧
    (∃ (a : Act) (kd : Nat) (s : State), (s.issued.find? fun x => actCode x.act == 1) = some a ∧ kd = a.a1.toNat + a.a2.toNat * 2 ^ 32 ∧ s.kdescBad kd = false ∧ (s.bit Reg.TILE_SHED_STATUS 0 = false ∨ wfld (s.memWord kd) 24 24 = 0) ∧ s.groups.length < 256 ∧ s.selected a.a0 = [] ∧ wfld (s.memWord kd) 26 26 = 0) :=
  ⟨⟨⟨1, 0x00020002, 0x1000, 0, 77, 0, 0, 0, 0, 0⟩, 0x1000, ((({ State.reset with issued := [⟨1, 0x00020002, 0x1000, 0, 77, 0, 0, 0, 0, 0⟩] } : State).setMemNat 0x1000 4 0x01014B44).setMemNat 0x1004 4 0x2000).setBit Reg.TILE_SHED_STATUS 0 true, by decide +kernel⟩,
    ⟨⟨1, 0x00020002, 0x1000, 0, 77, 0, 0, 0, 0, 0⟩, 0x1000, 5, (((({ State.reset with issued := [⟨1, 0x00020002, 0x1000, 0, 77, 0, 0, 0, 0, 0⟩] } : State).setMemNat 0x1000 4 0x05014B44).setMemNat 0x1004 4 0x2000).setMemNat 0x1010 4 5).setBit Reg.TILE_SHED_STATUS 0 true, by decide +kernel⟩,
    ⟨⟨1, 0, 0x1000, 0, 77, 0, 0, 0, 0, 0⟩, 0x1000, 5, ((({ State.reset with issued := [⟨1, 0, 0x1000, 0, 77, 0, 0, 0, 0, 0⟩] } : State).setMemNat 0x1000 4 0x04014B44).setMemNat 0x1004 4 0x2000).setMemNat 0x1010 4 5, by decide +kernel⟩,
    ⟨⟨1, 0, 0x1000, 0, 77, 0, 0, 0, 0, 0⟩, 0x1000, (({ State.reset with issued := [⟨1, 0, 0x1000, 0, 77, 0, 0, 0, 0, 0⟩] } : State).setMemNat 0x1000 4 0x00014B44).setMemNat 0x1004 4 0x2000, by decide +kernel⟩⟩
end

section
/-!
What a write by the access codes leaves in each bit of a register (00_scope.md R14, R17).
-/
namespace Sys2Proof.Machine.State

open Sys2Proof

variable (s : State) (r : RegRow) (a i : Nat) (old v : Word)

/-- Bit `i` of the register at offset `a` is the LOCK bit that its own row names (R17). -/
def ownLockBit : Bool :=
  match r.lock with
  | some (la, b) => decide (la + r.outer a * (if r.nx = 1 then 0 else r.sx) = a ∧ b = i)
  | none => false

/-- The part of the old word that a write leaves set because it is the register's own LOCK bit (R17). -/
def keptLock : Word :=
  match r.lock with
  | some (la, b) => if la + r.outer a * (if r.nx = 1 then 0 else r.sx) = a then old &&& BitVec.ofNat 32 (2 ^ b) else 0
  | none => 0

/-- Bit `i` takes the written bit: it is RW, RWS, or RWL while the LOCK bit is clear (R14). -/
def takesWrite : Bool := r.rw.testBit i || r.rws.testBit i || (r.rwl.testBit i && !s.locked r a)

theorem getLsbD_keptLock (hi : i < 32) : (keptLock r a old).getLsbD i = (old.getLsbD i && ownLockBit r a i) := by
  rcases h : r.lock with _ | ⟨la, b⟩
  · simp [keptLock, ownLockBit, h]
  · by_cases ha : la + r.outer a * (if r.nx = 1 then 0 else r.sx) = a
    · simp only [keptLock, ownLockBit, h, ha, if_true, BitVec.getLsbD_and, BitVec.getLsbD_ofNat, hi, Nat.testBit_two_pow,
        decide_true, Bool.true_and, true_and]
    · simp only [keptLock, ownLockBit, h, ha, if_false, false_and, decide_false, Bool.and_false]
      exact BitVec.getLsbD_zero

theorem takesWrite_iff :
    s.takesWrite r a i = true ↔
      r.rw.testBit i = true ∨ r.rws.testBit i = true ∨ (r.rwl.testBit i = true ∧ s.locked r a = false) := by
  simp [takesWrite, or_assoc]

theorem takesWrite_eq_false_of_locked (hrw : r.rw.testBit i = false) (hrws : r.rws.testBit i = false)
    (hl : s.locked r a = true) : s.takesWrite r a i = false := by
  simp [takesWrite, hrw, hrws, hl]

theorem takesWrite_eq_false_of_unmasked (hrw : r.rw.testBit i = false) (hrws : r.rws.testBit i = false)
    (hrwl : r.rwl.testBit i = false) : s.takesWrite r a i = false := by
  simp [takesWrite, hrw, hrws, hrwl]

theorem maskWrite_eq :
    s.maskWrite r a old v =
      let rwl := if s.locked r a then 0 else r.rwl
      (old &&& ~~~(BitVec.ofNat 32 r.rw ||| BitVec.ofNat 32 rwl ||| BitVec.ofNat 32 r.rws)
        ||| (v &&& BitVec.ofNat 32 r.rw) ||| (v &&& BitVec.ofNat 32 rwl) ||| (v &&& BitVec.ofNat 32 r.rws)
        ||| (v &&& BitVec.ofNat 32 r.w1s) ||| keptLock r a old) &&& ~~~(v &&& BitVec.ofNat 32 r.w1c) := by
  rfl

/-- All access codes at once: bit `i` of the register after the write. -/
theorem getLsbD_maskWrite (hi : i < 32) :
    (s.maskWrite r a old v).getLsbD i =
      (((bif s.takesWrite r a i then v.getLsbD i else old.getLsbD i) || (v.getLsbD i && r.w1s.testBit i)
        || (old.getLsbD i && ownLockBit r a i)) && !(v.getLsbD i && r.w1c.testBit i)) := by
  have hrwl : (if s.locked r a then 0 else r.rwl).testBit i = (r.rwl.testBit i && !s.locked r a) := by
    cases s.locked r a <;> simp
  simp only [maskWrite_eq, BitVec.getLsbD_or, BitVec.getLsbD_and, BitVec.getLsbD_not, BitVec.getLsbD_ofNat,
    getLsbD_keptLock _ _ _ _ hi, hi, decide_true, Bool.true_and, hrwl, takesWrite]
  generalize (r.rwl.testBit i && !s.locked r a) = rwl
  cases r.rw.testBit i <;> cases r.rws.testBit i <;> cases rwl <;> simp

/-- A bit that takes the write holds the written bit, or stays set as the register's own LOCK bit. -/
theorem getLsbD_maskWrite_of_takesWrite (hi : i < 32) (ht : s.takesWrite r a i = true) (hc : r.w1c.testBit i = false) :
    (s.maskWrite r a old v).getLsbD i = (v.getLsbD i || (old.getLsbD i && ownLockBit r a i)) := by
  rw [getLsbD_maskWrite _ _ _ _ _ _ hi, ht, hc]
  cases v.getLsbD i <;> simp

/-- A bit that does not take the write is set where it is W1S and written 1, cleared where it is W1C and written 1,
and else keeps its value. -/
theorem getLsbD_maskWrite_of_not_takesWrite (hi : i < 32) (ht : s.takesWrite r a i = false) :
    (s.maskWrite r a old v).getLsbD i =
      ((old.getLsbD i || (v.getLsbD i && r.w1s.testBit i)) && !(v.getLsbD i && r.w1c.testBit i)) := by
  rw [getLsbD_maskWrite _ _ _ _ _ _ hi, ht]
  cases old.getLsbD i <;> simp

/-- The register's own LOCK bit stays set whatever is written (R17). -/
theorem getLsbD_maskWrite_of_ownLockBit (hi : i < 32) (hk : ownLockBit r a i = true) (hc : r.w1c.testBit i = false)
    (ho : old.getLsbD i = true) : (s.maskWrite r a old v).getLsbD i = true := by
  simp [getLsbD_maskWrite _ _ _ _ _ _ hi, hk, hc, ho]

/-- Settles O23, by the equation of `maskWrite` per bit and its cases along the access codes. -/
theorem accessCodesDecideEachBit : Obligations.AccessCodesDecideEachBit := by
  unfold Obligations.AccessCodesDecideEachBit
  intro s x a old w i hi has new lockHere
  have hlock : lockHere ↔ ownLockBit x a i = true := by
    rcases h : x.lock with _ | ⟨la, b⟩ <;> simp [lockHere, ownLockBit, h]
  simp only [hlock, new, has]
  refine ⟨fun ht hc => ?taken, fun hrw hrws _ hl hc hs => ?locked, fun hrw hrws hrwl hc hs => ?readOnly,
    fun hrw hrws hrwl hc hs => ?w1c, fun hrw hrws hrwl hc hs => ?w1s, getLsbD_maskWrite_of_ownLockBit s x a i old w hi⟩
  case taken =>
    rw [getLsbD_maskWrite_of_takesWrite s x a i old w hi ((takesWrite_iff s x a i).2 ht) hc]
    cases w.getLsbD i <;> cases ownLockBit x a i <;> simp
  case locked =>
    have hn := takesWrite_eq_false_of_locked s x a i hrw hrws hl
    simp [getLsbD_maskWrite_of_not_takesWrite s x a i old w hi hn, hc, hs]
  all_goals
    have hn := takesWrite_eq_false_of_unmasked s x a i hrw hrws hrwl
    simp [getLsbD_maskWrite_of_not_takesWrite s x a i old w hi hn, hc, hs]

end Sys2Proof.Machine.State
end

section
/-!
The nominal increment: what a committed write of SID_INC_NOM does to the register pair (02_sidereal_time.md R48, R221).
-/
namespace Sys2Proof.Machine.State

open Sys2Proof

variable (s : State)

/-- A write that the agent may make takes its effect (R34). -/
theorem writeBy_of_canWrite {ag : Agent} {a : Nat} (f : State → State) (h : s.canWrite ag a) : s.writeBy ag a f = f s := by
  obtain ⟨live, may⟩ := h
  simp [writeBy, live, may]

theorem reg64_raise {a : Nat} (c i : Nat) (args : List Word) (hlo : raiseReg a = false) (hhi : raiseReg (a + 4) = false) :
    (s.raise c i args).reg64 a = s.reg64 a := by
  simp only [reg64, reg_raise s c i args hlo, reg_raise s c i args hhi]

theorem lt_four_of_mem_enPorts {p : Nat} (h : p ∈ s.enPorts) : p < 4 :=
  List.mem_range.1 (List.mem_filter.1 h).1

@[simp] theorem reg_updPort (p a : Nat) (f : PlatePort → PlatePort) : (s.updPort p f).reg a = s.reg a := by rfl

/-- Clamping leads writes each port's PLATE_STATUS and what raising a fault may write (R221). -/
theorem reg_clampLeads {a : Nat} (hr : raiseReg a = false) (hs : ∀ p < 4, a ≠ pReg Reg.PLATE_STATUS p) :
    s.clampLeads.reg a = s.reg a := by
  unfold clampLeads
  refine List.foldlRecOn (motive := fun t : State => t.reg a = s.reg a) _ _ rfl fun t ih p hp => ?_
  dsimp only
  split
  · exact ih
  · rw [reg_raise _ _ _ _ hr, reg_setBit_ne _ (hs p (s.lt_four_of_mem_enPorts hp)), reg_updPort, ih]

/-- Clamping leads keeps the nominal increment. -/
theorem reg64_clampLeads_incNom : s.clampLeads.reg64 Reg.SID_INC_NOM_LO = s.reg64 Reg.SID_INC_NOM_LO := by
  simp only [reg64]
  rw [reg_clampLeads s (by decide) (by decide), reg_clampLeads s (by decide) (by decide)]

theorem incNom_raise (c i : Nat) (args : List Word) : (s.raise c i args).incNom = s.incNom := by
  simp only [incNom, reg64_raise s c i args (a := Reg.SID_INC_NOM_LO) (by decide) (by decide)]

/-- Out of range, the write is ignored and raises CFG_ERR; the increment is the same, so no lead is clamped (R48). -/
theorem incNomWrite_of_outOfRange {v : DWord} (h : v.toNat < 0x6714_4770E9 ∨ 0x80D_9594_D235 < v.toNat) :
    s.incNomWrite v = s.raise Code.CLK_CFG_ERR 0 := by
  simp only [incNomWrite, sidIncNomEffect, if_pos h, incNom_raise, if_true]

/-- In range, the pair takes the value, whether or not leads are clamped (R48, R221). -/
theorem reg64_incNomWrite_of_inRange {v : DWord} (h : 0x6714_4770E9 ≤ v.toNat ∧ v.toNat ≤ 0x80D_9594_D235) :
    (s.incNomWrite v).reg64 Reg.SID_INC_NOM_LO = v := by
  have hin : ¬(v.toNat < 0x6714_4770E9 ∨ 0x80D_9594_D235 < v.toNat) := by omega
  simp only [incNomWrite, sidIncNomEffect, if_neg hin]
  split
  · exact reg64_setReg64 s _ v
  · rw [reg64_clampLeads_incNom, reg64_setReg64]

theorem exec_sidIncNomWrite_of_canWrite {ag : Agent} (v : DWord) (h : s.canWrite ag Reg.SID_INC_NOM_LO) :
    exec (.sidIncNomWrite ag v) s = .next (s.incNomWrite v) := by
  rw [exec_sidIncNomWrite, execSidIncNomWrite, writeBy_of_canWrite s _ h]

/-- Settles O57, by what a committed write does out of range and in range. -/
theorem incrementOutOfRangeIsIgnored : Obligations.IncrementOutOfRangeIsIgnored := by
  unfold Obligations.IncrementOutOfRangeIsIgnored
  refine ⟨fun ag v s hw hv => ?ignored, fun ag v s hw hv room => ?raised, fun ag v s hw hv => ?taken⟩
  case ignored => rw [exec_sidIncNomWrite_of_canWrite s v hw, incNomWrite_of_outOfRange s hv]
  case raised =>
    obtain ⟨r, hr, hcode, hinst, -⟩ := raise_queued s Code.CLK_CFG_ERR 0 [] room
    refine ⟨_, exec_sidIncNomWrite_of_canWrite s v hw, ?_⟩
    rw [incNomWrite_of_outOfRange s hv]
    exact ⟨⟨r, hr, hcode, hinst⟩, reg64_raise s _ _ _ (by decide) (by decide)⟩
  case taken => exact ⟨_, exec_sidIncNomWrite_of_canWrite s v hw, reg64_incNomWrite_of_inRange s hv⟩

end Sys2Proof.Machine.State
end

section
/-!
Issue on a core that can issue, and the registers of a core: what an instruction that acts on its core alone leaves behind
(03_selmir_machine.md R102, R104; 04_selmir_instructions.md R183 to R185).
-/
namespace Sys2Proof.Machine

open Sys2Proof

namespace Core

variable (k : Core)

@[simp] theorem pc_setG (d : GReg) (v : DWord) : (k.setG d v).pc = k.pc := by
  unfold setG; split <;> rfl

@[simp] theorem pc_setP (d : PReg) (v : BitVec 8) : (k.setP d v).pc = k.pc := by
  unfold setP; split <;> rfl

@[simp] theorem gr_zero : k.gr 0 = 0 := by rfl

@[simp] theorem setG_zero (v : DWord) : k.setG 0 v = k := by rfl

/-- A register but g0 reads as written, and every other register as before (R102). -/
theorem gr_setG (d r : GReg) (v : DWord) : (k.setG d v).gr r = if d ≠ 0 ∧ r = d then v else k.gr r := by
  by_cases hd : d = 0
  · simp [hd]
  · have hd' : d.val ≠ 0 := Fin.val_ne_of_ne hd
    by_cases hr : r = d
    · simp [gr, setG, hd, hd', hr]
    · simp [gr, setG, hd', hr, SMap.get_put_ne (Fin.val_ne_of_ne hr)]

theorem p0_iff (p : PReg) : k.p0 p = true ↔ bits (k.pr p) 0 0 = 1 := beq_iff_eq

end Core

namespace State

variable {s : State} {c : CoreId} {rd wr : List Nat}

/-- On a core that can issue, an instruction takes its own effect. -/
theorem issue_of_canIssue (h : s.canIssue c rd wr) (w : Word) (f : State → State) : s.issue c w rd wr f = f s := by
  obtain ⟨live, budget, fetch, free, clean⟩ := h
  simp [issue, live, budget, fetch, free, clean]

/-- An instruction that acts on its core alone and leaves PC to the step commits what it makes of the core. -/
theorem alu_of_canIssue (h : s.canIssue c rd wr) (w : Word) (f : Core → Core) (hpc : (f (s.core c.val)).pc = (s.core c.val).pc) :
    s.alu c w rd wr f = s.commits c (f (s.core c.val)) := by
  rw [alu, issue_of_canIssue h, updCore, commits, Core.next, hpc]

theorem alu_setG_of_canIssue (h : s.canIssue c rd wr) (w : Word) (d : GReg) (v : Core → DWord) :
    s.alu c w rd wr (fun k => k.setG d (v k)) = s.commits c ((s.core c.val).setG d (v (s.core c.val))) :=
  alu_of_canIssue h w _ (Core.pc_setG _ _ _)

theorem alu_setP_of_canIssue (h : s.canIssue c rd wr) (w : Word) (d : PReg) (v : Core → BitVec 8) :
    s.alu c w rd wr (fun k => k.setP d (v k)) = s.commits c ((s.core c.val).setP d (v (s.core c.val))) :=
  alu_of_canIssue h w _ (Core.pc_setP _ _ _)

/-- With bit 0 of the governing predicate set, a governed instruction acts as one without a predicate (R104). -/
theorem aluP_of_governed {p : PReg} (hp : bits ((s.core c.val).pr p) 0 0 = 1) (w : Word) (f : Core → Core) :
    s.aluP c w p rd wr f = s.alu c w rd wr f := by
  rw [aluP, if_pos ((Core.p0_iff _ p).2 hp)]

theorem exec_sAdd_of_canIssue {a b d : GReg} {p : PReg} (h : s.canIssue c [a.val, b.val] [d.val])
    (hp : bits ((s.core c.val).pr p) 0 0 = 1) :
    exec (.sAdd c d a b p) s = .next (s.commits c ((s.core c.val).setG d ((s.core c.val).gr a + (s.core c.val).gr b))) := by
  rw [exec_sAdd, execSAdd, aluP_of_governed hp]
  exact congrArg _ (alu_setG_of_canIssue h _ d _)

theorem exec_sSub_of_canIssue {a b d : GReg} {p : PReg} (h : s.canIssue c [a.val, b.val] [d.val])
    (hp : bits ((s.core c.val).pr p) 0 0 = 1) :
    exec (.sSub c d a b p) s = .next (s.commits c ((s.core c.val).setG d ((s.core c.val).gr a - (s.core c.val).gr b))) := by
  rw [exec_sSub, execSSub, aluP_of_governed hp]
  exact congrArg _ (alu_setG_of_canIssue h _ d _)

/-- Settles O58, by the read of a general register after a write and by the general results of ADD and SUB. -/
theorem registerZeroReadsZeroAndDiscardsWrites : Obligations.RegisterZeroReadsZeroAndDiscardsWrites := by
  unfold Obligations.RegisterZeroReadsZeroAndDiscardsWrites
  refine ⟨fun k v d r => ⟨k.gr_zero, k.setG_zero v, k.gr_setG d r v⟩, fun s c a b d p _ hto0 hfrom0 hp => ?_⟩
  refine ⟨?addTo, ?subTo, ?addFrom, ?subFrom⟩
  case addTo => rw [exec_sAdd_of_canIssue hto0 hp, Core.setG_zero]
  case subTo => rw [exec_sSub_of_canIssue hto0 hp, Core.setG_zero]
  case addFrom =>
    have hzero (y : DWord) : 0 + y = y := BitVec.zero_add y
    rw [exec_sAdd_of_canIssue hfrom0 hp, Core.gr_zero, hzero]
  case subFrom => rw [exec_sSub_of_canIssue hfrom0 hp, Core.gr_zero]

end State

/-! ### Conditions of the compares -/

theorem sext_toNat (x : DWord) : sext 64 x.toNat = x.toInt := by
  have hx : x.toNat % 2 ^ 64 = x.toNat := Nat.mod_eq_of_lt x.isLt
  rw [sext, hx, BitVec.toInt_eq_toNat_cond]
  split <;> split <;> omega

theorem toNat_beq_toNat (x y : DWord) : (x.toNat == y.toNat) = (x == y) := by
  rw [Bool.eq_iff_iff, beq_iff_eq, beq_iff_eq, BitVec.toNat_inj]

/-- The condition of a code on two 64-bit registers (R183). -/
def dwordCond (c : Nat) (x y : DWord) : Bool :=
  match c with
  | 0 => x == y
  | 1 => x != y
  | 2 => x.slt y
  | 3 => !x.slt y
  | 4 => x.ult y
  | 5 => !x.ult y
  | 6 => (x &&& y) != 0
  | _ => (x - y).slt 0

theorem intCond_toNat (c : Nat) (x y : DWord) : intCond 64 c x.toNat y.toNat = dwordCond c x y := by
  have hsub : (x.toNat + 2 ^ 64 - y.toNat) % 2 ^ 64 = (x - y).toNat := by
    rw [BitVec.toNat_sub]; congr 1; have := y.isLt; omega
  match c with
  | 0 => simp only [intCond, dwordCond, toNat_beq_toNat]
  | 1 => simp only [intCond, dwordCond, bne, toNat_beq_toNat]
  | 2 => simp only [intCond, dwordCond, sext_toNat, BitVec.slt]
  | 3 => simp only [intCond, dwordCond, sext_toNat, BitVec.slt, ← decide_not, Int.not_lt]
  | 4 => simp only [intCond, dwordCond, BitVec.ult]
  | 5 => simp only [intCond, dwordCond, BitVec.ult, ← decide_not, Nat.not_lt]
  | 6 =>
    have hzero : ((x &&& y).toNat == 0) = (x &&& y == 0) := toNat_beq_toNat (x &&& y) 0
    simp only [intCond, dwordCond, bne, ← BitVec.toNat_and, hzero]
  | n + 7 =>
    have hzero : (0 : DWord).toInt = 0 := BitVec.toInt_zero
    simp only [intCond, dwordCond, hsub, sext_toNat, BitVec.slt, hzero]

namespace State

/-- A code of VCMP that R184 reserves: fp16 with 32-bit lanes or a code from 4 on, integer with code 7. -/
theorem vcmpReserved_iff (fp wide : Bool) (cond : Fin 8) :
    (if fp then wide || decide (4 ≤ cond.val) else cond.val == 7) = true ↔
      fp = true ∧ wide = true ∨ fp = true ∧ 4 ≤ cond.val ∨ fp = false ∧ cond.val = 7 := by
  cases fp <;> cases wide <;> simp

/-- Settles O7, by the general result of an instruction that acts on its core alone and the conditions of the compares. -/
theorem compareAndPredicateResults : Obligations.CompareAndPredicateResults := by
  unfold Obligations.CompareAndPredicateResults
  intro s c a b d va vb pa pb pd p cond imm fp wide k test put
  have htest : ∀ x y, all8 (intCond 64 cond.val x.toNat y.toNat) = if test x y then 0xFF else 0 :=
    fun x y => congrArg all8 (intCond_toNat cond.val x y)
  have hput : ∀ {rd wr : List Nat} (_ : s.canIssue c rd wr) (w : Word) (v : Core → BitVec 8),
      Host.Outcome.next (s.alu c w rd wr fun k => k.setP pd (v k)) = put (v k) :=
    fun h w v => congrArg _ (alu_setP_of_canIssue h w pd v)
  refine ⟨fun h hp => ?cmp, fun h => ?cmpi, fun h hcode => ?vcmp, fun h hcode => ?vcmpReserved,
    fun h => ⟨?pand, ?por, ?pxor, ?pandn, ?pnot⟩, fun h => ?pmovg, fun h => ?gmovp⟩
  case cmp => rw [exec_sCmp, execSCmp, aluP_of_governed hp, ← htest]; exact hput h _ _
  case cmpi => rw [exec_sCmpi, execSCmpi, ← htest]; exact hput h _ _
  case vcmp =>
    have hdef : ¬(if fp then wide || decide (4 ≤ cond.val) else cond.val == 7) = true := by
      rw [vcmpReserved_iff]; cases fp <;> simp_all
    rw [exec_sVcmp, execSVcmp, if_neg hdef]; exact hput h _ _
  case vcmpReserved =>
    rw [exec_sVcmp, execSVcmp, if_pos ((vcmpReserved_iff fp wide cond).2 hcode)]
    exact congrArg _ (issue_of_canIssue h _ _)
  case pand => rw [exec_sPand]; exact hput h _ _
  case por => rw [exec_sPor]; exact hput h _ _
  case pxor => rw [exec_sPxor]; exact hput h _ _
  case pandn => rw [exec_sPandn]; exact hput h _ _
  case pnot => rw [exec_sPnot]; exact hput h _ _
  case pmovg => rw [exec_sPmovg]; exact hput h _ _
  case gmovp => rw [exec_sGmovp]; exact congrArg _ (alu_setG_of_canIssue h _ d _)

end State

end Sys2Proof.Machine
end

section
/-!
Plate pins over exceptions: no exception gives a core a pin; and the instructions that read the
phase, use a ring or take a pin
(03_selmir_machine.md R119, R141 to R147, R153, R155 to R160).
-/
namespace Sys2Proof.Machine

open Sys2Proof

namespace Core

variable (k : Core)

@[simp] theorem pins_setG (d : GReg) (v : DWord) : (k.setG d v).pins = k.pins := by
  unfold setG; split <;> rfl

@[simp] theorem pins_setV (d : VReg) (v : Vec) : (k.setV d v).pins = k.pins := by rfl

@[simp] theorem pins_landLoad (l : LoadOut) : (k.landLoad l).pins = k.pins := by
  unfold landLoad
  extract_lets r x key
  have hx : x.pins = k.pins := by
    show Core.pins (if _ then _ else _) = _
    split
    · exact pins_setV k _ _
    · exact pins_setG k _ _
  clear_value x
  split <;> exact hx

@[simp] theorem pins_landAll : k.landAll.pins = k.pins :=
  List.foldlRecOn (motive := fun x : Core => x.pins = k.pins) _ _ rfl fun x ih l _ => (x.pins_landLoad l).trans ih

end Core

namespace State

variable (s : State)

@[simp] theorem core_updCore (c : Nat) (f : Core → Core) : (s.updCore c f).core c = f (s.core c) := core_setCore s c _

/-- What a core holds depends on the cores only. -/
theorem core_congr {t u : State} (h : t.cores = u.cores) (c : Nat) : t.core c = u.core c := by simp only [core, h]

/-! ### Operations that leave every core alone -/

@[simp] theorem cores_raise (code inst : Nat) (args : List Word) : (s.raise code inst args).cores = s.cores := by
  rw [(RaiseStep.raise s code inst args).rest]

@[simp] theorem cores_raiseSec (code inst : Nat) (args : List Word) : (s.raiseSec code inst args).cores = s.cores := by
  rw [(RaiseStep.raiseSec s code inst args).rest]

@[simp] theorem cores_ringAccept (r : Nat) (e : Entry) : (s.ringAccept r e).cores = s.cores := by
  unfold ringAccept; dsimp only; split <;> rfl

@[simp] theorem cores_ringDropUnit (r n : Nat) : (s.ringDropUnit r n).cores = s.cores := by
  unfold ringDropUnit; dsimp only; split <;> rw [cores_raiseSec] <;> rfl

@[simp] theorem cores_ringUnit (r : Nat) (es : List Entry) : (s.ringUnit r es).2.cores = s.cores := by
  unfold ringUnit
  split
  · exact List.foldlRecOn (motive := fun t : State => t.cores = s.cores) _ _ rfl fun t ih e _ => (cores_ringAccept t r e).trans ih
  · exact cores_ringDropUnit s r _

@[simp] theorem cores_postKdone (g : Group) : (s.postKdone g).cores = s.cores := by
  unfold postKdone; split
  · exact cores_ringUnit s _ _
  · rfl

@[simp] theorem cores_setGroups (gs : List Group) : (s.setGroups gs).cores = s.cores := by rfl

@[simp] theorem cores_memberEnd (gid c : Nat) (ok : Bool) : (s.memberEnd gid c ok).cores = s.cores := by
  unfold memberEnd
  split
  · rfl
  · dsimp only; split
    · rw [cores_postKdone, cores_setGroups]
    · exact cores_setGroups s _

/-! ### Pins -/

theorem pins_releasePins (c : Nat) : ((s.releasePins c).core c).pins = [] := by
  unfold releasePins; rw [core_updCore]

/-- After its kernel a core without pins still has none: a pending launch starts afresh (R117, R120). -/
theorem pins_afterKernel (c : Nat) (h : (s.core c).pins = []) : ((s.afterKernel c).core c).pins = [] := by
  unfold afterKernel
  split
  · split
    · rw [core_updCore]; exact h
    · unfold kernelStart; rw [core_setCore]; simp
  · rw [core_updCore]; exact h

/-- An exception on a field core releases every pin (R155). -/
theorem pins_fieldExc (c code : Nat) (w : Word) (addr : Nat) : ((s.fieldExc c code w addr).core c).pins = [] := by
  unfold fieldExc
  extract_lets k kd s1 s2 s3 s4
  have h3 : (s3.core c).pins = [] := pins_releasePins _ c
  have h4 : (s4.core c).pins = [] := by
    rw [← h3]
    show ((match k.kernel with | some x => s3.memberEnd x.gid c false | none => s3).core c).pins = _
    split
    · rw [core_congr (cores_memberEnd s3 _ c false)]
    · rfl
  clear_value s4
  split
  · rw [core_updCore]; exact h4
  · exact pins_afterKernel s4 c h4

theorem pins_supHalt (c : Nat) : ((s.supHalt c).core c).pins = (s.core c).pins := by
  unfold supHalt; rw [core_updCore]

/-- An exception on a supervisor core changes no pins. -/
theorem pins_supExc (c code addr : Nat) (args : List Word) : ((s.supExc c code addr args).core c).pins = (s.core c).pins := by
  have hland : ((s.updCore c Core.landAll).core c).pins = (s.core c).pins := by rw [core_updCore, Core.pins_landAll]
  unfold supExc
  extract_lets n t k nested b stopped u
  split
  · split
    · rw [pins_supHalt, core_congr (cores_raise _ _ _ _), core_congr (cores_raise _ _ _ _)]; exact hland
    · rw [core_setCore]; exact hland
  · have hb : b.cores = t.cores := by
      show State.cores (if _ then _ else _) = _
      split
      · exact cores_raise t _ _ _
      · rfl
    have hu : u.cores = t.cores := by rw [setReg_cores, setReg64_cores, cores_raise, hb]
    rw [pins_supHalt, core_congr hu]; exact hland

theorem pins_exc_le (c code : Nat) (w : Word) (addr : Nat) : ((s.exc c code w addr).core c).pins.length ≤ (s.core c).pins.length := by
  unfold exc
  split
  · rw [pins_fieldExc]; exact Nat.zero_le _
  · exact Nat.le_of_eq (congrArg List.length (pins_supExc s c code addr []))

/-! ### The instructions -/

variable {s} {c : CoreId} {rd wr : List Nat} {w : Word}

/-- What issue can do: nothing, an exception of the core, or the instruction's own effect. -/
theorem issue_induction {f : State → State} {P : State → Prop} (waits : P s) (faults : ∀ code addr, P (s.exc c.val code w addr))
    (acts : P (f s)) : P (s.issue c w rd wr f) := by
  unfold issue
  dsimp only
  split
  · exact waits
  split
  · exact faults _ _
  split
  · exact faults _ _
  split
  · exact waits
  split
  · exact faults _ _
  · exact acts

/-- An instruction whose own effect leaves its core at most n pins leaves it at most n pins however it issues. -/
theorem pins_issue_le {f : State → State} {n : Nat} (h : (s.core c.val).pins.length ≤ n)
    (hf : ((f s).core c.val).pins.length ≤ n) : ((s.issue c w rd wr f).core c.val).pins.length ≤ n :=
  issue_induction (P := fun t => (t.core c.val).pins.length ≤ n) h (fun code addr => Nat.le_trans (pins_exc_le s _ code w addr) h) hf

theorem pins_illegal_le {n : Nat} (h : (s.core c.val).pins.length ≤ n) : ((s.illegal c w).core c.val).pins.length ≤ n :=
  pins_issue_le h (Nat.le_trans (pins_exc_le s _ _ w _) h)

/-- A core has at most 8 pins after PIN if it had at most 8 before (R153). -/
theorem exec_sPin_pins_le (d a : GReg) (h : (s.core c.val).pins.length ≤ 8) :
    Runs (.sPin c d a) s fun t => (t.core c.val).pins.length ≤ 8 := by
  refine ⟨_, exec_sPin s c d a, ?_⟩
  dsimp only [fieldOnly]
  split
  · refine pins_issue_le h ?_
    split
    · rw [core_updCore, Core.next, Core.pins_setG]; exact h
    · split
      · exact Nat.le_trans (pins_exc_le s _ _ _ _) h
      · next hfew =>
        have hbuf : ∀ b g, ((s.bufPin b g).core c.val).pins = (s.core c.val).pins := fun _ _ => rfl
        rw [core_updCore, Core.next, hbuf, List.length_append]
        exact Nat.not_le.1 hfew
  · exact pins_illegal_le h

theorem fieldOnly_of_field (hc : c.val < 256) (t : State) : s.fieldOnly c w t = t := by simp [fieldOnly, isField, hc]

/-- The ring operand names a ring by number with gr = 0, or by register (R207). -/
theorem ringOperand_wellFormed {rr : Bool} {g : GReg} (h : rr = true ∨ g = 0) : ¬(rr = false ∧ g.val ≠ 0) := by
  rcases h with rfl | rfl <;> simp

/-- A ring instruction of a field core on a ring whose mask bit is clear raises ACCESS, whatever it would do else (R147). -/
theorem issue_ring_of_masked {ring : RingId} {rr : Bool} {g : GReg} (hc : c.val < 256) (h : s.canIssue c rd wr)
    (hmask : s.bit (tileReg Reg.TILE_RING_MASK_LO c.val + ringSel (s.core c.val) ring rr g / 32 * 4)
      (ringSel (s.core c.val) ring rr g % 32) = false) (f : State → State) :
    s.issue c w rd wr (fun s => if !s.mayRing c.val (ringSel (s.core c.val) ring rr g) then s.exc c.val Code.TILE_ACCESS w else f s) =
      s.exc c.val Code.TILE_ACCESS w := by
  rw [issue_of_canIssue h]
  exact if_pos (by simp [mayRing, isField, hc, hmask])

/-- More than 2^30 frames ahead, WAITPH raises PHASE_RANGE (R143). -/
theorem waitPhase_of_farAhead {i : Nat} {p : DWord} (h : 2 ^ 62 < phaseDiff p s.phase) :
    s.waitPhase i w p = s.exc i Code.TILE_PHASE_RANGE w := by
  have hnot : ¬(phaseDiff p s.phase ≤ 0 ∧ s.stopped = false) := by omega
  simp only [waitPhase, if_neg hnot, if_pos h]

/-- Settles O59, by what an instruction does on a core that can issue, and for the bound on pins by what issue can do. -/
theorem phaseRangeRingMaskAndPinLimit : Obligations.PhaseRangeRingMaskAndPinLimit := by
  unfold Obligations.PhaseRangeRingMaskAndPinLimit
  refine ⟨fun c d s h => ?rdph, fun c a s h hfar => ?waitph, fun c d u ring rr g s hc hform h hmask => ?rpush,
    fun c d u ring rr g s hc hform h hmask => ?rpop, fun c d ring rr g s hc hform h hmask => ?rdrop,
    fun c d a s hc h hbuf hgen hfull => ?pinFull, fun c d a s h => exec_sPin_pins_le d a h⟩
  case rdph =>
    rw [exec_sRdph]
    refine congrArg Host.Outcome.next ((issue_of_canIssue h _ _).trans ?_)
    rw [updCore, commits, Core.next, Core.pc_setG]
  case waitph =>
    rw [exec_sWaitph]
    exact congrArg Host.Outcome.next ((issue_of_canIssue h _ _).trans (waitPhase_of_farAhead (by omega)))
  case rpush =>
    obtain ⟨heven, hsel⟩ := hform
    have hwf : ¬(u.val % 2 = 1 ∨ rr = false ∧ g.val ≠ 0) := not_or.2 ⟨by omega, ringOperand_wellFormed hsel⟩
    rw [exec_sRpush, execSRpush, if_neg hwf]
    exact congrArg Host.Outcome.next (issue_ring_of_masked hc h hmask _)
  case rpop =>
    obtain ⟨heven, hsel⟩ := hform
    have hwf : ¬(u.val % 2 = 1 ∨ rr = false ∧ g.val ≠ 0) := not_or.2 ⟨by omega, ringOperand_wellFormed hsel⟩
    rw [exec_sRpop, execSRpop, if_neg hwf]
    exact congrArg Host.Outcome.next (issue_ring_of_masked hc h hmask _)
  case rdrop =>
    rw [exec_sRdrop, execSRdrop, if_neg (ringOperand_wellFormed hform)]
    exact congrArg Host.Outcome.next (issue_ring_of_masked hc h hmask _)
  case pinFull =>
    rw [exec_sPin, execSPin, fieldOnly_of_field hc]
    refine congrArg Host.Outcome.next ((issue_of_canIssue h _ _).trans ?_)
    have hholds : ¬(bits ((s.core c.val).gr a) 31 12 ≠ 0 ∨
        (s.buf (bits ((s.core c.val).gr a) 11 0)).holds (((s.core c.val).gr a).extractLsb' 32 32) [1, 2] = false) := by
      simp [hbuf, hgen]
    exact (if_neg hholds).trans (if_pos hfull)

end State

end Sys2Proof.Machine
end

section
/-!
A launch that reaches no core, and the entry it posts: rings accept one entry, and the launch distributor's two ways without members
(03_selmir_machine.md R111 to R116, R121; 12_rings.md R528, R535).
-/
namespace Sys2Proof.Machine

open Sys2Proof

/-! ### Words of an entry -/

theorem leNat_leBytes_append (n v : Nat) (l : List Byte) : leNat (leBytes n v ++ l) = v % 256 ^ n + 256 ^ n * leNat l := by
  induction n generalizing v with
  | zero => simp [leBytes, Nat.mod_one]
  | succ n ih =>
    have hsplit : v % 256 ^ (n + 1) = v % 256 + 256 * (v / 256 % 256 ^ n) := by
      rw [Nat.pow_succ, Nat.mul_comm, Nat.mod_mul]
    have hbyte : (BitVec.ofNat 8 v).toNat = v % 256 := BitVec.toNat_ofNat v 8
    rw [leBytes, List.cons_append, leNat, ih, hsplit, hbyte, Nat.mul_add, ← Nat.mul_assoc, ← Nat.pow_add_one', Nat.add_assoc]

/-- The low 32 bits of an entry are its word 0. -/
theorem entryOfWords_cons_mod (w : Word) (ws : List Word) : (entryOfWords (w :: ws)).toNat % 2 ^ 32 = w.toNat := by
  have hle : leNat ((w :: ws).flatMap fun w => leBytes 4 w.toNat) = w.toNat + 2 ^ 32 * leNat (ws.flatMap fun w => leBytes 4 w.toNat) := by
    have hw : w.toNat % 256 ^ 4 = w.toNat := Nat.mod_eq_of_lt w.isLt
    have hbase : 256 ^ 4 = 2 ^ 32 := by decide
    rw [List.flatMap_cons, leNat_leBytes_append, hw, hbase]
  rw [entryOfWords, BitVec.toNat_ofNat, hle, Nat.mod_mod_of_dvd _ (by decide), Nat.add_mul_mod_self_left, Nat.mod_eq_of_lt w.isLt]

/-- SOP of an entry is bit 8 of its word 0 (R527). -/
theorem entrySop_entryOfWords (w : Word) (ws : List Word) : entrySop (entryOfWords (w :: ws)) = (bits w 8 8 == 1) := by
  have h := entryOfWords_cons_mod w ws
  have : bits (entryOfWords (w :: ws)) 8 8 = bits w 8 8 := by unfold bits; omega
  rw [entrySop, this]

/-- A KDONE entry starts a packet. -/
theorem entrySop_kdoneEntry (s : State) (g : Group) : entrySop (s.kdoneEntry g) = true := by
  rw [State.kdoneEntry, entrySop_entryOfWords]
  cases g.failed != 0 <;> rfl

theorem extractLsb'_ofNat_low (n : Nat) : (BitVec.ofNat 64 n).extractLsb' 0 32 = BitVec.ofNat 32 n := by
  apply BitVec.eq_of_toNat_eq
  simp only [BitVec.extractLsb'_toNat, BitVec.toNat_ofNat, Nat.shiftRight_zero]
  omega

theorem extractLsb'_ofNat_high (n : Nat) : (BitVec.ofNat 64 n).extractLsb' 32 32 = BitVec.ofNat 32 (n / 2 ^ 32) := by
  apply BitVec.eq_of_toNat_eq
  simp only [BitVec.extractLsb'_toNat, BitVec.toNat_ofNat, Nat.shiftRight_eq_div_pow]
  omega

/-! ### A ring accepts an entry -/

namespace RingSt

/-- Entries of a ring from its head to its tail. -/
def entries (r : RingSt) : List Entry := r.head ++ r.spill ++ r.tail

/-- Settling moves entries between the parts in order (R530, R532). -/
theorem entries_settle (m : Nat) (r : RingSt) : (r.settle m).entries = r.entries := by
  unfold settle
  extract_lets n r1 n2 r2 n3
  have h1 : r1.entries = r.entries := by
    show entries (if _ then _ else _) = _
    split
    · next hs => simp [entries, hs]
    · rfl
  have h2 : r2.entries = r1.entries := by simp [r2, entries]
  rw [← h1, ← h2]
  simp [entries]

/-- An entry with SOP joins the end of the ring and is not discarded (R528, R538). -/
theorem push_of_sop (m : Nat) (r : RingSt) {e : Entry} (h : entrySop e = true) :
    (r.push m e).1.entries = r.entries ++ [entryWithSeq e r.pushSeq] ∧ (r.push m e).2 = false := by
  simp only [push, h, Bool.not_true, Bool.and_false, Bool.false_eq_true, if_false, and_true]
  exact (entries_settle m _).trans (List.append_assoc _ _ _).symm

end RingSt

namespace State

variable (s : State)

/-- Accepting an entry with SOP changes its ring and counts in PUSH_CNT, and nothing else. -/
theorem ringAccept_of_sop (r : Nat) {e : Entry} (h : entrySop e = true) :
    s.ringAccept r e = (s.setRing r ((s.ring r).push (s.ringSpillSize r) e).1).inc (Reg.RING_PUSH_CNT + 0x100 * r) := by
  simp [ringAccept, (RingSt.push_of_sop (s.ringSpillSize r) (s.ring r) h).2]

/-- What a ring holds depends on the rings only. -/
theorem ring_congr {t u : State} (h : t.rings = u.rings) (r : Nat) : t.ring r = u.ring r := by simp only [ring, h]

theorem ringRoom_inc {a r n : Nat} (hctrl : Reg.RING_CTRL + 0x100 * r ≠ a) (hspill : Reg.RING_SPILL_SIZE + 0x100 * r ≠ a) :
    (s.inc a).ringRoom r n = s.ringRoom r n := by
  have hen : (s.inc a).ringEn r = s.ringEn r := bit_inc_ne s hctrl
  have hsize : (s.inc a).ringSpillSize r = s.ringSpillSize r := by unfold ringSpillSize; rw [fld_inc_ne s hspill]
  rw [ringRoom, ringRoom, ringCap, ringCap, hen, hsize, ring_congr (inc_rings s a)]

theorem postKdone_of_quiet {g : Group} (h : g.notify = false) : s.postKdone g = s := by simp [postKdone, h]

/-- With NOTIFY and room, the KDONE entry joins the ring the group names (R121, R535). -/
theorem postKdone_of_room {g : Group} (h : g.notify = true) (room : s.ringRoom g.ring 1 = true) :
    s.postKdone g = s.ringAccept g.ring (s.kdoneEntry g) := by
  simp [postKdone, ringUnit, h, room]

/-! ### The launch distributor -/

variable {s} {a : Act}

/-- Address of the descriptor that a LAUNCH action names. -/
abbrev launchDesc (a : Act) : Nat := a.a1.toNat + a.a2.toNat * 2 ^ 32

/-- Ring that the descriptor names for its KDONE entry (R110). -/
abbrev doneRing (s : State) (a : Act) : Nat := wfld (s.memWord (launchDesc a + 16)) 5 0

/-- The group of a launch before any member joins it. -/
def launchGroup (s : State) (a : Act) : Group :=
  ⟨s.freeGid, a.a3, BitVec.ofNat 64 (launchDesc a), a.fire, wfld (s.memWord (launchDesc a)) 26 26 == 1, s.doneRing a, [], 0, 0⟩

@[simp] theorem launchGroup_ring : (s.launchGroup a).ring = s.doneRing a := by rfl
@[simp] theorem launchGroup_notify : (s.launchGroup a).notify = (wfld (s.memWord (launchDesc a)) 26 26 == 1) := by rfl

/-- The KDONE entry of a launch without members: both counts 0 (R115). -/
def emptyKdone (a : Act) (mono : Nat) : Entry :=
  entryOfWords [entryHead 0x30 true true false false, a.a3, BitVec.ofNat 32 (launchDesc a), BitVec.ofNat 32 (launchDesc a / 2 ^ 32),
    a.fire.extractLsb' 0 32, a.fire.extractLsb' 32 32, 0, BitVec.ofNat 32 mono]

theorem kdoneEntry_launchGroup (t : State) : t.kdoneEntry (s.launchGroup a) = emptyKdone a t.mono := by
  simp only [kdoneEntry, launchGroup, emptyKdone, extractLsb'_ofNat_low, extractLsb'_ofNat_high, bne_self_eq_false, Nat.zero_mul,
    Nat.add_zero, BitVec.ofNat_eq_ofNat]

/-- Without NOTIFY the group of a launch without members posts nothing (R115). -/
theorem postKdone_launchGroup_of_quiet (t : State) (h : wfld (s.memWord (launchDesc a)) 26 26 = 0) :
    t.postKdone (s.launchGroup a) = t :=
  postKdone_of_quiet t (by simp [h])

/-- With NOTIFY and room it posts its entry: that ring and its PUSH_CNT change, and nothing else. -/
theorem postKdone_launchGroup_of_room (t : State) (h : wfld (s.memWord (launchDesc a)) 26 26 = 1)
    (room : t.ringRoom (s.doneRing a) 1 = true) :
    t.postKdone (s.launchGroup a) =
      (t.setRing (s.doneRing a) ((t.ring (s.doneRing a)).push (t.ringSpillSize (s.doneRing a)) (emptyKdone a t.mono)).1).inc
        (Reg.RING_PUSH_CNT + 0x100 * s.doneRing a) := by
  have hroom : t.ringRoom (s.launchGroup a).ring 1 = true := by rw [launchGroup_ring]; exact room
  rw [postKdone_of_room t (by simp [h]) hroom, ringAccept_of_sop t _ (entrySop_kdoneEntry t _), kdoneEntry_launchGroup,
    launchGroup_ring]

theorem hasUe_of_kdescGood {d : Nat} (h : s.kdescBad d = false) : s.hasUe d 32 = false := by
  cases hu : s.hasUe d 32
  · rfl
  · simp [kdescBad, hu] at h

/-- A launch that is shed counts and posts, and reaches no core (R116). -/
theorem launch_of_shed (h : s.kdescBad (launchDesc a) = false) (shed : s.bit Reg.TILE_SHED_STATUS 0 = true)
    (opt : wfld (s.memWord (launchDesc a)) 24 24 = 1) :
    s.launch a = (s.inc Reg.TILE_SHED_CNT).postKdone (s.launchGroup a) := by
  simp only [launch, hasUe_of_kdescGood h, h, shed, opt, Bool.false_and, Bool.false_eq_true, if_false, Bool.true_and, beq_self_eq_true,
    if_true, launchGroup]

/-- A launch that selects no core has no further effect but its post (R115). -/
theorem launch_of_selected_nil (h : s.kdescBad (launchDesc a) = false)
    (kept : s.bit Reg.TILE_SHED_STATUS 0 = false ∨ wfld (s.memWord (launchDesc a)) 24 24 = 0) (hroom : s.groups.length < 256)
    (hnone : s.selected a.a0 = []) : s.launch a = s.postKdone (s.launchGroup a) := by
  have hkept : (s.bit Reg.TILE_SHED_STATUS 0 && wfld (s.memWord (launchDesc a)) 24 24 == 1) = false := by
    rcases kept with h | h <;> simp [h]
  simp only [launch, hasUe_of_kdescGood h, h, hkept, Nat.not_le.2 hroom, hnone, Bool.false_and, Bool.false_eq_true, if_false,
    List.filter_nil, List.foldl_nil, List.isEmpty_nil, if_true, launchGroup]

/-- The state once an issued action is taken. -/
def takeAct (s : State) (a : Act) : State := { s with issued := s.issued.erase a }

/-- The distributor takes the first LAUNCH action issued. -/
theorem exec_launch_of_issued (h : (s.issued.find? fun x => actCode x.act == 1) = some a) :
    exec .launch s = .next ((s.takeAct a).launch a) := by
  rw [exec_launch, execLaunch, takeIssued, h]
  rfl

theorem launchGroup_takeAct (b : Act) : (s.takeAct a).launchGroup b = s.launchGroup b := by rfl

theorem doneRing_lt : s.doneRing a < 64 := wfld_lt _ _ _

/-- What a launch prepared in s posts in t with NOTIFY and room (R115): its entry joins the end of the ring, and no core, no group
and no fault record changes. -/
theorem posted_emptyKdone (t : State) (h : wfld (s.memWord (launchDesc a)) 26 26 = 1) (room : t.ringRoom (s.doneRing a) 1 = true) :
    let u := t.postKdone (s.launchGroup a)
    u.cores = t.cores ∧ u.groups = t.groups ∧ u.faultQ = t.faultQ ∧ u.reg Reg.TILE_SHED_CNT = t.reg Reg.TILE_SHED_CNT ∧
      (u.ring (s.doneRing a)).entries =
        (t.ring (s.doneRing a)).entries ++ [entryWithSeq (emptyKdone a t.mono) (t.ring (s.doneRing a)).pushSeq] := by
  have hlt : s.doneRing a < 64 := doneRing_lt
  have hcnt : Reg.TILE_SHED_CNT ≠ Reg.RING_PUSH_CNT + 0x100 * s.doneRing a := by
    unfold Reg.TILE_SHED_CNT Reg.RING_PUSH_CNT; omega
  have hsop : entrySop (emptyKdone a t.mono) = true := by rw [← kdoneEntry_launchGroup (s := s)]; exact entrySop_kdoneEntry t _
  intro u
  have hu : u = _ := postKdone_launchGroup_of_room t h room
  rw [hu]
  refine ⟨rfl, rfl, rfl, reg_inc_ne _ hcnt, ?_⟩
  rw [ring_congr (inc_rings _ _), ring_setRing]
  exact (RingSt.push_of_sop _ _ hsop).1

/-- Settles O60, by the two ways of a launch without members and the entry that its group posts. -/
theorem shedLaunchIsCountedAndNotDistributed : Obligations.ShedLaunchIsCountedAndNotDistributed := by
  unfold Obligations.ShedLaunchIsCountedAndNotDistributed
  refine ⟨?shedQuiet, ?shedNotify, ?emptyNotify, ?emptyQuiet⟩
  case shedQuiet =>
    rintro a _ s hact rfl hbad hshed hopt hnotify
    have hl := launch_of_shed (s := s.takeAct a) hbad hshed hopt
    rw [launchGroup_takeAct, postKdone_launchGroup_of_quiet _ hnotify] at hl
    refine ⟨_, exec_launch_of_issued hact, ?_⟩
    rw [hl]
    exact ⟨rfl, rfl, reg_setReg_same _ _ _, rfl, rfl, rfl⟩
  case shedNotify =>
    rintro a _ _ s hact rfl hbad hshed hopt hnotify rfl room
    have hroom : ((s.takeAct a).inc Reg.TILE_SHED_CNT).ringRoom (s.doneRing a) 1 = true := by
      have hlt : s.doneRing a < 64 := doneRing_lt
      rw [ringRoom_inc _ (by unfold Reg.TILE_SHED_CNT Reg.RING_CTRL; omega) (by unfold Reg.TILE_SHED_CNT Reg.RING_SPILL_SIZE; omega)]
      exact room
    obtain ⟨hcores, hgroups, hfaults, hcnt, hring⟩ := posted_emptyKdone _ hnotify hroom
    refine ⟨_, exec_launch_of_issued hact, ?_⟩
    rw [launch_of_shed (s := s.takeAct a) hbad hshed hopt, launchGroup_takeAct]
    exact ⟨hcores, hgroups, hcnt.trans (reg_setReg_same _ _ _), hfaults, hring⟩
  case emptyNotify =>
    rintro a _ _ s hact rfl hbad hkept hfree hnone rfl hnotify room
    obtain ⟨hcores, hgroups, _, _, hring⟩ := posted_emptyKdone (s.takeAct a) hnotify room
    refine ⟨_, exec_launch_of_issued hact, ?_⟩
    rw [launch_of_selected_nil (s := s.takeAct a) hbad hkept hfree hnone, launchGroup_takeAct]
    exact ⟨hcores, hgroups, hring⟩
  case emptyQuiet =>
    rintro a _ s hact rfl hbad hkept hfree hnone hnotify
    rw [exec_launch_of_issued hact, launch_of_selected_nil (s := s.takeAct a) hbad hkept hfree hnone, launchGroup_takeAct,
      postKdone_launchGroup_of_quiet _ hnotify]
    rfl

end State

end Sys2Proof.Machine
end

section
/-!
Scalar integer instructions and constants: the results of 04_selmir_instructions.md R179 to R182 as operations on 64-bit words, and
the same instructions with their governing predicate clear (03_selmir_machine.md R104).
-/
namespace Sys2Proof.Machine

open Sys2Proof

/-! ### The operations of the model as operations on words -/

section

variable (x y : DWord)

/-- Shift amounts are the low six bits of a register (R179). -/
theorem bits_five_zero : bits y 5 0 = y.toNat % 64 := by simp [bits]

/-- Of two words that compare equal the choice does not matter, so a minimum may compare with `<` or with `≤`. -/
theorem signedMin_eq : (if x.toInt ≤ y.toInt then x else y) = if x.slt y then x else y := by
  simp only [BitVec.slt, decide_eq_true_eq]
  by_cases heq : x.toInt = y.toInt
  · rw [BitVec.eq_of_toInt_eq heq, ite_self, ite_self]
  · have hle : x.toInt ≤ y.toInt ↔ x.toInt < y.toInt := by omega
    simp only [hle]

theorem unsignedMin_eq : (if x.toNat ≤ y.toNat then x else y) = if x < y then x else y := by
  simp only [BitVec.lt_def]
  by_cases heq : x.toNat = y.toNat
  · rw [BitVec.eq_of_toNat_eq heq, ite_self, ite_self]
  · have hle : x.toNat ≤ y.toNat ↔ x.toNat < y.toNat := by omega
    simp only [hle]

/-- A maximum may compare its operands in either order. -/
theorem signedMax_eq : (if y.toInt ≤ x.toInt then x else y) = if x.slt y then y else x := by
  simp only [BitVec.slt, decide_eq_true_eq, ← Int.not_lt, ite_not]

theorem unsignedMax_eq : (if y.toNat ≤ x.toNat then x else y) = if x < y then y else x := by
  simp only [BitVec.lt_def, ← Nat.not_lt, ite_not]

theorem divS_eq : divS x y = if y = 0 then -1 else x.sdiv y := by
  have hquot : BitVec.ofInt 64 (x.toInt.tdiv y.toInt) = x.sdiv y :=
    BitVec.eq_of_toInt_eq (by rw [BitVec.toInt_ofInt, BitVec.toInt_sdiv])
  rw [divS, hquot]
  rfl

theorem remS_eq : remS x y = if y = 0 then x else x.srem y := by
  rw [remS, ← BitVec.toInt_srem, BitVec.ofInt_toInt]

theorem clz64_toNat : clz64 x.toNat = if x = 0 then 64 else 63 - x.toNat.log2 := by
  have hzero : x.toNat = 0 ↔ x = 0 := BitVec.toNat_inj (y := 0)
  simp only [clz64, hzero]

/-- A sum of bits counts the bits that are set. -/
theorem foldl_bits_eq_countP (n : Nat) (l : List Nat) (m : Nat) :
    l.foldl (fun a i => a + n / 2 ^ i % 2) m = m + l.countP fun i => n.testBit i := by
  induction l generalizing m with
  | nil => rfl
  | cons i l ih =>
    rw [List.foldl_cons, ih, List.countP_cons, Nat.testBit_eq_decide_div_mod_eq]
    rcases Nat.mod_two_eq_zero_or_one (n / 2 ^ i) with h | h
    · simp [h]
    · simp [h]; omega

theorem popc64_toNat : popc64 x.toNat = (List.range 64).countP fun i => x.getLsbD i := by
  rw [popc64, foldl_bits_eq_countP, Nat.zero_add]
  rfl

/-- A zero extension keeps the low bits. -/
theorem setWidth_setWidth_eq_and (n : Nat) : (x.setWidth n).setWidth 64 = x &&& BitVec.ofNat 64 (2 ^ n - 1) := by
  apply BitVec.eq_of_getLsbD_eq
  intro i hi
  simp only [BitVec.getLsbD_setWidth, BitVec.getLsbD_and, BitVec.getLsbD_ofNat, Nat.testBit_two_pow_sub_one, hi, decide_true,
    Bool.true_and, Bool.and_comm]

end

namespace State

variable {s : State} {c : CoreId} {rd wr : List Nat}

/-- A core that can issue with some registers can issue with fewer of them. -/
theorem canIssue_mono {rd' wr' : List Nat} (h : s.canIssue c rd wr) (hrd : rd' ⊆ rd) (hwr : wr' ⊆ wr) : s.canIssue c rd' wr' := by
  obtain ⟨live, budget, fetch, free, clean⟩ := h
  refine ⟨live, budget, fetch, ?_, ?_⟩
  · rw [Core.outstanding, List.any_eq_false] at free ⊢
    have hsub : rd' ++ wr' ⊆ rd ++ wr :=
      List.append_subset.2 ⟨List.subset_append_of_subset_left _ hrd, List.subset_append_of_subset_right _ hwr⟩
    exact fun r hr => free r (hsub hr)
  · rw [Core.firstPoison, List.findSome?_eq_none_iff] at clean ⊢
    exact fun r hr => clean r (hrd hr)

/-- With bit 0 of the governing predicate clear, a governed instruction changes only PC (R104). -/
theorem aluP_of_ungoverned {p : PReg} (h : s.canIssue c rd wr) (hp : bits ((s.core c.val).pr p) 0 0 = 0) (w : Word) (f : Core → Core) :
    s.aluP c w p rd wr f = s.commits c (s.core c.val) := by
  have hclear : ¬(s.core c.val).p0 p = true := by rw [Core.p0_iff, hp]; decide
  rw [aluP, if_neg hclear]
  exact alu_of_canIssue (canIssue_mono h (List.nil_subset _) (List.nil_subset _)) w _ rfl

theorem aluP_setG_of_governed {p : PReg} (h : s.canIssue c rd wr) (hp : bits ((s.core c.val).pr p) 0 0 = 1) (w : Word) (d : GReg)
    (v : Core → DWord) :
    s.aluP c w p rd wr (fun k => k.setG d (v k)) = s.commits c ((s.core c.val).setG d (v (s.core c.val))) := by
  rw [aluP_of_governed hp, alu_setG_of_canIssue h]

/-- Settles O5, by the general result of a governed instruction, with its predicate set and clear, and the operations as operations on
words. -/
theorem scalarResults : Obligations.ScalarResults := by
  unfold Obligations.ScalarResults
  intro s c d a b p h k x y put
  refine ⟨?sel, fun hp => ?governed, fun hp => ?ungoverned⟩
  case sel =>
    have hsel : (if k.p0 p then x else y) = if bits (k.pr p) 0 0 = 1 then x else y := by simp only [Core.p0_iff]
    rw [exec_sSel, ← hsel]
    exact congrArg _ (alu_setG_of_canIssue h _ d _)
  case governed =>
    have hput (w : Word) (v : Core → DWord) :
        Host.Outcome.next (s.aluP c w p [a.val, b.val] [d.val] fun k => k.setG d (v k)) = put (v k) :=
      congrArg _ (aluP_setG_of_governed h hp w d v)
    refine ⟨exec_sAdd_of_canIssue h hp, exec_sSub_of_canIssue h hp, ?and, ?or, ?xor, ?andn, ?shl, ?shr, ?sra, ?ror, ?min, ?max, ?minu,
      ?maxu, ?addw, ?mul, ?mulh, ?mulhu, ?div, ?divu, ?rem, ?remu⟩
    case and => rw [exec_sAnd]; exact hput _ _
    case or => rw [exec_sOr]; exact hput _ _
    case xor => rw [exec_sXor]; exact hput _ _
    case andn => rw [exec_sAndn]; exact hput _ _
    case shl => rw [exec_sShl, ← bits_five_zero]; exact hput _ _
    case shr => rw [exec_sShr, ← bits_five_zero]; exact hput _ _
    case sra => rw [exec_sSra, ← bits_five_zero]; exact hput _ _
    case ror => rw [exec_sRor, ← bits_five_zero]; exact hput _ _
    case min => rw [exec_sMin, ← signedMin_eq]; exact hput _ _
    case max => rw [exec_sMax, ← signedMax_eq]; exact hput _ _
    case minu => rw [exec_sMinu, ← unsignedMin_eq]; exact hput _ _
    case maxu => rw [exec_sMaxu, ← unsignedMax_eq]; exact hput _ _
    case addw => rw [exec_sAddw]; exact hput _ _
    case mul => rw [exec_sMul]; exact hput _ _
    case mulh => rw [exec_sMulh]; exact hput _ _
    case mulhu => rw [exec_sMulhu]; exact hput _ _
    case div => rw [exec_sDiv, ← divS_eq]; exact hput _ _
    case divu => rw [exec_sDivu]; exact hput _ _
    case rem => rw [exec_sRem, ← remS_eq]; exact hput _ _
    case remu => rw [exec_sRemu]; exact hput _ _
  case ungoverned =>
    have hskip (w : Word) (f : Core → Core) :
        (.next (s.aluP c w p [a.val, b.val] [d.val] f) : Host.Outcome State Fault Refusal) = .next (s.commits c k) :=
      congrArg _ (aluP_of_ungoverned h hp w f)
    rw [exec_sAdd, exec_sSub, exec_sMul, exec_sDiv]
    exact ⟨hskip _ _, hskip _ _, hskip _ _, hskip _ _⟩

/-- Settles O6, by the general result of an instruction that writes one general register and the operations as operations on words. -/
theorem immediateAndMoveResults : Obligations.ImmediateAndMoveResults := by
  unfold Obligations.ImmediateAndMoveResults
  intro s c d a p imm n hw h k x put
  have hconst : s.canIssue c [] [d.val] := canIssue_mono h (List.nil_subset _) (List.Subset.refl _)
  have hput {rd : List Nat} (h : s.canIssue c rd [d.val]) (w : Word) (v : Core → DWord) :
      Host.Outcome.next (s.alu c w rd [d.val] fun k => k.setG d (v k)) = put (v k) :=
    congrArg _ (alu_setG_of_canIssue h w d v)
  have hshi (kind : Fin 4) : exec (.sShi c d a kind n) s = put (shiftOp kind.val x n.val) := by rw [exec_sShi]; exact hput h _ _
  refine ⟨fun hp => ?governed, ?addi, ?andi, ?ori, ?xori, hshi 0, hshi 1, hshi 2, hshi 3, ?movl, ?movh⟩
  case governed =>
    have hputP (w : Word) (v : Core → DWord) : Host.Outcome.next (s.aluP c w p [a.val] [d.val] fun k => k.setG d (v k)) = put (v k) :=
      congrArg _ (aluP_setG_of_governed h hp w d v)
    refine ⟨?clz, ?popc, ?sextB, ?sextH, ?sextW, ?zextB, ?zextH, ?zextW⟩
    case clz => rw [exec_sClz, ← clz64_toNat]; exact hputP _ _
    case popc => rw [exec_sPopc, ← popc64_toNat]; exact hputP _ _
    case sextB => rw [exec_sSextB]; exact hputP _ _
    case sextH => rw [exec_sSextH]; exact hputP _ _
    case sextW => rw [exec_sSextW]; exact hputP _ _
    case zextB => rw [exec_sZextB]; exact (hputP _ _).trans (congrArg put (setWidth_setWidth_eq_and x 8))
    case zextH => rw [exec_sZextH]; exact (hputP _ _).trans (congrArg put (setWidth_setWidth_eq_and x 16))
    case zextW => rw [exec_sZextW]; exact (hputP _ _).trans (congrArg put (setWidth_setWidth_eq_and x 32))
  case addi => rw [exec_sAddi]; exact hput h _ _
  case andi => rw [exec_sAndi]; exact hput h _ _
  case ori => rw [exec_sOri]; exact hput h _ _
  case xori => rw [exec_sXori]; exact hput h _ _
  case movl => rw [exec_sMovl]; exact hput hconst _ _
  case movh => rw [exec_sMovh]; exact hput hconst _ _

end State

end Sys2Proof.Machine
end
